-- ==== Sys2Proof/Word.lean ====
section
/-! DEFINITION. The word types of the YS9640's register bus and tables. -/

namespace Sys2Proof

/-- A BAR0 register word (R32). -/
abbrev Word := BitVec 32

/-- A byte of a table window or of a frame. -/
abbrev Byte := BitVec 8

/-- A word of the sample fabric (R125). -/
abbrev FabricWord := BitVec 40

end Sys2Proof
end

