-- ==== Sys2Proof/Syntax.lean ====
section
/-! DEFINITION. The commands the block takes: one constructor per row of spec/opcode_table.json, with the operands
that a host, a pin, a sensor or a link partner supplies. -/

namespace Sys2Proof

/-- Soft errors that struck a protected table entry before it was read (R213): the entry's BAR2 address, the stored
data bits that flipped, and whether two bits or more flipped (an uncorrectable error). -/
structure Upset where
  entry  : Nat
  mask   : Nat
  double : Bool
  deriving DecidableEq, Repr

/-- The analogue input of one acquisition channel in one period (R111, R115): the period (negative: optical black),
the input voltages at the two sample points in µV (VIN_P and VIN_N), the deviations of the four conversions from the
ideal code, and the clip detectors, each in the kind order reset/high, reset/low, signal/high, signal/low. -/
structure ConvIn where
  period : Int
  rp : Int
  rn : Int
  sp : Int
  sn : Int
  dev  : List Int
  clip : List Bool
  deriving DecidableEq, Repr

/-- A wire check (R130, R131), in µV: VSENSb, and VIN_P and VIN_N at the start of the first wire-check period and at the
end of the last one. -/
structure WireIn where
  vsens : Int
  p0 : Int
  p1 : Int
  n0 : Int
  n1 : Int
  deriving DecidableEq, Repr

/-- A sensed voltage of an axis (R375): the axis, its phase (false A, true B), and the least value over the latest 1 µs, in
0.25 mV. -/
structure OcIn where
  x : Nat
  b : Bool
  v : Nat
  deriving DecidableEq, Repr

/-- New levels of an encoder's inputs (R376): the axis, 4 for the follow encoder, and how long the levels have been stable,
in ps. -/
structure EncIn where
  src  : Nat
  held : Nat
  deriving DecidableEq, Repr

/-- Conversion of one column in a measured slot (R269, R271): the two hold codes, and whether the photodiode was
disconnected (an offset conversion). -/
structure MeasIn where
  col  : Nat
  h1   : Nat
  h2   : Nat
  deriving DecidableEq, Repr

/-- A housekeeping conversion (R281, R283): the sum of the codes of the entry's conversions before clipping to the
converter's range, as one list of unclipped codes. -/
structure HkIn where
  codes : List Int
  deriving DecidableEq, Repr

/-- What the PMBus regulator answered (R562, R563): every transfer acknowledged with a correct packet error check,
STATUS_WORD, READ_VOUT as sent in the linear format, and VOUT_MODE where it was read. -/
structure PmbIn where
  ack    : Bool
  status : Nat
  vout   : Nat
  mode   : Option Nat
  deriving DecidableEq, Repr

/-- ILK_N falls at t and, where back is given, is high again from then on (R261, R262). -/
structure IlkIn where
  t    : Nat
  back : Option Nat
  deriving DecidableEq, Repr

/-- A soft error that struck the stored record which a DMA channel delivers (R406): byte, flipped bits, and whether
it cannot be corrected. -/
structure StoreHit where
  ch     : Nat
  pos    : Nat
  mask   : Nat
  double : Bool
  deriving DecidableEq, Repr

/-- The commands and events of spec/opcode_table.json, one constructor per row. Instants t are in ps on the
internal count; page is a page base address. -/
inductive Instr where
  /-- REGISTER_WRITE (R8). A host write to a register that has no row of its own is applied at once or held as a pending value until the boundary its map gives. -/
  | registerWrite (a : Nat) (w : Word)
  /-- PENDING_APPLY_IDLE (R8). A pending value whose boundary cannot come because nothing is running is applied within 1 µs. -/
  | pendingApplyIdle (page : Nat)
  /-- PCOMMIT_GO (R52). A write of PCOMMIT.GO requests a commit of every C value pending in the page. -/
  | pcommitGo (page : Nat)
  /-- PKEY_WRITE (R55). A write of the key to PKEY opens the page's guard for one KW write, and a write of any other value re-arms it. -/
  | pkeyWrite (page : Nat) (key : Word)
  /-- PLOCK_LOCK (R60). A guarded write of PLOCK.LOCKED locks the page's KW fields until PORST_N, PERST_N or a global soft reset. -/
  | plockLock (page : Nat)
  /-- PAGE_SOFT_RESET (R44). A write of PCTL.SRST starts a page soft reset: block registers return to reset, pending values are discarded, the key guard re-arms and EXPERT clears. -/
  | pageSoftReset (page : Nat)
  /-- SOFT_RESET_DONE (R45). A page soft reset completes within 2 µs, SRSTBSY clears and the page accepts writes again. -/
  | softResetDone (page : Nat)
  /-- EXPERT_SET (R28). A write of PCTL.EXPERT = 1 hands the page's XW fields to the host, and each field keeps its value. -/
  | expertSet (page : Nat)
  /-- EXPERT_CLEAR (R29). A write of PCTL.EXPERT = 0 discards the host's pending XW values and returns the page to control-core ownership. -/
  | expertClear (page : Nat)
  /-- PROFILE_DERIVE (R623). The control core derives the XW fields of every page in basic mode from the profile, at ARM or after EXPERT is cleared, possibly after a core pause. -/
  | profileDerive (t : Nat)
  /-- GLOBAL_SOFT_RESET (R571). A guarded write of GLB_SRST.GO starts a warm reset. -/
  | globalSoftReset
  /-- TABLE_WRITE (R39). A BAR2 write of a table word is held as a low word or completes the entry with new check bits. -/
  | tableWrite (a : Nat) (wide : Bool) (v : Nat)
  /-- TABLE_READ (R213). A BAR2 read of a protected table entry corrects a single-bit error and writes it back, or counts and records an uncorrectable error. -/
  | tableRead (a : Nat) (wide : Bool) (u : List Upset)
  /-- LINE_TRIGGER (R87). A trigger from the line source is latched and takes the next line number. -/
  | lineTrigger (t : Nat)
  /-- LINE_START (R89). A latched trigger starts a line, chained or from idle, and the boundary of slot 0 is the line boundary at which L and C values apply. -/
  | lineStart (t : Nat)
  /-- SLOT_BOUNDARY (R81). At the end of a slot Meridian decides the next slot: the next exposure slot, a chained line, a tail slot or a wait. -/
  | slotBoundary
  /-- LINE_TIMER_EXPIRY (R92). The line timer latches a trigger 4 pclk before the end of each PERIOD count. -/
  | lineTimerExpiry
  /-- PCLK_LOCK (R105). The tap delay line locks to a new pclk within 20 µs, after which lines may start. -/
  | pclkLock (t : Nat)
  /-- PCLK_UNLOCK (R106). Loss of tap delay line lock raises a Major fault, sets MER_PEVT.UNLOCK and drives STG to idle levels. -/
  | pclkUnlock (t : Nat)
  /-- DIAG_STROBE_END (R93). At the end of a diagnostic strobe Meridian runs the flush slot. -/
  | diagStrobeEnd
  /-- CONVERSION (R115). At the sample points of a period each core converts reset and signal and sends four tagged fabric words. -/
  | conversion (c : Nat) (x : ConvIn)
  /-- WIRE_CHECK (R130). At the end of the wire-check periods each checking channel judges its ball and sends a check word. -/
  | wireCheck (c : Nat) (x : WireIn)
  /-- CORES_SETTLED (R120). After arming, the cores settle to full rate within 50 µs and ACQG_STAT.FULL is set. -/
  | coresSettled (t : Nat)
  /-- FABRIC_WORD (R159). A fabric word reaches its plate island, and a complete sample is processed through steps 1 to 6. -/
  | fabricWord (c : Nat) (u : List Upset)
  /-- READOUT_RELEASE (R162). Once all check words of a readout are in, the plate island applies defect and wire handling and releases the samples. -/
  | readoutRelease (g : Nat) (t : Nat)
  /-- RECORD_PASS (R192). A formatter passes a finished line record to the elastic store or the DMA engine. -/
  | recordPass (stream : Nat) (t : Nat)
  /-- SCRUB_READ (R213). The paced scrubber reads the next table entry and handles its ECC, setting SCRUB at the end of each pass. -/
  | scrubRead (u : List Upset)
  /-- CAL_COPY_DONE (R219). The copy of the active bank into the pending bank completes and the run starts writing its fields. -/
  | calCopyDone (t : Nat)
  /-- CAL_RUN_DONE (R222). A calibration run writes its last pending-bank entry, CALBUSY clears and CALDONE is set. -/
  | calRunDone (t : Nat)
  /-- LAMP_ENABLE (R241). A write of HELG_CTL.LAMPEN = 1 starts a fade-in. -/
  | lampEnable
  /-- LAMP_DISABLE (R241). A write of HELG_CTL.LAMPEN = 0 starts a fade-out. -/
  | lampDisable
  /-- FADE_TICK (R242). Every 1 ms the global and unit fade values are updated. -/
  | fadeTick (t : Nat)
  /-- STROBE_START (R228). At the end of pre-charge the lit lamps of the row are steered in, as one pulse or as sub-pulses. -/
  | strobeStart (pulse : Nat) (col : Option Nat)
  /-- STROBE_END (R228). At the end of its on-time a lamp's LCOL_SB goes high. -/
  | strobeEnd (c : Nat)
  /-- HOLD_CYCLE (R244). When no slot runs in HOLD, FADEIN or FADEOUT, a thermal-hold cycle of strobes runs. -/
  | holdCycle (t : Nat) (offsets : List (Nat × Int))
  /-- REGULATOR_VERDICT (R250). After TDIAG of continuous on-time the regulator judges a lamp OPEN or SHORT. -/
  | regulatorVerdict (k c : Nat) (short : Bool) (t : Nat)
  /-- COLUMN_FAULT (R257). A column current out of tolerance stops the column and raises COLUMN. -/
  | columnFault (c t : Nat)
  /-- LAMP_VERDICT_CLEAR (R258). Writing 1 to a HELn_COLk_LFLT bit clears the verdict, unmasks the lamp and starts its fade. -/
  | lampVerdictClear (c : Nat) (w : Word)
  /-- COLUMN_REEN (R258). Writing HELn_COLk_CTL.REEN clears FLT and restarts the column regulator. -/
  | columnReen (c : Nat)
  /-- COLUMN_RECOVERED (R258). When a restarted column's current reaches tolerance, the column returns through a fade. -/
  | columnRecovered (c : Nat)
  /-- HDRM_CLEAR (R239). Clearing a column's HDRM allows CODE_LIMIT again for its lamps. -/
  | hdrmClear (c : Nat)
  /-- ILK_FALL (R261). ILK_N falling forces every safety-critical row off, sets LATCH and FORCED and raises INTERLOCK. -/
  | ilkFall (x : IlkIn)
  /-- ILK_LATCH_CLEAR (R262). A guarded write clears HELG_ILK.LATCH and FORCED while ILK_N is high, and the forced rows fade back in. -/
  | ilkLatchClear (pin : Bool)
  /-- ROW_ENABLE (R263). A write of a HELG_ROWEN bit to 1 brings the row back through a fade, unless a ROW_OFF fault or the interlock holds it. -/
  | rowEnable (k : Nat)
  /-- SAFE_ROW_MARK (R256). A guarded HELG_SAFE or HELG_UV bit set during a job shuts down a DIAG_BLIND row. -/
  | safeRowMark (k : Nat) (uv : Bool)
  /-- STROBE_MEASURE (R271). The monitor ADCs convert the two holds of a measured slot, and strobe charge and flux are computed. -/
  | strobeMeasure (x : List MeasIn) (t : Nat)
  /-- BASELINE_INTERVAL (R276). Every 500 µs the baseline samples are averaged and passed through the notch and low-pass filters. -/
  | baselineInterval (t : Nat)
  /-- LAMP_SELECT (R279). A write of ACT_LSEL snapshots the selected lamp's results. -/
  | lampSelect (w : Word)
  /-- HK_ENTRY_DONE (R283). A housekeeping sequencer entry ends, its mean result is reported and the next entry starts. -/
  | hkEntryDone (x : HkIn) (t : Nat)
  /-- URGENT_REQUEST (R284). A write of HKA_URG or an event on the urgent task enqueues an urgent conversion, or drops it when the queue is full. -/
  | urgentRequest (w : Word) (task : Bool)
  /-- URGENT_DONE (R285). An urgent conversion completes, updates HKA_RESi and ULAST and sets UDONE. -/
  | urgentDone (x : HkIn) (t : Nat)
  /-- HK_STALE (R289). An input not converted for 10 ms is marked STALE. -/
  | hkStale (i : Nat) (t : Nat)
  /-- ROTATION_STEP_START (R299). A rotation step for the next primary begins at a line boundary after ROT_PERIOD or the end of the previous step. -/
  | rotationStepStart (t : Nat)
  /-- IDLE_SWEEP (R297). In Ready with no line cycle, a group's channels are swept on the reference DAC and their trims set. -/
  | idleSweep (t : Nat)
  /-- COL_REQ_LAMP (R315). A COL_REQ.LAMP write requests a lamp run. -/
  | colReqLamp
  /-- COL_REQ_FLUX (R318). A COL_REQ.FLUX write requests a flux-correction run. -/
  | colReqFlux
  /-- COL_REQ_DARK (R319). A COL_REQ.DARK write requests a dark run in the armed job. -/
  | colReqDark
  /-- COL_REQ_WHITE (R319). A COL_REQ.WHITE write requests a white run in the armed job. -/
  | colReqWhite
  /-- COL_REQ_ROTRST (R311). A COL_REQ.ROTRST write restarts the rotation pass and resumes stopped groups. -/
  | colReqRotrst
  /-- COL_DISABLE (R295). Clearing COL_CTL.EN or a rotation permission stops rotation after the current step and abandons unwritten runs. -/
  | colDisable (reg : Nat) (w : Word)
  /-- LAMP_RUN_DONE (R316). A lamp run's two windows complete and each lamp's code and required flux factor are set. -/
  | lampRunDone (t : Nat)
  /-- CAL_PERIOD_EXPIRY (R321). PERIOD minutes after the latest accepted lamp run, a lamp run is triggered. -/
  | calPeriodExpiry (t : Nat)
  /-- WHITE_PERIOD_EXPIRY (R321). WPERIOD hours after the latest white run, NEED bit 0 and ATTN bit 5 are set. -/
  | whitePeriodExpiry (t : Nat)
  /-- SIGMA_SELECT (R317). A write of COL_SSEL snapshots the selected lamp's σ. -/
  | sigmaSelect (w : Word)
  /-- SLACK_MEASURE (R326). Every second the slack of every island is measured and reported. -/
  | slackMeasure (l : List Nat) (t : Nat)
  /-- CLOCK_STEP (R327). Every second an island below MINSLACK has its clock lowered by 1 %, or the plan is undone. -/
  | clockStep (t : Nat)
  /-- VOLTAGE_STEP (R327). Every 10 s the VCORE request is raised or lowered by STEP over PMBus. -/
  | voltageStep (ack : Bool) (t : Nat)
  /-- MARGIN_PROJECTION (R331). Every hour each headroom quantity is projected and ALM_REPORT updated. -/
  | marginProjection (t : Nat)
  /-- HISTORY_SAVE (R539). Once per day the Almanac history is saved to the alternate half of the flash data area. -/
  | historySave (t : Nat)
  /-- LINE_COMPLETE (R338). When all plate islands have released a line, the Photometer finishes the results that the line closes. -/
  | lineComplete (line t : Nat)
  /-- STREAK_SCAN_START (R347). Every PERIOD captured lines a streak scan of the accumulators begins. -/
  | streakScanStart (t : Nat)
  /-- STREAK_SCAN_DONE (R349). A streak scan completes and reports runs, SCANDONE and STREAK. -/
  | streakScanDone (t : Nat)
  /-- MOVE_PUSH (R360). A write of CDRx_MCTL.PUSH copies the staged move into the queue, or is refused. -/
  | movePush (x : Nat) (w : Word)
  /-- PROFILE_TICK (R359). Every 1 µs each axis evaluates its profile, table address and state. -/
  | profileTick (t : Nat)
  /-- CONTROLLED_STOP (R380). CDRx_CTL.CSTOP, the stop task or scan control discards the queue and decelerates the axis to rest. -/
  | controlledStop (x : Nat)
  /-- IMMEDIATE_STOP (R381). CDRx_CTL.ISTOP or another cause freezes X, discards the queue and marks the position untrusted. -/
  | immediateStop (x : Nat)
  /-- QUEUE_FLUSH (R389). A write of CDRx_CTL.QFLUSH discards queued moves that have not started. -/
  | queueFlush (x : Nat)
  /-- GROUP_CSTOP (R366). A write of CDRG_GCMD.GCSTOP makes a controlled stop of every member of the group. -/
  | groupCstop (g : Nat)
  /-- GROUP_ISTOP (R366). A write of CDRG_GCMD.GISTOP makes an immediate stop of every member of the group. -/
  | groupIstop (g : Nat)
  /-- CHOPPER_SWITCH (R372). The sensed phase voltage reaching its threshold switches the chopper between drive and decay. -/
  | chopperSwitch (x : Nat) (b : Bool) (sense : Nat) (mean : Int) (t : Nat)
  /-- CHOPPER_OFF_TIME_END (R372). TOFF elapses and the chopper may drive again. -/
  | chopperOffTimeEnd (x : Nat) (b : Bool) (sense : Nat) (mean : Int) (t : Nat)
  /-- HOLD_DELAY_EXPIRY (R374). After HOLD_DELAY at standstill, SCALE falls to IHOLD over 64 ms and HOLD is set. -/
  | holdDelayExpiry (x t : Nat)
  /-- WAKE_DELAY_EXPIRY (R374). TWAKE after a move starts from reduced current, X begins to change. -/
  | wakeDelayExpiry (x t : Nat)
  /-- OVERCURRENT (R375). A sensed voltage above OCLIM for 1 µs makes an immediate stop with release and raises a Major fault. -/
  | overcurrent (x : OcIn) (t : Nat)
  /-- ENCODER_EDGE (R376). An accepted encoder edge counts ±1, or an illegal transition is counted. -/
  | encoderEdge (src : EncIn) (a b : Bool) (t : Nat)
  /-- STALL (R379). A deviation outside DEVWIN for TFILT declares a stall and makes an immediate stop. -/
  | stall (x t : Nat)
  /-- HOME_EVENT (R384). The home event of a home move rebases X, PHASE and E and starts a controlled stop. -/
  | homeEvent (x : EncIn) (t : Nat)
  /-- SSC_ARM (R392). A write of SSC_CMD.ARM starts derivation and admission. -/
  | sscArm
  /-- ADMISSION (R398). Admission evaluates its checks and either accepts the job, applying the J values, or refuses it. -/
  | admission (t : Nat)
  /-- SSC_START (R394). A write of SSC_CMD.START begins the job's line cycle. -/
  | sscStart
  /-- SSC_END (R395). A write of SSC_CMD.END moves the job to ENDING. -/
  | sscEnd
  /-- SSC_ABORT (R396). A write of SSC_CMD.ABORT stops the job at once and discards its undelivered records. -/
  | sscAbort
  /-- SSC_RESUME (R392). A write of SSC_CMD.RESUME in PAUSED continues the job once every pausing fault is acknowledged. -/
  | sscResume
  /-- JOB_STOPPED (R408). With the scan axis at rest and the last kept line captured, the job is stopped and the lamps go to thermal hold. -/
  | jobStopped (t : Nat)
  /-- TRACKING_PAUSE (R412). After an immediate stop of the scan axis and the last kept capture end, the Tracking job enters PAUSED. -/
  | trackingPause (t : Nat)
  /-- BACKUP_DONE (R408). The scan axis comes to rest at the restart position and the job waits. -/
  | backupDone (t : Nat)
  /-- RESTART_BEGIN (R408). When the store is at LWM, the host flows and the axis is at rest, pre-roll is armed and the axis accelerates. -/
  | restartBegin (t : Nat)
  /-- JOB_IDLE (R395). An ending job returns to IDLE once every record has left or been lost and the axis is at rest. -/
  | jobIdle (t : Nat)
  /-- STORE_DRAINED (R13). The elastic store empties and direct passing resumes. -/
  | storeDrained (t : Nat)
  /-- DESCRIPTOR_FETCH (R430). A 32-byte descriptor fetch completes, and the descriptor runs or the channel waits. -/
  | descriptorFetch (ch : Nat) (b : List Byte) (t : Nat)
  /-- TOKEN_REFILL (R443). Every µs each channel's token bucket is refilled, and writes leave under the shares. -/
  | tokenRefill (u : List StoreHit) (t : Nat)
  /-- DESCRIPTOR_DONE (R447). A descriptor's last write leaves the engine, its event is published and its completion record is written. -/
  | descriptorDone (ch t : Nat)
  /-- READ_COMPLETION (R452). A host read completion arrives, and an error is reissued or halts the channel. -/
  | readCompletion (ch : Nat) (ok : Bool) (b : List Byte) (t : Nat)
  /-- READ_TIMEOUT (R452). A read request's completion timeout expires and the read is reissued or the channel halts. -/
  | readTimeout (ch t : Nat)
  /-- DMA_KICK (R454). A write of DMAch_CTL.KICK refetches the descriptor, also clearing a halt. -/
  | dmaKick (ch : Nat)
  /-- DMA_NEXT_WRITE (R432). A write of DMAch_NEXT replaces the next descriptor address and refetches in IDLE, WAITDESC or WAITRING. -/
  | dmaNextWrite (ch a : Nat)
  /-- DMA_POLL (R431). In WAITDESC the descriptor is refetched every POLL µs. -/
  | dmaPoll (ch t : Nat)
  /-- RRP_WRITE (R437). A write of DMAch_RRP frees ring space and may release a waiting record. -/
  | rrpWrite (ch : Nat) (w : Word)
  /-- CQ_RI_WRITE (R448). A write of DMAG_CQq_RI frees queue space and may release a channel in WAITCQ. -/
  | cqRiWrite (q : Nat) (w : Word)
  /-- DMA_DISABLE (R455). A write of DMAch_PCTL.EN = 0 drops everything on the channel at once. -/
  | dmaDisable (ch t : Nat)
  /-- DMA_ENABLE (R456). A write of DMAch_PCTL.EN = 1 restarts the channel from DMAch_NEXT. -/
  | dmaEnable (ch t : Nat)
  /-- MSIX_UNMASK (R473). Unmasking a vector whose pending bit is set sends its message. -/
  | msixUnmask (v : Nat)
  /-- PCIE_BAR0_REQUEST (R467). A PCIe memory request to BAR0 is carried out as up to 16 back-to-back 32-bit accesses. -/
  | pcieBar0Request (write : Bool) (a : Nat) (be : List Nat) (data : List Word) (t : Nat)
  /-- PCIE_BAR2_REQUEST (R468). A PCIe memory request to BAR2 is carried out as aligned 64-bit and 32-bit accesses. -/
  | pcieBar2Request (write : Bool) (a : Nat) (be : List Nat) (data : List Word) (u : List Upset) (t : Nat)
  /-- PCIE_RX_ERROR (R470). An erroneous received TLP is answered and counted as the PCIe specification prescribes. -/
  | pcieRxError (kind : Nat) (posted : Bool) (t : Nat)
  /-- DL_DOWN (R471). DL_Down disables every DMA channel and raises LINK_DOWN. -/
  | dlDown (t : Nat)
  /-- LINK_UP (R482). The PCIe data link comes up and sets HLK_PEVT.LINKUP. -/
  | linkUp (speed width t : Nat)
  /-- SPI_READ (R476). An SPI read frame performs N reads and returns STATUS and data. -/
  | spiRead (frame : List Byte) (late : Bool) (t : Nat)
  /-- SPI_WRITE (R476). An SPI write frame performs N writes and returns STATUS. -/
  | spiWrite (frame : List Byte) (late : Bool) (t : Nat)
  /-- SPI_NO_ACCESS (R478). An SPI frame with OP 0b10 accesses nothing and is answered with ACK at once. -/
  | spiNoAccess (frame : List Byte) (late : Bool) (t : Nat)
  /-- SPI_SHORT_FRAME (R478). An SPI frame ended before RCRC has no effect and is counted, except a one-byte ATTN poll. -/
  | spiShortFrame (bytes : Nat)
  /-- WLOCK_WRITE (R479). A write of HLK_WLOCK.OWN takes, releases or is refused the write lock. -/
  | wlockWrite (link : Nat) (w : Word)
  /-- EVENT_PUBLISH (R483). A producer's event passes its channel and is forked to every subscribed task input. -/
  | eventPublish (p t : Nat)
  /-- RUNAWAY_WINDOW (R499). Every 10 µs the runaway guard's per-channel counts restart. -/
  | runawayWindow (t : Nat)
  /-- EVI_EDGE (R497). A selected edge on an EVI pin publishes its producer. -/
  | eviEdge (k : Nat) (level : Bool) (t : Nat)
  /-- LUT_INPUT_CHANGE (R494). A change of a cell input recomputes F and restarts the filter count. -/
  | lutInputChange (ended : List Nat) (t : Nat)
  /-- LUT_FILTER_EXPIRY (R495). F holding for FILT ns updates the filter output and possibly Q. -/
  | lutFilterExpiry (n t : Nat)
  /-- EVO_PULSE_END (R498). A pulse-mode EVO output returns to 0 after PW × 8 ns. -/
  | evoPulseEnd (k t : Nat)
  /-- SOFTWARE_PULSE (R487). Writing a bit of EVF_SWPUB publishes a software pulse producer. -/
  | softwarePulse (w : Word)
  /-- RUNAWAY_UNMASK (R500). Writing 1 to EVF_CHc.RUNAWAY unmasks the channel and restarts its count. -/
  | runawayUnmask (c : Nat)
  /-- CHANNEL_LOCK (R501). A guarded write of EVF_CHc.LOCK locks the channel's routes and attributes. -/
  | channelLock (c : Nat)
  /-- CELL_LOCK (R502). A guarded write of EVF_LCn_CFG.LOCK locks the cell. -/
  | cellLock (n : Nat)
  /-- TSLOAD_WRITE (R510). A write of CHR_TSLOAD loads the timestamp, or is ignored while a job exists. -/
  | tsloadWrite (v : Nat)
  /-- LINE_COUNTER_WRITE (R512). A write of CHR_LINE loads the line counter, or is ignored while a job exists. -/
  | lineCounterWrite (v : Nat)
  /-- DEADLINE_EXPIRY (R516). D elapses from a line's start point with a record outstanding, raising a delivery fault. -/
  | deadlineExpiry (line t : Nat)
  /-- FAULT_RAISE (R519). A fault is raised, logged or merged, and takes its reaction. -/
  | faultRaise (code item t : Nat)
  /-- FAULT_ACK (R522). A write of CHR_ACK acknowledges faults of a code, or all non-Critical faults. -/
  | faultAck (w : Word)
  /-- LOG_CLEAR (R529). A write of CHR_LOGCTL.CLR frees every acknowledged log entry. -/
  | logClear
  /-- LOG_SELECT (R528). A write of CHR_LOGSEL snapshots a log entry. -/
  | logSelect (w : Word)
  /-- SAFE_REQUEST (R520). A guarded write of CHR_SAFE.GO raises SAFE_REQUEST. -/
  | safeRequest
  /-- SAFE_CLEAR (R533). A guarded write of CHR_SAFE.CLR leaves Safe state when temperatures and supplies allow, or sets SAFEREJ. -/
  | safeClear (hot bad : Nat)
  /-- MBX_VERSION (R537). Mailbox command VERSION returns the image and boot ROM versions. -/
  | mbxVersion (seq : Nat)
  /-- MBX_PREADMIT (R537). Mailbox command PREADMIT runs derivation and admission without applying anything. -/
  | mbxPreadmit (seq : Nat)
  /-- MBX_CORESTAT (R537). Mailbox command CORESTAT returns pause statistics and deferred items. -/
  | mbxCorestat (seq : Nat)
  /-- MBX_UNKNOWN (R537). An unknown mailbox command is answered with STATUS 1. -/
  | mbxUnknown (seq cmd : Nat)
  /-- MBX_REPLY (R536). A served command writes its data and GLB_MBXRSP, clears BUSY and sets MBX. -/
  | mbxReply (t : Nat)
  /-- CORE_RESUME (R17). The control core's services resume and deferred work proceeds. -/
  | coreResume (t : Nat)
  /-- IMAGE_BEGIN (R546). Guarded SEC_KOP BEGIN opens an image load into a slot and erases its sectors. -/
  | imageBegin (w : Word)
  /-- FLASH_ERASE_DONE (R546). The erase for a load completes and the buffer takes words. -/
  | flashEraseDone (t : Nat)
  /-- IMAGE_WORD (R546). A write of SEC_IMGW takes one word into the load buffer, or discards it. -/
  | imageWord (w : Word)
  /-- IMAGE_VERIFY (R547). SEC_OP VERIFY verifies a slot once the buffer has drained. -/
  | imageVerify (w : Word)
  /-- VERIFY_DONE (R542). Verification completes, SEC_RESULT is set and a rejected image raises IMAGE_REJECTED. -/
  | verifyDone (readOk ack : Bool) (t : Nat)
  /-- IMAGE_ABORT (R547). SEC_OP ABORT ends an open load. -/
  | imageAbort
  /-- OTP_COMMIT (R543). Guarded SEC_KOP COMMIT raises the OTP anti-rollback counter to the running image's ARC. -/
  | otpCommit
  /-- FIRMWARE_SWAP (R548). Guarded SEC_KOP SWAP copies a verified image and prepares the handover. -/
  | firmwareSwap (w : Word) (same : Bool)
  /-- SWAP_HANDOVER (R548). At the next line boundary the old image stops and the new one starts. -/
  | swapHandover (t : Nat)
  /-- SWAP_TIMEOUT (R549). A new image not running within 5 ms is replaced by the old image, raising IMAGE_REJECTED. -/
  | swapTimeout (t : Nat)
  /-- FIELD_LOCK (R550). Guarded SEC_KOP FIELDLOCK blows the field-lock fuse. -/
  | fieldLock
  /-- DEBUG_OPEN (R550). A guarded write of SEC_DBGCTL.OPEN opens the selected scopes before field lock. -/
  | debugOpen (w : Word)
  /-- DEBUG_CLOSE (R553). A write of SEC_DBGCTL.CLOSE closes every scope. -/
  | debugClose
  /-- DEBUG_NONCE (R551). SEC_OP NONCE draws a fresh 32-byte nonce, unless the back-off refuses it. -/
  | debugNonce (nonce : List Word) (t : Nat)
  /-- DEBUG_UNLOCK (R551). SEC_OP UNLOCK checks the loaded response and opens the scope or raises UNLOCK_FAILED. -/
  | debugUnlock (t : Nat)
  /-- ATTEST (R554). SEC_OP ATTEST builds and signs an attestation report over the loaded challenge. -/
  | attest
  /-- ATTEST_DONE (R554). The signed report is placed in SEC_OBUF. -/
  | attestDone (t : Nat)
  /-- REPORT_WORD_READ (R554). Each read of SEC_OBUF returns the next report word and decrements SEC_OBCNT. -/
  | reportWordRead
  /-- POWER_ON_RESET (R571). PORST_N low resets the whole device. -/
  | powerOnReset
  /-- BOOT_START (R575). PORST_N rising samples the straps and starts the boot sequence. -/
  | bootStart (straps : Nat)
  /-- STORE_TRAINED (R615). LPDDR5 training completes and sizes EST_CFG, or NO_STORE is raised. -/
  | storeTrained (gb mts t : Nat)
  /-- BOOT_IMAGE_VERIFIED (R544). The boot ROM accepts an image and starts it, or waits for a host-loaded image. -/
  | bootImageVerified (okA okB ack : Bool) (t : Nat)
  /-- READY (R575). Boot completes, PWR_PEVT.READY is set and lamp and motion outputs are released. -/
  | ready (t : Nat)
  /-- PERST_FALL (R573). PERST_N falling holds the PCIe islands in reset and starts a warm reset. -/
  | perstFall (t : Nat)
  /-- PERST_RISE (R573). PERST_N rising starts link training. -/
  | perstRise (t : Nat)
  /-- HOT_RESET (R571). A PCIe hot reset resets configuration space and DMA pages and keeps the rest. -/
  | hotReset (t : Nat)
  /-- STANDBY_REQUEST (R565). PWR_CTL.REQ = 2 requests Standby, or is refused. -/
  | standbyRequest
  /-- DEEP_SLEEP_REQUEST (R565). PWR_CTL.REQ = 3 requests Deep sleep, or is refused. -/
  | deepSleepRequest
  /-- READY_REQUEST (R568). PWR_CTL.REQ = 0 wakes the device toward Ready. -/
  | readyRequest
  /-- SLEEP_ENTRY_STEP (R566). An entry into Standby or Deep sleep completes its next step, finally gating the islands. -/
  | sleepEntryStep (t : Nat)
  /-- WAKE_DONE (R568). The device reaches Ready after a wake and records its source. -/
  | wakeDone (t : Nat)
  /-- D3HOT_ENTRY (R570). Entry into D3hot requests Standby while D3SB is 1. -/
  | d3hotEntry
  /-- D0_RETURN (R570). Return to D0 requests Ready. -/
  | d0Return
  /-- VSENS_CHANGE (R559). A sensor bank crossing its supply threshold parks or restores its channels and sets VSENS. -/
  | vsensChange (b : Nat) (up : Bool) (t : Nat)
  /-- REF_LOSS (R561). No XIN edge for 2 µs clears REFOK and pauses any running job. -/
  | refLoss (t : Nat)
  /-- REF_RETURN (R561). The loops relock after the reference returns and REFOK is set. -/
  | refReturn (t : Nat)
  /-- SUPPLY_OUT_OF_RANGE (R520). A supervised supply outside ±10 % for over 10 µs raises SUPPLY. -/
  | supplyOutOfRange (i t : Nat)
  /-- DIE_OVERTEMP (R520). A die sensor above 115 °C raises DIE_TEMP. -/
  | dieOvertemp (i t : Nat)
  /-- PMBUS_POLL (R562). Every 100 ms STATUS_WORD and READ_VOUT are read from the regulator. -/
  | pmbusPoll (x : PmbIn) (t : Nat)
  /-- VOUT_CHECK (R563). 10 ms after a VOUT_COMMAND, READ_VOUT is compared with the request. -/
  | voutCheck (x : PmbIn) (t : Nat)
  /-- HOLD_WAIT_EXPIRY (R241). When the line cycle has waited for a trigger longer than HELG_HOLD.PER after the last capture end, the Heliostat moves from SCAN to HOLD, and in FADEIN or FADEOUT the dark wait gives way to hold cycles. -/
  | holdWaitExpiry (t : Nat)
  /-- POSTED_WRITE_CREDITS (R462). The link partner returns PCIe posted-write credits, ending a channel's WCRED wait so that its writes may leave. -/
  | postedWriteCredits (n t : Nat)
  /-- LINK_RETRAIN (R482). The PCIe link enters Recovery or changes speed or width, which is counted in HLK_PCNT3.RECOV, sets HLK_PEVT.RETRAIN and updates HLK_LINK. -/
  | linkRetrain (speed width t : Nat)
  /-- CONFIG_REQUEST (R573). A Type 0 PCIe configuration request is answered with Configuration Request Retry Status until the configuration space is ready, or else accesses configuration space. -/
  | configRequest (write : Bool) (off : Nat) (w : Word) (t : Nat)
  /-- BUFFER_DRAIN (R546). Words of the 1,024-word image load buffer are written into the flash slot, raising SEC_FIFO.FREE, and once the buffer is empty a waiting VERIFY may begin. -/
  | bufferDrain (n t : Nat)
  deriving DecidableEq, Repr

end Sys2Proof
end

