-- ==== Sys2Proof/Config.lean ====
section
/-! DEFINITION. What the manual leaves open: free values, each an opaque constant without a body, so that nothing
in Lean can evaluate it. The machine applies them to a counter that State holds (State.fv). -/

namespace Sys2Proof

/-- The n-th free value: any natural number. Used wherever the manual allows either outcome, calls a value
undefined or unpredictable, or states no result (notes/assumptions 2). -/
opaque Config.free : Nat → Nat

/-- The second-order notch filters of the Actinometer's baseline (R276, R277): their state and their output for the next
value, by their frequencies in Hz and their width in 0.25 Hz. The manual gives the filters' kind and bounds on their
attenuation and not their arithmetic. -/
opaque Config.notchState : List Nat → Nat → Nat → Int → Nat
opaque Config.notchOut : List Nat → Nat → Nat → Int → Int

/-- The first-order low-pass filter with a time constant of 2^k intervals (R276): its value after the next input. -/
opaque Config.lowPass : Nat → Int → Int → Int

/-- The low 48 bits of a position or count that leaves the signed 48-bit range its format gives it (R358): the manual states
no result. -/
opaque Config.posOver : Int → Nat

/-- The range of a trim (R308), in the unit in which Trims holds it. -/
opaque Config.trimRange : Nat

/-- SLH-DSA-SHA2-128s verification of a signature over a message under a public key (R541, R551): the manual names the
scheme and does not give it. -/
opaque Config.slhVerify : List (BitVec 8) → List (BitVec 8) → List (BitVec 8) → Bool

/-- Byte i of the SLH-DSA-SHA2-128f signature of a message under the device key (R554). -/
opaque Config.slhSign : List (BitVec 8) → Nat → BitVec 8

/-- Fuses and silicon (R542, R551, R554): Osgon firmware key hash, customer debug-key hash where one is fused, serial,
attestation public key by word, boot ROM version. -/
opaque Config.firmwareKeyHash : List (BitVec 8)
opaque Config.debugKeyHash : Option (List (BitVec 8))
opaque Config.serial : Nat → BitVec 32
opaque Config.attestKey : Nat → BitVec 32
opaque Config.bootRom : BitVec 32

/-- PCIe configuration space beyond what the manual states (R465): the reset value of the word at an offset, and the
word after a write of a value over an old one. -/
opaque Config.cfgReset : Nat → BitVec 32
opaque Config.cfgAfter : Nat → BitVec 32 → BitVec 32 → BitVec 32

end Sys2Proof
end

