-- ==== Sys2Proof/Machine/RegMap.lean ====
section
/-! DEFINITION. The register maps of spec/ chapters 02 to 18 as rows: offset, instances, boundary, reset
and fields with their access codes (R6, R7, R35, R42 and the map of each block chapter). -/

namespace Sys2Proof.Machine

/-- Boundary codes (R8). -/
inductive Bnd where
  | i | s | l | m | d | j | c
  deriving DecidableEq, Repr

/-- Access codes of a field (R6, R7): ro, rw, wo, w1c, w1s, xw as listed; kwrw a key-guarded RW field, kw1s and
kw1c key-guarded bits that act when 1 is written, kwwo a key-guarded write-only field (R622). -/
inductive Acc where
  | ro | rw | wo | w1c | w1s | xw | kwrw | kw1s | kw1c | kwwo
  deriving DecidableEq, Repr

/-- Kinds of register page (R35), one per block code. -/
inductive PageKind where
  | glb | mer | acqg | acq | spr | pltg | plt | fft | helg | hel | act | hka | col | alm | pho | cdrg | cdr | ssc | est | dmag | dma | hlk | evf | chr | sec | pwr
  deriving DecidableEq, Repr

/-- How a register's reset value is found: a constant of its map, or one of the formulas the maps give
(straps, instance numbers, the default housekeeping sequence). -/
inductive Rv where
  | const (v : Nat)
  | lsrc | seqk | vclass | chcfg | chmap | spcfg | oscfg | proc | hkaseq | pmode | link | strap
  deriving DecidableEq, Repr

/-- One field: bits [hi:lo] and its access code. -/
structure FieldRow where
  hi : Nat
  lo : Nat
  acc : Acc
  deriving DecidableEq, Repr

/-- One row of a page's register map. wide: a 64-bit register, its high word 4 bytes above (R62, R63).
anyClr: any write clears the register (the RO, W1C counters). -/
structure RegRow where
  name : String
  off : Nat
  stride : Nat
  count : Nat
  bnd : Bnd
  wide : Bool
  anyClr : Bool
  rv : Rv
  fields : List FieldRow
  deriving DecidableEq, Repr

/-- Pages of BAR0 (R35): kind, block code, first base, instances; instances lie 0x1000 apart. -/
def pageTable : List (PageKind × Nat × Nat × Nat) :=
  [ (.glb, 0x01, 0x000000, 1)
  , (.mer, 0x02, 0x010000, 1)
  , (.acqg, 0x03, 0x018000, 1)
  , (.acq, 0x04, 0x020000, 64)
  , (.spr, 0x05, 0x068000, 1)
  , (.pltg, 0x06, 0x070000, 1)
  , (.plt, 0x07, 0x071000, 16)
  , (.fft, 0x08, 0x088000, 1)
  , (.helg, 0x09, 0x090000, 1)
  , (.hel, 0x0A, 0x091000, 8)
  , (.act, 0x0B, 0x0A0000, 1)
  , (.hka, 0x0C, 0x0A8000, 1)
  , (.col, 0x0D, 0x0B0000, 1)
  , (.alm, 0x0E, 0x0B8000, 1)
  , (.pho, 0x0F, 0x0C0000, 1)
  , (.cdrg, 0x10, 0x0D0000, 1)
  , (.cdr, 0x11, 0x0D1000, 4)
  , (.ssc, 0x12, 0x0E0000, 1)
  , (.est, 0x13, 0x0E8000, 1)
  , (.dmag, 0x14, 0x0F0000, 1)
  , (.dma, 0x15, 0x100000, 64)
  , (.hlk, 0x16, 0x140000, 1)
  , (.evf, 0x17, 0x150000, 1)
  , (.chr, 0x18, 0x160000, 1)
  , (.sec, 0x19, 0x170000, 1)
  , (.pwr, 0x1A, 0x180000, 1) ]

/-- Block registers of page GLB. -/
def rows_glb : List RegRow :=
  [⟨"GLB_ATTN", 0x040, 0x0, 1, .i, false, false, .const 0,
    [⟨7,7,.ro⟩, ⟨6,1,.w1c⟩, ⟨0,0,.ro⟩]⟩] ++
  [⟨"GLB_ATTNMASK", 0x044, 0x0, 1, .i, false, false, .const 0xff,
    [⟨7,0,.rw⟩]⟩] ++
  [⟨"GLB_SRST", 0x048, 0x0, 1, .i, false, false, .const 0,
    [⟨0,0,.kw1s⟩]⟩] ++
  [⟨"GLB_MBXCMD", 0x080, 0x0, 1, .i, false, false, .const 0,
    [⟨31,24,.rw⟩, ⟨15,0,.rw⟩]⟩] ++
  [⟨"GLB_MBXARGa", 0x084, 0x4, 6, .i, false, false, .const 0,
    [⟨31,0,.rw⟩]⟩] ++
  [⟨"GLB_MBXRSP", 0x09C, 0x0, 1, .i, false, false, .const 0,
    [⟨31,24,.ro⟩, ⟨23,23,.ro⟩, ⟨15,0,.ro⟩]⟩] ++
  [⟨"GLB_MBXDATa", 0x0A0, 0x4, 6, .i, false, false, .const 0,
    [⟨31,0,.ro⟩]⟩]

/-- Block registers of page MER. -/
def rows_mer : List RegRow :=
  [⟨"MER_PCLK", 0x040, 0x0, 1, .j, false, false, .const 0x9c40,
    [⟨15,0,.xw⟩]⟩] ++
  [⟨"MER_SLOT", 0x044, 0x0, 1, .j, false, false, .const 0x200280,
    [⟨24,16,.xw⟩, ⟨10,0,.xw⟩]⟩] ++
  [⟨"MER_OVH", 0x048, 0x0, 1, .j, false, false, .const 0x40808,
    [⟨23,16,.xw⟩, ⟨15,8,.xw⟩, ⟨7,0,.xw⟩]⟩] ++
  [⟨"MER_SEQCFG", 0x04C, 0x0, 1, .j, false, false, .const 0x11,
    [⟨4,0,.xw⟩]⟩] ++
  [⟨"MER_LSRC", 0x050, 0x0, 1, .j, false, false, .lsrc,
    [⟨13,8,.xw⟩, ⟨5,4,.xw⟩, ⟨1,0,.xw⟩]⟩] ++
  [⟨"MER_LPER", 0x054, 0x0, 1, .l, false, false, .const 0x2ca0,
    [⟨23,0,.xw⟩]⟩] ++
  [⟨"MER_FGRID_PITCH", 0x058, 0x0, 1, .j, false, false, .const 0x200000,
    [⟨31,0,.xw⟩]⟩] ++
  [⟨"MER_FGRID_CFG", 0x05C, 0x0, 1, .j, false, false, .const 0,
    [⟨0,0,.xw⟩]⟩] ++
  [⟨"MER_XTYPE", 0x060, 0x0, 1, .l, false, false, .const 0,
    [⟨11,8,.xw⟩, ⟨3,0,.xw⟩]⟩] ++
  [⟨"MER_PSET", 0x064, 0x0, 1, .l, false, false, .const 0,
    [⟨0,0,.xw⟩]⟩] ++
  [⟨"MER_SAMP", 0x068, 0x0, 1, .l, false, false, .const 0x2808,
    [⟨13,8,.xw⟩, ⟨5,0,.xw⟩]⟩] ++
  [⟨"MER_BSKEW", 0x06C, 0x0, 1, .l, false, false, .const 0,
    [⟨31,24,.xw⟩, ⟨23,16,.xw⟩, ⟨15,8,.xw⟩, ⟨7,0,.xw⟩]⟩] ++
  [⟨"MER_STGIDLE", 0x070, 0x0, 1, .i, false, false, .const 0,
    [⟨23,0,.xw⟩]⟩] ++
  [⟨"MER_STGEN", 0x074, 0x0, 1, .j, false, false, .const 0,
    [⟨23,0,.xw⟩]⟩] ++
  [⟨"MER_STAT", 0x078, 0x0, 1, .i, false, false, .const 0,
    [⟨8,8,.ro⟩, ⟨0,0,.ro⟩]⟩] ++
  [⟨"MER_LATECNT", 0x080, 0x0, 1, .i, false, false, .const 0,
    [⟨31,0,.ro⟩]⟩] ++
  [⟨"MER_OVRCNT", 0x084, 0x0, 1, .i, false, false, .const 0,
    [⟨31,0,.ro⟩]⟩] ++
  [⟨"MER_MAXDLY", 0x088, 0x0, 1, .i, false, true, .const 0,
    [⟨31,0,.ro⟩]⟩] ++
  [⟨"MER_SEQk", 0x0A0, 0x4, 17, .j, false, false, .seqk,
    [⟨11,8,.xw⟩, ⟨4,0,.xw⟩]⟩] ++
  [⟨"MER_SPOFFc", 0x100, 0x4, 272, .l, false, false, .const 0,
    [⟨27,16,.xw⟩, ⟨11,0,.xw⟩]⟩]

/-- Block registers of page ACQG. -/
def rows_acqg : List RegRow :=
  [⟨"ACQG_VCLASS", 0x040, 0x0, 1, .j, false, false, .vclass,
    [⟨3,0,.xw⟩]⟩] ++
  [⟨"ACQG_WCK", 0x044, 0x0, 1, .j, false, false, .const 0x191909,
    [⟨23,16,.xw⟩, ⟨15,8,.xw⟩, ⟨3,2,.xw⟩, ⟨1,1,.xw⟩, ⟨0,0,.xw⟩]⟩] ++
  [⟨"ACQG_LP", 0x048, 0x0, 1, .j, false, false, .const 0x2,
    [⟨1,1,.xw⟩, ⟨0,0,.xw⟩]⟩] ++
  [⟨"ACQG_RAWFMT", 0x04C, 0x0, 1, .j, false, false, .const 0xf0,
    [⟨7,4,.xw⟩, ⟨0,0,.xw⟩]⟩] ++
  [⟨"ACQG_STAT", 0x050, 0x0, 1, .i, false, false, .const 0,
    [⟨17,17,.ro⟩, ⟨16,16,.ro⟩, ⟨8,0,.ro⟩]⟩] ++
  [⟨"ACQG_RCLAMP", 0x054, 0x0, 1, .i, false, true, .const 0,
    [⟨31,0,.ro⟩]⟩] ++
  [⟨"ACQG_WIREMAPi", 0x060, 0x4, 9, .i, false, false, .const 0,
    [⟨31,0,.ro⟩]⟩]

/-- Block registers of page ACQn. -/
def rows_acq : List RegRow :=
  [⟨"ACQn_CHk_CFG", 0x040, 0x40, 4, .l, false, false, .chcfg,
    [⟨6,4,.xw⟩, ⟨3,3,.xw⟩, ⟨2,1,.xw⟩, ⟨0,0,.rw⟩]⟩] ++
  [⟨"ACQn_CHk_PED", 0x044, 0x40, 4, .l, false, false, .const 0,
    [⟨11,0,.xw⟩]⟩] ++
  [⟨"ACQn_CHk_MAP", 0x048, 0x40, 4, .j, false, false, .chmap,
    [⟨31,31,.xw⟩, ⟨28,18,.xw⟩, ⟨17,0,.xw⟩]⟩] ++
  [⟨"ACQn_CHk_STAT", 0x04C, 0x40, 4, .i, false, false, .const 0,
    [⟨11,8,.ro⟩, ⟨7,5,.ro⟩, ⟨4,4,.ro⟩, ⟨3,3,.ro⟩, ⟨2,2,.ro⟩, ⟨1,1,.ro⟩, ⟨0,0,.ro⟩]⟩] ++
  [⟨"ACQn_CHk_ORCNT", 0x050, 0x40, 4, .i, false, true, .const 0,
    [⟨31,0,.ro⟩]⟩] ++
  [⟨"ACQn_CHk_WCKCNT", 0x054, 0x40, 4, .i, false, true, .const 0,
    [⟨31,0,.ro⟩]⟩] ++
  [⟨"ACQn_CHk_TRIMUSE", 0x058, 0x40, 4, .i, false, false, .const 0,
    [⟨15,8,.ro⟩, ⟨7,0,.ro⟩]⟩]

/-- Block registers of page SPR. -/
def rows_spr : List RegRow :=
  [⟨"SPR_SPg_CFG", 0x040, 0x10, 16, .l, false, false, .spcfg,
    [⟨11,8,.rw⟩, ⟨1,0,.rw⟩]⟩] ++
  [⟨"SPR_SPg_STAT", 0x044, 0x10, 16, .i, false, false, .const 0,
    [⟨16,16,.ro⟩, ⟨11,8,.ro⟩, ⟨2,0,.ro⟩]⟩] ++
  [⟨"SPR_SPg_ORCNT", 0x048, 0x10, 16, .i, false, true, .const 0,
    [⟨31,0,.ro⟩]⟩] ++
  [⟨"SPR_SPg_WCKCNT", 0x04C, 0x10, 16, .i, false, true, .const 0,
    [⟨31,0,.ro⟩]⟩]

/-- Block registers of page PLTG. -/
def rows_pltg : List RegRow :=
  [⟨"PLTG_CLAMP", 0x040, 0x0, 1, .l, false, false, .const 0x1,
    [⟨8,8,.xw⟩, ⟨3,1,.xw⟩, ⟨0,0,.xw⟩]⟩] ++
  [⟨"PLTG_XF", 0x044, 0x0, 1, .l, false, false, .const 0xf000c000,
    [⟨31,16,.xw⟩, ⟨15,0,.xw⟩]⟩] ++
  [⟨"PLTG_WHITE", 0x048, 0x0, 1, .j, false, false, .const 0xe000,
    [⟨15,0,.xw⟩]⟩] ++
  [⟨"PLTG_OUT", 0x04C, 0x0, 1, .l, false, false, .const 0,
    [⟨11,0,.xw⟩]⟩] ++
  [⟨"PLTG_DEF", 0x050, 0x0, 1, .l, false, false, .const 0x30000,
    [⟨18,16,.xw⟩, ⟨15,0,.xw⟩]⟩] ++
  [⟨"PLTG_STREAK", 0x054, 0x0, 1, .l, false, false, .const 0x32100800,
    [⟨31,28,.xw⟩, ⟨27,24,.xw⟩, ⟨23,20,.xw⟩, ⟨19,16,.xw⟩, ⟨15,12,.xw⟩, ⟨11,8,.xw⟩, ⟨0,0,.w1s⟩]⟩] ++
  [⟨"PLTG_SATCNT", 0x05C, 0x0, 1, .i, false, true, .const 0,
    [⟨31,0,.ro⟩]⟩] ++
  [⟨"PLTG_ORCNT", 0x060, 0x0, 1, .i, false, true, .const 0,
    [⟨31,0,.ro⟩]⟩] ++
  [⟨"PLTG_WPCNT", 0x064, 0x0, 1, .i, false, true, .const 0,
    [⟨31,0,.ro⟩]⟩] ++
  [⟨"PLTG_OSs_CFG", 0x080, 0x10, 4, .j, false, false, .oscfg,
    [⟨31,31,.xw⟩, ⟨30,30,.xw⟩, ⟨27,22,.xw⟩, ⟨21,20,.xw⟩, ⟨19,18,.xw⟩, ⟨17,17,.xw⟩, ⟨16,16,.xw⟩, ⟨14,12,.xw⟩, ⟨8,8,.xw⟩, ⟨2,0,.xw⟩]⟩] ++
  [⟨"PLTG_OSs_BAND", 0x084, 0x10, 4, .j, false, false, .const 0xffff,
    [⟨16,0,.xw⟩]⟩] ++
  [⟨"PLTG_OSs_START", 0x088, 0x10, 4, .j, false, false, .const 0,
    [⟨17,0,.xw⟩]⟩] ++
  [⟨"PLTG_OSs_WIDTH", 0x08C, 0x10, 4, .j, false, false, .const 0x28000,
    [⟨17,0,.xw⟩]⟩]

/-- Block registers of page PLTn. -/
def rows_plt : List RegRow :=
  [⟨"PLTn_CHk_PROC", 0x040, 0x20, 17, .l, false, false, .proc,
    [⟨9,8,.xw⟩, ⟨5,5,.xw⟩, ⟨4,0,.xw⟩]⟩] ++
  [⟨"PLTn_CHk_GR", 0x044, 0x20, 17, .l, false, false, .const 0x80000,
    [⟨19,0,.xw⟩]⟩] ++
  [⟨"PLTn_CHk_SMG", 0x048, 0x20, 17, .l, false, false, .const 0x400000,
    [⟨23,0,.xw⟩]⟩] ++
  [⟨"PLTn_CHk_SMO", 0x04C, 0x20, 17, .l, false, false, .const 0,
    [⟨19,0,.xw⟩]⟩] ++
  [⟨"PLTn_CHk_CLMPH", 0x050, 0x20, 17, .i, false, false, .const 0,
    [⟨19,0,.ro⟩]⟩] ++
  [⟨"PLTn_CHk_CLMPL", 0x054, 0x20, 17, .i, false, false, .const 0,
    [⟨19,0,.ro⟩]⟩]

/-- Block registers of page FFT. -/
def rows_fft : List RegRow :=
  [⟨"FFT_BANKCTL", 0x040, 0x0, 1, .l, false, false, .const 0x100,
    [⟨31,31,.rw⟩, ⟨15,0,.rw⟩]⟩] ++
  [⟨"FFT_SWITCH", 0x044, 0x0, 1, .l, false, false, .const 0,
    [⟨0,0,.w1s⟩]⟩] ++
  [⟨"FFT_STAT", 0x048, 0x0, 1, .i, false, false, .const 0x10000,
    [⟨20,20,.ro⟩, ⟨19,19,.ro⟩, ⟨18,18,.ro⟩, ⟨17,17,.ro⟩, ⟨16,0,.ro⟩]⟩] ++
  [⟨"FFT_BLENDN", 0x04C, 0x0, 1, .i, false, false, .const 0,
    [⟨15,0,.ro⟩]⟩] ++
  [⟨"FFT_DARK", 0x050, 0x0, 1, .l, false, false, .const 0x62,
    [⟨8,8,.w1s⟩, ⟨7,4,.xw⟩, ⟨1,0,.xw⟩]⟩] ++
  [⟨"FFT_CALCFG", 0x054, 0x0, 1, .i, false, false, .const 0x19000c01,
    [⟨31,24,.rw⟩, ⟨15,12,.rw⟩, ⟨11,11,.rw⟩, ⟨10,8,.rw⟩, ⟨0,0,.rw⟩]⟩] ++
  [⟨"FFT_WREF", 0x058, 0x0, 1, .i, false, false, .const 0xe666,
    [⟨15,0,.rw⟩]⟩] ++
  [⟨"FFT_REFb", 0x060, 0x4, 16, .i, false, false, .const 0xe666,
    [⟨15,0,.rw⟩]⟩] ++
  [⟨"FFT_SCRUB", 0x0A0, 0x0, 1, .i, false, false, .const 0x2580001,
    [⟨31,16,.rw⟩, ⟨0,0,.rw⟩]⟩] ++
  [⟨"FFT_ECCCNT", 0x0A4, 0x0, 1, .i, false, true, .const 0,
    [⟨31,0,.ro⟩]⟩] ++
  [⟨"FFT_ECCUCNT", 0x0A8, 0x0, 1, .i, false, true, .const 0,
    [⟨31,0,.ro⟩]⟩] ++
  [⟨"FFT_ECCADDR", 0x0AC, 0x0, 1, .i, false, false, .const 0,
    [⟨31,30,.ro⟩, ⟨21,0,.ro⟩]⟩] ++
  [⟨"FFT_SCRUBPOS", 0x0B0, 0x0, 1, .i, false, false, .const 0,
    [⟨31,30,.ro⟩, ⟨21,0,.ro⟩]⟩]

/-- Block registers of page HELG. -/
def rows_helg : List RegRow :=
  [⟨"HELG_CTL", 0x040, 0x0, 1, .i, false, false, .const 0x102,
    [⟨11,8,.xw⟩, ⟨1,1,.xw⟩, ⟨0,0,.rw⟩]⟩] ++
  [⟨"HELG_PRE", 0x044, 0x0, 1, .j, false, false, .const 0xc8,
    [⟨10,0,.xw⟩]⟩] ++
  [⟨"HELG_FADE", 0x048, 0x0, 1, .i, false, false, .const 0x3e803e8,
    [⟨31,16,.xw⟩, ⟨15,0,.xw⟩]⟩] ++
  [⟨"HELG_HOLD", 0x04C, 0x0, 1, .l, false, false, .const 0x11e,
    [⟨23,0,.xw⟩]⟩] ++
  [⟨"HELG_DIAG", 0x050, 0x0, 1, .j, false, false, .const 0x194605dc,
    [⟨31,24,.xw⟩, ⟨23,16,.xw⟩, ⟨11,0,.xw⟩]⟩] ++
  [⟨"HELG_NSUB0", 0x054, 0x0, 1, .l, false, false, .const 0,
    [⟨3,0,.xw⟩, ⟨7,4,.xw⟩, ⟨11,8,.xw⟩, ⟨15,12,.xw⟩, ⟨19,16,.xw⟩, ⟨23,20,.xw⟩, ⟨27,24,.xw⟩, ⟨31,28,.xw⟩]⟩] ++
  [⟨"HELG_NSUB1", 0x058, 0x0, 1, .l, false, false, .const 0,
    [⟨3,0,.xw⟩, ⟨7,4,.xw⟩, ⟨11,8,.xw⟩, ⟨15,12,.xw⟩, ⟨19,16,.xw⟩, ⟨23,20,.xw⟩, ⟨27,24,.xw⟩, ⟨31,28,.xw⟩]⟩] ++
  [⟨"HELG_TFF", 0x05C, 0x0, 1, .l, false, false, .const 0x10190,
    [⟨16,16,.xw⟩, ⟨15,0,.xw⟩]⟩] ++
  [⟨"HELG_SAFE", 0x060, 0x0, 1, .i, false, false, .const 0,
    [⟨15,0,.kwrw⟩]⟩] ++
  [⟨"HELG_UV", 0x064, 0x0, 1, .i, false, false, .const 0,
    [⟨15,0,.kw1s⟩]⟩] ++
  [⟨"HELG_ROWEN", 0x068, 0x0, 1, .l, false, false, .const 0xffff,
    [⟨15,0,.rw⟩]⟩] ++
  [⟨"HELG_ROWSTAT", 0x06C, 0x0, 1, .i, false, false, .const 0,
    [⟨31,16,.ro⟩, ⟨15,0,.ro⟩]⟩] ++
  [⟨"HELG_DIAGM", 0x070, 0x0, 1, .i, false, false, .const 0,
    [⟨1,0,.ro⟩, ⟨3,2,.ro⟩, ⟨5,4,.ro⟩, ⟨7,6,.ro⟩, ⟨9,8,.ro⟩, ⟨11,10,.ro⟩, ⟨13,12,.ro⟩, ⟨15,14,.ro⟩, ⟨17,16,.ro⟩, ⟨19,18,.ro⟩, ⟨21,20,.ro⟩, ⟨23,22,.ro⟩, ⟨25,24,.ro⟩, ⟨27,26,.ro⟩, ⟨29,28,.ro⟩, ⟨31,30,.ro⟩]⟩] ++
  [⟨"HELG_ILK", 0x074, 0x0, 1, .i, false, false, .const 0,
    [⟨31,16,.ro⟩, ⟨1,1,.kw1c⟩, ⟨0,0,.ro⟩]⟩] ++
  [⟨"HELG_LAMBDA", 0x078, 0x0, 1, .i, false, false, .const 0,
    [⟨16,0,.ro⟩]⟩] ++
  [⟨"HELG_TRUNC", 0x07C, 0x0, 1, .i, false, true, .const 0,
    [⟨31,0,.ro⟩]⟩] ++
  [⟨"HELG_CFL0", 0x080, 0x0, 1, .i, true, false, .const 0,
    [⟨63,0,.ro⟩]⟩] ++
  [⟨"HELG_CFL1", 0x088, 0x0, 1, .i, true, false, .const 0,
    [⟨63,0,.ro⟩]⟩]

/-- Block registers of page HELn. -/
def rows_hel : List RegRow :=
  [⟨"HELn_COLk_CTL", 0x040, 0x20, 8, .l, false, false, .const 0x1,
    [⟨1,1,.w1s⟩, ⟨0,0,.rw⟩]⟩] ++
  [⟨"HELn_COLk_STAT", 0x044, 0x20, 8, .i, false, false, .const 0,
    [⟨31,16,.ro⟩, ⟨3,3,.w1c⟩, ⟨2,2,.ro⟩, ⟨1,1,.ro⟩, ⟨0,0,.ro⟩]⟩] ++
  [⟨"HELn_COLk_LFLT", 0x048, 0x20, 8, .i, false, false, .const 0,
    [⟨31,16,.w1c⟩, ⟨15,0,.w1c⟩]⟩] ++
  [⟨"HELn_COLk_LAST", 0x04C, 0x20, 8, .i, false, false, .const 0,
    [⟨31,16,.ro⟩, ⟨13,10,.ro⟩, ⟨9,0,.ro⟩]⟩] ++
  [⟨"HELn_COLk_FLTCNT", 0x050, 0x20, 8, .i, false, true, .const 0,
    [⟨31,0,.ro⟩]⟩]

/-- Block registers of page ACT. -/
def rows_act : List RegRow :=
  [⟨"ACT_CFG", 0x040, 0x0, 1, .j, false, false, .const 0x601,
    [⟨11,8,.xw⟩, ⟨0,0,.xw⟩]⟩] ++
  [⟨"ACT_TIME", 0x044, 0x0, 1, .j, false, false, .const 0x1f40064,
    [⟨31,16,.xw⟩, ⟨15,0,.xw⟩]⟩] ++
  [⟨"ACT_NOTCH", 0x048, 0x0, 1, .j, false, false, .const 0x410f3,
    [⟨19,16,.xw⟩, ⟨15,8,.xw⟩, ⟨7,4,.xw⟩, ⟨1,1,.xw⟩, ⟨0,0,.xw⟩]⟩] ++
  [⟨"ACT_RANGEi", 0x050, 0x4, 4, .l, false, false, .const 0x55555555,
    [⟨1,0,.xw⟩, ⟨3,2,.xw⟩, ⟨5,4,.xw⟩, ⟨7,6,.xw⟩, ⟨9,8,.xw⟩, ⟨11,10,.xw⟩, ⟨13,12,.xw⟩, ⟨15,14,.xw⟩, ⟨17,16,.xw⟩, ⟨19,18,.xw⟩, ⟨21,20,.xw⟩, ⟨23,22,.xw⟩, ⟨25,24,.xw⟩, ⟨27,26,.xw⟩, ⟨29,28,.xw⟩, ⟨31,30,.xw⟩]⟩] ++
  [⟨"ACT_STAT", 0x060, 0x0, 1, .i, false, false, .const 0,
    [⟨20,16,.ro⟩]⟩] ++
  [⟨"ACT_SATCNT", 0x064, 0x0, 1, .i, false, true, .const 0,
    [⟨31,0,.ro⟩]⟩] ++
  [⟨"ACT_NBCNT", 0x068, 0x0, 1, .i, false, true, .const 0,
    [⟨31,0,.ro⟩]⟩] ++
  [⟨"ACT_LSEL", 0x070, 0x0, 1, .i, false, false, .const 0,
    [⟨9,0,.rw⟩]⟩] ++
  [⟨"ACT_LFLUX", 0x074, 0x0, 1, .i, false, false, .const 0,
    [⟨23,0,.ro⟩]⟩] ++
  [⟨"ACT_LMEAN", 0x078, 0x0, 1, .i, false, false, .const 0,
    [⟨23,0,.ro⟩]⟩] ++
  [⟨"ACT_LINFO", 0x07C, 0x0, 1, .i, false, false, .const 0,
    [⟨31,16,.ro⟩, ⟨15,12,.ro⟩, ⟨11,8,.ro⟩, ⟨1,1,.ro⟩, ⟨0,0,.ro⟩]⟩] ++
  [⟨"ACT_BASEc", 0x080, 0x4, 64, .i, false, false, .const 0,
    [⟨23,0,.ro⟩]⟩]

/-- Block registers of page HKA. -/
def rows_hka : List RegRow :=
  [⟨"HKA_CTL", 0x040, 0x0, 1, .i, false, false, .const 0x53f01,
    [⟨23,16,.xw⟩, ⟨13,8,.xw⟩, ⟨0,0,.rw⟩]⟩] ++
  [⟨"HKA_EXC", 0x044, 0x0, 1, .j, false, false, .const 0xaf01,
    [⟨15,15,.xw⟩, ⟨13,8,.xw⟩, ⟨1,0,.xw⟩]⟩] ++
  [⟨"HKA_THB", 0x048, 0x0, 1, .j, false, false, .const 0xf6e,
    [⟨15,0,.xw⟩]⟩] ++
  [⟨"HKA_THR0", 0x04C, 0x0, 1, .j, false, false, .const 0x2710,
    [⟨23,0,.xw⟩]⟩] ++
  [⟨"HKA_OW", 0x050, 0x0, 1, .j, false, false, .const 0x17530,
    [⟨17,16,.xw⟩, ⟨15,0,.xw⟩]⟩] ++
  [⟨"HKA_URG", 0x054, 0x0, 1, .i, false, false, .const 0,
    [⟨31,24,.wo⟩, ⟨14,12,.wo⟩, ⟨5,0,.wo⟩]⟩] ++
  [⟨"HKA_UPRE", 0x058, 0x0, 1, .i, false, false, .const 0x3e,
    [⟨14,12,.xw⟩, ⟨5,0,.xw⟩]⟩] ++
  [⟨"HKA_ULAST", 0x05C, 0x0, 1, .i, false, false, .const 0,
    [⟨31,24,.ro⟩, ⟨21,16,.ro⟩]⟩] ++
  [⟨"HKA_STAT", 0x060, 0x0, 1, .i, false, false, .const 0,
    [⟨26,24,.ro⟩, ⟨21,16,.ro⟩]⟩] ++
  [⟨"HKA_CYCLE", 0x064, 0x0, 1, .i, false, false, .const 0,
    [⟨23,0,.ro⟩]⟩] ++
  [⟨"HKA_OPEN0", 0x068, 0x0, 1, .i, false, false, .const 0,
    [⟨31,0,.ro⟩]⟩] ++
  [⟨"HKA_OPEN1", 0x06C, 0x0, 1, .i, false, false, .const 0,
    [⟨31,0,.ro⟩]⟩] ++
  [⟨"HKA_SEQe", 0x100, 0x4, 64, .i, false, false, .hkaseq,
    [⟨31,24,.xw⟩, ⟨21,20,.xw⟩, ⟨17,16,.xw⟩, ⟨14,12,.xw⟩, ⟨5,0,.xw⟩]⟩] ++
  [⟨"HKA_RESi", 0x200, 0x4, 64, .i, false, false, .const 0x40000000,
    [⟨31,31,.ro⟩, ⟨30,30,.ro⟩, ⟨29,29,.ro⟩, ⟨23,0,.ro⟩]⟩]

/-- Block registers of page COL. -/
def rows_col : List RegRow :=
  [⟨"COL_CTL", 0x040, 0x0, 1, .i, false, false, .const 0x3,
    [⟨1,1,.rw⟩, ⟨0,0,.rw⟩]⟩] ++
  [⟨"COL_PERM", 0x044, 0x0, 1, .i, false, false, .const 0x7f,
    [⟨0,0,.rw⟩, ⟨1,1,.rw⟩, ⟨2,2,.rw⟩, ⟨3,3,.rw⟩, ⟨4,4,.rw⟩, ⟨5,5,.rw⟩, ⟨6,6,.rw⟩]⟩] ++
  [⟨"COL_TRIG", 0x048, 0x0, 1, .i, false, false, .const 0x3c7020,
    [⟨31,16,.rw⟩, ⟨14,14,.rw⟩, ⟨13,13,.rw⟩, ⟨12,12,.rw⟩, ⟨11,0,.rw⟩]⟩] ++
  [⟨"COL_FLAT", 0x04C, 0x0, 1, .i, false, false, .const 0x8320000,
    [⟨31,24,.rw⟩, ⟨23,16,.rw⟩, ⟨15,0,.rw⟩]⟩] ++
  [⟨"COL_ROT", 0x050, 0x0, 1, .i, false, false, .const 0x320008,
    [⟨31,16,.rw⟩, ⟨7,0,.rw⟩]⟩] ++
  [⟨"COL_WIN", 0x054, 0x0, 1, .i, false, false, .const 0x810,
    [⟨15,8,.rw⟩, ⟨7,0,.rw⟩]⟩] ++
  [⟨"COL_TOL", 0x058, 0x0, 1, .i, false, false, .const 0x50a1014,
    [⟨31,24,.rw⟩, ⟨23,16,.rw⟩, ⟨15,8,.rw⟩, ⟨7,0,.rw⟩]⟩] ++
  [⟨"COL_SEG", 0x05C, 0x0, 1, .i, false, false, .const 0xa00,
    [⟨17,0,.rw⟩]⟩] ++
  [⟨"COL_REQ", 0x060, 0x0, 1, .i, false, false, .const 0,
    [⟨4,4,.w1s⟩, ⟨3,3,.w1s⟩, ⟨2,2,.w1s⟩, ⟨1,1,.w1s⟩, ⟨0,0,.w1s⟩]⟩] ++
  [⟨"COL_STAT", 0x064, 0x0, 1, .i, false, false, .const 0x1ff0000,
    [⟨28,25,.ro⟩, ⟨24,16,.ro⟩, ⟨10,8,.ro⟩, ⟨5,3,.ro⟩, ⟨2,0,.ro⟩]⟩] ++
  [⟨"COL_RESULT", 0x068, 0x0, 1, .i, false, false, .const 0,
    [⟨25,16,.ro⟩, ⟨10,8,.ro⟩, ⟨5,4,.ro⟩, ⟨2,0,.ro⟩]⟩] ++
  [⟨"COL_PASS", 0x06C, 0x0, 1, .i, false, false, .const 0,
    [⟨31,16,.ro⟩, ⟨15,0,.ro⟩]⟩] ++
  [⟨"COL_REJCNT", 0x070, 0x0, 1, .i, false, true, .const 0,
    [⟨31,0,.ro⟩]⟩] ++
  [⟨"COL_DTMAX", 0x074, 0x0, 1, .i, false, false, .const 0,
    [⟨19,16,.ro⟩, ⟨11,0,.ro⟩]⟩] ++
  [⟨"COL_SSEL", 0x078, 0x0, 1, .i, false, false, .const 0,
    [⟨9,0,.rw⟩]⟩] ++
  [⟨"COL_SIGMA", 0x07C, 0x0, 1, .i, false, false, .const 0x400000,
    [⟨23,0,.ro⟩]⟩] ++
  [⟨"COL_FFRESb", 0x080, 0x4, 16, .i, false, false, .const 0,
    [⟨31,16,.ro⟩, ⟨15,0,.ro⟩]⟩] ++
  [⟨"COL_DNOISEb", 0x0C0, 0x4, 16, .i, false, false, .const 0,
    [⟨15,0,.ro⟩]⟩] ++
  [⟨"COL_CHQc", 0x300, 0x4, 272, .i, false, false, .const 0,
    [⟨23,16,.ro⟩, ⟨15,8,.ro⟩, ⟨7,0,.ro⟩]⟩]

/-- Block registers of page ALM. -/
def rows_alm : List RegRow :=
  [⟨"ALM_CTL", 0x040, 0x0, 1, .i, false, false, .const 0xf,
    [⟨3,3,.rw⟩, ⟨2,2,.rw⟩, ⟨1,1,.rw⟩, ⟨0,0,.rw⟩]⟩] ++
  [⟨"ALM_MARG", 0x044, 0x0, 1, .i, false, false, .const 0xc85032,
    [⟨31,16,.rw⟩, ⟨15,8,.rw⟩, ⟨7,0,.rw⟩]⟩] ++
  [⟨"ALM_VLIM", 0x048, 0x0, 1, .i, false, false, .const 0x50316,
    [⟨23,16,.kwrw⟩, ⟨15,0,.kwrw⟩]⟩] ++
  [⟨"ALM_VNOW", 0x04C, 0x0, 1, .i, false, false, .const 0x2ee,
    [⟨15,0,.ro⟩]⟩] ++
  [⟨"ALM_REPORT", 0x050, 0x0, 1, .i, false, false, .const 0xffff,
    [⟨31,20,.ro⟩, ⟨19,16,.ro⟩, ⟨15,0,.ro⟩]⟩] ++
  [⟨"ALM_CAT0", 0x054, 0x0, 1, .i, false, false, .const 0xffffffff,
    [⟨31,16,.ro⟩, ⟨15,0,.ro⟩]⟩] ++
  [⟨"ALM_CAT1", 0x058, 0x0, 1, .i, false, false, .const 0xffffffff,
    [⟨31,16,.ro⟩, ⟨15,0,.ro⟩]⟩] ++
  [⟨"ALM_HIST", 0x05C, 0x0, 1, .i, false, false, .const 0,
    [⟨31,0,.ro⟩]⟩] ++
  [⟨"ALM_ISLi", 0x100, 0x4, 114, .i, false, false, .const 0,
    [⟨27,16,.ro⟩, ⟨9,0,.ro⟩]⟩]

/-- Block registers of page PHO. -/
def rows_pho : List RegRow :=
  [⟨"PHO_CTL", 0x040, 0x0, 1, .j, false, false, .const 0x401,
    [⟨13,8,.rw⟩, ⟨0,0,.rw⟩]⟩] ++
  [⟨"PHO_STRK", 0x044, 0x0, 1, .l, false, false, .const 0x1000800,
    [⟨31,16,.rw⟩, ⟨13,8,.rw⟩, ⟨3,0,.rw⟩]⟩] ++
  [⟨"PHO_STRKTHR", 0x048, 0x0, 1, .l, false, false, .const 0x10200,
    [⟨16,16,.rw⟩, ⟨15,0,.rw⟩]⟩] ++
  [⟨"PHO_BANDCFG", 0x04C, 0x0, 1, .l, false, false, .const 0x40030610,
    [⟨31,20,.rw⟩, ⟨19,16,.rw⟩, ⟨11,8,.rw⟩, ⟨4,4,.rw⟩, ⟨3,0,.rw⟩]⟩] ++
  [⟨"PHO_BANDTHR", 0x050, 0x0, 1, .l, false, false, .const 0x200,
    [⟨15,0,.rw⟩]⟩] ++
  [⟨"PHO_BSTART", 0x054, 0x0, 1, .l, false, false, .const 0,
    [⟨17,0,.rw⟩]⟩] ++
  [⟨"PHO_BWIDTH", 0x058, 0x0, 1, .l, false, false, .const 0x28000,
    [⟨17,0,.rw⟩]⟩] ++
  [⟨"PHO_ALMCNT", 0x060, 0x0, 1, .i, false, true, .const 0,
    [⟨31,0,.ro⟩]⟩] ++
  [⟨"PHO_RECLOST", 0x064, 0x0, 1, .i, false, true, .const 0,
    [⟨31,0,.ro⟩]⟩] ++
  [⟨"PHO_RECQ", 0x068, 0x0, 1, .i, false, false, .const 0,
    [⟨9,0,.ro⟩]⟩] ++
  [⟨"PHO_STRKLASTs", 0x070, 0x8, 4, .i, false, false, .const 0,
    [⟨31,16,.ro⟩, ⟨15,0,.ro⟩]⟩] ++
  [⟨"PHO_STRKPIXs", 0x074, 0x8, 4, .i, false, false, .const 0,
    [⟨31,31,.ro⟩, ⟨17,0,.ro⟩]⟩] ++
  [⟨"PHO_BANDREFs", 0x090, 0x4, 4, .i, false, false, .const 0,
    [⟨31,31,.ro⟩, ⟨23,0,.ro⟩]⟩] ++
  [⟨"PHO_ALMMAPi", 0x100, 0x4, 32, .i, false, false, .const 0,
    [⟨31,0,.w1c⟩]⟩]

/-- Block registers of page CDRG. -/
def rows_cdrg : List RegRow :=
  [⟨"CDRG_CTL", 0x040, 0x0, 1, .i, false, false, .const 0xf,
    [⟨3,0,.kwrw⟩]⟩] ++
  [⟨"CDRG_GRP", 0x044, 0x0, 1, .j, false, false, .const 0,
    [⟨3,3,.xw⟩, ⟨7,7,.xw⟩, ⟨11,11,.xw⟩, ⟨15,15,.xw⟩, ⟨1,0,.xw⟩, ⟨5,4,.xw⟩, ⟨9,8,.xw⟩, ⟨13,12,.xw⟩]⟩] ++
  [⟨"CDRG_ENCF", 0x048, 0x0, 1, .j, false, false, .const 0x100005,
    [⟨31,16,.xw⟩, ⟨7,0,.xw⟩]⟩] ++
  [⟨"CDRG_GCMD", 0x04C, 0x0, 1, .i, false, false, .const 0,
    [⟨7,4,.w1s⟩, ⟨3,0,.w1s⟩]⟩] ++
  [⟨"CDRG_FCFG", 0x050, 0x0, 1, .j, false, false, .const 0x1,
    [⟨1,1,.xw⟩, ⟨0,0,.xw⟩]⟩] ++
  [⟨"CDRG_FCNT", 0x058, 0x0, 1, .i, true, false, .const 0,
    [⟨47,0,.ro⟩]⟩] ++
  [⟨"CDRG_FBAD", 0x060, 0x0, 1, .i, false, true, .const 0,
    [⟨31,0,.ro⟩]⟩] ++
  [⟨"CDRG_STAT", 0x064, 0x0, 1, .i, false, false, .const 0,
    [⟨19,16,.ro⟩, ⟨3,0,.ro⟩]⟩]

/-- Block registers of page CDRx. -/
def rows_cdr : List RegRow :=
  [⟨"CDRx_CFG", 0x040, 0x0, 1, .j, false, false, .const 0x960000,
    [⟨23,16,.xw⟩, ⟨3,3,.xw⟩, ⟨2,2,.xw⟩, ⟨1,1,.xw⟩, ⟨0,0,.xw⟩]⟩] ++
  [⟨"CDRx_CUR", 0x044, 0x0, 1, .m, false, false, .const 0xa8000,
    [⟨23,16,.xw⟩, ⟨15,8,.xw⟩, ⟨7,0,.xw⟩]⟩] ++
  [⟨"CDRx_HOLDT", 0x048, 0x0, 1, .m, false, false, .const 0x1f4,
    [⟨13,0,.xw⟩]⟩] ++
  [⟨"CDRx_CHOP", 0x04C, 0x0, 1, .m, false, false, .const 0x10524608,
    [⟨31,24,.xw⟩, ⟨23,20,.xw⟩, ⟨17,16,.xw⟩, ⟨15,12,.xw⟩, ⟨11,8,.xw⟩, ⟨7,0,.xw⟩]⟩] ++
  [⟨"CDRx_RES0", 0x050, 0x0, 1, .m, false, false, .const 0x5dc01f4,
    [⟨31,16,.xw⟩, ⟨15,0,.xw⟩]⟩] ++
  [⟨"CDRx_RES1", 0x054, 0x0, 1, .m, false, false, .const 0x17700bb8,
    [⟨31,16,.xw⟩, ⟨15,0,.xw⟩]⟩] ++
  [⟨"CDRx_RESH", 0x058, 0x0, 1, .m, false, false, .const 0x40a,
    [⟨10,8,.xw⟩, ⟨7,0,.xw⟩]⟩] ++
  [⟨"CDRx_ENCR", 0x05C, 0x0, 1, .j, false, false, .const 0x10000,
    [⟨31,0,.xw⟩]⟩] ++
  [⟨"CDRx_DEV", 0x060, 0x0, 1, .m, false, false, .const 0xc80200,
    [⟨31,16,.xw⟩, ⟨15,0,.xw⟩]⟩] ++
  [⟨"CDRx_GRID", 0x064, 0x0, 1, .j, false, false, .const 0,
    [⟨1,1,.xw⟩, ⟨0,0,.xw⟩]⟩] ++
  [⟨"CDRx_GPITCH", 0x068, 0x0, 1, .j, false, false, .const 0x10000,
    [⟨31,0,.xw⟩]⟩] ++
  [⟨"CDRx_HOME", 0x06C, 0x0, 1, .m, false, false, .const 0,
    [⟨1,0,.rw⟩]⟩] ++
  [⟨"CDRx_ZPOS", 0x070, 0x0, 1, .m, true, false, .const 0,
    [⟨63,48,.rw⟩, ⟨47,0,.rw⟩]⟩] ++
  [⟨"CDRx_CTL", 0x078, 0x0, 1, .i, false, false, .const 0,
    [⟨2,2,.w1s⟩, ⟨1,1,.w1s⟩, ⟨0,0,.w1s⟩]⟩] ++
  [⟨"CDRx_MTGT", 0x080, 0x0, 1, .i, true, false, .const 0,
    [⟨63,48,.rw⟩, ⟨47,0,.rw⟩]⟩] ++
  [⟨"CDRx_MVEL", 0x088, 0x0, 1, .i, false, false, .const 0,
    [⟨31,0,.rw⟩]⟩] ++
  [⟨"CDRx_MACC", 0x08C, 0x0, 1, .i, false, false, .const 0,
    [⟨31,0,.rw⟩]⟩] ++
  [⟨"CDRx_MDEC", 0x090, 0x0, 1, .i, false, false, .const 0,
    [⟨31,0,.rw⟩]⟩] ++
  [⟨"CDRx_MJRK", 0x094, 0x0, 1, .i, false, false, .const 0,
    [⟨31,0,.rw⟩]⟩] ++
  [⟨"CDRx_MCTL", 0x098, 0x0, 1, .i, false, false, .const 0,
    [⟨15,8,.rw⟩, ⟨4,4,.rw⟩, ⟨3,3,.rw⟩, ⟨2,2,.rw⟩, ⟨1,1,.rw⟩, ⟨0,0,.w1s⟩]⟩] ++
  [⟨"CDRx_POS", 0x0A0, 0x0, 1, .i, true, false, .const 0,
    [⟨47,0,.ro⟩]⟩] ++
  [⟨"CDRx_EPOS", 0x0A8, 0x0, 1, .i, true, false, .const 0,
    [⟨47,0,.ro⟩]⟩] ++
  [⟨"CDRx_ENC", 0x0B0, 0x0, 1, .i, true, false, .const 0,
    [⟨47,0,.ro⟩]⟩] ++
  [⟨"CDRx_DEVN", 0x0B8, 0x0, 1, .i, false, false, .const 0,
    [⟨31,0,.ro⟩]⟩] ++
  [⟨"CDRx_VEL", 0x0BC, 0x0, 1, .i, false, false, .const 0,
    [⟨31,0,.ro⟩]⟩] ++
  [⟨"CDRx_STAT", 0x0C0, 0x0, 1, .i, false, false, .const 0,
    [⟨24,16,.ro⟩, ⟨15,8,.ro⟩, ⟨7,7,.ro⟩, ⟨6,6,.ro⟩, ⟨5,5,.ro⟩, ⟨4,4,.ro⟩, ⟨3,0,.ro⟩]⟩] ++
  [⟨"CDRx_SDIST", 0x0C4, 0x0, 1, .i, false, false, .const 0,
    [⟨31,0,.ro⟩]⟩] ++
  [⟨"CDRx_ADDR", 0x0C8, 0x0, 1, .i, false, false, .const 0,
    [⟨28,26,.ro⟩, ⟨25,16,.ro⟩, ⟨9,0,.ro⟩]⟩] ++
  [⟨"CDRx_CHOPST", 0x0CC, 0x0, 1, .i, false, false, .const 0,
    [⟨31,24,.ro⟩, ⟨23,16,.ro⟩]⟩] ++
  [⟨"CDRx_ENCBAD", 0x0D0, 0x0, 1, .i, false, true, .const 0,
    [⟨31,0,.ro⟩]⟩]

/-- Block registers of page SSC. -/
def rows_ssc : List RegRow :=
  [⟨"SSC_PGEOM", 0x040, 0x0, 1, .j, false, false, .const 0x4b028000,
    [⟨31,20,.rw⟩, ⟨17,0,.rw⟩]⟩] ++
  [⟨"SSC_PBANDS", 0x044, 0x0, 1, .j, false, false, .const 0x1ffff,
    [⟨16,0,.rw⟩]⟩] ++
  [⟨"SSC_PSPEED", 0x048, 0x0, 1, .j, false, false, .const 0x12110,
    [⟨31,0,.rw⟩]⟩] ++
  [⟨"SSC_PMODE", 0x04C, 0x0, 1, .j, false, false, .pmode,
    [⟨13,8,.rw⟩, ⟨5,4,.rw⟩, ⟨1,0,.rw⟩]⟩] ++
  [⟨"SSC_POUT", 0x050, 0x0, 1, .j, false, false, .const 0,
    [⟨8,8,.rw⟩, ⟨7,6,.rw⟩, ⟨5,4,.rw⟩, ⟨2,0,.rw⟩]⟩] ++
  [⟨"SSC_NLINES", 0x060, 0x0, 1, .j, false, false, .const 0,
    [⟨31,0,.rw⟩]⟩] ++
  [⟨"SSC_SPD", 0x064, 0x0, 1, .j, false, false, .const 0,
    [⟨31,0,.xw⟩]⟩] ++
  [⟨"SSC_TACC", 0x068, 0x0, 1, .j, false, false, .const 0,
    [⟨31,0,.xw⟩]⟩] ++
  [⟨"SSC_TJRK", 0x06C, 0x0, 1, .j, false, false, .const 0,
    [⟨31,0,.xw⟩]⟩] ++
  [⟨"SSC_TSET", 0x070, 0x0, 1, .j, false, false, .const 0x3e800c8,
    [⟨31,16,.xw⟩, ⟨15,0,.xw⟩]⟩] ++
  [⟨"SSC_MINSPC", 0x074, 0x0, 1, .j, false, false, .const 0,
    [⟨23,0,.xw⟩]⟩] ++
  [⟨"SSC_DREQ", 0x078, 0x0, 1, .j, false, false, .const 0,
    [⟨23,0,.rw⟩]⟩] ++
  [⟨"SSC_CMD", 0x07C, 0x0, 1, .i, false, false, .const 0,
    [⟨4,4,.w1s⟩, ⟨3,3,.w1s⟩, ⟨2,2,.w1s⟩, ⟨1,1,.w1s⟩, ⟨0,0,.w1s⟩]⟩] ++
  [⟨"SSC_STAT", 0x080, 0x0, 1, .i, false, false, .const 0,
    [⟨10,10,.ro⟩, ⟨9,9,.ro⟩, ⟨8,8,.ro⟩, ⟨3,0,.ro⟩]⟩] ++
  [⟨"SSC_ADMFAIL", 0x084, 0x0, 1, .i, false, false, .const 0,
    [⟨15,1,.ro⟩]⟩] ++
  [⟨"SSC_D", 0x088, 0x0, 1, .i, false, false, .const 0,
    [⟨23,0,.ro⟩]⟩] ++
  [⟨"SSC_S", 0x08C, 0x0, 1, .i, false, false, .const 0,
    [⟨23,0,.ro⟩]⟩] ++
  [⟨"SSC_LINKCAP", 0x090, 0x0, 1, .i, false, false, .const 0,
    [⟨15,0,.ro⟩]⟩] ++
  [⟨"SSC_WRATE", 0x094, 0x0, 1, .i, false, false, .const 0,
    [⟨15,0,.ro⟩]⟩] ++
  [⟨"SSC_STOPS", 0x098, 0x0, 1, .i, false, true, .const 0,
    [⟨31,0,.ro⟩]⟩] ++
  [⟨"SSC_PRECNT", 0x09C, 0x0, 1, .i, false, false, .const 0,
    [⟨31,0,.ro⟩]⟩] ++
  [⟨"SSC_LASTKEPT", 0x0A0, 0x0, 1, .i, true, false, .const 0,
    [⟨63,0,.ro⟩]⟩] ++
  [⟨"SSC_LOST", 0x0A8, 0x0, 1, .i, true, false, .const 0,
    [⟨63,0,.ro⟩]⟩] ++
  [⟨"SSC_LASTDLV", 0x0B0, 0x0, 1, .i, true, false, .const 0,
    [⟨63,0,.ro⟩]⟩] ++
  [⟨"SSC_DMISS", 0x0B8, 0x0, 1, .i, false, true, .const 0,
    [⟨31,16,.ro⟩, ⟨15,0,.ro⟩]⟩] ++
  [⟨"SSC_DWORST", 0x0BC, 0x0, 1, .i, false, true, .const 0,
    [⟨31,31,.ro⟩, ⟨23,0,.ro⟩]⟩] ++
  [⟨"SSC_BACKUP", 0x0C0, 0x0, 1, .i, false, false, .const 0,
    [⟨31,0,.ro⟩]⟩]

/-- Block registers of page EST. -/
def rows_est : List RegRow :=
  [⟨"EST_CFG", 0x040, 0x0, 1, .i, false, false, .const 0,
    [⟨31,16,.ro⟩, ⟨4,0,.ro⟩]⟩] ++
  [⟨"EST_FILL", 0x044, 0x0, 1, .i, false, false, .const 0,
    [⟨23,0,.ro⟩]⟩] ++
  [⟨"EST_PEAK", 0x048, 0x0, 1, .i, false, true, .const 0,
    [⟨23,0,.ro⟩]⟩] ++
  [⟨"EST_HWM", 0x04C, 0x0, 1, .i, false, false, .const 0,
    [⟨23,0,.ro⟩]⟩] ++
  [⟨"EST_LWM", 0x050, 0x0, 1, .j, false, false, .const 0,
    [⟨23,0,.rw⟩]⟩] ++
  [⟨"EST_CEIL", 0x054, 0x0, 1, .i, false, false, .const 0,
    [⟨15,0,.ro⟩]⟩] ++
  [⟨"EST_ECCCNT", 0x058, 0x0, 1, .i, false, true, .const 0,
    [⟨31,0,.ro⟩]⟩] ++
  [⟨"EST_ECCUCNT", 0x05C, 0x0, 1, .i, false, true, .const 0,
    [⟨31,0,.ro⟩]⟩]

/-- Block registers of page DMAG. -/
def rows_dmag : List RegRow :=
  [⟨"DMAG_STAT", 0x040, 0x0, 1, .i, false, false, .const 0,
    [⟨22,16,.ro⟩, ⟨6,0,.ro⟩]⟩] ++
  [⟨"DMAG_SHARESUM", 0x044, 0x0, 1, .i, false, false, .const 0,
    [⟨13,0,.ro⟩]⟩] ++
  [⟨"DMAG_HALT0", 0x048, 0x0, 1, .i, false, false, .const 0,
    [⟨31,0,.ro⟩]⟩] ++
  [⟨"DMAG_HALT1", 0x04C, 0x0, 1, .i, false, false, .const 0,
    [⟨31,0,.ro⟩]⟩] ++
  [⟨"DMAG_CQq_BASE", 0x080, 0x20, 8, .i, true, false, .const 0,
    [⟨63,0,.rw⟩]⟩] ++
  [⟨"DMAG_CQq_CFG", 0x088, 0x20, 8, .i, false, false, .const 0x8,
    [⟨9,9,.rw⟩, ⟨8,8,.rw⟩, ⟨4,0,.rw⟩]⟩] ++
  [⟨"DMAG_CQq_WI", 0x08C, 0x20, 8, .i, false, false, .const 0,
    [⟨31,31,.ro⟩, ⟨15,0,.ro⟩]⟩] ++
  [⟨"DMAG_CQq_RI", 0x090, 0x20, 8, .i, false, false, .const 0,
    [⟨15,0,.rw⟩]⟩] ++
  [⟨"DMAG_CQq_FULLCNT", 0x094, 0x20, 8, .i, false, true, .const 0,
    [⟨31,0,.ro⟩]⟩]

/-- Block registers of page DMAch. -/
def rows_dma : List RegRow :=
  [⟨"DMAch_CFG", 0x040, 0x0, 1, .d, false, false, .const 0x2,
    [⟨15,8,.rw⟩, ⟨2,0,.rw⟩]⟩] ++
  [⟨"DMAch_RATE", 0x044, 0x0, 1, .i, false, false, .const 0x100000,
    [⟨23,16,.rw⟩, ⟨8,0,.rw⟩]⟩] ++
  [⟨"DMAch_CTL", 0x048, 0x0, 1, .i, false, false, .const 0,
    [⟨0,0,.w1s⟩]⟩] ++
  [⟨"DMAch_NEXT", 0x050, 0x0, 1, .i, true, false, .const 0,
    [⟨63,5,.rw⟩]⟩] ++
  [⟨"DMAch_CUR", 0x058, 0x0, 1, .i, true, false, .const 0,
    [⟨63,5,.ro⟩]⟩] ++
  [⟨"DMAch_RRP", 0x060, 0x0, 1, .i, false, false, .const 0,
    [⟨29,6,.rw⟩]⟩] ++
  [⟨"DMAch_RWP", 0x064, 0x0, 1, .i, false, false, .const 0,
    [⟨29,6,.ro⟩]⟩] ++
  [⟨"DMAch_STAT", 0x068, 0x0, 1, .i, false, false, .const 0,
    [⟨31,28,.ro⟩, ⟨23,16,.ro⟩, ⟨3,3,.ro⟩, ⟨2,2,.ro⟩, ⟨1,1,.ro⟩, ⟨0,0,.ro⟩]⟩] ++
  [⟨"DMAch_BYTES", 0x070, 0x0, 1, .i, true, false, .const 0,
    [⟨63,0,.ro⟩]⟩] ++
  [⟨"DMAch_NDESC", 0x078, 0x0, 1, .i, false, false, .const 0,
    [⟨31,0,.ro⟩]⟩] ++
  [⟨"DMAch_RETRYCNT", 0x07C, 0x0, 1, .i, false, true, .const 0,
    [⟨31,0,.ro⟩]⟩] ++
  [⟨"DMAch_SHORT", 0x080, 0x0, 1, .i, false, true, .const 0,
    [⟨31,0,.ro⟩]⟩]

/-- Block registers of page HLK. -/
def rows_hlk : List RegRow :=
  [⟨"HLK_LINK", 0x040, 0x0, 1, .i, false, false, .link,
    [⟨31,30,.ro⟩, ⟨18,16,.ro⟩, ⟨11,8,.ro⟩, ⟨3,1,.ro⟩, ⟨0,0,.ro⟩]⟩] ++
  [⟨"HLK_WLOCK", 0x044, 0x0, 1, .i, false, false, .const 0,
    [⟨1,0,.rw⟩]⟩] ++
  [⟨"HLK_IGNCNT", 0x048, 0x0, 1, .i, false, true, .const 0,
    [⟨31,0,.ro⟩]⟩] ++
  [⟨"HLK_IGNLAST", 0x04C, 0x0, 1, .i, false, false, .const 0,
    [⟨31,31,.ro⟩, ⟨30,30,.ro⟩, ⟨29,27,.ro⟩, ⟨25,0,.ro⟩]⟩] ++
  [⟨"HLK_PCNT0", 0x050, 0x0, 1, .i, false, true, .const 0,
    [⟨31,16,.ro⟩, ⟨15,0,.ro⟩]⟩] ++
  [⟨"HLK_PCNT1", 0x054, 0x0, 1, .i, false, true, .const 0,
    [⟨31,16,.ro⟩, ⟨15,0,.ro⟩]⟩] ++
  [⟨"HLK_PCNT2", 0x058, 0x0, 1, .i, false, true, .const 0,
    [⟨31,16,.ro⟩, ⟨15,0,.ro⟩]⟩] ++
  [⟨"HLK_PCNT3", 0x05C, 0x0, 1, .i, false, true, .const 0,
    [⟨31,16,.ro⟩, ⟨15,0,.ro⟩]⟩] ++
  [⟨"HLK_SPICNT0", 0x060, 0x0, 1, .i, false, true, .const 0,
    [⟨31,16,.ro⟩, ⟨15,0,.ro⟩]⟩] ++
  [⟨"HLK_SPICNT1", 0x064, 0x0, 1, .i, false, true, .const 0,
    [⟨31,16,.ro⟩, ⟨15,0,.ro⟩]⟩]

/-- Block registers of page EVF. -/
def rows_evf : List RegRow :=
  [⟨"EVF_CTL", 0x040, 0x0, 1, .i, false, false, .const 0x80,
    [⟨31,31,.kwrw⟩, ⟨9,0,.rw⟩]⟩] ++
  [⟨"EVF_STAT", 0x044, 0x0, 1, .i, false, false, .const 0,
    [⟨22,16,.ro⟩, ⟨6,0,.ro⟩]⟩] ++
  [⟨"EVF_SWPUB", 0x048, 0x0, 1, .i, false, false, .const 0,
    [⟨7,0,.w1s⟩]⟩] ++
  [⟨"EVF_LOCKIGN", 0x04C, 0x0, 1, .i, false, true, .const 0,
    [⟨31,0,.ro⟩]⟩] ++
  [⟨"EVF_CHc", 0x100, 0x4, 64, .i, false, false, .const 0,
    [⟨31,31,.kw1s⟩, ⟨30,30,.rw⟩, ⟨29,29,.rw⟩, ⟨3,3,.w1c⟩, ⟨2,2,.rw⟩, ⟨1,1,.rw⟩, ⟨0,0,.w1c⟩]⟩] ++
  [⟨"EVF_PUBp", 0x200, 0x4, 153, .i, false, false, .const 0,
    [⟨31,31,.rw⟩, ⟨5,0,.rw⟩]⟩] ++
  [⟨"EVF_SUBt", 0x480, 0x4, 96, .i, false, false, .const 0,
    [⟨31,31,.rw⟩, ⟨10,10,.w1c⟩, ⟨9,9,.w1c⟩, ⟨5,0,.rw⟩]⟩] ++
  [⟨"EVF_LCn_IN", 0x600, 0x8, 32, .i, false, false, .const 0,
    [⟨7,6,.rw⟩, ⟨15,14,.rw⟩, ⟨23,22,.rw⟩, ⟨31,30,.rw⟩, ⟨5,0,.rw⟩, ⟨13,8,.rw⟩, ⟨21,16,.rw⟩, ⟨29,24,.rw⟩]⟩] ++
  [⟨"EVF_LCn_CFG", 0x604, 0x8, 32, .i, false, false, .const 0,
    [⟨31,16,.rw⟩, ⟨15,8,.rw⟩, ⟨5,4,.rw⟩, ⟨1,1,.kw1s⟩, ⟨0,0,.ro⟩]⟩] ++
  [⟨"EVF_EVIk", 0x700, 0x4, 16, .i, false, false, .const 0,
    [⟨31,31,.ro⟩, ⟨1,0,.rw⟩]⟩] ++
  [⟨"EVF_EVOk", 0x740, 0x4, 16, .i, false, false, .const 0x10000,
    [⟨23,16,.rw⟩, ⟨12,8,.rw⟩, ⟨2,2,.rw⟩, ⟨1,0,.rw⟩]⟩] ++
  [⟨"EVF_CNTi", 0x780, 0x4, 16, .i, false, true, .const 0,
    [⟨31,0,.ro⟩]⟩]

/-- Block registers of page CHR. -/
def rows_chr : List RegRow :=
  [⟨"CHR_TS", 0x040, 0x0, 1, .i, true, false, .const 0,
    [⟨63,0,.ro⟩]⟩] ++
  [⟨"CHR_TSLOAD", 0x048, 0x0, 1, .i, true, false, .const 0,
    [⟨63,0,.rw⟩]⟩] ++
  [⟨"CHR_LINE", 0x050, 0x0, 1, .i, true, false, .const 0,
    [⟨63,0,.rw⟩]⟩] ++
  [⟨"CHR_ACK", 0x058, 0x0, 1, .i, false, false, .const 0,
    [⟨31,31,.wo⟩, ⟨15,0,.wo⟩]⟩] ++
  [⟨"CHR_SAFE", 0x05C, 0x0, 1, .i, false, false, .const 0,
    [⟨31,16,.ro⟩, ⟨8,8,.ro⟩, ⟨1,1,.kw1s⟩, ⟨0,0,.kw1s⟩]⟩] ++
  [⟨"CHR_LOGCTL", 0x060, 0x0, 1, .i, false, false, .const 0,
    [⟨0,0,.w1s⟩]⟩] ++
  [⟨"CHR_LOGSTAT", 0x064, 0x0, 1, .i, false, false, .const 0x3000,
    [⟨13,8,.ro⟩, ⟨6,0,.ro⟩]⟩] ++
  [⟨"CHR_LOGOVF", 0x068, 0x0, 1, .i, false, true, .const 0,
    [⟨31,0,.ro⟩]⟩] ++
  [⟨"CHR_LOGSEL", 0x06C, 0x0, 1, .i, false, false, .const 0,
    [⟨5,0,.rw⟩]⟩] ++
  [⟨"CHR_LOGEj", 0x070, 0x4, 8, .i, false, false, .const 0,
    [⟨31,0,.ro⟩]⟩] ++
  [⟨"CHR_UNACK", 0x090, 0x0, 1, .i, false, false, .const 0,
    [⟨31,24,.ro⟩, ⟨23,16,.ro⟩, ⟨15,8,.ro⟩, ⟨7,0,.ro⟩]⟩] ++
  [⟨"CHR_CAPi_TS", 0x100, 0x20, 16, .i, true, false, .const 0,
    [⟨63,0,.ro⟩]⟩] ++
  [⟨"CHR_CAPi_LINE", 0x108, 0x20, 16, .i, true, false, .const 0,
    [⟨63,0,.ro⟩]⟩] ++
  [⟨"CHR_CAPi_CNT", 0x110, 0x20, 16, .i, false, false, .const 0,
    [⟨31,0,.ro⟩]⟩]

/-- Block registers of page SEC. -/
def rows_sec : List RegRow :=
  [⟨"SEC_STAT", 0x040, 0x0, 1, .i, false, false, .const 0,
    [⟨19,16,.ro⟩, ⟨14,8,.ro⟩, ⟨3,2,.ro⟩, ⟨1,0,.ro⟩]⟩] ++
  [⟨"SEC_OP", 0x044, 0x0, 1, .i, false, false, .const 0,
    [⟨5,4,.wo⟩, ⟨3,0,.wo⟩]⟩] ++
  [⟨"SEC_KOP", 0x048, 0x0, 1, .i, false, false, .const 0,
    [⟨5,4,.kwwo⟩, ⟨3,0,.kwwo⟩]⟩] ++
  [⟨"SEC_LEN", 0x04C, 0x0, 1, .i, false, false, .const 0,
    [⟨23,0,.rw⟩]⟩] ++
  [⟨"SEC_IMGW", 0x050, 0x0, 1, .i, false, false, .const 0,
    [⟨31,0,.wo⟩]⟩] ++
  [⟨"SEC_FIFO", 0x054, 0x0, 1, .i, false, false, .const 0x400,
    [⟨31,31,.ro⟩, ⟨10,0,.ro⟩]⟩] ++
  [⟨"SEC_RESULT", 0x058, 0x0, 1, .i, false, false, .const 0,
    [⟨27,24,.ro⟩, ⟨17,16,.ro⟩, ⟨4,4,.ro⟩, ⟨3,0,.ro⟩]⟩] ++
  [⟨"SEC_OBUF", 0x05C, 0x0, 1, .i, false, false, .const 0,
    [⟨31,0,.ro⟩]⟩] ++
  [⟨"SEC_OBCNT", 0x060, 0x0, 1, .i, false, false, .const 0,
    [⟨12,0,.ro⟩]⟩] ++
  [⟨"SEC_DBGCTL", 0x064, 0x0, 1, .i, false, false, .const 0,
    [⟨5,5,.w1s⟩, ⟨4,4,.kw1s⟩, ⟨3,0,.rw⟩]⟩] ++
  [⟨"SEC_NONCEj", 0x080, 0x4, 8, .i, false, false, .const 0,
    [⟨31,0,.ro⟩]⟩] ++
  [⟨"SEC_SERIALj", 0x0A0, 0x4, 4, .i, false, false, .const 0,
    [⟨31,0,.ro⟩]⟩] ++
  [⟨"SEC_VERA", 0x0B0, 0x0, 1, .i, false, false, .const 0,
    [⟨31,0,.ro⟩]⟩] ++
  [⟨"SEC_VERB", 0x0B4, 0x0, 1, .i, false, false, .const 0,
    [⟨31,0,.ro⟩]⟩] ++
  [⟨"SEC_ATTPKj", 0x0C0, 0x4, 8, .i, false, false, .const 0,
    [⟨31,0,.ro⟩]⟩]

/-- Block registers of page PWR. -/
def rows_pwr : List RegRow :=
  [⟨"PWR_CTL", 0x040, 0x0, 1, .i, false, false, .const 0,
    [⟨1,0,.rw⟩]⟩] ++
  [⟨"PWR_CFG", 0x044, 0x0, 1, .i, false, false, .const 0x1,
    [⟨0,0,.rw⟩]⟩] ++
  [⟨"PWR_STAT", 0x048, 0x0, 1, .i, false, false, .const 0,
    [⟨4,4,.ro⟩, ⟨3,0,.ro⟩]⟩] ++
  [⟨"PWR_STRAP", 0x04C, 0x0, 1, .i, false, false, .strap,
    [⟨7,0,.ro⟩]⟩] ++
  [⟨"PWR_CAUSE", 0x050, 0x0, 1, .i, false, false, .const 0,
    [⟨15,8,.ro⟩, ⟨1,0,.ro⟩]⟩] ++
  [⟨"PWR_WAKE", 0x054, 0x0, 1, .i, false, false, .const 0,
    [⟨2,0,.ro⟩]⟩] ++
  [⟨"PWR_PMB", 0x058, 0x0, 1, .i, false, false, .const 0x40,
    [⟨9,9,.kwrw⟩, ⟨8,8,.kwrw⟩, ⟨6,0,.kwrw⟩]⟩] ++
  [⟨"PWR_PMBSTAT", 0x05C, 0x0, 1, .i, false, false, .const 0,
    [⟨31,16,.ro⟩, ⟨15,0,.ro⟩]⟩] ++
  [⟨"PWR_BOOTT", 0x060, 0x0, 1, .i, false, false, .const 0,
    [⟨23,0,.ro⟩]⟩]

/-- The map of a page kind. -/
def pageRows : PageKind → List RegRow
  | .glb => rows_glb
  | .mer => rows_mer
  | .acqg => rows_acqg
  | .acq => rows_acq
  | .spr => rows_spr
  | .pltg => rows_pltg
  | .plt => rows_plt
  | .fft => rows_fft
  | .helg => rows_helg
  | .hel => rows_hel
  | .act => rows_act
  | .hka => rows_hka
  | .col => rows_col
  | .alm => rows_alm
  | .pho => rows_pho
  | .cdrg => rows_cdrg
  | .cdr => rows_cdr
  | .ssc => rows_ssc
  | .est => rows_est
  | .dmag => rows_dmag
  | .dma => rows_dma
  | .hlk => rows_hlk
  | .evf => rows_evf
  | .chr => rows_chr
  | .sec => rows_sec
  | .pwr => rows_pwr

end Sys2Proof.Machine
end

