-- ==== Sys2Proof/Machine/Tab.lean ====
section
/-! DEFINITION. Sparse tables: lists of (key, value) pairs with strictly rising keys. One form serves the register
file, the table memory and every per-instance table of State. -/

namespace Sys2Proof.Machine

/-- The value listed under a key. -/
def tabFind {α : Type} : List (Nat × α) → Nat → Option α
  | [], _ => none
  | (k, v) :: l, a => if k = a then some v else tabFind l a

/-- The value under a key, or the default of an unlisted key. -/
def tabGet {α : Type} (d : α) (l : List (Nat × α)) (a : Nat) : α :=
  match tabFind l a with
  | some v => v
  | none => d

/-- Remove a key. -/
def tabErase {α : Type} : List (Nat × α) → Nat → List (Nat × α)
  | [], _ => []
  | (k, v) :: l, a => if k = a then tabErase l a else (k, v) :: tabErase l a

/-- Insert or replace a key, keeping the keys rising. -/
def tabIns {α : Type} : List (Nat × α) → Nat → α → List (Nat × α)
  | [], a, x => [(a, x)]
  | (k, v) :: l, a, x =>
    if a < k then (a, x) :: (k, v) :: l
    else if a = k then (a, x) :: l
    else (k, v) :: tabIns l a x

/-- Write a key whose unlisted value is d: writing d removes the entry, so equal tables are equal lists. -/
def tabPut {α : Type} [DecidableEq α] (d : α) (l : List (Nat × α)) (a : Nat) (x : α) : List (Nat × α) :=
  if x = d then tabErase l a else tabIns l a x

/-- The keys rise strictly. -/
def tabSorted {α : Type} : List (Nat × α) → Bool
  | [] => true
  | [_] => true
  | (k, _) :: (k', v') :: l => decide (k < k') && tabSorted ((k', v') :: l)

/-- Keep the entries whose key satisfies p. -/
def tabKeep {α : Type} (p : Nat → Bool) : List (Nat × α) → List (Nat × α)
  | [] => []
  | (k, v) :: l => if p k then (k, v) :: tabKeep p l else tabKeep p l

end Sys2Proof.Machine
end

