-- ==== Sys2Proof/Machine/RegFile.lean ====
section
/-! DEFINITION. Which page and row a BAR0 address belongs to, the reset value of every register, and the
bit-field helpers. -/

namespace Sys2Proof.Machine

/-- Bits [hi:lo] of a number. -/
def bits (w hi lo : Nat) : Nat := w / 2 ^ lo % 2 ^ (hi + 1 - lo)

/-- Bit i of a number. -/
def bit (w i : Nat) : Bool := w / 2 ^ i % 2 == 1

/-- The number with bits [hi:lo] replaced by v. -/
def putBits (w hi lo v : Nat) : Nat :=
  w - bits w hi lo * 2 ^ lo + (v % 2 ^ (hi + 1 - lo)) * 2 ^ lo

/-- The mask of bits [hi:lo]. -/
def maskBits (hi lo : Nat) : Nat := (2 ^ (hi + 1 - lo) - 1) * 2 ^ lo

/-- A number of n bits read as two's complement. -/
def toSigned (n v : Nat) : Int := if v < 2 ^ (n - 1) then (v : Int) else (v : Int) - 2 ^ n

/-- The low n bits of an integer, two's complement. -/
def ofSigned (n : Nat) (v : Int) : Nat := (v % (2 ^ n : Nat)).toNat

/-- Find the page of a BAR0 address in a page table: kind, instance, offset (R35). -/
def findPage : List (PageKind × Nat × Nat × Nat) → Nat → Option (PageKind × Nat × Nat)
  | [], _ => none
  | (k, _, base, n) :: l, a =>
    if base ≤ a ∧ a < base + n * 0x1000 then some (k, (a - base) / 0x1000, (a - base) % 0x1000)
    else findPage l a

def pageOf (a : Nat) : Option (PageKind × Nat × Nat) := findPage pageTable a

/-- Base address of the page an address lies in. -/
def pageBase (a : Nat) : Nat := a / 0x1000 * 0x1000

/-- The index of an offset within a row, and whether it is the high word of a 64-bit register. -/
def rowHit (r : RegRow) (off : Nat) : Option (Nat × Bool) :=
  if off < r.off then none
  else
    let d := off - r.off
    let i := if r.stride = 0 then 0 else d / r.stride
    let e := if r.stride = 0 then d else d % r.stride
    if i < r.count then
      if e = 0 then some (i, false) else if e = 4 ∧ r.wide then some (i, true) else none
    else none

def findRow : List RegRow → Nat → Option (RegRow × Nat × Bool)
  | [], _ => none
  | r :: l, off =>
    match rowHit r off with
    | some (i, h) => some (r, i, h)
    | none => findRow l off

/-- Row, index and word of a block register. -/
def rowOf (k : PageKind) (off : Nat) : Option (RegRow × Nat × Bool) := findRow (pageRows k) off

/-- The default housekeeping sequence (R283 and its table): SETTLE, AVG 1, KIND, INPUT of entry e. -/
def hkaDefault (e : Nat) : Nat :=
  let w (settle kind input : Nat) := settle * 2 ^ 24 + 1 * 2 ^ 20 + kind * 2 ^ 12 + input
  if e ≤ 7 then w 50 1 e
  else if e = 8 then w 50 2 47
  else if e ≤ 40 then w 2 0 (e - 1)
  else if e ≤ 47 then w 2 0 (e - 1)
  else w 10 0 e

/-- Value of a reset formula for page instance n and index k, with the straps as sampled (R574). -/
def rvEval (straps : Nat) (n k : Nat) : Rv → Nat
  | .const v => v
  | .lsrc => if bit straps 3 then 2 else 1
  | .seqk => if k = 16 then 16 else k
  | .vclass => if bit straps 6 then 15 else 0
  | .chcfg =>
    (if bit straps 6 then 5 else 3) * 16 + (if bits straps 5 4 = 2 then 8 else 0) +
    (if bits straps 5 4 = 1 then 1 else if bits straps 5 4 = 3 then 3 else 0) * 2 + 1
  | .chmap => 640 * 2 ^ 18 + 640 * (4 * n + k)
  | .spcfg => if bits straps 5 4 = 3 then 2 else 0
  | .oscfg => if k = 0 then 0x80000000 else k * 0x400000
  | .proc => if k = 16 then 0 else (16 * n + k) / 8
  | .hkaseq => hkaDefault k
  | .pmode => if bit straps 3 then 1 else 0
  | .link => bits straps 1 0 * 2 ^ 30
  | .strap => straps % 256

/-- The reset value of the register at a BAR0 address (0 where the address names none). -/
def regDefault (straps a : Nat) : Word :=
  match pageOf a with
  | none => 0
  | some (k, n, off) =>
    match rowOf k off with
    | none => 0
    | some (r, i, hi) => if hi then 0 else BitVec.ofNat 32 (rvEval straps n i r.rv)

end Sys2Proof.Machine
end

