-- ==== Sys2Proof/Machine/RegNames.lean ====
section
/-! DEFINITION. The BAR0 addresses and the field positions of every block register, under the names of
the register maps of spec/ (chapters 02 to 18): R.<REGISTER> is the address (n the page instance, k the
index within the page), F.<REGISTER>.<FIELD> the bit range. -/

namespace Sys2Proof.Machine

/-- A bit range [hi:lo] of a register (R6, the field tables). -/
abbrev Fld := Nat × Nat

/-- Page base (R35). -/
abbrev P.GLB : Nat := 0x0
/-- Page base (R35). -/
abbrev P.MER : Nat := 0x10000
/-- Page base (R35). -/
abbrev P.ACQG : Nat := 0x18000
/-- Page base (R35). -/
abbrev P.ACQn (n : Nat) : Nat := 0x20000 + n * 0x1000
/-- Page base (R35). -/
abbrev P.SPR : Nat := 0x68000
/-- Page base (R35). -/
abbrev P.PLTG : Nat := 0x70000
/-- Page base (R35). -/
abbrev P.PLTn (n : Nat) : Nat := 0x71000 + n * 0x1000
/-- Page base (R35). -/
abbrev P.FFT : Nat := 0x88000
/-- Page base (R35). -/
abbrev P.HELG : Nat := 0x90000
/-- Page base (R35). -/
abbrev P.HELn (n : Nat) : Nat := 0x91000 + n * 0x1000
/-- Page base (R35). -/
abbrev P.ACT : Nat := 0xa0000
/-- Page base (R35). -/
abbrev P.HKA : Nat := 0xa8000
/-- Page base (R35). -/
abbrev P.COL : Nat := 0xb0000
/-- Page base (R35). -/
abbrev P.ALM : Nat := 0xb8000
/-- Page base (R35). -/
abbrev P.PHO : Nat := 0xc0000
/-- Page base (R35). -/
abbrev P.CDRG : Nat := 0xd0000
/-- Page base (R35). -/
abbrev P.CDRx (n : Nat) : Nat := 0xd1000 + n * 0x1000
/-- Page base (R35). -/
abbrev P.SSC : Nat := 0xe0000
/-- Page base (R35). -/
abbrev P.EST : Nat := 0xe8000
/-- Page base (R35). -/
abbrev P.DMAG : Nat := 0xf0000
/-- Page base (R35). -/
abbrev P.DMAch (n : Nat) : Nat := 0x100000 + n * 0x1000
/-- Page base (R35). -/
abbrev P.HLK : Nat := 0x140000
/-- Page base (R35). -/
abbrev P.EVF : Nat := 0x150000
/-- Page base (R35). -/
abbrev P.CHR : Nat := 0x160000
/-- Page base (R35). -/
abbrev P.SEC : Nat := 0x170000
/-- Page base (R35). -/
abbrev P.PWR : Nat := 0x180000

-- 02_register_pages.md
abbrev R.GLB_ATTN : Nat := 0x40
abbrev R.GLB_ATTNMASK : Nat := 0x44
abbrev R.GLB_SRST : Nat := 0x48

-- 03_line_cycle_meridian.md
abbrev R.MER_PCLK : Nat := 0x10040
abbrev R.MER_SLOT : Nat := 0x10044
abbrev R.MER_OVH : Nat := 0x10048
abbrev R.MER_SEQCFG : Nat := 0x1004c
abbrev R.MER_LSRC : Nat := 0x10050
abbrev R.MER_LPER : Nat := 0x10054
abbrev R.MER_FGRID_PITCH : Nat := 0x10058
abbrev R.MER_FGRID_CFG : Nat := 0x1005c
abbrev R.MER_XTYPE : Nat := 0x10060
abbrev R.MER_PSET : Nat := 0x10064
abbrev R.MER_SAMP : Nat := 0x10068
abbrev R.MER_BSKEW : Nat := 0x1006c
abbrev R.MER_STGIDLE : Nat := 0x10070
abbrev R.MER_STGEN : Nat := 0x10074
abbrev R.MER_STAT : Nat := 0x10078
abbrev R.MER_LATECNT : Nat := 0x10080
abbrev R.MER_OVRCNT : Nat := 0x10084
abbrev R.MER_MAXDLY : Nat := 0x10088
abbrev R.MER_SEQk (k : Nat) : Nat := 0x100a0 + k * 0x4
abbrev R.MER_SPOFFc (k : Nat) : Nat := 0x10100 + k * 0x4

-- 04_acquisition_channels.md
abbrev R.ACQG_VCLASS : Nat := 0x18040
abbrev R.ACQG_WCK : Nat := 0x18044
abbrev R.ACQG_LP : Nat := 0x18048
abbrev R.ACQG_RAWFMT : Nat := 0x1804c
abbrev R.ACQG_STAT : Nat := 0x18050
abbrev R.ACQG_RCLAMP : Nat := 0x18054
abbrev R.ACQG_WIREMAPi (k : Nat) : Nat := 0x18060 + k * 0x4
abbrev R.ACQn_CHk_CFG (n k : Nat) : Nat := 0x20040 + n * 0x1000 + k * 0x40
abbrev R.ACQn_CHk_PED (n k : Nat) : Nat := 0x20044 + n * 0x1000 + k * 0x40
abbrev R.ACQn_CHk_MAP (n k : Nat) : Nat := 0x20048 + n * 0x1000 + k * 0x40
abbrev R.ACQn_CHk_STAT (n k : Nat) : Nat := 0x2004c + n * 0x1000 + k * 0x40
abbrev R.ACQn_CHk_ORCNT (n k : Nat) : Nat := 0x20050 + n * 0x1000 + k * 0x40
abbrev R.ACQn_CHk_WCKCNT (n k : Nat) : Nat := 0x20054 + n * 0x1000 + k * 0x40
abbrev R.ACQn_CHk_TRIMUSE (n k : Nat) : Nat := 0x20058 + n * 0x1000 + k * 0x40
abbrev R.SPR_SPg_CFG (k : Nat) : Nat := 0x68040 + k * 0x10
abbrev R.SPR_SPg_STAT (k : Nat) : Nat := 0x68044 + k * 0x10
abbrev R.SPR_SPg_ORCNT (k : Nat) : Nat := 0x68048 + k * 0x10
abbrev R.SPR_SPg_WCKCNT (k : Nat) : Nat := 0x6804c + k * 0x10

-- 05_plate_pipeline.md
abbrev R.PLTG_CLAMP : Nat := 0x70040
abbrev R.PLTG_XF : Nat := 0x70044
abbrev R.PLTG_WHITE : Nat := 0x70048
abbrev R.PLTG_OUT : Nat := 0x7004c
abbrev R.PLTG_DEF : Nat := 0x70050
abbrev R.PLTG_STREAK : Nat := 0x70054
abbrev R.PLTG_SATCNT : Nat := 0x7005c
abbrev R.PLTG_ORCNT : Nat := 0x70060
abbrev R.PLTG_WPCNT : Nat := 0x70064
abbrev R.PLTG_OSs_CFG (k : Nat) : Nat := 0x70080 + k * 0x10
abbrev R.PLTG_OSs_BAND (k : Nat) : Nat := 0x70084 + k * 0x10
abbrev R.PLTG_OSs_START (k : Nat) : Nat := 0x70088 + k * 0x10
abbrev R.PLTG_OSs_WIDTH (k : Nat) : Nat := 0x7008c + k * 0x10
abbrev R.PLTn_CHk_PROC (n k : Nat) : Nat := 0x71040 + n * 0x1000 + k * 0x20
abbrev R.PLTn_CHk_GR (n k : Nat) : Nat := 0x71044 + n * 0x1000 + k * 0x20
abbrev R.PLTn_CHk_SMG (n k : Nat) : Nat := 0x71048 + n * 0x1000 + k * 0x20
abbrev R.PLTn_CHk_SMO (n k : Nat) : Nat := 0x7104c + n * 0x1000 + k * 0x20
abbrev R.PLTn_CHk_CLMPH (n k : Nat) : Nat := 0x71050 + n * 0x1000 + k * 0x20
abbrev R.PLTn_CHk_CLMPL (n k : Nat) : Nat := 0x71054 + n * 0x1000 + k * 0x20

-- 06_flat_field_tables.md
abbrev R.FFT_BANKCTL : Nat := 0x88040
abbrev R.FFT_SWITCH : Nat := 0x88044
abbrev R.FFT_STAT : Nat := 0x88048
abbrev R.FFT_BLENDN : Nat := 0x8804c
abbrev R.FFT_DARK : Nat := 0x88050
abbrev R.FFT_CALCFG : Nat := 0x88054
abbrev R.FFT_WREF : Nat := 0x88058
abbrev R.FFT_REFb (k : Nat) : Nat := 0x88060 + k * 0x4
abbrev R.FFT_SCRUB : Nat := 0x880a0
abbrev R.FFT_ECCCNT : Nat := 0x880a4
abbrev R.FFT_ECCUCNT : Nat := 0x880a8
abbrev R.FFT_ECCADDR : Nat := 0x880ac
abbrev R.FFT_SCRUBPOS : Nat := 0x880b0

-- 07_heliostat_lamp_matrix.md
abbrev R.HELG_CTL : Nat := 0x90040
abbrev R.HELG_PRE : Nat := 0x90044
abbrev R.HELG_FADE : Nat := 0x90048
abbrev R.HELG_HOLD : Nat := 0x9004c
abbrev R.HELG_DIAG : Nat := 0x90050
abbrev R.HELG_NSUB0 : Nat := 0x90054
abbrev R.HELG_NSUB1 : Nat := 0x90058
abbrev R.HELG_TFF : Nat := 0x9005c
abbrev R.HELG_SAFE : Nat := 0x90060
abbrev R.HELG_UV : Nat := 0x90064
abbrev R.HELG_ROWEN : Nat := 0x90068
abbrev R.HELG_ROWSTAT : Nat := 0x9006c
abbrev R.HELG_DIAGM : Nat := 0x90070
abbrev R.HELG_ILK : Nat := 0x90074
abbrev R.HELG_LAMBDA : Nat := 0x90078
abbrev R.HELG_TRUNC : Nat := 0x9007c
abbrev R.HELG_CFL0 : Nat := 0x90080
abbrev R.HELG_CFL1 : Nat := 0x90088
abbrev R.HELn_COLk_CTL (n k : Nat) : Nat := 0x91040 + n * 0x1000 + k * 0x20
abbrev R.HELn_COLk_STAT (n k : Nat) : Nat := 0x91044 + n * 0x1000 + k * 0x20
abbrev R.HELn_COLk_LFLT (n k : Nat) : Nat := 0x91048 + n * 0x1000 + k * 0x20
abbrev R.HELn_COLk_LAST (n k : Nat) : Nat := 0x9104c + n * 0x1000 + k * 0x20
abbrev R.HELn_COLk_FLTCNT (n k : Nat) : Nat := 0x91050 + n * 0x1000 + k * 0x20

-- 08_actinometer_housekeeping.md
abbrev R.ACT_CFG : Nat := 0xa0040
abbrev R.ACT_TIME : Nat := 0xa0044
abbrev R.ACT_NOTCH : Nat := 0xa0048
abbrev R.ACT_RANGEi (k : Nat) : Nat := 0xa0050 + k * 0x4
abbrev R.ACT_STAT : Nat := 0xa0060
abbrev R.ACT_SATCNT : Nat := 0xa0064
abbrev R.ACT_NBCNT : Nat := 0xa0068
abbrev R.ACT_LSEL : Nat := 0xa0070
abbrev R.ACT_LFLUX : Nat := 0xa0074
abbrev R.ACT_LMEAN : Nat := 0xa0078
abbrev R.ACT_LINFO : Nat := 0xa007c
abbrev R.ACT_BASEc (k : Nat) : Nat := 0xa0080 + k * 0x4
abbrev R.HKA_CTL : Nat := 0xa8040
abbrev R.HKA_EXC : Nat := 0xa8044
abbrev R.HKA_THB : Nat := 0xa8048
abbrev R.HKA_THR0 : Nat := 0xa804c
abbrev R.HKA_OW : Nat := 0xa8050
abbrev R.HKA_URG : Nat := 0xa8054
abbrev R.HKA_UPRE : Nat := 0xa8058
abbrev R.HKA_ULAST : Nat := 0xa805c
abbrev R.HKA_STAT : Nat := 0xa8060
abbrev R.HKA_CYCLE : Nat := 0xa8064
abbrev R.HKA_OPEN0 : Nat := 0xa8068
abbrev R.HKA_OPEN1 : Nat := 0xa806c
abbrev R.HKA_SEQe (k : Nat) : Nat := 0xa8100 + k * 0x4
abbrev R.HKA_RESi (k : Nat) : Nat := 0xa8200 + k * 0x4

-- 09_collimator_almanac.md
abbrev R.COL_CTL : Nat := 0xb0040
abbrev R.COL_PERM : Nat := 0xb0044
abbrev R.COL_TRIG : Nat := 0xb0048
abbrev R.COL_FLAT : Nat := 0xb004c
abbrev R.COL_ROT : Nat := 0xb0050
abbrev R.COL_WIN : Nat := 0xb0054
abbrev R.COL_TOL : Nat := 0xb0058
abbrev R.COL_SEG : Nat := 0xb005c
abbrev R.COL_REQ : Nat := 0xb0060
abbrev R.COL_STAT : Nat := 0xb0064
abbrev R.COL_RESULT : Nat := 0xb0068
abbrev R.COL_PASS : Nat := 0xb006c
abbrev R.COL_REJCNT : Nat := 0xb0070
abbrev R.COL_DTMAX : Nat := 0xb0074
abbrev R.COL_SSEL : Nat := 0xb0078
abbrev R.COL_SIGMA : Nat := 0xb007c
abbrev R.COL_FFRESb (k : Nat) : Nat := 0xb0080 + k * 0x4
abbrev R.COL_DNOISEb (k : Nat) : Nat := 0xb00c0 + k * 0x4
abbrev R.COL_CHQc (k : Nat) : Nat := 0xb0300 + k * 0x4
abbrev R.ALM_CTL : Nat := 0xb8040
abbrev R.ALM_MARG : Nat := 0xb8044
abbrev R.ALM_VLIM : Nat := 0xb8048
abbrev R.ALM_VNOW : Nat := 0xb804c
abbrev R.ALM_REPORT : Nat := 0xb8050
abbrev R.ALM_CAT0 : Nat := 0xb8054
abbrev R.ALM_CAT1 : Nat := 0xb8058
abbrev R.ALM_HIST : Nat := 0xb805c
abbrev R.ALM_ISLi (k : Nat) : Nat := 0xb8100 + k * 0x4

-- 10_photometer.md
abbrev R.PHO_CTL : Nat := 0xc0040
abbrev R.PHO_STRK : Nat := 0xc0044
abbrev R.PHO_STRKTHR : Nat := 0xc0048
abbrev R.PHO_BANDCFG : Nat := 0xc004c
abbrev R.PHO_BANDTHR : Nat := 0xc0050
abbrev R.PHO_BSTART : Nat := 0xc0054
abbrev R.PHO_BWIDTH : Nat := 0xc0058
abbrev R.PHO_ALMCNT : Nat := 0xc0060
abbrev R.PHO_RECLOST : Nat := 0xc0064
abbrev R.PHO_RECQ : Nat := 0xc0068
abbrev R.PHO_STRKLASTs (k : Nat) : Nat := 0xc0070 + k * 0x8
abbrev R.PHO_STRKPIXs (k : Nat) : Nat := 0xc0074 + k * 0x8
abbrev R.PHO_BANDREFs (k : Nat) : Nat := 0xc0090 + k * 0x4
abbrev R.PHO_ALMMAPi (k : Nat) : Nat := 0xc0100 + k * 0x4

-- 11_clock_drive.md
abbrev R.CDRG_CTL : Nat := 0xd0040
abbrev R.CDRG_GRP : Nat := 0xd0044
abbrev R.CDRG_ENCF : Nat := 0xd0048
abbrev R.CDRG_GCMD : Nat := 0xd004c
abbrev R.CDRG_FCFG : Nat := 0xd0050
abbrev R.CDRG_FCNT : Nat := 0xd0058
abbrev R.CDRG_FBAD : Nat := 0xd0060
abbrev R.CDRG_STAT : Nat := 0xd0064
abbrev R.CDRx_CFG (n : Nat) : Nat := 0xd1040 + n * 0x1000
abbrev R.CDRx_CUR (n : Nat) : Nat := 0xd1044 + n * 0x1000
abbrev R.CDRx_HOLDT (n : Nat) : Nat := 0xd1048 + n * 0x1000
abbrev R.CDRx_CHOP (n : Nat) : Nat := 0xd104c + n * 0x1000
abbrev R.CDRx_RES0 (n : Nat) : Nat := 0xd1050 + n * 0x1000
abbrev R.CDRx_RES1 (n : Nat) : Nat := 0xd1054 + n * 0x1000
abbrev R.CDRx_RESH (n : Nat) : Nat := 0xd1058 + n * 0x1000
abbrev R.CDRx_ENCR (n : Nat) : Nat := 0xd105c + n * 0x1000
abbrev R.CDRx_DEV (n : Nat) : Nat := 0xd1060 + n * 0x1000
abbrev R.CDRx_GRID (n : Nat) : Nat := 0xd1064 + n * 0x1000
abbrev R.CDRx_GPITCH (n : Nat) : Nat := 0xd1068 + n * 0x1000
abbrev R.CDRx_HOME (n : Nat) : Nat := 0xd106c + n * 0x1000
abbrev R.CDRx_ZPOS (n : Nat) : Nat := 0xd1070 + n * 0x1000
abbrev R.CDRx_CTL (n : Nat) : Nat := 0xd1078 + n * 0x1000
abbrev R.CDRx_MTGT (n : Nat) : Nat := 0xd1080 + n * 0x1000
abbrev R.CDRx_MVEL (n : Nat) : Nat := 0xd1088 + n * 0x1000
abbrev R.CDRx_MACC (n : Nat) : Nat := 0xd108c + n * 0x1000
abbrev R.CDRx_MDEC (n : Nat) : Nat := 0xd1090 + n * 0x1000
abbrev R.CDRx_MJRK (n : Nat) : Nat := 0xd1094 + n * 0x1000
abbrev R.CDRx_MCTL (n : Nat) : Nat := 0xd1098 + n * 0x1000
abbrev R.CDRx_POS (n : Nat) : Nat := 0xd10a0 + n * 0x1000
abbrev R.CDRx_EPOS (n : Nat) : Nat := 0xd10a8 + n * 0x1000
abbrev R.CDRx_ENC (n : Nat) : Nat := 0xd10b0 + n * 0x1000
abbrev R.CDRx_DEVN (n : Nat) : Nat := 0xd10b8 + n * 0x1000
abbrev R.CDRx_VEL (n : Nat) : Nat := 0xd10bc + n * 0x1000
abbrev R.CDRx_STAT (n : Nat) : Nat := 0xd10c0 + n * 0x1000
abbrev R.CDRx_SDIST (n : Nat) : Nat := 0xd10c4 + n * 0x1000
abbrev R.CDRx_ADDR (n : Nat) : Nat := 0xd10c8 + n * 0x1000
abbrev R.CDRx_CHOPST (n : Nat) : Nat := 0xd10cc + n * 0x1000
abbrev R.CDRx_ENCBAD (n : Nat) : Nat := 0xd10d0 + n * 0x1000

-- 12_seamless_scanning.md
abbrev R.SSC_PGEOM : Nat := 0xe0040
abbrev R.SSC_PBANDS : Nat := 0xe0044
abbrev R.SSC_PSPEED : Nat := 0xe0048
abbrev R.SSC_PMODE : Nat := 0xe004c
abbrev R.SSC_POUT : Nat := 0xe0050
abbrev R.SSC_NLINES : Nat := 0xe0060
abbrev R.SSC_SPD : Nat := 0xe0064
abbrev R.SSC_TACC : Nat := 0xe0068
abbrev R.SSC_TJRK : Nat := 0xe006c
abbrev R.SSC_TSET : Nat := 0xe0070
abbrev R.SSC_MINSPC : Nat := 0xe0074
abbrev R.SSC_DREQ : Nat := 0xe0078
abbrev R.SSC_CMD : Nat := 0xe007c
abbrev R.SSC_STAT : Nat := 0xe0080
abbrev R.SSC_ADMFAIL : Nat := 0xe0084
abbrev R.SSC_D : Nat := 0xe0088
abbrev R.SSC_S : Nat := 0xe008c
abbrev R.SSC_LINKCAP : Nat := 0xe0090
abbrev R.SSC_WRATE : Nat := 0xe0094
abbrev R.SSC_STOPS : Nat := 0xe0098
abbrev R.SSC_PRECNT : Nat := 0xe009c
abbrev R.SSC_LASTKEPT : Nat := 0xe00a0
abbrev R.SSC_LOST : Nat := 0xe00a8
abbrev R.SSC_LASTDLV : Nat := 0xe00b0
abbrev R.SSC_DMISS : Nat := 0xe00b8
abbrev R.SSC_DWORST : Nat := 0xe00bc
abbrev R.SSC_BACKUP : Nat := 0xe00c0
abbrev R.EST_CFG : Nat := 0xe8040
abbrev R.EST_FILL : Nat := 0xe8044
abbrev R.EST_PEAK : Nat := 0xe8048
abbrev R.EST_HWM : Nat := 0xe804c
abbrev R.EST_LWM : Nat := 0xe8050
abbrev R.EST_CEIL : Nat := 0xe8054
abbrev R.EST_ECCCNT : Nat := 0xe8058
abbrev R.EST_ECCUCNT : Nat := 0xe805c

-- 13_dma_engine.md
abbrev R.DMAG_STAT : Nat := 0xf0040
abbrev R.DMAG_SHARESUM : Nat := 0xf0044
abbrev R.DMAG_HALT0 : Nat := 0xf0048
abbrev R.DMAG_HALT1 : Nat := 0xf004c
abbrev R.DMAG_CQq_BASE (k : Nat) : Nat := 0xf0080 + k * 0x20
abbrev R.DMAG_CQq_CFG (k : Nat) : Nat := 0xf0088 + k * 0x20
abbrev R.DMAG_CQq_WI (k : Nat) : Nat := 0xf008c + k * 0x20
abbrev R.DMAG_CQq_RI (k : Nat) : Nat := 0xf0090 + k * 0x20
abbrev R.DMAG_CQq_FULLCNT (k : Nat) : Nat := 0xf0094 + k * 0x20
abbrev R.DMAch_CFG (n : Nat) : Nat := 0x100040 + n * 0x1000
abbrev R.DMAch_RATE (n : Nat) : Nat := 0x100044 + n * 0x1000
abbrev R.DMAch_CTL (n : Nat) : Nat := 0x100048 + n * 0x1000
abbrev R.DMAch_NEXT (n : Nat) : Nat := 0x100050 + n * 0x1000
abbrev R.DMAch_CUR (n : Nat) : Nat := 0x100058 + n * 0x1000
abbrev R.DMAch_RRP (n : Nat) : Nat := 0x100060 + n * 0x1000
abbrev R.DMAch_RWP (n : Nat) : Nat := 0x100064 + n * 0x1000
abbrev R.DMAch_STAT (n : Nat) : Nat := 0x100068 + n * 0x1000
abbrev R.DMAch_BYTES (n : Nat) : Nat := 0x100070 + n * 0x1000
abbrev R.DMAch_NDESC (n : Nat) : Nat := 0x100078 + n * 0x1000
abbrev R.DMAch_RETRYCNT (n : Nat) : Nat := 0x10007c + n * 0x1000
abbrev R.DMAch_SHORT (n : Nat) : Nat := 0x100080 + n * 0x1000

-- 14_host_links.md
abbrev R.HLK_LINK : Nat := 0x140040
abbrev R.HLK_WLOCK : Nat := 0x140044
abbrev R.HLK_IGNCNT : Nat := 0x140048
abbrev R.HLK_IGNLAST : Nat := 0x14004c
abbrev R.HLK_PCNT0 : Nat := 0x140050
abbrev R.HLK_PCNT1 : Nat := 0x140054
abbrev R.HLK_PCNT2 : Nat := 0x140058
abbrev R.HLK_PCNT3 : Nat := 0x14005c
abbrev R.HLK_SPICNT0 : Nat := 0x140060
abbrev R.HLK_SPICNT1 : Nat := 0x140064

-- 15_event_fabric.md
abbrev R.EVF_CTL : Nat := 0x150040
abbrev R.EVF_STAT : Nat := 0x150044
abbrev R.EVF_SWPUB : Nat := 0x150048
abbrev R.EVF_LOCKIGN : Nat := 0x15004c
abbrev R.EVF_CHc (k : Nat) : Nat := 0x150100 + k * 0x4
abbrev R.EVF_PUBp (k : Nat) : Nat := 0x150200 + k * 0x4
abbrev R.EVF_SUBt (k : Nat) : Nat := 0x150480 + k * 0x4
abbrev R.EVF_LCn_IN (k : Nat) : Nat := 0x150600 + k * 0x8
abbrev R.EVF_LCn_CFG (k : Nat) : Nat := 0x150604 + k * 0x8
abbrev R.EVF_EVIk (k : Nat) : Nat := 0x150700 + k * 0x4
abbrev R.EVF_EVOk (k : Nat) : Nat := 0x150740 + k * 0x4
abbrev R.EVF_CNTi (k : Nat) : Nat := 0x150780 + k * 0x4

-- 16_chronograph_faults.md
abbrev R.CHR_TS : Nat := 0x160040
abbrev R.CHR_TSLOAD : Nat := 0x160048
abbrev R.CHR_LINE : Nat := 0x160050
abbrev R.CHR_ACK : Nat := 0x160058
abbrev R.CHR_SAFE : Nat := 0x16005c
abbrev R.CHR_LOGCTL : Nat := 0x160060
abbrev R.CHR_LOGSTAT : Nat := 0x160064
abbrev R.CHR_LOGOVF : Nat := 0x160068
abbrev R.CHR_LOGSEL : Nat := 0x16006c
abbrev R.CHR_LOGEj (k : Nat) : Nat := 0x160070 + k * 0x4
abbrev R.CHR_UNACK : Nat := 0x160090
abbrev R.CHR_CAPi_TS (k : Nat) : Nat := 0x160100 + k * 0x20
abbrev R.CHR_CAPi_LINE (k : Nat) : Nat := 0x160108 + k * 0x20
abbrev R.CHR_CAPi_CNT (k : Nat) : Nat := 0x160110 + k * 0x20

-- 17_security_firmware.md
abbrev R.GLB_MBXCMD : Nat := 0x80
abbrev R.GLB_MBXARGa (k : Nat) : Nat := 0x84 + k * 0x4
abbrev R.GLB_MBXRSP : Nat := 0x9c
abbrev R.GLB_MBXDATa (k : Nat) : Nat := 0xa0 + k * 0x4
abbrev R.SEC_STAT : Nat := 0x170040
abbrev R.SEC_OP : Nat := 0x170044
abbrev R.SEC_KOP : Nat := 0x170048
abbrev R.SEC_LEN : Nat := 0x17004c
abbrev R.SEC_IMGW : Nat := 0x170050
abbrev R.SEC_FIFO : Nat := 0x170054
abbrev R.SEC_RESULT : Nat := 0x170058
abbrev R.SEC_OBUF : Nat := 0x17005c
abbrev R.SEC_OBCNT : Nat := 0x170060
abbrev R.SEC_DBGCTL : Nat := 0x170064
abbrev R.SEC_NONCEj (k : Nat) : Nat := 0x170080 + k * 0x4
abbrev R.SEC_SERIALj (k : Nat) : Nat := 0x1700a0 + k * 0x4
abbrev R.SEC_VERA : Nat := 0x1700b0
abbrev R.SEC_VERB : Nat := 0x1700b4
abbrev R.SEC_ATTPKj (k : Nat) : Nat := 0x1700c0 + k * 0x4

-- 18_power_clocks_reset.md
abbrev R.PWR_CTL : Nat := 0x180040
abbrev R.PWR_CFG : Nat := 0x180044
abbrev R.PWR_STAT : Nat := 0x180048
abbrev R.PWR_STRAP : Nat := 0x18004c
abbrev R.PWR_CAUSE : Nat := 0x180050
abbrev R.PWR_WAKE : Nat := 0x180054
abbrev R.PWR_PMB : Nat := 0x180058
abbrev R.PWR_PMBSTAT : Nat := 0x18005c
abbrev R.PWR_BOOTT : Nat := 0x180060

abbrev F.GLB_ATTN.FLTMAJ : Fld := (7, 7)
abbrev F.GLB_ATTN.LATCH : Fld := (6, 1)
abbrev F.GLB_ATTN.LOG : Fld := (0, 0)
abbrev F.GLB_ATTNMASK.MASK : Fld := (7, 0)
abbrev F.GLB_SRST.GO : Fld := (0, 0)
abbrev F.MER_PCLK.FREQ : Fld := (15, 0)
abbrev F.MER_SLOT.OVH : Fld := (24, 16)
abbrev F.MER_SLOT.PIXPER : Fld := (10, 0)
abbrev F.MER_OVH.WC : Fld := (23, 16)
abbrev F.MER_OVH.OB : Fld := (15, 8)
abbrev F.MER_OVH.XFER : Fld := (7, 0)
abbrev F.MER_SEQCFG.NSLOT : Fld := (4, 0)
abbrev F.MER_LSRC.EVC : Fld := (13, 8)
abbrev F.MER_LSRC.AXIS : Fld := (5, 4)
abbrev F.MER_LSRC.SRC : Fld := (1, 0)
abbrev F.MER_LPER.PERIOD : Fld := (23, 0)
abbrev F.MER_FGRID_PITCH.PITCH : Fld := (31, 0)
abbrev F.MER_FGRID_CFG.DIR : Fld := (0, 0)
abbrev F.MER_XTYPE.FLUSHT : Fld := (11, 8)
abbrev F.MER_XTYPE.TAILT : Fld := (3, 0)
abbrev F.MER_PSET.SET : Fld := (0, 0)
abbrev F.MER_SAMP.VSPBASE : Fld := (13, 8)
abbrev F.MER_SAMP.RSPBASE : Fld := (5, 0)
abbrev F.MER_BSKEW.B3 : Fld := (31, 24)
abbrev F.MER_BSKEW.B2 : Fld := (23, 16)
abbrev F.MER_BSKEW.B1 : Fld := (15, 8)
abbrev F.MER_BSKEW.B0 : Fld := (7, 0)
abbrev F.MER_STGIDLE.IDLE : Fld := (23, 0)
abbrev F.MER_STGEN.EN : Fld := (23, 0)
abbrev F.MER_STAT.TRIGPEND : Fld := (8, 8)
abbrev F.MER_STAT.LOCK : Fld := (0, 0)
abbrev F.MER_LATECNT.VALUE : Fld := (31, 0)
abbrev F.MER_OVRCNT.VALUE : Fld := (31, 0)
abbrev F.MER_MAXDLY.VALUE : Fld := (31, 0)
abbrev F.MER_SEQk.TYPE : Fld := (11, 8)
abbrev F.MER_SEQk.BAND : Fld := (4, 0)
abbrev F.MER_SPOFFc.VSPOFF : Fld := (27, 16)
abbrev F.MER_SPOFFc.RSPOFF : Fld := (11, 0)
abbrev F.ACQG_VCLASS.CLASS : Fld := (3, 0)
abbrev F.ACQG_WCK.RAIL : Fld := (23, 16)
abbrev F.ACQG_WCK.THR : Fld := (15, 8)
abbrev F.ACQG_WCK.IPULL : Fld := (3, 2)
abbrev F.ACQG_WCK.DIR : Fld := (1, 1)
abbrev F.ACQG_WCK.EN : Fld := (0, 0)
abbrev F.ACQG_LP.LPREADY : Fld := (1, 1)
abbrev F.ACQG_LP.LPJOB : Fld := (0, 0)
abbrev F.ACQG_RAWFMT.KMASK : Fld := (7, 4)
abbrev F.ACQG_RAWFMT.ALIGN : Fld := (0, 0)
abbrev F.ACQG_STAT.FULL : Fld := (17, 17)
abbrev F.ACQG_STAT.LP : Fld := (16, 16)
abbrev F.ACQG_STAT.WIRECNT : Fld := (8, 0)
abbrev F.ACQG_RCLAMP.COUNT : Fld := (31, 0)
abbrev F.ACQG_WIREMAPi.MAP : Fld := (31, 0)
abbrev F.ACQn_CHk_CFG.RANGE : Fld := (6, 4)
abbrev F.ACQn_CHk_CFG.POL : Fld := (3, 3)
abbrev F.ACQn_CHk_CFG.MODE : Fld := (2, 1)
abbrev F.ACQn_CHk_CFG.EN : Fld := (0, 0)
abbrev F.ACQn_CHk_PED.PED : Fld := (11, 0)
abbrev F.ACQn_CHk_MAP.REV : Fld := (31, 31)
abbrev F.ACQn_CHk_MAP.COUNT : Fld := (28, 18)
abbrev F.ACQn_CHk_MAP.FIRST : Fld := (17, 0)
abbrev F.ACQn_CHk_STAT.WARMLEFT : Fld := (11, 8)
abbrev F.ACQn_CHk_STAT.RANGE : Fld := (7, 5)
abbrev F.ACQn_CHk_STAT.SUBST : Fld := (4, 4)
abbrev F.ACQn_CHk_STAT.INCAL : Fld := (3, 3)
abbrev F.ACQn_CHk_STAT.WARM : Fld := (2, 2)
abbrev F.ACQn_CHk_STAT.WIRE : Fld := (1, 1)
abbrev F.ACQn_CHk_STAT.ACTIVE : Fld := (0, 0)
abbrev F.ACQn_CHk_ORCNT.COUNT : Fld := (31, 0)
abbrev F.ACQn_CHk_WCKCNT.COUNT : Fld := (31, 0)
abbrev F.ACQn_CHk_TRIMUSE.LOW : Fld := (15, 8)
abbrev F.ACQn_CHk_TRIMUSE.HIGH : Fld := (7, 0)
abbrev F.SPR_SPg_CFG.TGT : Fld := (11, 8)
abbrev F.SPR_SPg_CFG.MODE : Fld := (1, 0)
abbrev F.SPR_SPg_STAT.WIRE : Fld := (16, 16)
abbrev F.SPR_SPg_STAT.TGT : Fld := (11, 8)
abbrev F.SPR_SPg_STAT.POS : Fld := (2, 0)
abbrev F.SPR_SPg_ORCNT.COUNT : Fld := (31, 0)
abbrev F.SPR_SPg_WCKCNT.COUNT : Fld := (31, 0)
abbrev F.PLTG_CLAMP.GREN : Fld := (8, 8)
abbrev F.PLTG_CLAMP.K : Fld := (3, 1)
abbrev F.PLTG_CLAMP.OBEN : Fld := (0, 0)
abbrev F.PLTG_XF.XF_HI : Fld := (31, 16)
abbrev F.PLTG_XF.XF_LO : Fld := (15, 0)
abbrev F.PLTG_WHITE.WHITE_DN : Fld := (15, 0)
abbrev F.PLTG_OUT.OFFDN : Fld := (11, 0)
abbrev F.PLTG_DEF.ECCMODE : Fld := (18, 16)
abbrev F.PLTG_DEF.REPDN : Fld := (15, 0)
abbrev F.PLTG_STREAK.BAND3 : Fld := (31, 28)
abbrev F.PLTG_STREAK.BAND2 : Fld := (27, 24)
abbrev F.PLTG_STREAK.BAND1 : Fld := (23, 20)
abbrev F.PLTG_STREAK.BAND0 : Fld := (19, 16)
abbrev F.PLTG_STREAK.BEN : Fld := (15, 12)
abbrev F.PLTG_STREAK.K : Fld := (11, 8)
abbrev F.PLTG_STREAK.CLR : Fld := (0, 0)
abbrev F.PLTG_SATCNT.COUNT : Fld := (31, 0)
abbrev F.PLTG_ORCNT.COUNT : Fld := (31, 0)
abbrev F.PLTG_WPCNT.COUNT : Fld := (31, 0)
abbrev F.PLTG_OSs_CFG.EN : Fld := (31, 31)
abbrev F.PLTG_OSs_CFG.TRAIL : Fld := (30, 30)
abbrev F.PLTG_OSs_CFG.DMACH : Fld := (27, 22)
abbrev F.PLTG_OSs_CFG.VSUM : Fld := (21, 20)
abbrev F.PLTG_OSs_CFG.HBIN : Fld := (19, 18)
abbrev F.PLTG_OSs_CFG.BINSUM : Fld := (17, 17)
abbrev F.PLTG_OSs_CFG.LUT : Fld := (16, 16)
abbrev F.PLTG_OSs_CFG.NPROJ : Fld := (14, 12)
abbrev F.PLTG_OSs_CFG.ORDER : Fld := (8, 8)
abbrev F.PLTG_OSs_CFG.FMT : Fld := (2, 0)
abbrev F.PLTG_OSs_BAND.MASK : Fld := (16, 0)
abbrev F.PLTG_OSs_START.START : Fld := (17, 0)
abbrev F.PLTG_OSs_WIDTH.WIDTH : Fld := (17, 0)
abbrev F.PLTn_CHk_PROC.DPOL : Fld := (9, 8)
abbrev F.PLTn_CHk_PROC.CDSOFF : Fld := (5, 5)
abbrev F.PLTn_CHk_PROC.GRSEL : Fld := (4, 0)
abbrev F.PLTn_CHk_GR.RATIO : Fld := (19, 0)
abbrev F.PLTn_CHk_SMG.GAIN : Fld := (23, 0)
abbrev F.PLTn_CHk_SMO.OFS : Fld := (19, 0)
abbrev F.PLTn_CHk_CLMPH.LEVEL : Fld := (19, 0)
abbrev F.PLTn_CHk_CLMPL.LEVEL : Fld := (19, 0)
abbrev F.FFT_BANKCTL.AUTOSW : Fld := (31, 31)
abbrev F.FFT_BANKCTL.BLEND_LINES : Fld := (15, 0)
abbrev F.FFT_SWITCH.GO : Fld := (0, 0)
abbrev F.FFT_STAT.COPYBUSY : Fld := (20, 20)
abbrev F.FFT_STAT.CALBUSY : Fld := (19, 19)
abbrev F.FFT_STAT.ACTIVE : Fld := (18, 18)
abbrev F.FFT_STAT.BLEND : Fld := (17, 17)
abbrev F.FFT_STAT.F : Fld := (16, 0)
abbrev F.FFT_BLENDN.N : Fld := (15, 0)
abbrev F.FFT_DARK.CLR : Fld := (8, 8)
abbrev F.FFT_DARK.K : Fld := (7, 4)
abbrev F.FFT_DARK.MODE : Fld := (1, 0)
abbrev F.FFT_CALCFG.GDEV : Fld := (31, 24)
abbrev F.FFT_CALCFG.NAVG : Fld := (15, 12)
abbrev F.FFT_CALCFG.FLAGKEEP : Fld := (11, 11)
abbrev F.FFT_CALCFG.DREPL : Fld := (10, 8)
abbrev F.FFT_CALCFG.COPY : Fld := (0, 0)
abbrev F.FFT_WREF.WREF : Fld := (15, 0)
abbrev F.FFT_REFb.REF : Fld := (15, 0)
abbrev F.FFT_SCRUB.PASS : Fld := (31, 16)
abbrev F.FFT_SCRUB.EN : Fld := (0, 0)
abbrev F.FFT_ECCCNT.COUNT : Fld := (31, 0)
abbrev F.FFT_ECCUCNT.COUNT : Fld := (31, 0)
abbrev F.FFT_ECCADDR.SPACE : Fld := (31, 30)
abbrev F.FFT_ECCADDR.INDEX : Fld := (21, 0)
abbrev F.FFT_SCRUBPOS.SPACE : Fld := (31, 30)
abbrev F.FFT_SCRUBPOS.INDEX : Fld := (21, 0)
abbrev F.HELG_CTL.ISTEP : Fld := (11, 8)
abbrev F.HELG_CTL.DIAGEN : Fld := (1, 1)
abbrev F.HELG_CTL.LAMPEN : Fld := (0, 0)
abbrev F.HELG_PRE.TPRE : Fld := (10, 0)
abbrev F.HELG_FADE.TOUT : Fld := (31, 16)
abbrev F.HELG_FADE.TIN : Fld := (15, 0)
abbrev F.HELG_HOLD.PER : Fld := (23, 0)
abbrev F.HELG_DIAG.OPENPCT : Fld := (31, 24)
abbrev F.HELG_DIAG.WEAKPCT : Fld := (23, 16)
abbrev F.HELG_DIAG.TDIAG : Fld := (11, 0)
abbrev F.HELG_NSUB0.NSUB0 : Fld := (3, 0)
abbrev F.HELG_NSUB0.NSUB1 : Fld := (7, 4)
abbrev F.HELG_NSUB0.NSUB2 : Fld := (11, 8)
abbrev F.HELG_NSUB0.NSUB3 : Fld := (15, 12)
abbrev F.HELG_NSUB0.NSUB4 : Fld := (19, 16)
abbrev F.HELG_NSUB0.NSUB5 : Fld := (23, 20)
abbrev F.HELG_NSUB0.NSUB6 : Fld := (27, 24)
abbrev F.HELG_NSUB0.NSUB7 : Fld := (31, 28)
abbrev F.HELG_NSUB1.NSUB0 : Fld := (3, 0)
abbrev F.HELG_NSUB1.NSUB1 : Fld := (7, 4)
abbrev F.HELG_NSUB1.NSUB2 : Fld := (11, 8)
abbrev F.HELG_NSUB1.NSUB3 : Fld := (15, 12)
abbrev F.HELG_NSUB1.NSUB4 : Fld := (19, 16)
abbrev F.HELG_NSUB1.NSUB5 : Fld := (23, 20)
abbrev F.HELG_NSUB1.NSUB6 : Fld := (27, 24)
abbrev F.HELG_NSUB1.NSUB7 : Fld := (31, 28)
abbrev F.HELG_TFF.EN : Fld := (16, 16)
abbrev F.HELG_TFF.TREF : Fld := (15, 0)
abbrev F.HELG_SAFE.SAFE : Fld := (15, 0)
abbrev F.HELG_UV.UV : Fld := (15, 0)
abbrev F.HELG_ROWEN.EN : Fld := (15, 0)
abbrev F.HELG_ROWSTAT.BLIND : Fld := (31, 16)
abbrev F.HELG_ROWSTAT.ON : Fld := (15, 0)
abbrev F.HELG_DIAGM.M0 : Fld := (1, 0)
abbrev F.HELG_DIAGM.M1 : Fld := (3, 2)
abbrev F.HELG_DIAGM.M2 : Fld := (5, 4)
abbrev F.HELG_DIAGM.M3 : Fld := (7, 6)
abbrev F.HELG_DIAGM.M4 : Fld := (9, 8)
abbrev F.HELG_DIAGM.M5 : Fld := (11, 10)
abbrev F.HELG_DIAGM.M6 : Fld := (13, 12)
abbrev F.HELG_DIAGM.M7 : Fld := (15, 14)
abbrev F.HELG_DIAGM.M8 : Fld := (17, 16)
abbrev F.HELG_DIAGM.M9 : Fld := (19, 18)
abbrev F.HELG_DIAGM.M10 : Fld := (21, 20)
abbrev F.HELG_DIAGM.M11 : Fld := (23, 22)
abbrev F.HELG_DIAGM.M12 : Fld := (25, 24)
abbrev F.HELG_DIAGM.M13 : Fld := (27, 26)
abbrev F.HELG_DIAGM.M14 : Fld := (29, 28)
abbrev F.HELG_DIAGM.M15 : Fld := (31, 30)
abbrev F.HELG_ILK.FORCED : Fld := (31, 16)
abbrev F.HELG_ILK.LATCH : Fld := (1, 1)
abbrev F.HELG_ILK.PIN : Fld := (0, 0)
abbrev F.HELG_LAMBDA.LAMBDA : Fld := (16, 0)
abbrev F.HELG_TRUNC.COUNT : Fld := (31, 0)
abbrev F.HELG_CFL0.LINE : Fld := (63, 0)
abbrev F.HELG_CFL1.LINE : Fld := (63, 0)
abbrev F.HELn_COLk_CTL.REEN : Fld := (1, 1)
abbrev F.HELn_COLk_CTL.EN : Fld := (0, 0)
abbrev F.HELn_COLk_STAT.LMASK : Fld := (31, 16)
abbrev F.HELn_COLk_STAT.HDRM : Fld := (3, 3)
abbrev F.HELn_COLk_STAT.FLT : Fld := (2, 2)
abbrev F.HELn_COLk_STAT.FADE : Fld := (1, 1)
abbrev F.HELn_COLk_STAT.ACTIVE : Fld := (0, 0)
abbrev F.HELn_COLk_LFLT.SHORT : Fld := (31, 16)
abbrev F.HELn_COLk_LFLT.OPEN : Fld := (15, 0)
abbrev F.HELn_COLk_LAST.WIDTH : Fld := (31, 16)
abbrev F.HELn_COLk_LAST.ROW : Fld := (13, 10)
abbrev F.HELn_COLk_LAST.CODE : Fld := (9, 0)
abbrev F.HELn_COLk_FLTCNT.COUNT : Fld := (31, 0)
abbrev F.ACT_CFG.K : Fld := (11, 8)
abbrev F.ACT_CFG.EN : Fld := (0, 0)
abbrev F.ACT_TIME.TTAIL : Fld := (31, 16)
abbrev F.ACT_TIME.TSET : Fld := (15, 0)
abbrev F.ACT_NOTCH.LPK : Fld := (19, 16)
abbrev F.ACT_NOTCH.BW : Fld := (15, 8)
abbrev F.ACT_NOTCH.HMASK : Fld := (7, 4)
abbrev F.ACT_NOTCH.F60 : Fld := (1, 1)
abbrev F.ACT_NOTCH.F50 : Fld := (0, 0)
abbrev F.ACT_RANGEi.RANGE0 : Fld := (1, 0)
abbrev F.ACT_RANGEi.RANGE1 : Fld := (3, 2)
abbrev F.ACT_RANGEi.RANGE2 : Fld := (5, 4)
abbrev F.ACT_RANGEi.RANGE3 : Fld := (7, 6)
abbrev F.ACT_RANGEi.RANGE4 : Fld := (9, 8)
abbrev F.ACT_RANGEi.RANGE5 : Fld := (11, 10)
abbrev F.ACT_RANGEi.RANGE6 : Fld := (13, 12)
abbrev F.ACT_RANGEi.RANGE7 : Fld := (15, 14)
abbrev F.ACT_RANGEi.RANGE8 : Fld := (17, 16)
abbrev F.ACT_RANGEi.RANGE9 : Fld := (19, 18)
abbrev F.ACT_RANGEi.RANGE10 : Fld := (21, 20)
abbrev F.ACT_RANGEi.RANGE11 : Fld := (23, 22)
abbrev F.ACT_RANGEi.RANGE12 : Fld := (25, 24)
abbrev F.ACT_RANGEi.RANGE13 : Fld := (27, 26)
abbrev F.ACT_RANGEi.RANGE14 : Fld := (29, 28)
abbrev F.ACT_RANGEi.RANGE15 : Fld := (31, 30)
abbrev F.ACT_STAT.M : Fld := (20, 16)
abbrev F.ACT_SATCNT.COUNT : Fld := (31, 0)
abbrev F.ACT_NBCNT.COUNT : Fld := (31, 0)
abbrev F.ACT_LSEL.LAMP : Fld := (9, 0)
abbrev F.ACT_LFLUX.FLUX : Fld := (23, 0)
abbrev F.ACT_LMEAN.FLUX : Fld := (23, 0)
abbrev F.ACT_LINFO.NMEAS : Fld := (31, 16)
abbrev F.ACT_LINFO.LOWCNT : Fld := (15, 12)
abbrev F.ACT_LINFO.WEAKCNT : Fld := (11, 8)
abbrev F.ACT_LINFO.SAT : Fld := (1, 1)
abbrev F.ACT_LINFO.VALID : Fld := (0, 0)
abbrev F.ACT_BASEc.BASE : Fld := (23, 0)
abbrev F.HKA_CTL.USETTLE : Fld := (23, 16)
abbrev F.HKA_CTL.NENT : Fld := (13, 8)
abbrev F.HKA_CTL.RUN : Fld := (0, 0)
abbrev F.HKA_EXC.LEADEN : Fld := (15, 15)
abbrev F.HKA_EXC.LEADIN : Fld := (13, 8)
abbrev F.HKA_EXC.IEXC : Fld := (1, 0)
abbrev F.HKA_THB.B : Fld := (15, 0)
abbrev F.HKA_THR0.R0 : Fld := (23, 0)
abbrev F.HKA_OW.IOW : Fld := (17, 16)
abbrev F.HKA_OW.OWTHR : Fld := (15, 0)
abbrev F.HKA_URG.TAG : Fld := (31, 24)
abbrev F.HKA_URG.KIND : Fld := (14, 12)
abbrev F.HKA_URG.INPUT : Fld := (5, 0)
abbrev F.HKA_UPRE.KIND : Fld := (14, 12)
abbrev F.HKA_UPRE.INPUT : Fld := (5, 0)
abbrev F.HKA_ULAST.TAG : Fld := (31, 24)
abbrev F.HKA_ULAST.INPUT : Fld := (21, 16)
abbrev F.HKA_STAT.UQ : Fld := (26, 24)
abbrev F.HKA_STAT.ENTRY : Fld := (21, 16)
abbrev F.HKA_CYCLE.US : Fld := (23, 0)
abbrev F.HKA_OPEN0.MAP : Fld := (31, 0)
abbrev F.HKA_OPEN1.MAP : Fld := (31, 0)
abbrev F.HKA_SEQe.SETTLE : Fld := (31, 24)
abbrev F.HKA_SEQe.AVG : Fld := (21, 20)
abbrev F.HKA_SEQe.PARAM : Fld := (17, 16)
abbrev F.HKA_SEQe.KIND : Fld := (14, 12)
abbrev F.HKA_SEQe.INPUT : Fld := (5, 0)
abbrev F.HKA_RESi.OPEN : Fld := (31, 31)
abbrev F.HKA_RESi.STALE : Fld := (30, 30)
abbrev F.HKA_RESi.OVR : Fld := (29, 29)
abbrev F.HKA_RESi.VALUE : Fld := (23, 0)
abbrev F.COL_CTL.ROTEN : Fld := (1, 1)
abbrev F.COL_CTL.EN : Fld := (0, 0)
abbrev F.COL_PERM.TRIM : Fld := (0, 0)
abbrev F.COL_PERM.SPOS : Fld := (1, 1)
abbrev F.COL_PERM.GR : Fld := (2, 2)
abbrev F.COL_PERM.SM : Fld := (3, 3)
abbrev F.COL_PERM.LCODE : Fld := (4, 4)
abbrev F.COL_PERM.QEXP : Fld := (5, 5)
abbrev F.COL_PERM.FLAT : Fld := (6, 6)
abbrev F.COL_TRIG.PERIOD : Fld := (31, 16)
abbrev F.COL_TRIG.AEN : Fld := (14, 14)
abbrev F.COL_TRIG.PEN : Fld := (13, 13)
abbrev F.COL_TRIG.TEN : Fld := (12, 12)
abbrev F.COL_TRIG.CAL_DT : Fld := (11, 0)
abbrev F.COL_FLAT.DARKTOL : Fld := (31, 24)
abbrev F.COL_FLAT.FLATTOL : Fld := (23, 16)
abbrev F.COL_FLAT.WPERIOD : Fld := (15, 0)
abbrev F.COL_ROT.ROT_PERIOD : Fld := (31, 16)
abbrev F.COL_ROT.OVERLAP_LINES : Fld := (7, 0)
abbrev F.COL_WIN.WINTOL : Fld := (15, 8)
abbrev F.COL_WIN.PROBE_HALF : Fld := (7, 0)
abbrev F.COL_TOL.LTOL : Fld := (31, 24)
abbrev F.COL_TOL.GRTOL : Fld := (23, 16)
abbrev F.COL_TOL.SMOTOL : Fld := (15, 8)
abbrev F.COL_TOL.SMGTOL : Fld := (7, 0)
abbrev F.COL_SEG.SEGPIX : Fld := (17, 0)
abbrev F.COL_REQ.ROTRST : Fld := (4, 4)
abbrev F.COL_REQ.WHITE : Fld := (3, 3)
abbrev F.COL_REQ.DARK : Fld := (2, 2)
abbrev F.COL_REQ.FLUX : Fld := (1, 1)
abbrev F.COL_REQ.LAMP : Fld := (0, 0)
abbrev F.COL_STAT.PHASE : Fld := (28, 25)
abbrev F.COL_STAT.ROTCH : Fld := (24, 16)
abbrev F.COL_STAT.NEED : Fld := (10, 8)
abbrev F.COL_STAT.TRY : Fld := (5, 3)
abbrev F.COL_STAT.RUN : Fld := (2, 0)
abbrev F.COL_RESULT.ITEM : Fld := (25, 16)
abbrev F.COL_RESULT.TRIES : Fld := (10, 8)
abbrev F.COL_RESULT.OUTCOME : Fld := (5, 4)
abbrev F.COL_RESULT.KIND : Fld := (2, 0)
abbrev F.COL_PASS.DUR : Fld := (31, 16)
abbrev F.COL_PASS.COUNT : Fld := (15, 0)
abbrev F.COL_REJCNT.VALUE : Fld := (31, 0)
abbrev F.COL_DTMAX.SRC : Fld := (19, 16)
abbrev F.COL_DTMAX.DT : Fld := (11, 0)
abbrev F.COL_SSEL.LAMP : Fld := (9, 0)
abbrev F.COL_SIGMA.SIGMA : Fld := (23, 0)
abbrev F.COL_FFRESb.REP : Fld := (31, 16)
abbrev F.COL_FFRESb.RES : Fld := (15, 0)
abbrev F.COL_DNOISEb.NOISE : Fld := (15, 0)
abbrev F.COL_CHQc.REP : Fld := (23, 16)
abbrev F.COL_CHQc.LIN : Fld := (15, 8)
abbrev F.COL_CHQc.WIN : Fld := (7, 0)
abbrev F.ALM_CTL.LAMP : Fld := (3, 3)
abbrev F.ALM_CTL.VOLT : Fld := (2, 2)
abbrev F.ALM_CTL.CLK : Fld := (1, 1)
abbrev F.ALM_CTL.EN : Fld := (0, 0)
abbrev F.ALM_MARG.DECL : Fld := (31, 16)
abbrev F.ALM_MARG.TARGET : Fld := (15, 8)
abbrev F.ALM_MARG.MINSLACK : Fld := (7, 0)
abbrev F.ALM_VLIM.STEP : Fld := (23, 16)
abbrev F.ALM_VLIM.VMAX : Fld := (15, 0)
abbrev F.ALM_VNOW.VREQ : Fld := (15, 0)
abbrev F.ALM_REPORT.ITEM : Fld := (31, 20)
abbrev F.ALM_REPORT.KIND : Fld := (19, 16)
abbrev F.ALM_REPORT.MONTHS : Fld := (15, 0)
abbrev F.ALM_CAT0.VOLT : Fld := (31, 16)
abbrev F.ALM_CAT0.TIME : Fld := (15, 0)
abbrev F.ALM_CAT1.TRIM : Fld := (31, 16)
abbrev F.ALM_CAT1.LAMP : Fld := (15, 0)
abbrev F.ALM_HIST.HOURS : Fld := (31, 0)
abbrev F.ALM_ISLi.FREQ : Fld := (27, 16)
abbrev F.ALM_ISLi.SLACK : Fld := (9, 0)
abbrev F.PHO_CTL.DMACH : Fld := (13, 8)
abbrev F.PHO_CTL.EN : Fld := (0, 0)
abbrev F.PHO_STRK.PERIOD : Fld := (31, 16)
abbrev F.PHO_STRK.HALF : Fld := (13, 8)
abbrev F.PHO_STRK.SEN : Fld := (3, 0)
abbrev F.PHO_STRKTHR.RECEN : Fld := (16, 16)
abbrev F.PHO_STRKTHR.THR : Fld := (15, 0)
abbrev F.PHO_BANDCFG.MAXL : Fld := (31, 20)
abbrev F.PHO_BANDCFG.BMIN : Fld := (19, 16)
abbrev F.PHO_BANDCFG.KB : Fld := (11, 8)
abbrev F.PHO_BANDCFG.RECEN : Fld := (4, 4)
abbrev F.PHO_BANDCFG.SEN : Fld := (3, 0)
abbrev F.PHO_BANDTHR.THR : Fld := (15, 0)
abbrev F.PHO_BSTART.START : Fld := (17, 0)
abbrev F.PHO_BWIDTH.WIDTH : Fld := (17, 0)
abbrev F.PHO_ALMCNT.COUNT : Fld := (31, 0)
abbrev F.PHO_RECLOST.COUNT : Fld := (31, 0)
abbrev F.PHO_RECQ.N : Fld := (9, 0)
abbrev F.PHO_STRKLASTs.RUNS : Fld := (31, 16)
abbrev F.PHO_STRKLASTs.DMAX : Fld := (15, 0)
abbrev F.PHO_STRKPIXs.NEG : Fld := (31, 31)
abbrev F.PHO_STRKPIXs.PIXEL : Fld := (17, 0)
abbrev F.PHO_BANDREFs.INBAND : Fld := (31, 31)
abbrev F.PHO_BANDREFs.REF : Fld := (23, 0)
abbrev F.PHO_ALMMAPi.MAP : Fld := (31, 0)
abbrev F.CDRG_CTL.SAFEREL : Fld := (3, 0)
abbrev F.CDRG_GRP.GEN0 : Fld := (3, 3)
abbrev F.CDRG_GRP.GEN1 : Fld := (7, 7)
abbrev F.CDRG_GRP.GEN2 : Fld := (11, 11)
abbrev F.CDRG_GRP.GEN3 : Fld := (15, 15)
abbrev F.CDRG_GRP.GID0 : Fld := (1, 0)
abbrev F.CDRG_GRP.GID1 : Fld := (5, 4)
abbrev F.CDRG_GRP.GID2 : Fld := (9, 8)
abbrev F.CDRG_GRP.GID3 : Fld := (13, 12)
abbrev F.CDRG_ENCF.BADLIM : Fld := (31, 16)
abbrev F.CDRG_ENCF.FILT : Fld := (7, 0)
abbrev F.CDRG_GCMD.GISTOP : Fld := (7, 4)
abbrev F.CDRG_GCMD.GCSTOP : Fld := (3, 0)
abbrev F.CDRG_FCFG.FDIR : Fld := (1, 1)
abbrev F.CDRG_FCFG.EN : Fld := (0, 0)
abbrev F.CDRG_FCNT.COUNT : Fld := (47, 0)
abbrev F.CDRG_FBAD.COUNT : Fld := (31, 0)
abbrev F.CDRG_STAT.UNT : Fld := (19, 16)
abbrev F.CDRG_STAT.MOVING : Fld := (3, 0)
abbrev F.CDRx_CFG.OCLIM : Fld := (23, 16)
abbrev F.CDRx_CFG.ISMODE : Fld := (3, 3)
abbrev F.CDRx_CFG.ENCDIR : Fld := (2, 2)
abbrev F.CDRx_CFG.ENCEN : Fld := (1, 1)
abbrev F.CDRx_CFG.DIR : Fld := (0, 0)
abbrev F.CDRx_CUR.TWAKE : Fld := (23, 16)
abbrev F.CDRx_CUR.IHOLD : Fld := (15, 8)
abbrev F.CDRx_CUR.RUNV : Fld := (7, 0)
abbrev F.CDRx_HOLDT.HOLD_DELAY : Fld := (13, 0)
abbrev F.CDRx_CHOP.OFSLIM : Fld := (31, 24)
abbrev F.CDRx_CHOP.TFAST : Fld := (23, 20)
abbrev F.CDRx_CHOP.DECAY : Fld := (17, 16)
abbrev F.CDRx_CHOP.TOFF : Fld := (15, 12)
abbrev F.CDRx_CHOP.TBLANK : Fld := (11, 8)
abbrev F.CDRx_CHOP.HYST : Fld := (7, 0)
abbrev F.CDRx_RES0.V2 : Fld := (31, 16)
abbrev F.CDRx_RES0.V1 : Fld := (15, 0)
abbrev F.CDRx_RES1.V4 : Fld := (31, 16)
abbrev F.CDRx_RES1.V3 : Fld := (15, 0)
abbrev F.CDRx_RESH.STEPMAX : Fld := (10, 8)
abbrev F.CDRx_RESH.HYST : Fld := (7, 0)
abbrev F.CDRx_ENCR.RATIO : Fld := (31, 0)
abbrev F.CDRx_DEV.TFILT : Fld := (31, 16)
abbrev F.CDRx_DEV.DEVWIN : Fld := (15, 0)
abbrev F.CDRx_GRID.DIR : Fld := (1, 1)
abbrev F.CDRx_GRID.SRC : Fld := (0, 0)
abbrev F.CDRx_GPITCH.PITCH : Fld := (31, 0)
abbrev F.CDRx_HOME.SRC : Fld := (1, 0)
abbrev F.CDRx_ZPOS.VALUE : Fld := (47, 0)
abbrev F.CDRx_CTL.QFLUSH : Fld := (2, 2)
abbrev F.CDRx_CTL.ISTOP : Fld := (1, 1)
abbrev F.CDRx_CTL.CSTOP : Fld := (0, 0)
abbrev F.CDRx_MTGT.VALUE : Fld := (47, 0)
abbrev F.CDRx_MVEL.LIMIT : Fld := (31, 0)
abbrev F.CDRx_MACC.LIMIT : Fld := (31, 0)
abbrev F.CDRx_MDEC.LIMIT : Fld := (31, 0)
abbrev F.CDRx_MJRK.LIMIT : Fld := (31, 0)
abbrev F.CDRx_MCTL.TAG : Fld := (15, 8)
abbrev F.CDRx_MCTL.HOME : Fld := (4, 4)
abbrev F.CDRx_MCTL.GROUP : Fld := (3, 3)
abbrev F.CDRx_MCTL.BLEND : Fld := (2, 2)
abbrev F.CDRx_MCTL.REL : Fld := (1, 1)
abbrev F.CDRx_MCTL.PUSH : Fld := (0, 0)
abbrev F.CDRx_POS.VALUE : Fld := (47, 0)
abbrev F.CDRx_EPOS.VALUE : Fld := (47, 0)
abbrev F.CDRx_ENC.VALUE : Fld := (47, 0)
abbrev F.CDRx_DEVN.D : Fld := (31, 0)
abbrev F.CDRx_VEL.V : Fld := (31, 0)
abbrev F.CDRx_STAT.SCALE : Fld := (24, 16)
abbrev F.CDRx_STAT.TAG : Fld := (15, 8)
abbrev F.CDRx_STAT.UNT : Fld := (7, 7)
abbrev F.CDRx_STAT.HOLD : Fld := (6, 6)
abbrev F.CDRx_STAT.GRPRUN : Fld := (5, 5)
abbrev F.CDRx_STAT.MOVING : Fld := (4, 4)
abbrev F.CDRx_STAT.QLEN : Fld := (3, 0)
abbrev F.CDRx_SDIST.DIST : Fld := (31, 0)
abbrev F.CDRx_ADDR.STEP : Fld := (28, 26)
abbrev F.CDRx_ADDR.ADDR : Fld := (25, 16)
abbrev F.CDRx_ADDR.PHASE : Fld := (9, 0)
abbrev F.CDRx_CHOPST.OFSB : Fld := (31, 24)
abbrev F.CDRx_CHOPST.OFSA : Fld := (23, 16)
abbrev F.CDRx_ENCBAD.COUNT : Fld := (31, 0)
abbrev F.SSC_PGEOM.LPI : Fld := (31, 20)
abbrev F.SSC_PGEOM.WIDTH : Fld := (17, 0)
abbrev F.SSC_PBANDS.MASK : Fld := (16, 0)
abbrev F.SSC_PSPEED.SPEED : Fld := (31, 0)
abbrev F.SSC_PMODE.EVC : Fld := (13, 8)
abbrev F.SSC_PMODE.AXIS : Fld := (5, 4)
abbrev F.SSC_PMODE.MODE : Fld := (1, 0)
abbrev F.SSC_POUT.LUT : Fld := (8, 8)
abbrev F.SSC_POUT.VSUM : Fld := (7, 6)
abbrev F.SSC_POUT.HBIN : Fld := (5, 4)
abbrev F.SSC_POUT.FMT : Fld := (2, 0)
abbrev F.SSC_NLINES.N : Fld := (31, 0)
abbrev F.SSC_SPD.SPD : Fld := (31, 0)
abbrev F.SSC_TACC.LIMIT : Fld := (31, 0)
abbrev F.SSC_TJRK.LIMIT : Fld := (31, 0)
abbrev F.SSC_TSET.FLOWT : Fld := (31, 16)
abbrev F.SSC_TSET.TSETTLE : Fld := (15, 0)
abbrev F.SSC_MINSPC.PCLK : Fld := (23, 0)
abbrev F.SSC_DREQ.US : Fld := (23, 0)
abbrev F.SSC_CMD.RESUME : Fld := (4, 4)
abbrev F.SSC_CMD.ABORT : Fld := (3, 3)
abbrev F.SSC_CMD.END : Fld := (2, 2)
abbrev F.SSC_CMD.START : Fld := (1, 1)
abbrev F.SSC_CMD.ARM : Fld := (0, 0)
abbrev F.SSC_STAT.STORE : Fld := (10, 10)
abbrev F.SSC_STAT.SEAMPEND : Fld := (9, 9)
abbrev F.SSC_STAT.PAUSEF : Fld := (8, 8)
abbrev F.SSC_STAT.REASON : Fld := (3, 0)
abbrev F.SSC_ADMFAIL.FAIL : Fld := (15, 1)
abbrev F.SSC_D.VALUE : Fld := (23, 0)
abbrev F.SSC_S.VALUE : Fld := (23, 0)
abbrev F.SSC_LINKCAP.MBS : Fld := (15, 0)
abbrev F.SSC_WRATE.MBS : Fld := (15, 0)
abbrev F.SSC_STOPS.COUNT : Fld := (31, 0)
abbrev F.SSC_PRECNT.COUNT : Fld := (31, 0)
abbrev F.SSC_LASTKEPT.VALUE : Fld := (63, 0)
abbrev F.SSC_LOST.VALUE : Fld := (63, 0)
abbrev F.SSC_LASTDLV.VALUE : Fld := (63, 0)
abbrev F.SSC_DMISS.INTERNAL : Fld := (31, 16)
abbrev F.SSC_DMISS.HOST : Fld := (15, 0)
abbrev F.SSC_DWORST.CAUSE : Fld := (31, 31)
abbrev F.SSC_DWORST.US : Fld := (23, 0)
abbrev F.SSC_BACKUP.COUNT : Fld := (31, 0)
abbrev F.EST_CFG.MTS : Fld := (31, 16)
abbrev F.EST_CFG.GB : Fld := (4, 0)
abbrev F.EST_FILL.BLOCKS : Fld := (23, 0)
abbrev F.EST_PEAK.BLOCKS : Fld := (23, 0)
abbrev F.EST_HWM.BLOCKS : Fld := (23, 0)
abbrev F.EST_LWM.BLOCKS : Fld := (23, 0)
abbrev F.EST_CEIL.MBS : Fld := (15, 0)
abbrev F.EST_ECCCNT.COUNT : Fld := (31, 0)
abbrev F.EST_ECCUCNT.COUNT : Fld := (31, 0)
abbrev F.DMAG_STAT.NACT : Fld := (22, 16)
abbrev F.DMAG_STAT.NHALT : Fld := (6, 0)
abbrev F.DMAG_SHARESUM.SUM : Fld := (13, 0)
abbrev F.DMAG_HALT0.MAP : Fld := (31, 0)
abbrev F.DMAG_HALT1.MAP : Fld := (31, 0)
abbrev F.DMAG_CQq_BASE.ADDR : Fld := (63, 0)
abbrev F.DMAG_CQq_CFG.IEN : Fld := (9, 9)
abbrev F.DMAG_CQq_CFG.EN : Fld := (8, 8)
abbrev F.DMAG_CQq_CFG.LOG2N : Fld := (4, 0)
abbrev F.DMAG_CQq_WI.PHASE : Fld := (31, 31)
abbrev F.DMAG_CQq_WI.WI : Fld := (15, 0)
abbrev F.DMAG_CQq_RI.RI : Fld := (15, 0)
abbrev F.DMAG_CQq_FULLCNT.COUNT : Fld := (31, 0)
abbrev F.DMAch_CFG.POLL : Fld := (15, 8)
abbrev F.DMAch_CFG.RETRY : Fld := (2, 0)
abbrev F.DMAch_RATE.BURST : Fld := (23, 16)
abbrev F.DMAch_RATE.Q : Fld := (8, 0)
abbrev F.DMAch_CTL.KICK : Fld := (0, 0)
abbrev F.DMAch_NEXT.ADDR : Fld := (63, 5)
abbrev F.DMAch_CUR.ADDR : Fld := (63, 5)
abbrev F.DMAch_RRP.OFS : Fld := (29, 6)
abbrev F.DMAch_RWP.OFS : Fld := (29, 6)
abbrev F.DMAch_STAT.HSTAT : Fld := (31, 28)
abbrev F.DMAch_STAT.IDLECNT : Fld := (23, 16)
abbrev F.DMAch_STAT.WCQ : Fld := (3, 3)
abbrev F.DMAch_STAT.WCRED : Fld := (2, 2)
abbrev F.DMAch_STAT.WRING : Fld := (1, 1)
abbrev F.DMAch_STAT.WDESC : Fld := (0, 0)
abbrev F.DMAch_BYTES.COUNT : Fld := (63, 0)
abbrev F.DMAch_NDESC.COUNT : Fld := (31, 0)
abbrev F.DMAch_RETRYCNT.COUNT : Fld := (31, 0)
abbrev F.DMAch_SHORT.COUNT : Fld := (31, 0)
abbrev F.HLK_LINK.IFACE : Fld := (31, 30)
abbrev F.HLK_LINK.MPS : Fld := (18, 16)
abbrev F.HLK_LINK.WIDTH : Fld := (11, 8)
abbrev F.HLK_LINK.SPEED : Fld := (3, 1)
abbrev F.HLK_LINK.UP : Fld := (0, 0)
abbrev F.HLK_WLOCK.OWN : Fld := (1, 0)
abbrev F.HLK_IGNCNT.COUNT : Fld := (31, 0)
abbrev F.HLK_IGNLAST.LINK : Fld := (31, 31)
abbrev F.HLK_IGNLAST.SPACE : Fld := (30, 30)
abbrev F.HLK_IGNLAST.REASON : Fld := (29, 27)
abbrev F.HLK_IGNLAST.ADDR : Fld := (25, 0)
abbrev F.HLK_PCNT0.MAL : Fld := (31, 16)
abbrev F.HLK_PCNT0.UR : Fld := (15, 0)
abbrev F.HLK_PCNT1.CA : Fld := (31, 16)
abbrev F.HLK_PCNT1.POIS : Fld := (15, 0)
abbrev F.HLK_PCNT2.CTO : Fld := (31, 16)
abbrev F.HLK_PCNT2.UNX : Fld := (15, 0)
abbrev F.HLK_PCNT3.LCRC : Fld := (31, 16)
abbrev F.HLK_PCNT3.RECOV : Fld := (15, 0)
abbrev F.HLK_SPICNT0.CRC : Fld := (31, 16)
abbrev F.HLK_SPICNT0.OTHER : Fld := (15, 0)
abbrev F.HLK_SPICNT1.SHORT : Fld := (31, 16)
abbrev F.HLK_SPICNT1.FRAMES : Fld := (15, 0)
abbrev F.EVF_CTL.COMPAT : Fld := (31, 31)
abbrev F.EVF_CTL.RUNAWAY_N : Fld := (9, 0)
abbrev F.EVF_STAT.MASKED : Fld := (22, 16)
abbrev F.EVF_STAT.LOCKED : Fld := (6, 0)
abbrev F.EVF_SWPUB.PULSE : Fld := (7, 0)
abbrev F.EVF_LOCKIGN.COUNT : Fld := (31, 0)
abbrev F.EVF_CHc.LOCK : Fld := (31, 31)
abbrev F.EVF_CHc.SEC : Fld := (30, 30)
abbrev F.EVF_CHc.OWNER : Fld := (29, 29)
abbrev F.EVF_CHc.MERGED : Fld := (3, 3)
abbrev F.EVF_CHc.NOGUARD : Fld := (2, 2)
abbrev F.EVF_CHc.MASK : Fld := (1, 1)
abbrev F.EVF_CHc.RUNAWAY : Fld := (0, 0)
abbrev F.EVF_PUBp.EN : Fld := (31, 31)
abbrev F.EVF_PUBp.CH : Fld := (5, 0)
abbrev F.EVF_SUBt.EN : Fld := (31, 31)
abbrev F.EVF_SUBt.COINC : Fld := (10, 10)
abbrev F.EVF_SUBt.OVR : Fld := (9, 9)
abbrev F.EVF_SUBt.CH : Fld := (5, 0)
abbrev F.EVF_LCn_IN.KIND0 : Fld := (7, 6)
abbrev F.EVF_LCn_IN.KIND1 : Fld := (15, 14)
abbrev F.EVF_LCn_IN.KIND2 : Fld := (23, 22)
abbrev F.EVF_LCn_IN.KIND3 : Fld := (31, 30)
abbrev F.EVF_LCn_IN.INDEX0 : Fld := (5, 0)
abbrev F.EVF_LCn_IN.INDEX1 : Fld := (13, 8)
abbrev F.EVF_LCn_IN.INDEX2 : Fld := (21, 16)
abbrev F.EVF_LCn_IN.INDEX3 : Fld := (29, 24)
abbrev F.EVF_LCn_CFG.TT : Fld := (31, 16)
abbrev F.EVF_LCn_CFG.FILT : Fld := (15, 8)
abbrev F.EVF_LCn_CFG.MODE : Fld := (5, 4)
abbrev F.EVF_LCn_CFG.LOCK : Fld := (1, 1)
abbrev F.EVF_LCn_CFG.Q : Fld := (0, 0)
abbrev F.EVF_EVIk.LEVEL : Fld := (31, 31)
abbrev F.EVF_EVIk.EDGE : Fld := (1, 0)
abbrev F.EVF_EVOk.PW : Fld := (23, 16)
abbrev F.EVF_EVOk.CELL : Fld := (12, 8)
abbrev F.EVF_EVOk.POL : Fld := (2, 2)
abbrev F.EVF_EVOk.MODE : Fld := (1, 0)
abbrev F.EVF_CNTi.COUNT : Fld := (31, 0)
abbrev F.CHR_TS.VALUE : Fld := (63, 0)
abbrev F.CHR_TSLOAD.VALUE : Fld := (63, 0)
abbrev F.CHR_LINE.VALUE : Fld := (63, 0)
abbrev F.CHR_ACK.ALL : Fld := (31, 31)
abbrev F.CHR_ACK.CODE : Fld := (15, 0)
abbrev F.CHR_SAFE.FIRST : Fld := (31, 16)
abbrev F.CHR_SAFE.ACTIVE : Fld := (8, 8)
abbrev F.CHR_SAFE.CLR : Fld := (1, 1)
abbrev F.CHR_SAFE.GO : Fld := (0, 0)
abbrev F.CHR_LOGCTL.CLR : Fld := (0, 0)
abbrev F.CHR_LOGSTAT.WPTR : Fld := (13, 8)
abbrev F.CHR_LOGSTAT.USED : Fld := (6, 0)
abbrev F.CHR_LOGOVF.COUNT : Fld := (31, 0)
abbrev F.CHR_LOGSEL.INDEX : Fld := (5, 0)
abbrev F.CHR_LOGEj.WORD : Fld := (31, 0)
abbrev F.CHR_UNACK.CRIT : Fld := (31, 24)
abbrev F.CHR_UNACK.MAJ : Fld := (23, 16)
abbrev F.CHR_UNACK.DEG : Fld := (15, 8)
abbrev F.CHR_UNACK.NOT : Fld := (7, 0)
abbrev F.CHR_CAPi_TS.VALUE : Fld := (63, 0)
abbrev F.CHR_CAPi_LINE.VALUE : Fld := (63, 0)
abbrev F.CHR_CAPi_CNT.COUNT : Fld := (31, 0)
abbrev F.GLB_MBXCMD.SEQ : Fld := (31, 24)
abbrev F.GLB_MBXCMD.CMD : Fld := (15, 0)
abbrev F.GLB_MBXARGa.VALUE : Fld := (31, 0)
abbrev F.GLB_MBXRSP.SEQ : Fld := (31, 24)
abbrev F.GLB_MBXRSP.BUSY : Fld := (23, 23)
abbrev F.GLB_MBXRSP.STATUS : Fld := (15, 0)
abbrev F.GLB_MBXDATa.VALUE : Fld := (31, 0)
abbrev F.SEC_STAT.SCOPE : Fld := (19, 16)
abbrev F.SEC_STAT.OTPARC : Fld := (14, 8)
abbrev F.SEC_STAT.BOOTSLOT : Fld := (3, 2)
abbrev F.SEC_STAT.RUNSLOT : Fld := (1, 0)
abbrev F.SEC_OP.SLOT : Fld := (5, 4)
abbrev F.SEC_OP.OP : Fld := (3, 0)
abbrev F.SEC_KOP.SLOT : Fld := (5, 4)
abbrev F.SEC_KOP.OP : Fld := (3, 0)
abbrev F.SEC_LEN.BYTES : Fld := (23, 0)
abbrev F.SEC_IMGW.VALUE : Fld := (31, 0)
abbrev F.SEC_FIFO.BUSY : Fld := (31, 31)
abbrev F.SEC_FIFO.FREE : Fld := (10, 0)
abbrev F.SEC_RESULT.OP : Fld := (27, 24)
abbrev F.SEC_RESULT.SLOT : Fld := (17, 16)
abbrev F.SEC_RESULT.ACCEPT : Fld := (4, 4)
abbrev F.SEC_RESULT.REASON : Fld := (3, 0)
abbrev F.SEC_OBUF.WORD : Fld := (31, 0)
abbrev F.SEC_OBCNT.COUNT : Fld := (12, 0)
abbrev F.SEC_DBGCTL.CLOSE : Fld := (5, 5)
abbrev F.SEC_DBGCTL.OPEN : Fld := (4, 4)
abbrev F.SEC_DBGCTL.SCOPE : Fld := (3, 0)
abbrev F.SEC_NONCEj.BYTES : Fld := (31, 0)
abbrev F.SEC_SERIALj.BYTES : Fld := (31, 0)
abbrev F.SEC_VERA.VERSION : Fld := (31, 0)
abbrev F.SEC_VERB.VERSION : Fld := (31, 0)
abbrev F.SEC_ATTPKj.BYTES : Fld := (31, 0)
abbrev F.PWR_CTL.REQ : Fld := (1, 0)
abbrev F.PWR_CFG.D3SB : Fld := (0, 0)
abbrev F.PWR_STAT.REFOK : Fld := (4, 4)
abbrev F.PWR_STAT.VSOK : Fld := (3, 0)
abbrev F.PWR_STRAP.STRAP : Fld := (7, 0)
abbrev F.PWR_CAUSE.WARMCNT : Fld := (15, 8)
abbrev F.PWR_CAUSE.CAUSE : Fld := (1, 0)
abbrev F.PWR_WAKE.SRC : Fld := (2, 0)
abbrev F.PWR_PMB.PEC : Fld := (9, 9)
abbrev F.PWR_PMB.SPEED : Fld := (8, 8)
abbrev F.PWR_PMB.ADDR : Fld := (6, 0)
abbrev F.PWR_PMBSTAT.VOUT : Fld := (31, 16)
abbrev F.PWR_PMBSTAT.STATUS : Fld := (15, 0)
abbrev F.PWR_BOOTT.US : Fld := (23, 0)

end Sys2Proof.Machine
end

