-- ==== Sys2Proof/Machine/State.lean ====
section
/-! DEFINITION. The state of the YS9640 as plain data, its value after PORST_N, and the reasons a step can stop.
Registers live in one sparse file keyed by BAR0 address (an unlisted address reads as the reset value of its map,
RegMap.lean); what the manual gives the machine beside registers stands in one structure per block. -/

namespace Sys2Proof.Machine

/-- Reasons for a fault of the model. -/
inductive Fault where
  /-- Raised by REGISTER_WRITE, PCIE_BAR0_REQUEST and the SPI frame rows: while debug scope 1 is open, a write that a
  page accepts gives a reserved bit another value than it reads. Its results are unpredictable: some reserved bits are
  live test controls (R64), and only a closed scope makes the device ignore writes to them (R550). Safe: the model
  stops. -/
  | reservedBits
  /-- Raised by LINE_START: the sequence repeats a band in its first N entries, or names a band of 17 to 31, whose
  results are unpredictable (R75 and the table of MER_SEQk). Safe: the model stops. -/
  | badSequence
  deriving DecidableEq, Repr

/-- Reasons for a refusal. -/
inductive Refusal where
  /-- Raised by a dispatch arm whose command has no meaning yet (none is left). Safe: the model stops. -/
  | notModelled (mnemonic : String)
  deriving DecidableEq, Repr

/-! ## Register pages (chapter 02) -/

/-- The header of one page (R42, R44 to R47, R52 to R61). -/
structure Hdr where
  en      : Bool := true
  expert  : Bool := false
  srstBsy : Bool := false
  pevt    : Word := 0
  peven   : Word := 0
  go      : Bool := false
  keyOpen : Bool := false
  locked  : Bool := false
  pfault  : Word := 0
  xwign   : Nat := 0
  /-- The control core owes the page a rewrite of its XW fields (R29, R44). -/
  due     : Bool := false
  deriving DecidableEq, Repr

/-- What leaves the device on its host links and service buses, oldest first. -/
inductive Msg where
  /-- MSI-X message of a vector (R473). -/
  | msix (vector : Nat)
  /-- Posted write of a DMA channel: host address and bytes (R439). -/
  | memWrite (ch : Nat) (addr : Nat) (bytes : List Byte)
  /-- Read request of a DMA channel: host address and length in bytes (R430, R458). -/
  | memRead (ch : Nat) (addr : Nat) (len : Nat)
  /-- Completion of a host read with its data words, or with an error status: 1 unsupported request,
  2 completer abort, 3 configuration request retry (R467 to R470, R573). -/
  | completion (words : List Word)
  | completionError (status : Nat)
  /-- Bytes of an SPI response frame (R475). -/
  | spi (bytes : List Byte)
  /-- PMBus transaction: command code and data (R562). -/
  | pmbus (command : Nat) (data : Nat)
  /-- A temporary or retained message sent by a power-management or link function, by name. -/
  | link (what : Nat)
  deriving DecidableEq, Repr

/-! ## The line cycle (chapter 03) -/

/-- What Meridian is doing between two slot boundaries (R108). -/
inductive MerPhase where
  /-- No slot runs: stopped, or waiting for a trigger while a line cycle runs. -/
  | idle
  | exposure
  | tail
  /-- A diagnostic strobe of the Heliostat in a gap (R253). -/
  | diag
  | flush
  /-- A slot has ended and the latched trigger's line starts at this instant (R89 chained or late). -/
  | lineDue
  deriving DecidableEq, Repr

/-- A latched trigger (R87, R88). tick: instant in ps on the internal count. src: 0 axis X, 1 follow count, 2 none. -/
structure Trig where
  line    : Nat
  tick    : Nat
  pos     : Int
  posSrc  : Nat
  timer   : Bool
  preroll : Bool
  /-- What the instant exceeds its whole ps by, in 1/f ps with f the pclk in kHz. -/
  fr      : Nat := 0
  deriving DecidableEq, Repr

/-- One exposure, by the identity its conversions carry (R79). -/
structure Exposure where
  line : Nat
  band : Nat
  deriving DecidableEq, Repr

/-- An edge of an STG output that a bank skew moved past the slot boundary (R101): output, tap, level. -/
structure LateEdge where
  out   : Nat
  pos   : Nat
  level : Bool
  deriving DecidableEq, Repr

structure Mer where
  cycle    : Bool := false
  phase    : MerPhase := .idle
  lock     : Bool := false
  locking  : Bool := false
  latch    : Option Trig := none
  line     : Nat := 0
  preroll  : Bool := false
  slot     : Nat := 0
  slotAt   : Nat := 0
  /-- Instant of the latest capture end of the running line cycle (R241, R244). -/
  capEnd   : Option Nat := none
  /-- What the boundary at slotAt exceeds its whole ps by, in 1/f ps with f the pclk in kHz: slots of whole pclk stay exact. -/
  slotFr   : Nat := 0
  /-- Instant at which the latest tail, diagnostic strobe or flush ended (R89). -/
  overAt   : Nat := 0
  slotType : Nat := 0
  expose   : Option Exposure := none
  readout  : Option Exposure := none
  prev     : Option Exposure := none
  /-- Line whose capture has not ended while the next one runs its slot 0 (R80). -/
  lastLine : Option Nat := none
  boundary : Nat := 0
  timerOn  : Bool := false
  timerAt  : Nat := 0
  timerFr  : Nat := 0
  timerPer : Nat := 0
  /-- Follow-encoder grid: anchor count and furthest grid index latched (R94, R95). -/
  fgridOn  : Bool := false
  fAnchor  : Int := 0
  fIndex   : Nat := 0
  stg      : BitVec 24 := 0
  late     : List LateEdge := []
  /-- Triggers on their way from a grid or an event channel, oldest first; their line numbers are given when Meridian
  latches them. -/
  transit  : List Trig := []
  deriving DecidableEq, Repr

/-- What Meridian knows of a line whose records have not all left (R88, R193). -/
structure LineInfo where
  pos     : Int := 0
  posSrc  : Nat := 0
  ts      : Nat := 0
  start   : Nat := 0
  capTs   : Nat := 0
  capAt   : Nat := 0
  capDone : Bool := false
  flags   : Nat := 0
  preroll : Bool := false
  /-- Its place among all lines, captured and pre-roll, since PORST_N (R217). -/
  ord     : Nat := 0
  /-- Blend of the line: fraction F, bank faded in, and whether a blend is in progress (R173). -/
  f       : Nat := 65536
  newBank : Nat := 0
  blend   : Bool := false
  /-- Probe position of a rotation step, half of its fit or return overlap (1, 2), line of a calibration run. -/
  probe   : Option Int := none
  half    : Nat := 0
  cal     : Bool := false
  /-- The Photometer has finished the line; streams whose records have been passed, as a mask; streams that owe one. -/
  phoDone : Bool := false
  sent    : Nat := 0
  owed    : Nat := 0
  deriving DecidableEq, Repr

/-! ## Acquisition channels (chapter 04) -/

/-- Settings one acquisition channel converts with (R123). ball: the primary whose ball it converts (none: reference
DAC or nothing); dac: connected to the reference DAC. -/
structure ChSet where
  on     : Bool := false
  mode   : Nat := 0
  pol    : Nat := 0
  range  : Nat := 0
  ped    : Nat := 0
  rspOff : Nat := 0
  vspOff : Nat := 0
  /-- Its reset and video sample points in taps from the start of each period (R102). -/
  rsp    : Nat := 0
  vsp    : Nat := 0
  /-- Its enable, apart from what else keeps it from converting (R165). -/
  en     : Bool := false
  ball   : Option Nat := none
  dac    : Bool := false
  deriving DecidableEq, Repr

/-- Trims of the two cores (R118, R307): how much of its range the comparator threshold and the capacitor weights use. -/
structure Trims where
  high : Nat := 0
  low  : Nat := 0
  deriving DecidableEq, Repr

structure AcqCh where
  cur      : ChSet := {}
  next     : ChSet := {}
  /-- Open flag carried by every conversion word after a failing check (R133). -/
  wire     : Bool := false
  /-- Slot boundary, counted, of the slot that its latest check belonged to: one check a slot (R130). -/
  checked  : Nat := 0
  warmLeft : Nat := 0
  warmDue  : Bool := false
  trims    : Trims := {}
  /-- Words on the crossing to the plate island, oldest first (R118). -/
  fabric   : List FabricWord := []
  deriving DecidableEq, Repr

/-- A spare's position (R150): 0 parked, 1 reference DAC, 2 shadowing, 3 standing in, 4 fixed substitution. -/
structure Spare where
  pos     : Nat := 0
  tgt     : Nat := 0
  nextPos : Nat := 0
  nextTgt : Nat := 0
  deriving DecidableEq, Repr

structure Acq where
  chans  : List (Nat × AcqCh) := []
  spares : List (Nat × Spare) := []
  /-- 0 powered down, 1 low-power, 2 settling, 3 full rate (R154). -/
  power  : Nat := 0
  /-- The held settings have still to be taken at the readout boundary (R123). -/
  switchDue : Bool := false
  deriving DecidableEq, Repr

/-! ## Plate islands and formatters (chapter 05) -/

/-- One conversion as a plate island keeps it (R125). -/
structure Conv where
  code : Int := 0
  ovr  : Bool := false
  opn  : Bool := false
  deriving DecidableEq, Repr

/-- The sample an acquisition channel's crossing is assembling (R159). -/
structure Part where
  slot : Nat := 0
  pix  : Nat := 0
  seq  : Nat := 0
  spare : Bool := false
  rh : Option Conv := none
  rl : Option Conv := none
  sh : Option Conv := none
  sl : Option Conv := none
  deriving DecidableEq, Repr

/-- Optical-black sums of D over the exposure being read out (R164). -/
structure ObSum where
  slot : Nat := 0
  seq  : Nat := 0
  high : Int := 0
  low  : Int := 0
  n    : Nat := 0
  done : Bool := false
  lh   : Int := 0
  ll   : Int := 0
  deriving DecidableEq, Repr

/-- A sample processed through step 6 and held until its readout is released (R161, R162), and after its release the
sample as the formatters and the Photometer receive it. -/
structure Smp where
  prim    : Nat
  chan    : Nat
  band    : Nat
  pixel   : Nat
  line    : Nat
  dn      : Nat
  m       : Int
  single  : Bool
  flag    : Nat
  ecc     : Bool
  forced  : Bool
  satd    : Bool
  suspect : Bool
  off     : Bool
  /-- R139 leaves its values unpredictable. -/
  wild    : Bool := false
  /-- Dark tracker value that its line uses (R215). -/
  t       : Int := 0
  /-- Excluded from the Photometer's statistics (R176, R179), from the streak accumulators (R182). -/
  exPho   : Bool
  exStrk  : Bool
  raw     : List (Nat × Conv)
  deriving DecidableEq, Repr

/-- A readout under way at a plate island: the exposure, the primaries that are disabled or parked with no spare
standing in (bit per primary), and the acquisition channels that check a ball (bit per channel). -/
structure Readout where
  line : Nat
  band : Nat
  off  : Nat
  chk  : Nat
  deriving DecidableEq, Repr

/-- A merged value that feeds a fit and no output (R160): the shadowing channel's, of one period of one exposure. -/
structure Shadow where
  chan : Nat
  line : Nat
  band : Nat
  pix  : Nat
  m    : Int
  bad  : Bool
  deriving DecidableEq, Repr

/-- What a line uses that a later line boundary takes from the machine (R19, R20, R166, R215): registers, ground-return
offsets in µV, settings of the acquisition channels, positions of the spares, and tracker values that the next commit
replaced. -/
structure LineUse where
  regs   : List (Nat × Word)
  vgr    : List (Nat × Int)
  chans  : List (Nat × ChSet)
  spares : List (Nat × Spare)
  tOld   : List (Nat × Int) := []
  deriving DecidableEq, Repr

structure Plate where
  part    : List (Nat × Part) := []
  ob      : List (Nat × ObSum) := []
  /-- Filtered clamp levels (high, low), keyed chan × 17 + slot (R165); absent: the next exposure sets them. -/
  level   : List (Nat × (Int × Int)) := []
  /-- Ground-return offsets in µV taken at the line boundary, per sense (R166). -/
  vgr     : List (Nat × Int) := []
  /-- What the lines before the current one use, newest first. -/
  uses    : List (Nat × LineUse) := []
  /-- Readouts begun and not yet released, oldest first, per island (R162). -/
  reads   : List (Nat × List Readout) := []
  /-- Check words of the readout in hand: channel, open bit (R178). -/
  check   : List (Nat × Bool) := []
  held    : List Smp := []
  rel     : List Smp := []
  /-- Merged values of acquisition channels that only shadow another (R160), for the Collimator's fits. -/
  shadow  : List Shadow := []
  /-- Wire-suspect acquisition channels per line, as a bit mask (R196). -/
  trail   : List (Nat × Nat) := []
  /-- Streak accumulators, unsigned 16.24, keyed selection × 163,840 + pixel; absent: clear (R182). -/
  streak  : List (Nat × Nat) := []
  /-- Islands that have released the line's last readout: line ↦ mask of islands (R338). -/
  done    : List (Nat × Nat) := []
  /-- Spare-match coefficients last derived per pair spare × 16 + t (R148): gain, offset. -/
  pairs   : List (Nat × (Nat × Nat)) := []
  deriving DecidableEq, Repr

/-! ## Flat-field tables (chapter 06) -/

/-- bad: table entries with an uncorrectable error, by the BAR2 address of the entry (R214). -/
structure Fft where
  active   : Nat := 0
  blend    : Bool := false
  f        : Nat := 65536
  n        : Nat := 0
  lines    : Nat := 256
  bad      : List (Nat × Bool) := []
  scrubPos : Nat := 0
  copyBusy : Bool := false
  calBusy  : Bool := false
  /-- Held dark tracker values T' by pixel (R215). -/
  hold     : List (Nat × Int) := []
  /-- Per pixel: the line, by its place, whose samples read the tracker entry last, the value T they use, and whether
  the entry was uncorrectable (R213, R215). -/
  tRead    : List (Nat × (Nat × Int × Bool)) := []
  /-- Restarts of the tracker (R217), by the places of lines: lines so far; the first line that the latest CLR restarts
  from; the same per primary for a change of its settings; and the line of the dark exposure each pixel took last. -/
  ord      : Nat := 0
  clrLine  : Nat := 0
  chLine   : List (Nat × Nat) := []
  pixLine  : List (Nat × Nat) := []
  /-- Entries of the pending bank that the host has written during the copy or run in hand, with what it wrote (R210). -/
  mixed    : List (Nat × Nat) := []
  /-- Calibration run into the pending bank: 0 none, 1 dark, 2 white (R219 to R222). -/
  run      : Nat := 0
  runLines : Nat := 0
  runLeft  : Nat := 0
  sums     : List (Nat × (Int × Int)) := []
  count    : List (Nat × Nat) := []
  deriving DecidableEq, Repr

/-! ## Heliostat (chapter 07) -/

/-- Heliostat states (R240). -/
inductive HelSt where
  | off | fadein | hold | scan | fadeout | safe
  deriving DecidableEq, Repr

/-- A unit (row, column or lamp) that is out of service or fading in (R248). An absent unit is at 65,536. -/
structure UnitFade where
  v       : Nat := 0
  t       : Nat := 0
  tin     : Nat := 1000
  /-- The fade runs; while false the unit is held at 0. -/
  running : Bool := false
  /-- Value in force for the current line, and whether a line has shown it rising (R249). -/
  line    : Nat := 0
  marked  : Bool := false
  deriving DecidableEq, Repr

/-- What a column uses for the strobe of the current slot: the snapshot of the binning entry (R228, R231). -/
structure ColRun where
  row    : Nat := 0
  width  : Nat := 0
  code   : Nat := 0
  qexp   : Nat := 0
  /-- On-time W and sub-pulse count n, spacing and width in taps (R229, R234). -/
  w      : Nat := 0
  n      : Nat := 1
  space  : Nat := 0
  sub    : Nat := 0
  lit    : Bool := false
  on     : Bool := false
  pulse  : Nat := 0
  hold   : Bool := false
  /-- On-time actually steered in this slot, in taps, after R230 and shutdowns; dead: ended by a shutdown. -/
  got    : Nat := 0
  dead   : Bool := false
  /-- The strobe has been steered in, and what HELn_COLk_LAST showed before it (R231, R264). -/
  ran    : Bool := false
  last   : Word := 0
  /-- Integrator range in force and filtered baseline at t1 (R268, R271). -/
  range  : Nat := 0
  bhat   : Int := 0
  deriving DecidableEq, Repr

structure Hel where
  st       : HelSt := .off
  lam      : Nat := 0
  base     : Nat := 0
  t        : Nat := 0
  fadeMs   : Nat := 1000
  lineLam  : Nat := 0
  /-- Keys: row k, 100 + column, 1000 + lamp. -/
  units    : List (Nat × UnitFade) := []
  applied  : List (Nat × Nat) := []
  /-- Lamps that have raised CODE_LIMIT since their column's HDRM was cleared (R239). -/
  limited  : List (Nat × Bool) := []
  /-- Row selected in the slot in hand: its LROW is high from the opening of the strobe window on (R228). -/
  lrow     : Option Nat := none
  cols     : List (Nat × ColRun) := []
  /-- Set points of the column regulators, by column; none listed: stopped with code 0 (R226, R228). -/
  sets     : List (Nat × Nat) := []
  /-- Columns whose regulator was restarted and has not reached tolerance (R258). -/
  restart  : List (Nat × Bool) := []
  /-- Columns that recovered and fade in from the next line boundary. -/
  recover  : List (Nat × Bool) := []
  /-- ILK_N as it last fell or was seen high, and the instant at which it is high again after that fall. -/
  ilkPin   : Bool := true
  ilkBack  : Option Nat := none
  /-- Slot of the hold cycle in hand (R244). -/
  holdSlot : Option Nat := none
  /-- Index in the sequence of the GAP row next in turn, row of the strobe in hand, and DIAG owed to the next line
  (R253, R254). -/
  gapNext  : Nat := 0
  diagRow  : Nat := 0
  /-- Methods of diagnosis of the accepted job, as HELG_DIAGM showed them at its admission (R252). -/
  diagM    : Nat := 0
  diagFlag : Bool := false
  /-- Rows that R256 shut down: their ROWEN bit stays ignored until the job is in IDLE. -/
  blindOff : Nat := 0
  /-- A run of hold cycles is under way (R273); the wait between lines has outlasted HELG_HOLD.PER (R241, R244). -/
  holding  : Bool := false
  waited   : Bool := false
  holdAt   : Nat := 0
  /-- Instant at which the hold cycle in hand, or the latest one, began (R244). -/
  cycleAt  : Nat := 0
  deriving DecidableEq, Repr

/-! ## Actinometer and housekeeping (chapter 08) -/

/-- Results of one lamp (R278). -/
structure LampRes where
  flux  : Nat := 0
  mean  : Nat := 0
  nmeas : Nat := 0
  low   : Nat := 0
  weak  : Nat := 0
  sat   : Bool := false
  valid : Bool := false
  hasMean : Bool := false
  /-- QEXP-relative decline already requested a lamp run (R330). -/
  declined : Bool := false
  deriving DecidableEq, Repr

/-- A measured slot whose holds wait for conversion (R270): row, t1 - t0 and t2 - t1 in taps, pclk in kHz, columns. -/
structure MeasSlot where
  row  : Nat
  a    : Nat
  b    : Nat
  khz  : Nat
  cols : List (Nat × ColRun)
  /-- A hold slot, and the integrator ranges in force, 16 columns a word (R268, R277). -/
  hold : Bool
  ranges : List Nat
  deriving DecidableEq, Repr

structure Act where
  m       : Nat := 0
  /-- Exposure slots of the job and hold slots of the run of hold cycles, counted from 0 (R274). -/
  slots   : Nat := 0
  hslots  : Nat := 0
  lamps   : List (Nat × LampRes) := []
  /-- Integrator offsets in qu per column (R269). -/
  offset  : List (Nat × Int) := []
  /-- Baseline samples of the running interval per column: sum in 1/256 qu/µs, count (R276). -/
  base    : List (Nat × (Int × Nat)) := []
  /-- Interval value last formed per column, repeated by an interval without samples (R276). -/
  lastVal : List (Nat × Int) := []
  /-- The filters restart at the next baseline sample; intervals of unfiltered following left (R277). -/
  restart : Bool := true
  settle  : Nat := 0
  /-- The job's first measured slot restarts the filters (R277). -/
  jobRestart : Bool := false
  /-- State of the notch filters and of the low-pass filter per column (R276). -/
  notch   : List (Nat × Nat) := []
  low     : List (Nat × Int) := []
  due     : List MeasSlot := []
  deriving DecidableEq, Repr

/-- An urgent request (R284). -/
structure Urgent where
  input : Nat
  kind  : Nat
  tag   : Nat
  /-- Point of a DAC check (R324). -/
  dac   : Option Nat := none
  /-- Instant of the request, and whether an event made it. -/
  at_   : Nat := 0
  task  : Bool := false
  deriving DecidableEq, Repr

structure Hka where
  entry   : Nat := 0
  /-- The running entry's word, taken at its start (R283). -/
  entryW  : Word := 0x32101000#32
  running : Bool := true
  /-- Instant at which the running entry's settle began. -/
  startAt : Nat := 0
  /-- Urgent conversion under way, the instant its settle began, and the queue. -/
  cur     : Option Urgent := none
  urgAt   : Nat := 0
  queue   : List Urgent := []
  /-- Instant at which a conversion of the running entry ends and the oldest request starts (R285). -/
  takeAt  : Option Nat := none
  /-- Latest lead-loop result in µV (R286). -/
  lead    : Int := 0
  /-- Instant the present pass began, and of the last conversion per input, ps. -/
  passAt  : Nat := 0
  lastAt  : List (Nat × Nat) := []
  deriving DecidableEq, Repr

/-! ## Chronograph and fault log (chapter 16) -/

/-- One entry of the fault log (R527). -/
structure LogEntry where
  tfirst : Nat
  tlast  : Nat
  line   : Nat
  code   : Nat
  sev    : Nat
  ack    : Bool
  inst   : Nat
  count  : Nat
  item   : Nat
  deriving DecidableEq, Repr

structure Chr where
  /-- Timestamp = internal count + tsBase, modulo 2^64 (R509, R510). -/
  tsBase : Nat := 0
  line   : Nat := 0
  log    : List (Nat × LogEntry) := []
  wptr   : Nat := 48
  /-- Unacknowledged (code, ITEM, severity), apart from the log (R526). -/
  unack  : List (Nat × Nat × Nat) := []
  /-- Faults (code, ITEM) raised in the latest nanosecond that raised one, and that nanosecond (R522). -/
  rose   : List (Nat × Nat) := []
  roseAt : Nat := 0
  safe   : Bool := false
  first  : Nat := 0
  deriving DecidableEq, Repr

/-! ## Collimator and Almanac (chapter 09) -/

/-- Running sums of a least-squares fit of y on x, with the span of x (R304, R307, R310). -/
structure Fit where
  n   : Nat := 0
  sx  : Int := 0
  sy  : Int := 0
  sxx : Int := 0
  sxy : Int := 0
  lo  : Int := 0
  hi  : Int := 0
  deriving DecidableEq, Repr

/-- Codes of one DAC level in one sweep, per path: sum and count (R307). -/
structure Level where
  high : Int := 0
  low  : Int := 0
  n    : Nat := 0
  deriving DecidableEq, Repr

/-- Two windows of a lamp in a lamp run (R315). -/
structure LampWin where
  n1   : Nat := 0
  sum1 : Nat := 0
  n2   : Nat := 0
  sum2 : Nat := 0
  tries : Nat := 0
  done : Bool := false
  ok : Bool := false
  deriving DecidableEq, Repr

structure Col where
  /-- Rotation: primary in the step, next primary of the pass, phase (R300), line boundaries spent in the phase. -/
  ch       : Option Nat := none
  next     : Nat := 0
  phase    : Nat := 0
  held     : Bool := false
  lines    : Nat := 0
  /-- Start of the latest step, and the slot boundary, counted, at which it ended (R299). -/
  stepAt   : Option Nat := none
  endedAt  : Option Nat := none
  passAt   : Nat := 0
  started  : Bool := false
  dieTrig  : Bool := false
  /-- Groups whose rotation has stopped (R311); groups whose spare leaves its ball at the next line boundary; retries of
  the phase in hand and of the return overlap; phase 5 accepted; the next captured line carries CALBLEND for a primary
  that an abandoned step has returned (R194, R313). -/
  stopped  : Nat := 0
  back     : Nat := 0
  tries    : Nat := 0
  otries   : Nat := 0
  blendDue : Bool := false
  accepted : Bool := false
  /-- Settings (mode, polarity, range, pedestal), trims and gain ratio the primary had before the step. -/
  oldSet   : List Nat := []
  /-- OVERLAP_LINES, PROBE_HALF and WINTOL as the step began (COL_ROT and COL_WIN apply at the next step). -/
  ol       : Nat := 8
  ph       : Nat := 16
  wt       : Nat := 8
  oldTrims : Trims := {}
  oldUse   : Nat := 0
  oldG     : Nat := 0
  /-- Probe: position, sums of differences and counts keyed x + 64, target of the primary's VSPOFF (R302, R303). -/
  probeX   : Int := 0
  probe    : List (Nat × (Int × Nat)) := []
  target   : Int := 0
  fitA     : Fit := {}
  fitB     : Fit := {}
  /-- Sweeps: slots run, level index by exposure (line × 32 + band), level codes of sweeps 2 and 3. -/
  slots    : Nat := 0
  /-- Level and code of the reference DAC in the sweep in hand (R306). -/
  level    : Nat := 0
  dac      : Nat := 0
  smap     : List (Nat × Nat) := []
  level2   : List (Nat × Level) := []
  level3   : List (Nat × Level) := []
  /-- High-gain slopes of the latest sweeps, per acquisition channel, as a fraction (R304). -/
  slopes   : List (Nat × (Int × Nat)) := []
  idle     : Option Nat := none
  /-- Runs pending (bit 0 lamp, 1 flux, 2 dark, 3 white), the running one (as COL_STAT.RUN), its retry, second pass. -/
  req      : Nat := 0
  run      : Nat := 0
  retry    : Nat := 0
  second   : Bool := false
  /-- The running run has written (R295). -/
  wrote    : Bool := false
  windows  : List (Nat × LampWin) := []
  /-- Flux factors σ in force and required, per lamp, 2.22; unlisted: 1.0 and σ (R316, R317). -/
  sigma    : List (Nat × Nat) := []
  need     : List (Nat × Nat) := []
  /-- Reference temperatures: die sensors at the start of the pass, thermistors at the latest lamp run (R321). -/
  dieRef   : List (Nat × Int) := []
  lampRef  : List (Nat × Int) := []
  lampAt   : Nat := 0
  whiteAt  : Nat := 0
  /-- DAC check: results so far, of 9 (R324). -/
  dacStep  : Nat := 9
  dacRes   : List Int := []
  /-- Latest fit of the DAC: 60 × its slope per point and 9 × its mean, in µV (R324). -/
  dacFit   : Option (Int × Int) := none
  /-- Entries of the first pass of a dark or white run: GAIN or DARK by entry (R319). -/
  first    : List (Nat × Int) := []
  /-- Dark noise per band: sums of squares and counts of the latest exposures, and of the one in hand (R325). -/
  noise     : List (Nat × List (Nat × Nat)) := []
  noiseAcc  : List (Nat × (Nat × Nat)) := []
  noiseLine : Nat := 0
  deriving DecidableEq, Repr

/-- Slack of one island in 0.1 %, planned frequency in kHz (0: nominal), least slack of the hour (R326, R327). -/
structure Island where
  slack : Nat := 0
  khz   : Nat := 0
  hourMin : Nat := 1023
  deriving DecidableEq, Repr

structure Alm where
  islands : List (Nat × Island) := []
  /-- Consecutive seconds in which every island held TARGET (R327). -/
  good    : Nat := 0
  /-- Voltage steps stopped by a PMBus fault (R329); VOUT_MODE as last read; a VOUT_COMMAND awaits its check (R562). -/
  stopped : Bool := false
  vmode   : Nat := 0
  vcheck  : Bool := false
  /-- Hourly values newest first: key kind × 4096 + item (R326). -/
  hist    : List (Nat × List Int) := []
  /-- The flash data area: the latest complete copy, its half, a save that waits (R539). -/
  saved   : List (Nat × List Int) := []
  half    : Nat := 0
  saveDue : Bool := false
  deriving DecidableEq, Repr

/-! ## Photometer (chapter 10) -/

/-- A running interval of a window (R342, R343): its configuration words, lines, counted samples and their sums. -/
structure WinRun where
  cfg   : List Nat
  lines : Nat := 0
  first : Nat := 0
  last  : Nat := 0
  n     : Nat := 0
  sum   : Nat := 0
  sq    : Nat := 0
  mn    : Nat := 0
  mx    : Nat := 0
  /-- At some line of the interval the window broke R341. -/
  broken : Bool := false
  deriving DecidableEq, Repr

/-- Band detection of one selection (R350, R351). -/
structure BandRun where
  ref    : Option Nat := none
  n      : Nat := 0
  first  : Nat := 0
  last   : Nat := 0
  startR : Nat := 0
  inBand : Bool := false
  peak   : Int := 0
  deriving DecidableEq, Repr

structure Pho where
  wins     : List (Nat × WinRun) := []
  /-- Configuration of the enabled windows as each line boundary found it: line ↦ window ↦ four words. -/
  snaps    : List (Nat × List (Nat × List Nat)) := []
  /-- The same as the latest line boundary of any kind found it, the windows whose configuration had changed by a captured
  line's boundary, by line, and those that have changed since the latest captured line's (R342). -/
  seen     : List (Nat × List Nat) := []
  moved    : List (Nat × List Nat) := []
  movedPre : List Nat := []
  /-- Streak scan: in progress, line at its start, captured lines since the last start. -/
  scanning : Bool := false
  scanFrom : Nat := 0
  scanLines : Nat := 0
  /-- What the running scan has read of accumulators that changed after it read them (none: not valid), and streak
  results that wait for their line's window results: line and the record's words (R348, R352). -/
  scanRead : List (Nat × Option Nat) := []
  streakDue : List (Nat × List Nat) := []
  bands    : List (Nat × BandRun) := []
  /-- Records queued for delivery, oldest first (R352, R353). -/
  queue    : List (List Byte) := []
  deriving DecidableEq, Repr

/-! ## Clock Drive (chapter 11) -/

/-- A queued move (R360): absolute target, limits and flags. own: a move of scan control, which no queue holds. -/
structure Move where
  tgt   : Int
  vel   : Nat
  acc   : Nat
  dec   : Nat
  jrk   : Nat
  tag   : Nat := 0
  home  : Bool := false
  group : Bool := false
  blend : Bool := false
  own   : Bool := false
  deriving DecidableEq, Repr

/-- A profile being run (R361): from t0 (s) at x0 (microsteps) along dir with speed v0 and acceleration a0, in
segments of (duration in s, jerk in microsteps/s³). tgt: where it ends exactly (none: a stop, or a scan move, which
has no end). decideAt: seconds after t0 at which the joint is decided (R363). -/
structure Plan where
  t0   : Rat
  x0   : Rat
  dir  : Int
  v0   : Rat
  a0   : Rat
  segs : List (Rat × Rat)
  tgt  : Option Int
  scan : Bool := false
  decideAt : Rat := 0
  ve   : Rat := 0
  deriving DecidableEq, Repr

/-- The chopper of one phase (R370, R372, R373). drv: 0 release, 1 held in slow decay, 2 drive, 3 slow decay before
opposite drive, 4 opposite drive, 5 slow decay, 6 slow decay before a new drive. offAt: end of the on-time; stepAt: the
latest switch; oppAt: end of the latest opposite drive; cycAt: start of the cycle in hand; vtAt, vtSum: Vt × ps summed from
cycAt up to vtAt, in 0.25 mV; err: sum over the completed cycles of mean sensed voltage less mean Vt, in 0.25 mV. -/
structure Chop where
  drv    : Nat := 0
  pos    : Bool := true
  ofs    : Int := 0
  done   : Bool := false
  offAt  : Nat := 0
  stepAt : Nat := 0
  oppAt  : Option Nat := none
  cycAt  : Nat := 0
  vtAt   : Nat := 0
  vtSum  : Nat := 0
  cycles : Nat := 0
  err    : Rat := 0
  deriving DecidableEq, Repr

structure Axis where
  /-- Commanded position with 32 fraction bits (R359), and speed with its sign in microsteps/s. -/
  pos     : Int := 0
  v       : Rat := 0
  queue   : List Move := []
  cur     : Option Move := none
  plan    : Option Plan := none
  /-- As CDRx_PSTAT.STATE of an enabled axis (R390). -/
  st      : Nat := 1
  decided : Bool := false
  joint   : Bool := false
  waking  : Bool := false
  wakeAt  : Nat := 0
  tag     : Nat := 0
  count   : Int := 0
  encA    : Bool := false
  encB    : Bool := false
  eofs    : Int := 0
  badSec  : Nat := 0
  badN    : Nat := 0
  phase   : Nat := 0
  code    : Nat := 0
  addr    : Nat := 0
  /-- IA and IB as the latest profile tick took them (R368). -/
  ia      : Int := 0
  ib      : Int := 0
  scale   : Nat := 0
  fallAt  : Option Nat := none
  held    : Bool := false
  restAt  : Nat := 0
  /-- The deviation is outside the window since this instant (R379). -/
  outSince : Option Nat := none
  unt     : Bool := false
  released : Bool := true
  chopA   : Chop := {}
  chopB   : Chop := {}
  deriving DecidableEq, Repr

/-- A running group move (R365): its master, and each member's start and distance. -/
structure GroupRun where
  master  : Nat
  members : List (Nat × (Int × Int))
  deriving DecidableEq, Repr

structure Cdr where
  axes   : List (Nat × Axis) := []
  groups : List (Nat × GroupRun) := []
  /-- Groups whose controlled stop has still to reach rest (R388). -/
  gstop  : Nat := 0
  fcount : Int := 0
  fA     : Bool := false
  fB     : Bool := false
  fBadSec : Nat := 0
  fBadN  : Nat := 0
  deriving DecidableEq, Repr

/-! ## Scan control (chapter 12) -/

/-- The position grid of a Tracking job (R385): anchor, furthest point reached, source value as last seen. -/
structure Grid where
  anchor : Int
  far    : Int := -1
  prev   : Int
  /-- Where homing has put the grid from its anchor: 0, or a free value (R386). -/
  off    : Int := 0
  deriving DecidableEq, Repr


/-- A record on its way to the host (R193 to R196, R352). stream: 0 to 3, or 4 for the Photometer; line: its LINE;
viaStore: it went through the elastic store (R405). -/
structure Record where
  stream   : Nat
  ch       : Nat
  line     : Nat
  gap      : Bool
  bytes    : List Byte
  viaStore : Bool
  deriving DecidableEq, Repr

/-- A line record not yet gone (R419, R516): its start point in ps, and whether host-side waiting has touched it. -/
structure Owe where
  start : Option Nat := none
  host  : Bool := false
  deriving DecidableEq, Repr

/-- What is known of a line's delivery: largest delivery time so far (ps), its cause, and a miss raised. -/
structure Dlv where
  worst  : Nat := 0
  host   : Bool := false
  missed : Bool := false
  deriving DecidableEq, Repr

/-- Delivery of the running job: first line number, each stream's next number, lost numbers as runs (R415), records
owed keyed line × 4 + stream, and lines in delivery. -/
structure Job where
  first   : Nat := 0
  next    : List (Nat × Nat) := []
  lost    : List (Nat × Nat) := []
  owe     : List (Nat × Owe) := []
  dlv     : List (Nat × Dlv) := []
  /-- Route of a captured line whose records pass: 1 direct, 2 store (R405). -/
  route   : List (Nat × Nat) := []
  deriving DecidableEq, Repr

structure Est where
  recs  : List Record := []
  /-- Bytes held, those of stored records in transfer included. -/
  fill  : Nat := 0
  gapFill : Nat := 0
  /-- Every record of the job passes through the store (R13). -/
  divert : Bool := false
  /-- Lines are being dropped (R414, R424). -/
  dropping : Bool := false
  deriving DecidableEq, Repr

/-! ## DMA engine (chapter 13) -/

/-- A fetched descriptor (R428). -/
structure Desc where
  addr : Nat
  src  : Nat
  dst  : Nat
  len  : Nat
  ctl  : Nat
  next : Nat
  deriving DecidableEq, Repr

/-- One DMA channel. st: as DMAch_PSTAT.STATE (R463). moved: bytes written or loaded; recs: records written; sent: bytes
of the head record that have left; buf: raw source bytes from offset bufAt of the transfer; asked: source bytes
requested; rd: outstanding read (address, length, issue instant) and its reissues. -/
structure Dch where
  st      : Nat := 1
  desc    : Option Desc := none
  moved   : Nat := 0
  recs    : Nat := 0
  last    : Nat := 0
  sent    : Nat := 0
  q       : List Record := []
  buf     : List Byte := []
  bufAt   : Nat := 0
  asked   : Nat := 0
  rd      : Option (Nat × Nat × Nat) := none
  tries   : Nat := 0
  /-- Token bucket in 1/32,768 byte, the unit of Q × C / 256 bytes (R443). -/
  bucket  : Nat := 0
  /-- Ring in use: base and size (R438). -/
  ring    : Option (Nat × Nat) := none
  /-- RRP took a value that R437 forbids: the ring's free space is unpredictable until the ring restarts (R438). -/
  rrpBad  : Bool := false
  /-- A completion record that waits for queue space: queue and bytes (R449). -/
  cqWait  : Option (Nat × List Byte) := none
  wcred   : Bool := false
  pollAt  : Nat := 0
  /-- Ring of the latest descriptor: of a RECORD descriptor (base and size, none: no ring), or none after any other and
  after a wait for a valid one (R405). -/
  lastRec : Option (Option (Nat × Nat)) := none
  deriving DecidableEq, Repr

structure Dma where
  chans : List (Nat × Dch) := []
  /-- Completion queues: write index, phase, and 31-bit count since enable (R446, R448). -/
  cqs   : List (Nat × (Nat × Bool × Nat)) := []
  /-- Completion queues whose BASE or LOG2N changed while enabled, a mask: their records go to unpredictable addresses
  until the queue is enabled anew (the paragraph after R451). -/
  cqOdd : Nat := 0
  /-- Next channel of the round robin. -/
  turn  : Nat := 0
  /-- Link capacity left in this µs, in 1/128 byte; a write may overdraw it. -/
  link  : Int := 0
  /-- Start of the µs in hand (R443). -/
  tokAt : Nat := 0
  deriving DecidableEq, Repr

/-! ## Host links (chapter 14) -/

structure Hlk where
  msixEn   : Bool := false
  funcMask : Bool := false
  /-- MSI-X table words other than vector control, by byte offset; and the vector control words (R473). -/
  msixTab  : List (Nat × Word) := []
  msixCtl  : List (Nat × Word) := []
  pba      : BitVec 64 := 0
  /-- PCIe configuration space as far as commands read or write it: words by byte offset. -/
  cfg      : List (Nat × Word) := []
  /-- PERST_N released, and since when the endpoint starts (R573); device in D3hot; link state as HLK_PSTAT.STATE. -/
  perst    : Bool := true
  perstAt  : Nat := 0
  d3hot    : Bool := false
  st       : Nat := 0
  /-- Posted-write credits left, in writes; none: unlimited. -/
  credits  : Option Nat := none
  deriving DecidableEq, Repr

structure Ssc where
  /-- As SSC_PSTAT.STATE (R391). -/
  st       : Nat := 0
  grid     : Option Grid := none
  preArm   : Bool := false
  /-- Line numbers assigned to the job, and the last one assigned. -/
  assigned : Nat := 0
  lastNum  : Nat := 0
  /-- Tracking: grid index of the last number assigned. -/
  lastK    : Int := -1
  /-- END takes effect at the next line boundary (R395). -/
  ending   : Bool := false
  /-- A fault paused the job; every fault that RESUME waits for (R392). -/
  pauseF   : Bool := false
  pausers  : List (Nat × Nat) := []
  /-- A pause follows BACKUP (R413); an immediate stop of the scan axis pauses the job, and its instant (R412). -/
  pauseDue : Bool := false
  istopDue : Bool := false
  istopAt  : Nat := 0
  /-- The pause in force is one of R412. -/
  istopped : Bool := false
  /-- SEAM is due at the next restart; line whose trigger took it (R412). -/
  seam     : Bool := false
  seamFor  : Option Nat := none
  lastKept : Nat := 0
  /-- CDRx_STAT.UNT at the stop (R408 step 5). -/
  stopUnt  : Bool := false
  /-- The host has flowed since this instant (R409). -/
  flowFrom : Nat := 0
  /-- Delivery of the job. -/
  job      : Job := {}
  /-- Addresses whose pending value of boundary J waits for the next arming, although no job is armed: the control core
  rewrote it, or its job was refused (R29, R393). -/
  jHold    : List Nat := []
  deriving DecidableEq, Repr

/-! ## Event fabric (chapter 15) -/

/-- One LUT cell (R494 to R496): F and the instant since which it holds its value, the filter output G and the instant
of its latest change, and Q. -/
structure Cell where
  f     : Bool := false
  since : Nat := 0
  g     : Bool := false
  gAt   : Nat := 0
  clkAt : Nat := 0
  q     : Bool := false
  deriving DecidableEq, Repr

structure Evf where
  /-- Instant of the last event each channel passed (R485), and events passed in the window of 10 µs in hand (R499). -/
  lastPass : List (Nat × Nat) := []
  window   : List (Nat × Nat) := []
  /-- Start of the window in hand: the windows follow one another from reset, each 10 µs long. -/
  winAt    : Nat := 0
  cells    : List (Nat × Cell) := []
  /-- Channels whose event pulse is present, as a mask (R494); levels of EVI0 to EVI15, as a mask (R497). -/
  pulses   : Nat := 0
  evi      : Nat := 0
  /-- V of EVO0 to EVO15 in modes 1 and 2, and the end of a pulse of mode 1 (R498). -/
  evo      : List (Nat × (Bool × Option Nat)) := []
  /-- Instant of the latest capture per register (R491), and of the latest event that ran each task (R493). -/
  capAt    : List (Nat × Nat) := []
  ranAt    : List (Nat × Nat) := []
  deriving DecidableEq, Repr

/-! ## Control core, firmware and field security (chapter 17) -/

/-- An image slot: its content so far, the length its load declared, whether a word of the load was discarded (R546),
and whether its latest VERIFY accepted it with nothing written since (R548). -/
structure Slot where
  bytes  : List Byte := []
  len    : Nat := 0
  lost   : Bool := false
  passed : Bool := false
  deriving DecidableEq, Repr

/-- Work that fell due while the control core's services were paused, in the order in which it did (R17). -/
inductive Deferred where
  | lampRun | calRun | idleSweep | clockStep | voltageStep (ack : Bool) | marginHour
  deriving DecidableEq, Repr

structure Sec where
  /-- The control core's services are paused: during a handover, and while no image runs (R17, R548, R555). -/
  paused   : Bool := true
  /-- SEC_PSTAT.STATE (R556): 0 verifying at boot, 1 waiting for an image, 2 an image runs, 3 swap. -/
  st       : Nat := 0
  run      : Nat := 3
  slots    : List (Nat × Slot) := []
  /-- The two halves of the boot record: (SEQ, PREF) of a valid half (R540). -/
  half0    : Option (Nat × Nat) := none
  half1    : Option (Nat × Nat) := none
  /-- Open load: its slot and the words it has taken; its erase runs; its 1,024-word buffer (R546). -/
  load     : Option (Nat × Nat) := none
  erasing  : Bool := false
  buf      : List Word := []
  /-- Words loaded without BEGIN: a response or a challenge (R551, R554). -/
  loose    : List Word := []
  /-- Slot of a VERIFY that waits or runs (R547). -/
  verify   : Option Nat := none
  /-- Slot being swapped to, and whether the old image has stopped, and since when (R548, R549). -/
  swap     : Option Nat := none
  stopped  : Bool := false
  stopAt   : Nat := 0
  /-- OTP: anti-rollback counter and field-lock fuse (R543, R550). -/
  otp      : Nat := 0
  field    : Bool := false
  /-- Open debug scopes; SEC_DBGCTL.SCOPE stands in its register (R550). -/
  scopes   : Nat := 0
  /-- A nonce is drawn and unused; the wait of R552 in seconds, and the instant until which NONCE is refused. -/
  nonce    : Bool := false
  wait     : Nat := 1
  refused  : Nat := 0
  /-- ATTEST in progress, with its challenge; report words not yet read (R554). -/
  attest   : Option (List Byte) := none
  report   : List Word := []
  /-- Mailbox command in service: SEQ, CMD (R536). -/
  mbx      : Option (Nat × Nat) := none
  /-- Pauses since boot and the longest in ps (R537). -/
  pauses   : Nat := 0
  longest  : Nat := 0
  /-- Work that waits for the services (R17). -/
  deferred : List Deferred := []
  /-- VERSION of slots A and B as this boot found them: the reset values of SEC_VERA and SEC_VERB (R556). -/
  bootA    : Word := 0
  bootB    : Word := 0
  deriving DecidableEq, Repr

/-! ## Power, clocks and reset (chapter 18) -/

structure Pwr where
  /-- PWR_PSTAT.STATE (R577). -/
  st      : Nat := 0
  /-- PORST_N is low (R571). -/
  porst   : Bool := false
  /-- Instant PORST_N rose or the warm reset began; the register bus does not serve yet (R572). -/
  bootAt  : Nat := 0
  dark    : Bool := false
  /-- An image has been accepted in this boot; the store has been sized or found missing. -/
  started : Bool := false
  trained : Bool := false
  /-- Entry into a sleep state: steps of R566 completed. -/
  step    : Nat := 0
  /-- Standby was caused by D3hot (R568, R570); source of the wake in progress (PWR_WAKE.SRC). -/
  byD3    : Bool := false
  src     : Nat := 0
  /-- Die sensors above 105 °C and supplies outside ±10 %, as masks (R533). -/
  dieHot  : Nat := 0
  supBad  : Nat := 0
  deriving DecidableEq, Repr


/-! ## The whole machine -/

/-- The state of the YS9640. -/
structure State where
  /-- Commands waiting, first in first out. -/
  pending : List Instr := []
  /-- Internal count in ps (R509, R510): never loaded, never runs backward. -/
  now     : Nat := 0
  /-- Index of the next free value (the model's own field). -/
  fv      : Nat := 0
  /-- STRAP[7:0] as sampled (R574). -/
  straps  : Nat := 0
  /-- Active values of block registers, by BAR0 address; an unlisted register is at its reset value. -/
  regs    : List (Nat × Word) := []
  /-- Pending values (R8 to R11, R48). -/
  pend    : List (Nat × Word) := []
  /-- Held low words of 64-bit registers (R63). -/
  hold64  : List (Nat × Word) := []
  /-- Page headers by page base (R42). -/
  hdrs    : List (Nat × Hdr) := []
  /-- Table memory by BAR2 address (R37). -/
  bar2    : List Host.Cell := []
  /-- Held low words of 8-byte table entries (R39). -/
  holdTab : List (Nat × Word) := []
  /-- Latched bits 6 to 1 of ATTN (R66). -/
  attnL   : Nat := 0
  /-- Producers that have fired and whose events have not passed their channel yet (R483). -/
  flight  : List Nat := []
  /-- What has left the device, oldest first. -/
  out     : List Msg := []
  mer : Mer := {}
  /-- Lines whose records have not all left, by line number. -/
  lines : List (Nat × LineInfo) := []
  acq : Acq := {}
  plt : Plate := {}
  fft : Fft := {}
  hel : Hel := {}
  act : Act := {}
  hka : Hka := {}
  col : Col := {}
  alm : Alm := {}
  pho : Pho := {}
  cdr : Cdr := {}
  ssc : Ssc := {}
  est : Est := {}
  dma : Dma := {}
  hlk : Hlk := {}
  evf : Evf := {}
  chr : Chr := {}
  sec : Sec := {}
  pwr : Pwr := {}
  deriving DecidableEq, Repr

/-- The machine right after reset: PORST_N has been released and nothing has happened since. -/
def State.reset : State := {}

end Sys2Proof.Machine
end

