-- ==== Sys2Proof/Machine/StepTable.lean ====
section
/-! DEFINITION. The microstep tables' contents at PORST_N (R367). -/

namespace Sys2Proof.Machine

/-- round(2,047 × sin(2π × k / 1,024)) for k from 0 to 256, a quarter wave. -/
def quarterSine : List Nat :=
  [0, 13, 25, 38, 50, 63, 75, 88, 100, 113, 126, 138, 151, 163, 176, 188, 201, 213, 226, 238, 251, 263, 275, 288, 300, 313, 325, 338, 350, 362, 375, 387] ++
  [399, 412, 424, 436, 449, 461, 473, 485, 497, 510, 522, 534, 546, 558, 570, 582, 594, 606, 618, 630, 642, 654, 666, 678, 690, 701, 713, 725, 737, 748, 760, 772] ++
  [783, 795, 807, 818, 830, 841, 852, 864, 875, 887, 898, 909, 920, 932, 943, 954, 965, 976, 987, 998, 1009, 1020, 1031, 1042, 1052, 1063, 1074, 1085, 1095, 1106, 1116, 1127] ++
  [1137, 1148, 1158, 1168, 1179, 1189, 1199, 1209, 1219, 1229, 1239, 1249, 1259, 1269, 1279, 1289, 1299, 1308, 1318, 1328, 1337, 1347, 1356, 1365, 1375, 1384, 1393, 1402, 1411, 1421, 1430, 1439] ++
  [1447, 1456, 1465, 1474, 1483, 1491, 1500, 1508, 1517, 1525, 1533, 1542, 1550, 1558, 1566, 1574, 1582, 1590, 1598, 1606, 1614, 1621, 1629, 1637, 1644, 1652, 1659, 1666, 1674, 1681, 1688, 1695] ++
  [1702, 1709, 1716, 1723, 1729, 1736, 1743, 1749, 1756, 1762, 1769, 1775, 1781, 1787, 1793, 1799, 1805, 1811, 1817, 1823, 1828, 1834, 1840, 1845, 1850, 1856, 1861, 1866, 1871, 1876, 1881, 1886] ++
  [1891, 1896, 1901, 1905, 1910, 1914, 1919, 1923, 1927, 1932, 1936, 1940, 1944, 1948, 1951, 1955, 1959, 1962, 1966, 1969, 1973, 1976, 1979, 1983, 1986, 1989, 1992, 1994, 1997, 2000, 2003, 2005] ++
  [2008, 2010, 2012, 2015, 2017, 2019, 2021, 2023, 2025, 2027, 2028, 2030, 2032, 2033, 2035, 2036, 2037, 2038, 2039, 2040, 2041, 2042, 2043, 2044, 2045, 2045, 2046, 2046, 2046, 2047, 2047, 2047] ++
  [2047]

/-- round(2,047 × sin(2π × a / 1,024)), halves away from zero. -/
def tableSine (a : Nat) : Int :=
  let k := a % 1024
  let v (i : Nat) : Nat := (quarterSine[i]?).getD 0
  if k ≤ 256 then v k
  else if k ≤ 512 then v (512 - k)
  else if k ≤ 768 then -(v (k - 512) : Int)
  else -(v (1024 - k) : Int)

/-- Word of entry a of the reset table (R367): IA in [27:16], IB in [11:0]. -/
def stepWord (a : Nat) : Nat :=
  ofSigned 12 (tableSine (a + 128 + 256)) * 2 ^ 16 + ofSigned 12 (tableSine (a + 128))

/-- Byte o of the microstep window: four tables of 1,024 entries; the rest of the window is reserved and reads 0. -/
def stepByte (o : Nat) : BitVec 8 :=
  if o < 0x4000 then BitVec.ofNat 8 (stepWord (o % 0x1000 / 4) / 2 ^ (8 * (o % 4))) else 0

end Sys2Proof.Machine
end

