-- ==== Sys2Proof/Machine/Ops.lean ====
section
/-! DEFINITION. The named operations over the register file, the page headers, the table memory, time, events,
interrupts and the attention byte. Every meaning is written over them. -/

namespace Sys2Proof.Machine

/-- Apply f under a condition. -/
def State.when (s : State) (c : Bool) (f : State → State) : State := if c then f s else s

/-! ## Registers -/

/-- Active value of a block register (R6). -/
def State.reg (s : State) (a : Nat) : Word := tabGet (regDefault s.straps a) s.regs a

/-- Make a value active. -/
def State.setReg (s : State) (a : Nat) (w : Word) : State :=
  { s with regs := tabPut (regDefault s.straps a) s.regs a w }

/-- A field of a register, unsigned. -/
def State.fld (s : State) (a : Nat) (f : Fld) : Nat := bits (s.reg a).toNat f.1 f.2

/-- A one-bit field. -/
def State.flag (s : State) (a : Nat) (f : Fld) : Bool := s.fld a f == 1

/-- Write a field, keeping the other bits. -/
def State.setFld (s : State) (a : Nat) (f : Fld) (v : Nat) : State :=
  s.setReg a (BitVec.ofNat 32 (putBits (s.reg a).toNat f.1 f.2 v))

def State.setFlag (s : State) (a : Nat) (f : Fld) (b : Bool) : State := s.setFld a f b.toNat

/-- A 64-bit register, low word at a (R62). -/
def State.reg64 (s : State) (a : Nat) : Nat := (s.reg a).toNat + (s.reg (a + 4)).toNat * 2 ^ 32

def State.setReg64 (s : State) (a v : Nat) : State :=
  (s.setReg a (BitVec.ofNat 32 v)).setReg (a + 4) (BitVec.ofNat 32 (v / 2 ^ 32))

/-- Add n to a 32-bit counter that saturates. -/
def State.bump (s : State) (a n : Nat) : State :=
  s.setReg a (BitVec.ofNat 32 (min ((s.reg a).toNat + n) 0xFFFFFFFF))

/-- Add n to a field that saturates. -/
def State.bumpFld (s : State) (a : Nat) (f : Fld) (n : Nat) : State :=
  s.setFld a f (min (s.fld a f + n) (2 ^ (f.1 + 1 - f.2) - 1))

/-- The value a field will have once the pending value is applied: what the shadow view shows (R48). -/
def State.regNext (s : State) (a : Nat) : Word :=
  match tabFind s.pend a with
  | some w => w
  | none => s.reg a

def State.fldNext (s : State) (a : Nat) (f : Fld) : Nat := bits (s.regNext a).toNat f.1 f.2

/-! ## Free values -/

/-- The next free value, and the state that has used it (notes/assumptions 2). -/
def State.free (s : State) : Nat := Config.free s.fv
def State.freeAt (s : State) (i : Nat) : Nat := Config.free (s.fv + i)
def State.useFree (s : State) : State := { s with fv := s.fv + 1 }
def State.skipFree (s : State) (n : Nat) : State := { s with fv := s.fv + n }

/-! ## Time -/

/-- Move the internal count forward to the instant t in ps; time never runs backward. -/
def State.upto (s : State) (t : Nat) : State := { s with now := max s.now t }

/-- The Chronograph timestamp in ns (R509, R510): the internal count plus the load offset, modulo 2^64. In Deep
sleep it advances in steps of 40 ns. -/
def State.tsAt (s : State) (ps : Nat) : Nat := (ps / 1000 + s.chr.tsBase) % 2 ^ 64
def State.ts (s : State) : Nat :=
  if s.pwr.st = 6 then (s.now / 40000 * 40 + s.chr.tsBase) % 2 ^ 64 else s.tsAt s.now

/-- pclk in kHz in force, within its limits (R105). -/
def State.pclk (s : State) : Nat := min (max (s.fld R.MER_PCLK F.MER_PCLK.FREQ) 2000) 40000

/-- n pclk in ps. -/
def State.pclkPs (s : State) (n : Nat) : Nat := n * 1000000000 / s.pclk

/-- The instant n pclk after t and fr/f ps, in the same form (R92): f is the pclk in kHz. -/
def State.pclkAfter (s : State) (t fr n : Nat) : Nat × Nat :=
  ((t + (fr + n * 1000000000) / s.pclk), (fr + n * 1000000000) % s.pclk)

/-- ps as a number of pclk, to the nearest. -/
def State.psPclk (s : State) (ps : Nat) : Nat := (ps * s.pclk + 500000000) / 1000000000

/-- ns as a number of taps, rounded up (R233, R270). -/
def State.nsTaps (s : State) (ns : Nat) : Nat := (ns * s.pclk * 64 + 999999) / 1000000

/-- Length of every slot in pclk (R74, R81). -/
def State.slotLen (s : State) : Nat := s.fld R.MER_SLOT F.MER_SLOT.PIXPER + s.fld R.MER_SLOT F.MER_SLOT.OVH

/-- Number of exposure slots (R74). -/
def nslotOf (v : Nat) : Nat := if v = 0 then 1 else if v > 17 then 17 else v
def State.nslot (s : State) : Nat := nslotOf (s.fld R.MER_SEQCFG F.MER_SEQCFG.NSLOT)

/-- Band of sequence entry j (R74). -/
def State.seqBand (s : State) (j : Nat) : Nat := s.fld (R.MER_SEQk j) F.MER_SEQk.BAND

/-- The sequence of a line. -/
def State.seq (s : State) : List Nat := (List.range s.nslot).map s.seqBand

/-! ## Rounding (R158, R111) -/

/-- Round n / d to the nearest integer, halves to even (R158). -/
def roundHe (n d : Int) : Int :=
  let q := n.fdiv d
  let r := n - q * d
  if 2 * r < d then q else if 2 * r > d then q + 1 else if q % 2 = 0 then q else q + 1

/-- Round n / d to the nearest integer, halves away from zero (R111). -/
def roundAway (n d : Int) : Int :=
  if 0 ≤ n then (2 * n + d).fdiv (2 * d) else -((2 * (-n) + d).fdiv (2 * d))

/-- x clipped to lo to hi (R158). -/
def sat (x lo hi : Int) : Int := if x < lo then lo else if x > hi then hi else x

/-- Ceiling division. -/
def cdiv (a b : Nat) : Nat := if b = 0 then 0 else (a + b - 1) / b

/-! ## Page headers (R42) -/

def State.hdr (s : State) (p : Nat) : Hdr := tabGet {} s.hdrs p
def State.setHdr (s : State) (p : Nat) (h : Hdr) : State := { s with hdrs := tabPut {} s.hdrs p h }

/-- The MSI-X vector of a page's interrupt (R472). -/
def vectorOf (p : Nat) : Option Nat :=
  match pageOf p with
  | none => none
  | some (k, n, _) =>
    match k with
    | .glb => some 8 | .mer => some 9 | .acqg => some 10 | .acq => some 10 | .spr => some 10
    | .pltg => some 11 | .plt => some 11 | .fft => some 11 | .helg => some 12 | .hel => some 12
    | .act => some 13 | .hka => some 13 | .col => some 14 | .alm => some 14 | .pho => some 15
    | .cdrg => some 16 | .cdr => some (17 + n) | .ssc => some 21 | .est => some 21 | .dmag => some 22
    | .hlk => some 23 | .evf => some 24 | .chr => some 25 | .sec => some 26 | .pwr => some 27
    | .dma => some (32 + n / 2)

/-- Put a message on its way. -/
def State.send (s : State) (m : Msg) : State := { s with out := s.out ++ [m] }

/-- Vector control of an MSI-X table entry: mask bit. -/
def State.vecMasked (s : State) (v : Nat) : Bool :=
  s.hlk.funcMask || bit (tabGet (1 : Word) s.hlk.msixCtl v).toNat 0

/-- Send vector v's message, or set its pending bit while it is masked (R473). -/
def State.sendVector (s : State) (v : Nat) : State :=
  if s.hlk.msixEn then
    if s.vecMasked v then { s with hlk := { s.hlk with pba := s.hlk.pba ||| BitVec.ofNat 64 (2 ^ v) } }
    else s.send (.msix v)
  else s

/-- A bit of PEVT AND PEVEN went from 0 to 1: the page's interrupt (R473). -/
def State.irq (s : State) (p : Nat) : State :=
  match vectorOf p with
  | some v => s.sendVector v
  | none => s

/-- Set a bit of a page's PEVT (R42), with its interrupt. -/
def State.evt (s : State) (p b : Nat) : State :=
  let h := s.hdr p
  let m : Word := BitVec.ofNat 32 (2 ^ b)
  let s' := s.setHdr p { h with pevt := h.pevt ||| m }
  if bit h.peven.toNat b && !bit h.pevt.toNat b then s'.irq p else s'

def State.evtIf (s : State) (c : Bool) (p b : Nat) : State := if c then s.evt p b else s

/-! ## The attention byte (R66 to R69) -/

/-- ATTN bit 7: a Major or Critical fault is unacknowledged; bit 0: the log holds a valid entry. -/
def State.attn (s : State) : Nat :=
  (if s.chr.unack.any (fun u => 2 ≤ u.2.2) then 128 else 0) + s.attnL % 128 / 2 * 2 +
  (if s.chr.log.isEmpty then 0 else 1)

/-- Vector 8 fires when a bit of ATTN AND GLB_ATTNMASK goes from 0 to 1 (R473). -/
def State.attnIrq (s0 s : State) : State :=
  let m := s.fld R.GLB_ATTNMASK F.GLB_ATTNMASK.MASK
  if (List.range 8).any (fun b => bit m b && bit s.attn b && !bit s0.attn b) then s.sendVector 8 else s

/-- Set a latched bit of ATTN. -/
def State.setAttn (s : State) (b : Nat) : State :=
  s.attnIrq { s with attnL := s.attnL ||| 2 ^ b }

/-- MATTN_N is low while ATTN AND GLB_ATTNMASK is non-zero (R69). -/
def State.mattnLow (s : State) : Bool := (s.attn &&& s.fld R.GLB_ATTNMASK F.GLB_ATTNMASK.MASK) != 0

/-! ## Events in flight (chapter 15) -/

/-- A producer fires: its event is on its way to its channel, and EVENT_PUBLISH takes it (R483). -/
def State.emit (s : State) (p : Nat) : State := { s with flight := s.flight ++ [p] }

/-! ## Table memory (R37, R38) -/

/-- Byte that an unlisted BAR2 address reads as: the contents at PORST_N. Flat banks: GAIN 0x1_0000 (R202);
microstep tables: the reset table of R367; 0 elsewhere. -/
def tabByte (a : Nat) : Byte :=
  if a < 0x2800000 then (if a % 8 = 2 then 1 else 0)
  else if 0x2910000 ≤ a ∧ a < 0x2920000 then stepByte (a - 0x2910000)
  else 0

def State.byte (s : State) (a : Nat) : Byte := tabGet (tabByte a) s.bar2 a
def State.setByte (s : State) (a : Nat) (b : Byte) : State :=
  { s with bar2 := tabPut (tabByte a) s.bar2 a b }

/-- n bytes from a, little-endian. -/
def State.load (s : State) (a : Nat) : Nat → Nat
  | 0 => 0
  | n + 1 => (s.byte a).toNat + 256 * s.load (a + 1) n

/-- Store n bytes of v from a, little-endian. -/
def State.store (s : State) (a : Nat) : Nat → Nat → State
  | 0, _ => s
  | n + 1, v => (s.setByte a (BitVec.ofNat 8 v)).store (a + 1) n (v / 256)

/-- The table memory is in canonical form: addresses rising, no entry equal to what an unlisted address reads. -/
def Memory.wf (m : List Host.Cell) : Bool := tabSorted m && m.all (fun c => c.2 != tabByte c.1)

/-! ## Key-guarded writes (R55 to R61, R622) -/

/-- A KW write reaches a page: it re-arms the guard (R56, R61); it is applied only with the guard open and the page
unlocked, and otherwise KEYERR is set (R59, R60). -/
def State.kwAllowed (s : State) (p : Nat) : Bool := (s.hdr p).keyOpen && !(s.hdr p).locked

def State.kwSpend (s : State) (p : Nat) : State :=
  let ok := s.kwAllowed p
  let s1 := s.setHdr p { s.hdr p with keyOpen := false }
  s1.evtIf (!ok) p 3

/-- Run f as the effect of a KW write to page p. -/
def State.guarded (s : State) (p : Nat) (f : State → State) : State :=
  if s.kwAllowed p then f (s.kwSpend p) else s.kwSpend p

/-! ## What the register bus accepts (R45, R475, R572) -/

/-- The register bus returns 0 and ignores writes: while PORST_N is low, and in the first 5 ms of a warm reset. -/
def State.busDark (s : State) : Bool := s.pwr.porst || (s.pwr.dark && decide (s.now < s.pwr.bootAt + 5000000000))

/-- Pages that serve in Deep sleep (R475). -/
def wakefulPage (p : Nat) : Bool := p == P.GLB || p == P.EVF || p == P.PWR

/-- A write reaches page p: the bus serves, no page soft reset of it runs, and Deep sleep does not gate it. -/
def State.accepts (s : State) (p : Nat) : Bool :=
  !s.busDark && !(s.hdr p).srstBsy && (s.pwr.st != 6 || wakefulPage p)

/-- Run f as a host write to page p. -/
def State.hostWrite (s : State) (p : Nat) (f : State → State) : State := if s.accepts p then f s else s

/-- An access that the register bus ignores: counted in the HLK page with its link, space, reason and address
(R32, R36, R40, R49, R480, R467). -/
def State.ignored (s : State) (link space reason a : Nat) : State :=
  let s1 := s.bump R.HLK_IGNCNT 1
  let s2 := s1.setReg R.HLK_IGNLAST
    (BitVec.ofNat 32 (link * 2 ^ 31 + space * 2 ^ 30 + reason * 2 ^ 27 + a % 2 ^ 26))
  s2.evt P.HLK 12

/-! ## Small helpers -/

/-- Fold a state transformer over a list. -/
def foldS {α : Type} (f : State → α → State) (s : State) : List α → State
  | [] => s
  | x :: l => foldS f (f s x) l

/-- Fold over 0 to n − 1. -/
def forN (n : Nat) (f : State → Nat → State) (s : State) : State := foldS f s (List.range n)


end Sys2Proof.Machine
end

