-- ==== Sys2Proof/Machine/Pend.lean ====
section
/-! DEFINITION. Applying pending values at a boundary (spec/00 R8 to R11, spec/02 R48, R52, R54). -/

namespace Sys2Proof.Machine

/-- Boundary of the register at an address. -/
def bndOf (a : Nat) : Option Bnd :=
  match pageOf a with
  | none => none
  | some (k, _, off) =>
    match rowOf k off with
    | none => none
    | some (r, _, _) => some r.bnd

/-- A changed run voltage resets both adaptive offsets of its axis (R373). -/
def State.runvHook (s : State) (a : Nat) (w : Word) : State :=
  foldS (fun s x =>
    if a = R.CDRx_CUR x ∧ bits w.toNat 7 0 ≠ s.fld a F.CDRx_CUR.RUNV then
      let ax := tabGet {} s.cdr.axes x
      let ax := { ax with
        chopA := { ax.chopA with ofs := 0, cycles := 0, err := 0 },
        chopB := { ax.chopB with ofs := 0, cycles := 0, err := 0 } }
      { s with cdr := { s.cdr with axes := tabPut {} s.cdr.axes x ax } }
    else s) s [0, 1, 2, 3]

/-- The primary whose ACQn_CHk_CFG a BAR0 address names. -/
def cfgPrim (a : Nat) : Option Nat :=
  let k := (a % 0x1000 - 0x40) / (R.ACQn_CHk_CFG 0 1 - R.ACQn_CHk_CFG 0 0)
  if R.ACQn_CHk_CFG 0 0 ≤ a ∧ a < R.ACQn_CHk_CFG 64 0 - 0x40 ∧ k < 4 ∧ a = R.ACQn_CHk_CFG ((a - 0x20000) / 0x1000) k then
    some ((a - 0x20000) / 0x1000 * 4 + k)
  else none

/-- EN of a primary becomes 1: the first line boundary from then on begins its WARM lines (R142). -/
def State.warmHook (s : State) (a : Nat) (w : Word) : State :=
  match cfgPrim a with
  | none => s
  | some c =>
    if !s.flag a F.ACQn_CHk_CFG.EN && bit w.toNat F.ACQn_CHk_CFG.EN.2 then
      { s with acq := { s.acq with chans := tabPut {} s.acq.chans c { tabGet {} s.acq.chans c with warmDue := true } } }
    else s

/-- A change of ACT_NOTCH restarts the baseline filters (R277). -/
def State.notchHook (s : State) (a : Nat) (w : Word) : State :=
  if a = R.ACT_NOTCH ∧ w ≠ s.reg a then { s with act := { s.act with restart := true } } else s

/-- Set the cores' power state: 0 powered down, 1 low-power, 2 settling, 3 full rate. -/
def State.setCores (s : State) (p : Nat) : State :=
  let s1 := { s with acq := { s.acq with power := p } }
  (s1.setFlag R.ACQG_STAT F.ACQG_STAT.LP (p == 1)).setFlag R.ACQG_STAT F.ACQG_STAT.FULL (p == 3)

/-- Cores in Ready: low-power while LPREADY is 1, at full rate otherwise (R119); the manual does not say that they settle
first (DESIGN CHOICE, notes/assumptions 96). -/
def State.coresReady (s : State) : State :=
  s.setCores (if s.flag R.ACQG_LP F.ACQG_LP.LPREADY then 1 else 3)

/-- A changed LPREADY acts at once on the cores of a device in Ready (R119, R154). -/
def State.readyHook (s old : State) (a : Nat) : State :=
  s.when (a == R.ACQG_LP && s.pwr.st == 1 &&
    s.fld R.ACQG_LP F.ACQG_LP.LPREADY != old.fld R.ACQG_LP F.ACQG_LP.LPREADY) State.coresReady

/-- A new pclk asks for lock (R105). -/
def State.pclkHook (s old : State) : State :=
  if s.pclk = old.pclk then s else { s with mer := { s.mer with lock := false, locking := true } }

/-- A changed EN, MODE, POL or RANGE of a primary restarts its pixels' tracker entries from the next line on (R217). -/
def State.darkHook (s : State) (a : Nat) (w : Word) : State :=
  match cfgPrim a with
  | none => s
  | some c =>
    if w.toNat % 128 = (s.reg a).toNat % 128 then s
    else { s with fft := { s.fft with chLine := tabIns s.fft.chLine c (s.fft.ord + 1) } }

/-- A value becomes active. -/
def State.activate (s : State) (a : Nat) (w : Word) : State :=
  ((((((s.darkHook a w).runvHook a w).warmHook a w).notchHook a w).setReg a w).readyHook s a).pclkHook s

/-- Apply every pending value that a predicate on its address selects, and drop it from the pending values. -/
def State.applyPend (s : State) (sel : Nat → Bool) : State :=
  let l := s.pend.filter (fun (e : Nat × Word) => sel e.1)
  foldS (fun s (e : Nat × Word) => s.activate e.1 e.2) { s with pend := tabKeep (fun a => !sel a) s.pend } l

/-- Apply every pending value of one boundary. -/
def State.applyBnd (s : State) (b : Bnd) : State := s.applyPend (fun a => bndOf a == some b)

/-- The same within one page. -/
def State.applyPage (s : State) (b : Bnd) (page : Nat) : State :=
  s.applyPend (fun a => pageBase a == page && bndOf a == some b)

/-- A commit of one page (R52): every pending C value becomes active, GO clears and PEVT.CMT is set. -/
def State.commit (s : State) (page : Nat) : State :=
  let s := s.applyPage .c page
  (s.setHdr page { s.hdr page with go := false }).evt page 2

/-- Pages whose commit has been requested. -/
def State.commitPages (s : State) : List Nat :=
  (s.hdrs.filter (fun (e : Nat × Hdr) => e.2.go)).map (fun (e : Nat × Hdr) => e.1)

end Sys2Proof.Machine
end

