-- ==== Sys2Proof/Machine/Profile.lean ====
section
/-! DEFINITION. Planning and evaluating jerk-limited profiles (spec/11 R359 to R363, R380, R407). Distances are in
microsteps, times in seconds, exact rationals; a square root is rounded down to 2^-32. -/

namespace Sys2Proof.Machine

/-- Square root rounded down to a multiple of 2^-32. -/
def sqrtQ (r : Rat) : Rat := if r ≤ 0 then 0 else (Nat.sqrt (r * 2 ^ 64).floor.toNat : Nat) / (2 ^ 32 : Rat)

def absQ (r : Rat) : Rat := if r < 0 then -r else r
def minQ (a b : Rat) : Rat := if a ≤ b then a else b
def maxQ (a b : Rat) : Rat := if a ≤ b then b else a

/-- Segments of a speed change from v to w, at rest in acceleration at both ends, within acceleration b and jerk j. -/
def ramp (v w b j : Rat) : List (Rat × Rat) :=
  let dv := absQ (w - v)
  let p := minQ b (sqrtQ (dv * j))
  if p ≤ 0 ∨ j ≤ 0 then []
  else
    let jj := if v < w then j else -j
    [(p / j, jj), (dv / p - p / j, 0), (p / j, -jj)]

def segTime (l : List (Rat × Rat)) : Rat := l.foldl (fun a (x : Rat × Rat) => a + x.1) 0

/-- Distance of a speed change: the mean speed times its time. -/
def rampDist (v w b j : Rat) : Rat := (v + w) / 2 * segTime (ramp v w b j)

/-- Halve [lo, hi] n times toward the largest value that satisfies ok; lo does. -/
def bisect (ok : Rat → Bool) : Nat → Rat → Rat → Rat
  | 0, lo, _ => lo
  | n + 1, lo, hi =>
    let m := (lo + hi) / 2
    if ok m then bisect ok n m hi else bisect ok n lo m

def largest (ok : Rat → Bool) (lo hi : Rat) : Rat := if ok hi then hi else bisect ok 48 lo hi

/-- Largest speed up to vmax that can be reached from v within the distance d. -/
def reach (v vmax d b j : Rat) : Rat := largest (fun w => rampDist v w b j ≤ d) v (maxQ v vmax)

/-- Segments that cover d from speed v to speed w: speed up, cruise, slow down. The peak speed is the largest within
vmax for which the distance suffices (R361). Also the time at which slowing down begins. -/
def cover (v w vmax d acc dec j : Rat) : List (Rat × Rat) × Rat :=
  let lo := maxQ v w
  let pk := largest (fun u => rampDist v u acc j + rampDist u w dec j ≤ d) lo (maxQ lo vmax)
  let up := ramp v pk acc j
  let rest := d - rampDist v pk acc j - rampDist pk w dec j
  let mid := if pk ≤ 0 ∨ rest ≤ 0 then [] else [(rest / pk, (0 : Rat))]
  (up ++ mid ++ ramp pk w dec j, segTime up + segTime mid)

/-- Segments of a controlled stop from speed v and acceleration a (R380). -/
def stopSegs (v a dec j : Rat) : List (Rat × Rat) :=
  if j ≤ 0 ∨ dec ≤ 0 then []
  else
    let b := if a < 0 then -a else 0
    let p := maxQ b (minQ dec (sqrtQ (j * v + a * a / 2)))
    if p ≤ 0 then [] else [((a + p) / j, -j), ((v + a * a / (2 * j) - p * p / j) / p, 0), (p / j, j)]

/-- Position, speed and acceleration a time t into one segment of jerk j. -/
def segAt (j t : Rat) (p : Rat × Rat × Rat) : Rat × Rat × Rat :=
  (p.1 + p.2.1 * t + p.2.2 * t * t / 2 + j * t * t * t / 6, p.2.1 + p.2.2 * t + j * t * t / 2, p.2.2 + j * t)

/-- Position, speed and acceleration a time t into the segments; past their end the speed is kept. -/
def segsAt : List (Rat × Rat) → Rat → Rat × Rat × Rat → Rat × Rat × Rat
  | [], t, p => segAt 0 t (p.1, p.2.1, 0)
  | (d, j) :: l, t, p => if t < d then segAt j t p else segsAt l (t - d) (segAt j d p)

/-- Distance along dir, speed and acceleration at a time after t0. -/
def Plan.after (p : Plan) (t : Rat) : Rat × Rat × Rat := segsAt p.segs (maxQ t 0) (0, p.v0, p.a0)
def Plan.time (p : Plan) : Rat := segTime p.segs
def Plan.xAt (p : Plan) (t : Rat) : Rat := p.x0 + p.dir * (p.after t).1

/-- Instant of the internal count in seconds. -/
def secs (ps : Nat) : Rat := (ps : Nat) / (1000000000000 : Rat)

/-- Profile of a move from speed v0 along its way to a stop at its target. -/
def planMove (t0 x0 v0 : Rat) (m : Move) : Plan :=
  let d := absQ ((m.tgt : Rat) - x0)
  let c := cover v0 0 m.vel d m.acc m.dec m.jrk
  { t0 := t0, x0 := x0, dir := if (m.tgt : Rat) < x0 then -1 else 1, v0 := v0, a0 := 0, segs := c.1,
    tgt := some m.tgt, decideAt := c.2 }

/-- Profile of a controlled stop from where a plan stands t seconds after its start. -/
def planStop (p : Plan) (t : Rat) (m : Move) : Plan :=
  let q := p.after t
  { t0 := p.t0 + maxQ t 0, x0 := p.x0 + p.dir * q.1, dir := p.dir, v0 := q.2.1, a0 := q.2.2,
    segs := stopSegs q.2.1 q.2.2 m.dec m.jrk, tgt := none }

/-- Distance of a controlled stop. -/
def stopDist (v a dec j : Rat) : Rat :=
  let l := stopSegs v a dec j
  (segsAt l (segTime l) (0, v, a)).1

end Sys2Proof.Machine
end

