-- ==== Sys2Proof/Machine/Axis.lean ====
section
/-! DEFINITION. Stopping an axis (spec/11 R366, R380 to R382): what scan control, the fault reactions and the
commands share. -/

namespace Sys2Proof.Machine

def State.axis (s : State) (x : Nat) : Axis := tabGet {} s.cdr.axes x
def State.setAxis (s : State) (x : Nat) (a : Axis) : State :=
  { s with cdr := { s.cdr with axes := tabPut {} s.cdr.axes x a } }

/-- X: the integer part of the commanded position, rounded toward minus infinity (R359). -/
def Axis.x (a : Axis) : Int := a.pos.fdiv (2 ^ 32)

/-- The commanded position as an exact number of microsteps. -/
def Axis.posQ (a : Axis) : Rat := (a.pos : Rat) / (2 ^ 32 : Rat)

/-- A position held with 32 fraction bits (R359). -/
def holdPos (x : Rat) : Int := (x * 2 ^ 32).floor

def State.axisEn (s : State) (x : Nat) : Bool := (s.hdr (P.CDRx x)).en

/-- The group of an axis (R364). -/
def State.groupOfAxis (s : State) (x : Nat) : Option Nat :=
  let g := (s.reg R.CDRG_GRP).toNat / 2 ^ (4 * x) % 16
  if 8 ≤ g then some (g % 4) else none

def State.groupMembers (s : State) (g : Nat) : List Nat :=
  [0, 1, 2, 3].filter (fun x => s.groupOfAxis x == some g)

/-- The running group move an axis takes part in. -/
def State.groupRunOf (s : State) (x : Nat) : Option (Nat × GroupRun) :=
  s.cdr.groups.find? (fun (e : Nat × GroupRun) => e.2.members.any (fun (m : Nat × Int × Int) => m.1 == x))

/-- The axes that a stop of an axis stops (R366). -/
def State.stopSet (s : State) (x : Nat) : List Nat :=
  match s.groupRunOf x with
  | some (_, r) => r.members.map (fun (m : Nat × Int × Int) => m.1)
  | none => [x]

/-- The axis that scan control drives, while a Tracking job is armed (R394). -/
def State.scanAxis (s : State) : Option Nat :=
  if 2 ≤ s.ssc.st ∧ s.fld R.SSC_PMODE F.SSC_PMODE.MODE = 0 then some (s.fld R.MER_LSRC F.MER_LSRC.AXIS) else none

/-- Freeze one axis (R381). rel: the bridges are released whatever ISMODE says. Bridges that are released stay released
until a move starts (R370). -/
def State.freezeOne (s : State) (rel : Bool) (x : Nat) : State :=
  let a := s.axis x
  let r := rel || s.flag (R.CDRx_CFG x) F.CDRx_CFG.ISMODE ||
    (s.chr.safe && bit (s.fld R.CDRG_CTL F.CDRG_CTL.SAFEREL) x)
  let s := s.setAxis x { a with
    queue := [], cur := none, plan := none, st := 4, v := 0, waking := false, joint := false, decided := false,
    scale := 256, fallAt := none, held := false, restAt := s.now, outSince := none, unt := true, released := a.released || r }
  (s.evt (P.CDRx x) 10).setAttn 3

/-- An immediate stop of the scan axis pauses its Tracking job (R412), and ends pre-roll. -/
def State.scanFrozen (s : State) (xs : List Nat) : State :=
  match s.scanAxis with
  | some x =>
    if xs.contains x ∧ 3 ≤ s.ssc.st ∧ s.ssc.st ≤ 7 then
      let seam := s.ssc.seam || (s.ssc.st != 3 && s.fld (R.CDRx_GRID x) F.CDRx_GRID.SRC == 0)
      { s with ssc := { s.ssc with istopDue := true, istopAt := s.now, preArm := false, seam := seam } }
    else s
  | none => s

/-- An immediate stop of an axis, and with it of its running group move (R366, R381). -/
def State.freeze (s : State) (x : Nat) (rel : Bool) : State :=
  let xs := s.stopSet x
  let s := { s with cdr := { s.cdr with groups := match s.groupRunOf x with
    | some (g, _) => tabErase s.cdr.groups g
    | none => s.cdr.groups } }
  (foldS (fun (s : State) y => s.freezeOne (rel && y == x) y) s xs).scanFrozen xs

/-- The master of the motion an axis takes part in. -/
def State.masterOf (s : State) (x : Nat) : Nat :=
  match s.groupRunOf x with
  | some (_, r) => r.master
  | none => x

/-- A controlled stop during the wake delay (R374): X has not begun to change, so the move ends where it stands and the
next profile tick finds its axes at rest. -/
def State.wakeStop (s : State) (x : Nat) (xs : List Nat) : State :=
  let s := { s with cdr := { s.cdr with groups := match s.groupRunOf x with
    | some (g, _) => tabErase s.cdr.groups g
    | none => s.cdr.groups } }
  foldS (fun (s : State) y =>
    s.setAxis y { s.axis y with queue := [], cur := none, plan := none, st := 3, joint := false, waking := false }) s xs

/-- A controlled stop (R380): the queue is discarded and the axis, or its whole group move, slows to rest; the
profile tick that finds it at rest sets STOPPED. An axis that is at rest already reaches rest at once. -/
def State.cstop (s : State) (x : Nat) : State :=
  if (s.axis x).cur.isNone && (s.groupRunOf x).isNone && (s.axis x).st != 3 then
    (s.setAxis x { s.axis x with queue := [] }).evt (P.CDRx x) 9
  else
    let xs := s.stopSet x
    if xs.any (fun y => (s.axis y).waking) then s.wakeStop x xs
    else
      let m := s.masterOf x
      let am := s.axis m
      let am' := match am.plan, am.cur with
        | some p, some c => if am.st = 3 then am else { am with plan := some (planStop p (secs s.now - p.t0) c) }
        | _, _ => am
      foldS (fun (s : State) y =>
        let a := s.axis y
        s.setAxis y { a with queue := [], st := 3, joint := false }) (s.setAxis m am') xs

/-- Discard queued moves that have not started (R389). -/
def State.queueFlush (s : State) (x : Nat) : State := s.setAxis x { s.axis x with queue := [] }

end Sys2Proof.Machine
end

