-- ==== Sys2Proof/Machine/Grid.lean ====
section
/-! DEFINITION. Position grids (spec/03 R94, R95; spec/11 R385): the triggers a source gives as it passes grid points. -/

namespace Sys2Proof.Machine

/-- Index of the last grid point at or before a distance d in the forward direction, for a pitch in 16.16: point k
lies at floor(k × pitch / 65,536). -/
def pointAt (pitch : Nat) (d : Int) : Int := ((d + 1) * 65536 - 1).fdiv (pitch : Nat)

/-- Distance of grid point k from the anchor. -/
def pointPos (pitch : Nat) (k : Int) : Int := (k * (pitch : Nat)).fdiv 65536

/-- Put a trigger on its way to Meridian (R385); LINE_TRIGGER latches it. -/
def State.trigger (s : State) (t : Trig) : State := { s with mer := { s.mer with transit := s.mer.transit ++ [t] } }

/-- Grid pitch of an axis (R385). -/
def State.gridPitch (s : State) (x : Nat) : Nat :=
  let p := s.fld (R.CDRx_GPITCH x) F.CDRx_GPITCH.PITCH
  if p = 0 then 65536 else p

/-- Forward direction of an axis grid. -/
def State.gridDir (s : State) (x : Nat) : Int := if s.flag (R.CDRx_GRID x) F.CDRx_GRID.DIR then -1 else 1

/-- Value of the grid source: X or the encoder count. -/
def State.gridSource (s : State) (x : Nat) : Int :=
  if s.flag (R.CDRx_GRID x) F.CDRx_GRID.SRC then (s.axis x).count else (s.axis x).x

/-- Does the job still take line triggers (R395)? -/
def State.takesTriggers (s : State) : Bool := 3 ≤ s.ssc.st && s.ssc.st ≤ 8

/-- The grid source of the scan axis has changed: one trigger for each new point passed forward, and pre-roll
triggers for points reached before while pre-roll is armed (R385). -/
def State.gridMove (s : State) (x : Nat) : State :=
  match s.ssc.grid, s.scanAxis with
  | some g, some sx =>
    if sx ≠ x ∨ !s.takesTriggers then s
    else
      let v := s.gridSource x
      let dir := s.gridDir x
      let pitch := s.gridPitch x
      let k0 := pointAt pitch (dir * (g.prev - g.anchor - g.off))
      let k1 := pointAt pitch (dir * (v - g.anchor - g.off))
      let g' := { g with prev := v, far := if g.far < k1 then k1 else g.far }
      let tr (pre : Bool) : Trig := { line := 0, tick := s.now, pos := v, posSrc := 0, timer := false, preroll := pre }
      let s := { s with ssc := { s.ssc with grid := some g' } }
      if k1 ≤ k0 then s
      else
        let lastOld := if k1 ≤ g.far then k1 else g.far
        let pre := if s.ssc.preArm then (lastOld - k0).toNat else 0
        let new := (k1 - (if g.far < k0 then k0 else g.far)).toNat
        let s := forN pre (fun s _ => s.trigger (tr true)) s
        forN new (fun s _ => (s.trigger (tr false)).emit (60 + x)) s
  | _, _ => s

/-- Homing of axis x while it is the scan axis of a job with a grid: the grid positions are unpredictable from now on, and
the anchor and the furthest point stand (R386). -/
def State.gridLost (s : State) (x : Nat) : State :=
  match s.ssc.grid with
  | some g =>
    if s.scanAxis = some x ∧ 2 ≤ s.ssc.st then
      ({ s with ssc := { s.ssc with grid := some { g with off := toSigned 48 (s.free % 2 ^ 48) } } }).useFree
    else s
  | none => s

/-- The follow count has changed (R94, R95). Point k lies k × pitch / 65,536 counts from the anchor, and the count
passes it when it first reaches or exceeds that place (DEDUCED, notes/assumptions 40). -/
def State.followMove (s : State) : State :=
  if s.mer.fgridOn && s.takesTriggers then
    let pitch := let p := s.fld R.MER_FGRID_PITCH F.MER_FGRID_PITCH.PITCH; if p = 0 then 65536 else p
    let dir : Int := if s.flag R.MER_FGRID_CFG F.MER_FGRID_CFG.DIR then -1 else 1
    let k := (dir * (s.cdr.fcount - s.mer.fAnchor) * 65536).fdiv (pitch : Nat)
    if k ≤ (s.mer.fIndex : Nat) then s
    else
      let n := (k - (s.mer.fIndex : Nat)).toNat
      let tr : Trig := { line := 0, tick := s.now, pos := s.cdr.fcount, posSrc := 1, timer := false, preroll := false }
      let s := forN n (fun s _ => s.trigger tr) s
      { s with mer := { s.mer with fIndex := k.toNat } }
  else s

end Sys2Proof.Machine
end

