-- ==== Sys2Proof/Machine/Job.lean ====
section
/-! DEFINITION. The bookkeeping of a scan job that fault reactions and every block share (spec/12): lost line numbers,
gap runs, and the pauses of R412, R413, R416 to R418. -/

namespace Sys2Proof.Machine

def State.setSsc (s : State) (f : Ssc → Ssc) : State := { s with ssc := f s.ssc }
def State.setJob (s : State) (f : Job → Job) : State := s.setSsc (fun x => { x with job := f x.job })

/-- SSC_PMODE.MODE of the job: 0 Tracking, 1 Transit, 2 timer, 3 event. -/
def State.jobMode (s : State) : Nat := s.fld R.SSC_PMODE F.SSC_PMODE.MODE

/-- A job has started and not returned to IDLE: states 3 to 9 (R453). -/
def State.jobRuns (s : State) : Bool := 3 ≤ s.ssc.st

/-! ## Streams (R185, R188) -/

def osCfg (k : Nat) : Nat := R.PLTG_OSs_CFG k
def State.osEn (s : State) (k : Nat) : Bool := s.flag (osCfg k) F.PLTG_OSs_CFG.EN
def State.osCh (s : State) (k : Nat) : Nat := s.fld (osCfg k) F.PLTG_OSs_CFG.DMACH
def State.osFmt (s : State) (k : Nat) : Nat := let f := s.fld (osCfg k) F.PLTG_OSs_CFG.FMT; if 3 ≤ f then 0 else f

/-- A field that only format 0 uses; 0 in formats 1 and 2. -/
def State.osFld0 (s : State) (k : Nat) (f : Fld) : Nat := if s.osFmt k = 0 then s.fld (osCfg k) f else 0

/-- HBIN and VSUM codes; 3 is treated as 0. -/
def sumCode (v : Nat) : Nat := if v = 3 then 0 else v
def State.osV (s : State) (k : Nat) : Nat := sumCode (s.osFld0 k F.PLTG_OSs_CFG.VSUM)

/-- Lines of a group (R188). -/
def State.osLines (s : State) (k : Nat) : Nat := 2 ^ s.osV k

/-- The enabled streams. -/
def State.streams (s : State) : List Nat := [0, 1, 2, 3].filter s.osEn

/-! ## Lost line numbers (R415) -/

/-- Insert a number into a list of runs (first, count) in rising order, joining neighbours. -/
def runsAdd : List (Nat × Nat) → Nat → List (Nat × Nat)
  | [], n => [(n, 1)]
  | (f, c) :: l, n =>
    if n + 1 < f then (n, 1) :: (f, c) :: l
    else if n + 1 = f then (n, c + 1) :: l
    else if n < f + c then (f, c) :: l
    else if n = f + c then
      match l with
      | (f', c') :: l' => if f' = n + 1 then (f, c + 1 + c') :: l' else (f, c + 1) :: l
      | [] => [(f, c + 1)]
    else (f, c) :: runsAdd l n

/-- Is a number in one of the runs? -/
def runsHave (l : List (Nat × Nat)) (n : Nat) : Bool := l.any (fun (r : Nat × Nat) => r.1 ≤ n && n < r.1 + r.2)

/-- A 64-bit counter goes up. -/
def State.count64 (s : State) (a n : Nat) : State := s.setReg64 a (s.reg64 a + n)

/-- Line number n of the job is lost: it joins a gap run and SSC_LOST counts it. -/
def State.loseLine (s : State) (n : Nat) : State :=
  if s.jobRuns && !runsHave s.ssc.job.lost n then
    (s.setJob (fun j => { j with
      lost := runsAdd j.lost n
      owe := j.owe.filter (fun (o : Nat × Owe) => o.1 / 4 != n || s.osLines (o.1 % 4) != 1) })).count64 R.SSC_LOST 1
  else s

/-- A line that was captured or is being captured is dropped: what is known of it goes, and its number is lost. -/
def State.dropLine (s : State) (n : Nat) : State :=
  { s with lines := tabErase s.lines n, plt := { s.plt with rel := s.plt.rel.filter (fun x => x.line != n) } }.loseLine n

/-- No slot runs and no line waits to start: every line started has been captured. -/
def State.captureOver (s : State) : Bool :=
  s.mer.phase == .idle && s.mer.latch.isNone && s.lines.all (fun (l : Nat × LineInfo) => l.2.capDone || l.2.preroll)

/-! ## Pauses -/

/-- SSC_PEVT.STOP with what goes with it (R408, R422, R487). -/
def State.stopEvents (s : State) : State :=
  (((s.evt P.SSC 10).setAttn 2).emit 76).bump R.SSC_STOPS 1

/-- Step 1 of a Tracking stop (R408): a controlled stop of the scan axis. -/
def State.trackStop (s : State) : State :=
  let s := match s.scanAxis with
    | some x => s.cstop x
    | none => s
  (s.setSsc (fun j => { j with st := 4, preArm := false })).stopEvents

/-- A Transit, timer or event job enters PAUSED (R416 to R418): the latched trigger's number joins the gap run. -/
def State.pauseFree (s : State) : State :=
  let s := s.setSsc (fun j => { j with st := 8, pauseF := true })
  match s.mer.latch with
  | some t =>
    let s := { s with mer := { s.mer with latch := none } }
    if t.preroll then s else s.loseLine t.line
  | none => s

/-- A Major fault pauses the job once; RESUME waits for every one (R392, R413, R416, R418, R524). In WAIT the job is
paused at once, and in PREROLL it stops as from RUNNING (DESIGN CHOICE, notes/assumptions 44). -/
def State.pauseJob (s : State) (code item : Nat) : State :=
  if 3 ≤ s.ssc.st ∧ s.ssc.st ≤ 8 then
    let l := s.ssc.pausers.filter (fun p => p != (code, item)) ++ [(code, item)]
    let s := s.setSsc (fun j => { j with pausers := l })
    if s.jobMode = 0 then
      if s.ssc.istopDue then s.setSsc (fun j => { j with pauseF := true })
      else
        match s.ssc.st with
        | 3 => (s.setSsc (fun j => { j with pauseF := true, pauseDue := true })).trackStop
        | 7 => (s.setSsc (fun j => { j with pauseF := true, pauseDue := true })).trackStop
        | 6 => s.setSsc (fun j => { j with pauseF := true, st := 8, istopped := false })
        | 8 => s
        | _ => s.setSsc (fun j => { j with pauseF := true, pauseDue := true })
    else if s.ssc.st = 3 then s.pauseFree
    else s
  else s

end Sys2Proof.Machine
end

