-- ==== Sys2Proof/Machine/Reactions.lean ====
section
/-! DEFINITION. The reaction of a Major fault beyond its logging (spec/16 R519, R520): it pauses a job. Safe state, the
reaction of a Critical fault, stands in Safe.lean; every other reaction stands with the step that raises the fault. -/

namespace Sys2Proof.Machine

/-- Under ROW_OFF a running job continues (R260). -/
def State.react (s : State) (sev code item : Nat) : State := if sev = 2 ∧ code ≠ 0x0901 then s.pauseJob code item else s

end Sys2Proof.Machine
end

