-- ==== Sys2Proof/Machine/Faults.lean ====
section
/-! DEFINITION. Raising, logging and merging a fault (R518 to R527). -/

namespace Sys2Proof.Machine

/-- Fault codes, severities (0 Notice, 1 Degraded, 2 Major, 3 Critical) and ATTN category bits (R520). -/
def faultTable : List (Nat × Nat × Option Nat) :=
  [ (0x0201, 2, none), (0x0801, 1, none), (0x0802, 0, none), (0x0901, 2, some 4), (0x0902, 2, some 4),
    (0x0903, 0, none), (0x0904, 0, none), (0x0A01, 1, some 4), (0x0A02, 1, some 4), (0x0A03, 0, none) ] ++
  [ (0x0A04, 1, some 4), (0x0B01, 0, none), (0x0C01, 1, some 5), (0x0C02, 1, none), (0x0D01, 1, some 5),
    (0x0D02, 1, some 5), (0x0E01, 1, none), (0x0E02, 1, none), (0x0E03, 0, none), (0x1001, 2, some 3) ] ++
  [ (0x1101, 2, some 3), (0x1102, 2, some 3), (0x1103, 2, some 3), (0x1104, 0, some 3), (0x1301, 1, some 2),
    (0x1302, 2, some 2), (0x1501, 2, some 2), (0x1502, 1, some 2), (0x1601, 1, none), (0x1701, 1, none) ] ++
  [ (0x1801, 1, some 6), (0x1802, 1, some 6), (0x1803, 1, some 6), (0x1804, 3, none), (0x1901, 1, some 1),
    (0x1902, 0, some 1), (0x1A01, 3, none), (0x1A02, 3, none) ]

/-- Severity of a code. -/
def faultSev (code : Nat) : Nat :=
  match tabFind faultTable code with
  | some (sv, _) => sv
  | none => 0

/-- ATTN category bit of a code. -/
def faultAttn (code : Nat) : Option Nat :=
  match tabFind faultTable code with
  | some (_, b) => b
  | none => none

/-- Instance of the page that raises a code for an item (R518): the column island of a lamp or column fault, the axis,
the DMA channel; 0 for pages of one instance. -/
def faultInst (code item : Nat) : Nat :=
  if code = 0x0A04 then item / 8
  else if code / 256 = 0x0A then item % 64 / 8
  else if code / 256 = 0x11 then item
  else if code / 256 = 0x15 then item
  else 0

/-- Base of the page with a block code and instance (R35). -/
def pageOfBlock : List (PageKind × Nat × Nat × Nat) → Nat → Nat → Nat
  | [], _, _ => 0
  | (_, b, base, _) :: l, blk, n => if b = blk then base + n * 0x1000 else pageOfBlock l blk n

def faultPage (code item : Nat) : Nat := pageOfBlock pageTable (code / 256) (faultInst code item)

/-- A code and item is unacknowledged (R522). -/
def State.isUnack (s : State) (code item : Nat) : Bool := s.chr.unack.any (fun u => u.1 == code && u.2.1 == item)

/-- Any item of a code is unacknowledged. -/
def State.codeUnack (s : State) (code : Nat) : Bool := s.chr.unack.any (fun u => u.1 == code)

/-- The lowest free entry of 0 to 47, or none (R526). -/
def freeEntry (log : List (Nat × LogEntry)) : Option Nat :=
  (List.range 48).find? (fun i => (tabFind log i).isNone)

/-- The unacknowledged entry of a code and item (R525). -/
def openEntry (log : List (Nat × LogEntry)) (code item : Nat) : Option (Nat × LogEntry) :=
  log.find? (fun e => e.2.code == code && e.2.item == item && !e.2.ack)

/-- Place a new entry (R526). -/
def State.logNew (s : State) (e : LogEntry) : State :=
  match freeEntry s.chr.log with
  | some i => { s with chr := { s.chr with log := tabIns s.chr.log i e } }.evt P.CHR 8
  | none =>
    let w := s.chr.wptr
    let taken := (tabFind s.chr.log w).isSome
    let s' := { s with chr := { s.chr with log := tabIns s.chr.log w e, wptr := if w = 63 then 48 else w + 1 } }
    let s' := if taken then (s'.bump R.CHR_LOGOVF 1).evt P.CHR 13 else s'
    s'.evt P.CHR 8

/-- Log or merge an occurrence (R525, R526). -/
def State.logFault (s : State) (code item line : Nat) : State :=
  match openEntry s.chr.log code item with
  | some (i, e) =>
    { s with chr := { s.chr with log := tabIns s.chr.log i { e with count := min (e.count + 1) 65535, tlast := s.ts } } }
  | none =>
    s.logNew { tfirst := s.ts, tlast := s.ts, line := line, code := code, sev := faultSev code, ack := false,
               inst := faultInst code item, count := 1, item := item }

/-- Note that a fault is raised in this nanosecond. -/
def State.noteFault (s : State) (code item : Nat) : State :=
  let l := if s.chr.roseAt = s.now / 1000 then s.chr.rose else []
  { s with chr := { s.chr with rose := (code, item) :: l, roseAt := s.now / 1000 } }

/-- A fault was raised in this nanosecond: a write of CHR_ACK in it leaves the fault unacknowledged (R522). -/
def State.justRose (s : State) (code item : Nat) : Bool := s.chr.roseAt == s.now / 1000 && s.chr.rose.contains (code, item)

/-- The bookkeeping of a fault: log, unacknowledged state, PFAULT of the raising page, ATTN (R518, R519, R525). -/
def State.recordFault (s : State) (code item line : Nat) : State :=
  let p := faultPage code item
  let s1 := (s.noteFault code item).logFault code item line
  let s2 := if s1.isUnack code item then s1
    else { s1 with chr := { s1.chr with unack := s1.chr.unack ++ [(code, item, faultSev code)] } }
  let s3 := s2.setHdr p { s2.hdr p with pfault := BitVec.ofNat 32 (faultSev code * 65536 + code) }
  let s4 := s3.evt p 0
  let s5 := match faultAttn code with
    | some b => { s4 with attnL := s4.attnL ||| 2 ^ b }
    | none => s4
  s.attnIrq s5

/-- Raise a fault about a given line (R515): bookkeeping, producer 79 for a Major or Critical one
(R487), then its reaction. -/
def State.faultLine (s : State) (code item line : Nat) : State :=
  ((s.recordFault code item line).when (decide (2 ≤ faultSev code)) (fun s => s.emit 79)).react (faultSev code) code item

/-- Raise a fault; its LINE is the line counter (R527). -/
def State.fault (s : State) (code item : Nat) : State := s.faultLine code item s.chr.line

end Sys2Proof.Machine
end

