-- ==== Sys2Proof/Machine/Acq.lean ====
section
/-! DEFINITION. Acquisition channels, spares and the sample fabric (spec/04). Channel c is primary c for c below 256
and spare c − 256 otherwise. -/

namespace Sys2Proof.Machine

def State.ch (s : State) (c : Nat) : AcqCh := tabGet {} s.acq.chans c
def State.setCh (s : State) (c : Nat) (x : AcqCh) : State :=
  { s with acq := { s.acq with chans := tabPut {} s.acq.chans c x } }
def State.spare (s : State) (g : Nat) : Spare := tabGet {} s.acq.spares g
def State.setSpare (s : State) (g : Nat) (x : Spare) : State :=
  { s with acq := { s.acq with spares := tabPut {} s.acq.spares g x } }

/-- Bank of an acquisition channel (chapter 03, Sample points). -/
def bankOf (c : Nat) : Nat := if c < 256 then c / 64 else (c - 256) / 4

/-- Register addresses of primary c. -/
def cfgOf (c : Nat) : Nat := R.ACQn_CHk_CFG (c / 4) (c % 4)
def pedOf (c : Nat) : Nat := R.ACQn_CHk_PED (c / 4) (c % 4)
def mapOf (c : Nat) : Nat := R.ACQn_CHk_MAP (c / 4) (c % 4)
def statOf (c : Nat) : Nat := R.ACQn_CHk_STAT (c / 4) (c % 4)

/-- The spare's present configuration parks its target: fixed substitution for primary c (R146). -/
def State.fixedFor (s : State) (c : Nat) : Bool :=
  let g := c / 16
  let sp := s.spare g
  sp.nextPos == 4 && sp.nextTgt == c % 16

/-- Primary c is enabled and in a converting mode (R141, R143; MODE 0b10 is treated as parked), and its sensor bank is
powered (R559). -/
def State.primOn (s : State) (c : Nat) : Bool :=
  s.flag (cfgOf c) F.ACQn_CHk_CFG.EN && decide (s.fld (cfgOf c) F.ACQn_CHk_CFG.MODE ≤ 1) &&
  bit (s.fld R.PWR_STAT F.PWR_STAT.VSOK) (bankOf c)

/-- The range primary c converts with: 6 and 7 need a class 1 bank (R112, R113). -/
def State.rangeClamped (s : State) (c : Nat) : Bool :=
  decide (6 ≤ s.fld (cfgOf c) F.ACQn_CHk_CFG.RANGE) &&
  !bit (s.fld R.ACQG_VCLASS F.ACQG_VCLASS.CLASS) (bankOf c)

def State.rangeOf (s : State) (c : Nat) : Nat :=
  if s.rangeClamped c then 5 else s.fld (cfgOf c) F.ACQn_CHk_CFG.RANGE

/-- Primary c's input goes to the reference DAC at this line boundary: the primary sweeps of its rotation step (R300). -/
def State.primOnDac (s : State) (c : Nat) : Bool := s.col.ch == some c && s.col.phase == 5

/-- A sample point of channel c: the skew of its bank, the base and its own signed offset, within 0 to 1,023 taps (R102). -/
def State.samplePoint (s : State) (c : Nat) (base off : Fld) : Nat :=
  let skew := s.fld R.MER_BSKEW (8 * bankOf c + 7, 8 * bankOf c)
  (sat ((skew : Int) + s.fld R.MER_SAMP base + toSigned 12 (s.fld (R.MER_SPOFFc c) off)) 0 1023).toNat

def State.rspAt (s : State) (c : Nat) : Nat := s.samplePoint c F.MER_SAMP.RSPBASE F.MER_SPOFFc.RSPOFF
def State.vspAt (s : State) (c : Nat) : Nat := s.samplePoint c F.MER_SAMP.VSPBASE F.MER_SPOFFc.VSPOFF

/-- Settings primary c takes at a line boundary (R123). -/
def State.primSet (s : State) (c : Nat) : ChSet :=
  { on := s.primOn c && !s.fixedFor c
    mode := s.fld (cfgOf c) F.ACQn_CHk_CFG.MODE
    pol := s.fld (cfgOf c) F.ACQn_CHk_CFG.POL
    range := s.rangeOf c
    ped := s.fld (pedOf c) F.ACQn_CHk_PED.PED
    rspOff := s.fld (R.MER_SPOFFc c) F.MER_SPOFFc.RSPOFF
    vspOff := s.fld (R.MER_SPOFFc c) F.MER_SPOFFc.VSPOFF
    rsp := s.rspAt c
    vsp := s.vspAt c
    en := s.flag (cfgOf c) F.ACQn_CHk_CFG.EN
    ball := if s.primOnDac c then none else some c
    dac := s.primOnDac c }

/-- Settings spare g takes at a line boundary: those of the primary it serves, with its own offsets; the spare of a parked
primary converts nothing (R145). On the reference DAC it takes those of its latest target (DESIGN CHOICE,
notes/assumptions 98). -/
def State.spareSet (s : State) (g : Nat) : ChSet :=
  let sp := s.spare g
  let p := 16 * g + sp.nextTgt
  { on := sp.nextPos != 0 && decide (s.fld (cfgOf p) F.ACQn_CHk_CFG.MODE ≤ 1)
    mode := s.fld (cfgOf p) F.ACQn_CHk_CFG.MODE
    pol := s.fld (cfgOf p) F.ACQn_CHk_CFG.POL
    range := s.rangeOf p
    ped := s.fld (pedOf p) F.ACQn_CHk_PED.PED
    rspOff := s.fld (R.MER_SPOFFc (256 + g)) F.MER_SPOFFc.RSPOFF
    vspOff := s.fld (R.MER_SPOFFc (256 + g)) F.MER_SPOFFc.VSPOFF
    rsp := s.rspAt (256 + g)
    vsp := s.vspAt (256 + g)
    en := sp.nextPos != 0
    ball := if 2 ≤ sp.nextPos then some p else none
    dac := sp.nextPos == 1 }

/-- WARM lines: started when EN has become 1 or a substitution has ended, counted down at line boundaries (R142). -/
def warmStep (x : AcqCh) (on : Bool) : AcqCh :=
  if !on then { x with warmLeft := 0, warmDue := false }
  else if x.warmDue then { x with warmLeft := 4, warmDue := false }
  else { x with warmLeft := x.warmLeft - 1 }

/-- Registers that show a primary's WARM state. -/
def State.showWarm (s : State) (c : Nat) : State :=
  let x := s.ch c
  (s.setFld (statOf c) F.ACQn_CHk_STAT.WARMLEFT x.warmLeft).setFlag (statOf c) F.ACQn_CHk_STAT.WARM (x.warmLeft != 0)

/-- Primary c at a line boundary: new settings held, WARM counted, clamped ranges counted. -/
def State.primBoundary (s : State) (c : Nat) : State :=
  let st := s.primSet c
  let x := warmStep (s.ch c) st.on
  let x := { x with next := st }
  let s1 := (s.setCh c x).showWarm c
  s1.when (st.on && s.rangeClamped c) (fun s => (s.bump R.ACQG_RCLAMP 1).evt P.ACQG 10)

def State.spareBoundary (s : State) (g : Nat) : State :=
  let x := s.ch (256 + g)
  s.setCh (256 + g) { x with next := s.spareSet g }

/-- The acquisition islands at a line boundary (R123, R141, R142): hold the settings for the readout boundary. -/
def State.acqLine (s : State) : State :=
  let s1 := forN 16 State.spareBoundary (forN 256 State.primBoundary s)
  { s1 with acq := { s1.acq with switchDue := true } }

/-- Any primary is in a WARM line (R194). -/
def State.anyWarm (s : State) : Bool := s.acq.chans.any (fun c => c.1 < 256 && c.2.warmLeft != 0)

/-- Channel c's filtered clamp levels start afresh at its next exposure (R165). -/
def State.clearLevels (s : State) (c : Nat) : State :=
  { s with plt := { s.plt with level := tabKeep (fun k => k / 17 != c) s.plt.level } }

/-- Registers that report channel c's latest check (R133, R134). -/
def State.showWire (s : State) (c : Nat) (fail : Bool) : State :=
  let m := R.ACQG_WIREMAPi (c / 32)
  let s1 := s.setFld m (c % 32, c % 32) fail.toNat
  let s2 := if c < 256 then s1.setFlag (statOf c) F.ACQn_CHk_STAT.WIRE fail
    else s1.setFlag (R.SPR_SPg_STAT (c - 256)) F.SPR_SPg_STAT.WIRE fail
  s2.setFld R.ACQG_STAT F.ACQG_STAT.WIRECNT (s2.acq.chans.countP (fun x => x.2.wire))

/-- A disabled primary forgets its latest check (R143). -/
def State.wireForget (s : State) (c : Nat) : State :=
  s.when (decide (c < 256) && (s.ch c).wire && !s.flag (cfgOf c) F.ACQn_CHk_CFG.EN)
    (fun s => (s.setCh c { s.ch c with wire := false }).showWire c false)

/-- Channel c switches to the held settings; its status shows them (R123, R143, R150). -/
def State.switchCh (s : State) (c : Nat) : State :=
  let x := s.ch c
  let moved := if c < 256 then x.cur.en != x.next.en
    else (s.spare (c - 256)).pos != (s.spare (c - 256)).nextPos || (s.spare (c - 256)).tgt != (s.spare (c - 256)).nextTgt
  let s1 := ((s.setCh c { x with cur := x.next }).when moved (fun s => s.clearLevels c)).wireForget c
  if c < 256 then
    let g := c / 16
    let sp := s.spare g
    let sub := (sp.nextPos == 3 || sp.nextPos == 4) && sp.nextTgt == c % 16
    ((((s1.setFld (statOf c) F.ACQn_CHk_STAT.RANGE x.next.range).setFlag (statOf c) F.ACQn_CHk_STAT.INCAL x.next.dac).setFlag
      (statOf c) F.ACQn_CHk_STAT.ACTIVE x.next.on).setFlag (statOf c) F.ACQn_CHk_STAT.SUBST sub)
  else s1

/-- Spare g's position follows the readout boundary (R150). -/
def State.switchSpare (s : State) (g : Nat) : State :=
  let sp := s.spare g
  let s1 := s.setSpare g { sp with pos := sp.nextPos, tgt := sp.nextTgt }
  (s1.setFld (R.SPR_SPg_STAT g) F.SPR_SPg_STAT.POS sp.nextPos).setFld (R.SPR_SPg_STAT g) F.SPR_SPg_STAT.TGT sp.nextTgt

/-- The readout boundary of the line (R122, R123, R144). -/
def State.acqReadout (s : State) : State :=
  if s.acq.switchDue then
    let s1 := forN 16 State.switchSpare (forN 272 State.switchCh s)
    { s1 with acq := { s1.acq with switchDue := false } }
  else s

/-! ## Conversion (R111 to R116, R125, R126) -/

/-- Low-gain full scale in µV of a coarse range (R112). -/
def fullScale (range : Nat) : Int :=
  match range with
  | 0 => 250000 | 1 => 500000 | 2 => 750000 | 3 => 1000000
  | 4 => 1500000 | 5 => 2000000 | 6 => 3000000 | _ => 4000000

/-- The ideal code before clipping, plus a deviation (R111). high: the high-gain path, one sixteenth of the range. -/
def rawCode (st : ChSet) (high : Bool) (p n dev : Int) : Int :=
  let sgn : Int := if st.pol = 0 then 1 else -1
  let g : Int := if high then 16 else 1
  let fs := fullScale st.range
  if st.mode = 1 then roundAway (32768 * sgn * (p - n) * g) fs + dev
  else roundAway (65536 * sgn * (p - (st.ped : Int) * 1250) * g) fs + dev

/-- A conversion: the clipped code and its over-range flag (R111, R116). -/
def convert (st : ChSet) (high : Bool) (p n dev : Int) (clip opn : Bool) : Conv :=
  let lo : Int := if st.mode = 1 then -32768 else 0
  let hi : Int := if st.mode = 1 then 32767 else 65535
  let code := sat (rawCode st high p n dev) lo hi
  { code := code, ovr := clip || decide (code = lo) || decide (code = hi), opn := opn }

/-- The fabric word (R125). -/
def fabricWord (x : Conv) (kind slot pix : Nat) (spare : Bool) (seq : Nat) : FabricWord :=
  BitVec.ofNat 40 (ofSigned 16 x.code * 2 ^ 24 + kind * 2 ^ 22 + slot * 2 ^ 17 + pix * 2 ^ 7 +
    x.opn.toNat * 64 + x.ovr.toNat * 32 + spare.toNat * 16 + seq)

/-- The primary whose pixel map, and whose count of periods, channel c uses (R137, R138). -/
def State.mapPrim (s : State) (c : Nat) : Nat :=
  if c < 256 then c else 16 * (c - 256) + (s.spare (c - 256)).tgt

/-- Periods in which channel c sends words: optical black, and pixel periods below COUNT and PIXPER (R126, R138). -/
def State.periodOk (s : State) (c : Nat) (j : Int) : Bool :=
  let ob : Int := s.fld R.MER_OVH F.MER_OVH.OB
  let cnt := min (s.fld (mapOf (s.mapPrim c)) F.ACQn_CHk_MAP.COUNT) (s.fld R.MER_SLOT F.MER_SLOT.PIXPER)
  decide (-ob ≤ j) && decide (j < (cnt : Int))

/-- PIX of period j (R126). -/
def pixOf (j : Int) : Nat := if 0 ≤ j then j.toNat else (1024 + j).toNat

/-- The four words of one period in the order reset/high, reset/low, signal/high, signal/low (R115). -/
def convWords (st : ChSet) (x : ConvIn) (opn spare : Bool) (e : Exposure) : List (Conv × FabricWord) :=
  let d (i : Nat) : Int := (x.dev[i]?).getD 0
  let k (i : Nat) : Bool := (x.clip[i]?).getD false
  let rh := convert st true x.rp x.rn (d 0) (k 0) opn
  let rl := convert st false x.rp x.rn (d 1) (k 1) opn
  let sh := convert st true x.sp x.sn (d 2) (k 2) opn
  let sl := convert st false x.sp x.sn (d 3) (k 3) opn
  let w (v : Conv) (kind : Nat) := (v, fabricWord v kind e.band (pixOf x.period) spare (e.line % 16))
  [w rh 0, w rl 2, w sh 1, w sl 3]

/-- CONVERSION (R82, R114, R115, R116): channel c converts one period of the readout in hand. -/
def execConversion (c : Nat) (x : ConvIn) (s : State) : Host.Outcome State Fault Refusal :=
  match s.mer.readout with
  | none => .next s
  | some e =>
    let ch := s.ch c
    if decide (c < 272) && ch.cur.on && s.periodOk c x.period then
      let ws := convWords ch.cur x ch.wire (decide (256 ≤ c)) e
      let ovrHit := (ws[3]?).any (fun w => w.1.ovr)
      let s1 := s.setCh c { ch with fabric := ch.fabric ++ ws.map (·.2) }
      let cnt := if c < 256 then R.ACQn_CHk_ORCNT (c / 4) (c % 4) else R.SPR_SPg_ORCNT (c - 256)
      .next (s1.when ovrHit (fun s => s.bump cnt 1))
    else .next s

/-! ## Wire check (R128, R130 to R136) -/

/-- Channel c checks a ball in this slot (R132). -/
def State.checks (s : State) (c : Nat) : Bool :=
  let x := (s.ch c).cur
  if c < 256 then x.on && x.ball == some c
  else
    match x.ball with
    | none => false
    | some p => x.on && !((s.ch p).cur.on && (s.ch p).cur.ball == some p)

/-- One ball fails (R130): pulled toward VSENSb (up) or toward ground, it stood at v0 and stands at v1, in µV. -/
def State.ballFails (s : State) (up : Bool) (vsens v0 v1 : Int) : Bool :=
  let thr := max 1 (s.fld R.ACQG_WCK F.ACQG_WCK.THR)
  let move := if up then v1 - v0 else v0 - v1
  let rail := if up then vsens - v1 else v1
  decide ((thr : Int) * 4000 ≤ move) || decide (rail ≤ (s.fld R.ACQG_WCK F.ACQG_WCK.RAIL : Int) * 4000)

/-- The check fails (R130, R136): VIN_P is pulled in direction DIR, VIN_N of a differential channel in the opposite one
(R131). -/
def State.checkFails (s : State) (c : Nat) (x : WireIn) : Bool :=
  s.flag R.ACQG_WCK F.ACQG_WCK.EN &&
  (s.ballFails (s.flag R.ACQG_WCK F.ACQG_WCK.DIR) x.vsens x.p0 x.p1 ||
    ((s.ch c).cur.mode == 1 && s.ballFails (!s.flag R.ACQG_WCK F.ACQG_WCK.DIR) x.vsens x.n0 x.n1))

/-- SEQ of a check word (R128). -/
def State.checkSeq (s : State) : Nat :=
  match s.mer.readout with
  | some e => e.line % 16
  | none => s.mer.line % 16

/-- The slot in hand has wire-check periods: an exposure, tail, purge or flush slot (R83). -/
def State.slotRuns (s : State) : Bool := s.mer.phase == .exposure || s.mer.phase == .tail || s.mer.phase == .flush

/-- End of the wire-check periods of the slot in hand (R81). -/
def State.checkAt (s : State) : Nat :=
  (s.pclkAfter s.mer.slotAt s.mer.slotFr (s.fld R.MER_OVH F.MER_OVH.XFER + s.fld R.MER_OVH F.MER_OVH.OB +
    s.fld R.MER_SLOT F.MER_SLOT.PIXPER + s.fld R.MER_OVH F.MER_OVH.WC)).1

/-- Channel c may judge its ball now: once a slot, and not after the end of its wire-check periods (R83, R130, R132). -/
def State.checkDue (s : State) (c : Nat) : Bool :=
  decide (c < 272) && s.checks c && s.slotRuns && (s.ch c).checked != s.mer.boundary && decide (s.now ≤ s.checkAt)

/-- Channel c judges its ball and sends its check word, at the end of the slot's wire-check periods (R81, R83, R128, R130
to R136). -/
def State.wireCheck (c : Nat) (x : WireIn) (s : State) : State :=
  if s.checkDue c then
    let s := s.upto s.checkAt
    let fail := s.checkFails c x
    let ch := { s.ch c with checked := s.mer.boundary }
    let w := fabricWord { code := 0, opn := fail } 0 31 0 (decide (256 ≤ c)) s.checkSeq
    let s1 := (s.setCh c { ch with wire := fail, fabric := ch.fabric ++ [w] }).showWire c fail
    let cnt := if c < 256 then R.ACQn_CHk_WCKCNT (c / 4) (c % 4) else R.SPR_SPg_WCKCNT (c - 256)
    let s2 := s1.when fail (fun s => s.bump cnt 1)
    let s3 := s2.evtIf (fail && !ch.wire) P.ACQG 8
    s3.evtIf (!fail && ch.wire) P.ACQG 9
  else s

/-! ## Power of the cores (R119, R120, R154) -/

/-- CORES_SETTLED (R120): the cores have reached full rate. -/
def execCoresSettled (t : Nat) (s : State) : Host.Outcome State Fault Refusal :=
  if s.acq.power = 2 then .next ((s.upto t).setCores 3) else .next s

end Sys2Proof.Machine
end

