-- ==== Sys2Proof/Machine/Fft.lean ====
section
/-! DEFINITION. Flat-field banks, the dark tracker, their protection, switches and calibration runs (spec/06), and
the BAR2 windows (spec/02 R37 to R41). -/

namespace Sys2Proof.Machine

/-! ## Windows of BAR2 (R37, R38) -/

def npix : Nat := 163840
def flatA : Nat := 0x0000000
def flatB : Nat := 0x1400000
def darkBase : Nat := 0x2940000

/-- BAR2 address of entry i of a bank (R201). -/
def flatAddr (bank i : Nat) : Nat := (if bank = 0 then flatA else flatB) + i * 8
def darkAddr (p : Nat) : Nat := darkBase + p * 4

/-- An address that names no table location: it reads 0 and a write to it is ignored and counted (R40, and the
reserved ranges of R235, R367, chapter 05 and chapter 10). -/
def tabReserved (a : Nat) : Bool :=
  decide (0x29E0000 ≤ a) ||
  (decide (0x2904000 ≤ a) && decide (a < 0x2910000)) ||
  (decide (0x2914000 ≤ a) && decide (a < 0x2920000)) ||
  (decide (0x2934000 ≤ a) && decide (a < 0x2938000)) ||
  (decide (0x2938400 ≤ a) && decide (a < 0x2940000)) ||
  (decide (0x2800000 ≤ a) && decide (a < 0x2900000) && decide (0x6000 ≤ a % 0x8000))

/-- Writable bits of a photometer window entry's word at offset o (R339, R340). -/
def windowMask (o : Nat) : Nat :=
  if o = 0 then 0xFF03FFFF else if o = 4 then 0x3FFFF else if o = 8 then 0x0FFFFFFF else if o = 12 then 0xFFFFFF else 0

/-- Bits of the 32-bit word at a that exist (R38 and the entry layouts). -/
def tabMask (a : Nat) : Nat :=
  if a < 0x2800000 then (if a % 8 = 4 then 0xFF else 0xFFFFFFFF)
  else if 0x2900000 ≤ a ∧ a < 0x2904000 then
    match a % 16 with
    | 0 => 0xFFFF03FF
    | 4 => 0x0007FFFF
    | 8 => 0x000003FF
    | _ => 0x00FFFFFF
  else if 0x2910000 ≤ a ∧ a < 0x2914000 then 0x0FFF0FFF
  else if 0x2938000 ≤ a ∧ a < 0x2938400 then 0x000FFFFF
  else if darkBase ≤ a ∧ a < 0x29E0000 then 0x000FFFFF
  else if 0x2920000 ≤ a ∧ a < 0x2930000 then windowMask (a % 64)
  else 0xFFFFFFFF

/-- Location of a protected entry: its first address, or none outside the banks and the tracker. -/
def entryOf (a : Nat) : Option Nat :=
  if a < 0x2800000 then some (a / 8 * 8)
  else if darkBase ≤ a ∧ a < 0x29E0000 then some (a / 4 * 4)
  else none

/-- SPACE and INDEX of a protected entry (FFT_ECCADDR). -/
def entrySpace (e : Nat) : Nat := if e < flatB then 0 else if e < 0x2800000 then 1 else 2
def entryIndex (e : Nat) : Nat :=
  if e < flatB then e / 8 else if e < 0x2800000 then (e - flatB) / 8 else (e - darkBase) / 4
def entryBytes (e : Nat) : Nat := if e < 0x2800000 then 8 else 4

/-! ## ECC (R213, R214) -/

def State.isBad (s : State) (e : Nat) : Bool := (tabFind s.fft.bad e).isSome

/-- Whether a bank is in use: the active one, and both during a blend. -/
def State.inUse (s : State) (space : Nat) : Bool := space == 2 || s.fft.blend || space == s.fft.active

/-- An uncorrectable error has been read: counted, recorded, raised (R213). -/
def State.eccUncorrectable (s : State) (e : Nat) : State :=
  let sp := entrySpace e
  let s1 := (s.bump R.FFT_ECCUCNT 1).setReg R.FFT_ECCADDR (BitVec.ofNat 32 (sp * 2 ^ 30 + entryIndex e))
  (s1.evt P.FFT 11).fault (if s.inUse sp then 0x0801 else 0x0802) sp

/-- Soft errors that struck an entry before this read: a single-bit error is corrected, counted and written back; a
double-bit error leaves flipped stored bits and an uncorrectable entry. -/
def State.strike (s : State) (e : Nat) (u : Upset) : State :=
  if u.entry != e then s
  else if u.double then
    let n := entryBytes e
    let s1 := s.store e n (s.load e n ^^^ u.mask)
    { s1 with fft := { s1.fft with bad := tabIns s1.fft.bad e true } }
  else if s.isBad e then s
  else (s.bump R.FFT_ECCCNT 1).evt P.FFT 10

/-- Read a protected entry: soft errors first, then the report of an uncorrectable one (R213). -/
def State.readEntry (s : State) (u : List Upset) (e : Nat) : State :=
  let s1 := foldS (fun s u => s.strike e u) s u
  s1.when (s1.isBad e) (fun s => s.eccUncorrectable e)

/-- Write a protected entry: new check bits, so it is no longer uncorrectable (R214). -/
def State.writeEntry (s : State) (e v : Nat) : State :=
  let n := entryBytes e
  let m := if n = 8 then 2 ^ 40 else 2 ^ 20
  let s1 := s.store e n (v % m)
  { s1 with fft := { s1.fft with bad := tabErase s1.fft.bad e } }

/-- The host writes an entry; one of the pending bank during a copy or run is noted (R210). -/
def State.hostEntry (s : State) (e v : Nat) : State :=
  let busy := (s.fft.calBusy || s.fft.copyBusy) && entrySpace e == 1 - s.fft.active
  (s.writeEntry e v).when busy (fun s => { s with fft := { s.fft with mixed := tabIns s.fft.mixed e (v % 2 ^ 40) } })

/-- A copy or run has written the pending bank: an entry that the host wrote meanwhile holds the one value or the other,
and a free value says which (R210). -/
def State.mixEntries (s : State) : State :=
  let s1 := foldS (fun s (x : Nat × Nat) =>
    (if s.free % 2 = 0 then s.writeEntry x.1 x.2 else s).useFree) s s.fft.mixed
  { s1 with fft := { s1.fft with mixed := [] } }

/-! ## Table accesses (R33, R38 to R41) -/

/-- The word at a as a read returns it. -/
def State.tabWord (s : State) (a : Nat) : Nat := if tabReserved a then 0 else s.load a 4 % 2 ^ 32

/-- A write of a dark tracker entry replaces the committed value and discards a held update (R218). -/
def State.writeDark (s : State) (a v : Nat) : State :=
  let s1 := s.writeEntry a v
  { s1 with
    fft := { s1.fft with hold := tabErase s1.fft.hold (entryIndex a) }
    plt := { s1.plt with uses := s1.plt.uses.map (fun (u : Nat × LineUse) =>
      (u.1, { u.2 with tOld := tabErase u.2.tOld (entryIndex a) })) } }

/-- A write of one 32-bit table word (R38, R39, R41). -/
def State.tabWrite32 (s : State) (link a v : Nat) : State :=
  let v := v % 2 ^ 32
  if tabReserved a then s.ignored link 1 2 a
  else if a < 0x2800000 then
    let e := a / 8 * 8
    if a % 8 = 0 then { s with holdTab := tabIns s.holdTab e (BitVec.ofNat 32 v) }
    else
      let lo := match tabFind s.holdTab e with
        | some w => w.toNat
        | none => s.load e 4
      let s1 := { s with holdTab := tabErase s.holdTab e }
      s1.hostEntry e (lo + v * 2 ^ 32)
  else if darkBase ≤ a then s.writeDark a v
  else if 0x2920000 ≤ a ∧ a < 0x2930000 ∧ 0x10 ≤ a % 64 then s
  else s.store a 4 (v &&& tabMask a)

/-- A write of one aligned 64-bit table word, atomic (R33). -/
def State.tabWrite64 (s : State) (link a v : Nat) : State :=
  if tabReserved a then s.ignored link 1 2 a
  else if a < 0x2800000 then
    ({ s with holdTab := tabErase s.holdTab a } : State).hostEntry a v
  else (s.tabWrite32 link a v).tabWrite32 link (a + 4) (v / 2 ^ 32)

def State.tabWrite (s : State) (link a : Nat) (wide : Bool) (v : Nat) : State :=
  if wide then s.tabWrite64 link (a / 8 * 8) v else s.tabWrite32 link (a / 4 * 4) v

/-- A read of a table word through either link: protected entries as in R213; the words read. -/
def State.tabRead (s : State) (a : Nat) (wide : Bool) (u : List Upset) : State × List Word :=
  let a := if wide then a / 8 * 8 else a / 4 * 4
  let s1 := match entryOf a with
    | some e => if tabReserved a then s else s.readEntry u e
    | none => s
  let s2 := match entryOf (a + 4) with
    | some e => if wide && entryOf a != entryOf (a + 4) && !tabReserved a then s1.readEntry u e else s1
    | none => s1
  let ws := if wide then [s2.tabWord a, s2.tabWord (a + 4)] else [s2.tabWord a]
  (s2, ws.map (BitVec.ofNat 32))

/-- TABLE_WRITE (R39, R41). -/
def execTableWrite (a : Nat) (wide : Bool) (v : Nat) (s : State) : Host.Outcome State Fault Refusal :=
  if a < 0x4000000 ∧ !s.busDark ∧ s.pwr.st ≠ 6 then .next (s.tabWrite 0 a wide v) else .next s

/-- TABLE_READ (R213, R38): the words go back on the link. -/
def execTableRead (a : Nat) (wide : Bool) (u : List Upset) (s : State) : Host.Outcome State Fault Refusal :=
  if s.busDark ∨ s.pwr.st = 6 then .next (s.send (.completion (List.replicate (if wide then 2 else 1) 0)))
  else if a < 0x4000000 then
    let (s1, ws) := s.tabRead a wide u
    .next (s1.send (.completion ws))
  else .next s

/-! ## The scrubber (R214 and the paragraph after it) -/

/-- Entries of one scrubber pass: bank A, bank B, the dark tracker. -/
def scrubEntry (i : Nat) : Nat :=
  if i < 2621440 then i * 8 else if i < 5242880 then flatB + (i - 2621440) * 8 else darkBase + (i - 5242880) * 4

/-- SCRUB_READ (R213): the next entry is read; at the end of a pass PEVT.SCRUB is set. -/
def execScrubRead (u : List Upset) (s : State) : Host.Outcome State Fault Refusal :=
  if s.flag R.FFT_SCRUB F.FFT_SCRUB.EN then
    let i := s.fft.scrubPos
    let s1 := s.readEntry u (scrubEntry i)
    let j := if i + 1 = 5406720 then 0 else i + 1
    let e := scrubEntry j
    let s2 := ({ s1 with fft := { s1.fft with scrubPos := j } } : State).setReg R.FFT_SCRUBPOS
      (BitVec.ofNat 32 (entrySpace e * 2 ^ 30 + entryIndex e))
    .next (s2.evtIf (j == 0) P.FFT 13)
  else .next s

/-! ## Switches and blends (R203 to R208) -/

/-- FFT_STAT shows the bank, the blend and the runs; FFT_BLENDN the boundaries elapsed. -/
def State.showFft (s : State) : State :=
  let x := s.fft
  let w := x.copyBusy.toNat * 2 ^ 20 + x.calBusy.toNat * 2 ^ 19 + x.active * 2 ^ 18 + x.blend.toNat * 2 ^ 17 +
    (if x.blend then x.f else 65536)
  (s.setReg R.FFT_STAT (BitVec.ofNat 32 w)).setFld R.FFT_BLENDN F.FFT_BLENDN.N x.n

/-- A switch is no longer awaited: bit 2 of COL_STAT.NEED (R318). -/
def State.switchServed (s : State) : State :=
  s.setFld R.COL_STAT F.COL_STAT.NEED (s.fld R.COL_STAT F.COL_STAT.NEED % 4)

/-- A switch completes: the new bank is active alone (R204). -/
def State.switchDone (s : State) : State :=
  let s1 := ({ s with fft := { s.fft with blend := false, f := 65536 } } : State).switchServed
  ((s1.setFlag R.FFT_SWITCH F.FFT_SWITCH.GO false).showFft).evt P.FFT 8

/-- A GO applied while no line cycle runs (R206, R207). -/
def State.switchIdle (s : State) : State :=
  if s.fft.blend || s.fft.calBusy then
    (s.setFlag R.FFT_SWITCH F.FFT_SWITCH.GO false).evt P.FFT 9
  else ({ s with fft := { s.fft with active := 1 - s.fft.active } } : State).switchDone

/-- A GO applied at a captured line boundary: blend boundary 0 (R203), or ignored (R207). -/
def State.switchStart (s : State) : State :=
  if s.fft.blend || s.fft.calBusy then
    (s.setFlag R.FFT_SWITCH F.FFT_SWITCH.GO false).evt P.FFT 9
  else
    let n := max 1 (s.fld R.FFT_BANKCTL F.FFT_BANKCTL.BLEND_LINES)
    ({ s with fft := { s.fft with active := 1 - s.fft.active, blend := true, n := 0, f := 0, lines := n } } : State).showFft

/-- A running blend advances at a captured line boundary (R203, R204). -/
def State.blendStep (s : State) : State :=
  if s.fft.blend then
    let n := s.fft.n + 1
    let f := min 65536 (65536 * n / s.fft.lines)
    let s1 := ({ s with fft := { s.fft with n := n, f := f } } : State).showFft
    if f = 65536 then s1.switchDone else s1
  else s

/-- The FFT page at a captured line boundary. go: GO was applied at this boundary. When a blend completes at the very
boundary, a waiting GO may be applied or ignored (R207): a free value decides. -/
def State.fftLine (s : State) (go : Bool) : State :=
  let was := s.fft.blend
  let s1 := s.blendStep
  if !go then s1
  else if was && !s1.fft.blend then
    if s1.free % 2 = 0 then (s1.useFree.setFlag R.FFT_SWITCH F.FFT_SWITCH.GO true).switchStart
    else (s1.useFree.setFlag R.FFT_SWITCH F.FFT_SWITCH.GO false).evt P.FFT 9
  else s1.switchStart

/-- An FFT page soft reset ends a blend at once and stops a run (R208); the scrubber starts over (R44). -/
def State.fftSoftReset (s : State) : State :=
  ({ s with fft := { s.fft with blend := false, f := 65536, n := 0, run := 0, calBusy := false, copyBusy := false,
                                 scrubPos := 0 } } : State).showFft

/-! ## The dark tracker (R215 to R218) -/

/-- The committed tracker value of a pixel, signed 20 bits. -/
def State.dark (s : State) (p : Nat) : Int := toSigned 20 (s.load (darkAddr p) 4 % 2 ^ 20)

/-- The line before the boundary in hand keeps the values that a commit replaces. -/
def keepOld (old : List (Nat × Int)) : List (Nat × LineUse) → List (Nat × LineUse)
  | [] => []
  | (l, u) :: r => (l, { u with tOld := u.tOld ++ old }) :: r

/-- Held values are committed (R215); the values they replace stay readable for the lines before this boundary. -/
def State.darkCommit (s : State) : State :=
  let old := s.fft.hold.map (fun h => (h.1, s.dark h.1))
  let s1 := foldS (fun s (h : Nat × Int) => s.writeEntry (darkAddr h.1) (ofSigned 20 h.2)) s s.fft.hold
  { s1 with fft := { s1.fft with hold := [] }, plt := { s1.plt with uses := keepOld old s1.plt.uses } }

/-- FFT_DARK.CLR takes effect: every entry restarts at its first dark exposure of a line that starts from now on (R217). -/
def State.darkClear (s : State) : State :=
  let s1 := { s with fft := { s.fft with clrLine := s.fft.ord + 1 } }
  s1.setFlag R.FFT_DARK F.FFT_DARK.CLR false

/-- What a line and those after it have left behind, the line's own first; nothing for the current line. -/
def usesFrom (line : Nat) : List (Nat × LineUse) → List LineUse
  | [] => []
  | (l, u) :: r =>
    if l = line then [u]
    else match usesFrom line r with
      | [] => []
      | us => us ++ [u]

/-- The T a sample of a line uses: what the first commit since the line began has replaced, or the committed value (R215,
R218). -/
def State.darkFor (s : State) (mode line p : Nat) : Int :=
  if mode = 0 then 0
  else match (usesFrom line s.plt.uses).findSome? (fun u => tabFind u.tOld p) with
    | some t => t
    | none => s.dark p

/-- A pixel's entry restarts with the dark exposure of a line (R217): it has taken none since CLR or since its
primary's settings changed, or its entry is uncorrectable. -/
def State.darkFresh (s : State) (prim line p : Nat) : Bool :=
  let last := tabGet 0 s.fft.pixLine p
  let since (n : Nat) : Bool := decide (last < n) && decide (n ≤ (tabGet {} s.lines line).ord)
  since s.fft.clrLine || since (tabGet 0 s.fft.chLine prim) || s.isBad (darkAddr p)

/-- The tracker's next value for a pixel from a dark exposure's merged value (R215, R217). -/
def State.darkNext (s : State) (prim line p k : Nat) (md : Int) : Int :=
  let t := match tabFind s.fft.hold p with
    | some t => t
    | none => s.dark p
  if s.darkFresh prim line p then sat md (-524288) 524287
  else sat (t + roundHe (md - t) (2 ^ k : Nat)) (-524288) 524287

/-- Hold T' of a pixel. -/
def State.darkHold (s : State) (prim line p k : Nat) (md : Int) : State :=
  let v := s.darkNext prim line p k md
  { s with fft := { s.fft with hold := tabIns s.fft.hold p v, pixLine := tabPut 0 s.fft.pixLine p (tabGet {} s.lines line).ord } }

/-! ## Calibration runs (R219 to R222) -/

/-- A cell of one bank moved to the other. -/
def copyBank (m : List Host.Cell) (from_ : Nat) : List Host.Cell :=
  let a := m.filter (fun c => c.1 < flatB)
  let b := m.filter (fun c => flatB ≤ c.1 && c.1 < 0x2800000)
  let r := m.filter (fun c => 0x2800000 ≤ c.1)
  if from_ = 0 then a ++ a.map (fun c => (c.1 + flatB, c.2)) ++ r
  else b.map (fun c => (c.1 - flatB, c.2)) ++ b ++ r

/-- Start a run: kind 1 dark, 2 white, 3 flux correction (R219, R222). -/
def State.runStart (s : State) (kind lines : Nat) : State :=
  let copy := s.flag R.FFT_CALCFG F.FFT_CALCFG.COPY || kind == 3
  ({ s with fft := { s.fft with run := kind, runLines := lines, runLeft := lines, copyBusy := copy, calBusy := true,
                                mixed := [], sums := [], count := [] } } : State).showFft

/-- The uncorrectable entries of a bank. -/
def State.badOf (s : State) (bank : Nat) : List Nat :=
  (s.fft.bad.map (fun (b : Nat × Bool) => b.1)).filter (fun e => entrySpace e == bank)

/-- The copy of R219 has read every entry of the active bank (R213), and the pending bank holds what it read. -/
def State.copyDone (s : State) : State :=
  let s1 := foldS (fun s e => s.readEntry [] e) s (s.badOf s.fft.active)
  let m := copyBank s1.bar2 s1.fft.active
  let bad := s1.fft.bad.filter (fun b => entrySpace b.1 != 1 - s1.fft.active)
  { s1 with bar2 := m, fft := { s1.fft with bad := bad } }

/-- CAL_COPY_DONE (R219): the pending bank holds the active bank's entries, where the Collimator may write it (R294). -/
def execCalCopyDone (t : Nat) (s : State) : Host.Outcome State Fault Refusal :=
  if s.fft.copyBusy then
    let s1 := s.upto t
    let s2 := if s1.flag R.COL_PERM F.COL_PERM.FLAT then s1.copyDone.mixEntries else s1
    .next ({ s2 with fft := { s2.fft with copyBusy := false } } : State).showFft
  else .next s

end Sys2Proof.Machine
end

