-- ==== Sys2Proof/Machine/Plate.lean ====
section
/-! DEFINITION. Plate islands: from conversions to corrected pixels (spec/05, R157 to R183; R220 sums of a calibration
run; the merged values that feed the Collimator's fits). -/

namespace Sys2Proof.Machine

/-! ## Values of a line (R19, R20, R173) -/

/-- What a line before the current one uses. -/
def State.lineUse (s : State) (line : Nat) : Option LineUse := tabFind s.plt.uses line

/-- What the machine holds now, for the line that a line boundary makes an earlier one. -/
def State.useNow (s : State) : LineUse :=
  { regs := s.regs, vgr := s.plt.vgr, chans := s.acq.chans.map (fun (c : Nat × AcqCh) => (c.1, c.2.cur)), spares := s.acq.spares }

/-- A line boundary: the line in hand keeps what it uses while it is in hand (R19, R20). -/
def State.keepUse (s : State) : State :=
  let has (l : Nat) : Bool := (tabFind s.lines l).isSome
  let old := s.plt.uses.filter (fun (u : Nat × LineUse) => has u.1 && u.1 != s.mer.line)
  { s with plt := { s.plt with uses := if has s.mer.line then (s.mer.line, s.useNow) :: old else old } }

/-- A field as a line uses it (R20). -/
def State.pfld (s : State) (line a : Nat) (f : Fld) : Nat :=
  match s.lineUse line with
  | some u => bits (tabGet (regDefault s.straps a) u.regs a).toNat f.1 f.2
  | none => s.fld a f

/-- Settings with which channel c converts a line (R19, R123). -/
def State.setOf (s : State) (line c : Nat) : ChSet :=
  match s.lineUse line with
  | some u => tabGet {} u.chans c
  | none => (s.ch c).cur

/-- Position of spare g for a line (R19, R150). -/
def State.spareOf (s : State) (line g : Nat) : Spare :=
  match s.lineUse line with
  | some u => tabGet {} u.spares g
  | none => s.spare g

/-- The line a fabric word's SEQ stands for: the latest line of that low part (R79). -/
def State.lineOfSeq (s : State) (seq : Nat) : Nat :=
  (s.lines.filter (fun l => l.1 % 16 == seq)).foldl (fun a l => max a l.1) 0

def State.lineInfo (s : State) (l : Nat) : LineInfo := tabGet {} s.lines l
def State.setLine (s : State) (l : Nat) (i : LineInfo) : State := { s with lines := tabIns s.lines l i }

/-- Set a header flag of a line (R194), if the line is still in hand. -/
def State.lineFlag (s : State) (l b : Nat) : State :=
  match tabFind s.lines l with
  | some i => s.setLine l { i with flags := i.flags ||| 2 ^ b }
  | none => s

def State.lineFlagIf (s : State) (c : Bool) (l b : Nat) : State := if c then s.lineFlag l b else s

/-- Plate island of a channel, and its index k in the island's page (R199). -/
def groupOf (c : Nat) : Nat := if c < 256 then c / 16 else c - 256
def indexOf (c : Nat) : Nat := if c < 256 then c % 16 else 16

/-! ## Steps 1 to 3: CDS, clamp, merge -/

/-- Digital CDS per path: D for high and low gain (R163). -/
def cds (off : Bool) (p : Part) : Int × Int :=
  let c (o : Option Conv) : Int := match o with | some x => x.code | none => 0
  if off then (c p.sh, c p.sl) else (c p.sh - c p.rh, c p.sl - c p.rl)

/-- The primary whose CDSOFF and GRSEL channel c uses: none while a spare is on the reference DAC or parked (R199). -/
def State.procPrim (s : State) (line c : Nat) : Option Nat :=
  if c < 256 then some c
  else
    let sp := s.spareOf line (c - 256)
    if 2 ≤ sp.pos then some (16 * (c - 256) + sp.tgt) else none

def State.cdsOff (s : State) (line c : Nat) : Bool :=
  match s.procPrim line c with
  | some p => s.pfld line (R.PLTn_CHk_PROC (p / 16) (p % 16)) F.PLTn_CHk_PROC.CDSOFF == 1
  | none => false

/-- Ground-return offset in µV of a sense as the line uses it (R166). -/
def State.vgrOf (s : State) (line sense : Nat) : Int :=
  match s.lineUse line with
  | some u => tabGet 0 u.vgr sense
  | none => tabGet 0 s.plt.vgr sense

/-- G_gr of a path in quarter codes (R166). -/
def State.groundTerm (s : State) (line c : Nat) (high : Bool) : Int :=
  match s.procPrim line c with
  | none => 0
  | some p =>
    if s.pfld line R.PLTG_CLAMP F.PLTG_CLAMP.GREN = 1 then
      let v := s.vgrOf line (s.pfld line (R.PLTn_CHk_PROC (p / 16) (p % 16)) F.PLTn_CHk_PROC.GRSEL)
      let st := s.setOf line c
      let k : Int := if st.mode = 1 then 32768 else 65536
      let g : Int := if high then 16 else 1
      roundHe (4 * k * v * g) (fullScale st.range)
    else 0

/-- Filtered level after one exposure (R165): the first one sets it. -/
def levelStep (old : Option (Int × Int)) (h l : Int) (k : Nat) : Int × Int :=
  match old with
  | none => (h, l)
  | some (a, b) => (a + roundHe (h - a) (2 ^ k : Nat), b + roundHe (l - b) (2 ^ k : Nat))

/-- Raw level of a path from its optical-black sum (R164). -/
def rawLevel (en : Bool) (b : Int) (ob : Nat) : Int := if en && ob != 0 then roundHe (4 * b) (ob : Nat) else 0

/-- Close the optical-black part of an exposure: filter the level, add the ground term, report (R164 to R167). A level
outside the signed 20 bits of the report wraps in it (DESIGN CHOICE, notes/assumptions 99). -/
def State.closeOb (s : State) (line c slot seq : Nat) (o : ObSum) : State :=
  let ob := s.pfld line R.MER_OVH F.MER_OVH.OB
  let en := s.pfld line R.PLTG_CLAMP F.PLTG_CLAMP.OBEN == 1
  let k := s.pfld line R.PLTG_CLAMP F.PLTG_CLAMP.K
  let lf := levelStep (tabFind s.plt.level (c * 17 + slot)) (rawLevel en o.high ob) (rawLevel en o.low ob) k
  let lh := lf.1 + s.groundTerm line c true
  let ll := lf.2 + s.groundTerm line c false
  let o' : ObSum := { o with slot := slot, seq := seq, done := true, lh := lh, ll := ll }
  let s1 := { s with plt := { s.plt with level := tabIns s.plt.level (c * 17 + slot) lf, ob := tabIns s.plt.ob c o' } }
  (s1.setFld (R.PLTn_CHk_CLMPH (groupOf c) (indexOf c)) F.PLTn_CHk_CLMPH.LEVEL (ofSigned 20 lh)).setFld
    (R.PLTn_CHk_CLMPL (groupOf c) (indexOf c)) F.PLTn_CHk_CLMPL.LEVEL (ofSigned 20 ll)

/-- The optical-black sums of channel c for an exposure. -/
def State.obSum (s : State) (c slot seq : Nat) : ObSum :=
  let o := tabGet {} s.plt.ob c
  if o.slot = slot ∧ o.seq = seq then o else { slot := slot, seq := seq }

/-- Low-path weight from the high-gain signal code (R168). -/
def mixWeight (diff : Bool) (sh : Int) (lo hi : Nat) : Nat :=
  let x : Nat := if diff then min (2 * sh.natAbs) 65535 else sh.toNat
  if hi ≤ lo then (if x < lo then 0 else 65536)
  else if x ≤ lo then 0
  else if hi ≤ x then 65536
  else 65536 * (x - lo) / (hi - lo)

def mLo : Int := -4194304
def mHi : Int := 4194303

/-- M of R170. -/
def merge (w : Nat) (ch cl : Int) (g : Nat) : Int :=
  sat (roundHe ((65536 - (w : Int)) * ch * 32768 + (w : Int) * cl * (g : Int)) 2147483648) mLo mHi

/-- Over-range in either path among the conversions in use (R169). -/
def anyOvr (off : Bool) (r sg : Option Conv) : Bool :=
  let o (x : Option Conv) : Bool := match x with | some c => c.ovr | none => false
  o sg || (!off && o r)

/-! ## Steps 4 to 6: spare match, dark subtraction, flat gain -/

/-- Spare match (R172). -/
def spareMatch (m : Int) (smg : Nat) (smo : Int) : Int :=
  sat (roundHe (m * (smg : Int) + smo * 4194304) 4194304) mLo mHi

/-- blend(X) of R173. -/
def blendOf (f : Nat) (old new_ : Int) : Int := roundHe ((65536 - (f : Int)) * old + (f : Int) * new_) 65536

/-- Fields of a flat entry (R200): GAIN, DARK, FLAG. -/
def entGain (e : Nat) : Nat := e % 2 ^ 20
def entDark (e : Nat) : Int := toSigned 16 (e / 2 ^ 20 % 2 ^ 16)
def entFlag (e : Nat) : Nat := e / 2 ^ 36 % 16

/-- The flat entry of a bank as stored (R201). -/
def State.flatEntry (s : State) (bank i : Nat) : Nat := s.load (flatAddr bank i) 8

/-- GAIN, DARK and FLAG a line uses for entry i (R173). -/
def State.flatFor (s : State) (li : LineInfo) (i : Nat) : Int × Int × Nat :=
  let n := s.flatEntry li.newBank i
  if li.blend then
    let o := s.flatEntry (1 - li.newBank) i
    (blendOf li.f (entGain o) (entGain n), blendOf li.f (entDark o) (entDark n),
     if li.f < 32768 then entFlag o else entFlag n)
  else (entGain n, entDark n, entFlag n)

/-- Conversion to DN (R175): the DN and whether the saturation acted. -/
def toDn (y gain : Int) (off : Nat) : Nat × Bool :=
  let p := sat (y * gain) (-549755813888) 549755813887
  let v := roundHe p 262144 + (off : Int)
  ((sat v 0 65535).toNat, decide (v < 0) || decide (65535 < v) || p != y * gain)

/-- FIRST, COUNT and REV of primary c's map as a line uses them (R137). -/
def State.mapFirst (s : State) (line c : Nat) : Nat := s.pfld line (mapOf c) F.ACQn_CHk_MAP.FIRST
def State.mapCount (s : State) (line c : Nat) : Nat := s.pfld line (mapOf c) F.ACQn_CHk_MAP.COUNT
def State.mapRev (s : State) (line c : Nat) : Bool := s.pfld line (mapOf c) F.ACQn_CHk_MAP.REV == 1

/-- Pixel periods that primary c's map covers (R138). -/
def State.mapPeriods (s : State) (line c : Nat) : Nat := min (s.mapCount line c) (s.pfld line R.MER_SLOT F.MER_SLOT.PIXPER)

/-- Bar pixel of pixel period j of primary c (R137). -/
def State.pixelOf (s : State) (line c j : Nat) : Nat :=
  if s.mapRev line c then s.mapFirst line c + (s.mapCount line c - 1 - j) else s.mapFirst line c + j

/-- Whether any period of primary c's map lands on pixel p (R137, R138). -/
def State.mapHits (s : State) (line c p : Nat) : Bool :=
  let low := s.mapFirst line c + (if s.mapRev line c then s.mapCount line c - s.mapPeriods line c else 0)
  decide (low ≤ p) && decide (p < low + s.mapPeriods line c)

/-- The samples of primary c at pixel p are unpredictable: its map reaches beyond the bar, or another map lands on the
pixel (R139). -/
def State.mapBroken (s : State) (line c p : Nat) : Bool :=
  decide (npix < s.mapFirst line c + s.mapCount line c) || (List.range 256).any (fun q => q != c && s.mapHits line q p)

/-! ## A complete sample (R157, R159 to R161) -/

/-- What a channel's sample is for. -/
inductive Use where
  /-- It gives the samples of a primary (R160). matched: they came from the spare. -/
  | output (prim : Nat) (matched : Bool)
  /-- It only shadows. -/
  | shadow
  /-- The channel is on the reference DAC: a converter sweep. -/
  | sweep
  deriving DecidableEq, Repr

/-- R160: the spare's words serve primary c while the spare stands in or substitutes. -/
def State.useOf (s : State) (line c : Nat) : Use :=
  if (s.setOf line c).dac then .sweep
  else if c < 256 then
    let sp := s.spareOf line (c / 16)
    if 3 ≤ sp.pos ∧ sp.tgt = c % 16 then .shadow else .output c false
  else
    let sp := s.spareOf line (c - 256)
    if 3 ≤ sp.pos then .output (16 * (c - 256) + sp.tgt) true else .shadow

/-- Steps 1 to 3 of a pixel sample: M, forced direction (R169), suspect words. -/
structure Merged where
  m      : Int
  forced : Bool
  up     : Bool
  opn    : Bool
  deriving DecidableEq, Repr

def State.mergeSample (s : State) (line c : Nat) (p : Part) (o : ObSum) : Merged :=
  let off := s.cdsOff line c
  let d := cds off p
  let diff := (s.setOf line c).mode == 1
  let sh : Int := match p.sh with | some x => x.code | none => 0
  let w := if anyOvr off p.rh p.sh then 65536
    else mixWeight diff sh (s.pfld line R.PLTG_XF F.PLTG_XF.XF_LO) (s.pfld line R.PLTG_XF F.PLTG_XF.XF_HI)
  let g := s.pfld line (R.PLTn_CHk_GR (groupOf c) (indexOf c)) F.PLTn_CHk_GR.RATIO
  let forced := anyOvr off p.rl p.sl
  let up := decide (0 ≤ d.2)
  let m := if forced then (if up then mHi else mLo) else merge w (4 * d.1 - o.lh) (4 * d.2 - o.ll) g
  let op (x : Option Conv) : Bool := match x with | some v => v.opn | none => false
  { m := m, forced := forced, up := up, opn := op p.sh || op p.sl || (!off && (op p.rh || op p.rl)) }

/-- Raw conversions of a sample by kind (R151, R152). With CDSOFF 1 a reset kind is there when its word came before the
sample was complete; R159 discards it for the DN, and a container that R152 selects holds its code (DESIGN CHOICE,
notes/assumptions 100). -/
def rawOf (p : Part) : List (Nat × Conv) :=
  let f (k : Nat) (o : Option Conv) : List (Nat × Conv) := match o with | some x => [(k, x)] | none => []
  f 0 p.rh ++ f 1 p.sh ++ f 2 p.rl ++ f 3 p.sl

/-- The flat-field entries a sample reads are checked (R180, R213). -/
def State.readFlat (s : State) (u : List Upset) (li : LineInfo) (i : Nat) : State × Bool :=
  let en := flatAddr li.newBank i
  let eo := flatAddr (1 - li.newBank) i
  let s1 := s.readEntry u en
  let s2 := if li.blend then s1.readEntry u eo else s1
  (s2, s2.isBad en || (li.blend && s2.isBad eo))

/-- T of a pixel for a line, and whether its entry was uncorrectable: the entry is read once per line, for all bands
(R213, R215). -/
def State.lineT (s : State) (u : List Upset) (line p : Nat) : State × (Int × Bool) :=
  let k := (s.lineInfo line).ord
  let fresh : State × (Int × Bool) :=
    let s1 := s.readEntry u (darkAddr p)
    let t := s1.darkFor (s1.pfld line R.FFT_DARK F.FFT_DARK.MODE) line p
    let bad := s1.isBad (darkAddr p)
    ({ s1 with fft := { s1.fft with tRead := tabIns s1.fft.tRead p (k, t, bad) } }, (t, bad))
  match tabFind s.fft.tRead p with
  | some r => if r.1 = k then (s, r.2) else fresh
  | none => fresh

/-- What steps 5 and 6 give a sample. -/
structure Corrected where
  dn   : Nat
  flag : Nat
  ecc  : Bool
  satd : Bool
  t    : Int
  deriving DecidableEq, Repr

/-- Steps 5 and 6 of an output sample of a band (R174, R175, R169, R180). A period that lands beyond the bar reads no
flat-field entry and, marked DEF, reaches no statistics (R139). -/
def State.bandSample (s : State) (u : List Upset) (line : Nat) (band p : Nat) (x : Merged) : State × Corrected :=
  if npix ≤ p then (s, { dn := 0, flag := 8, ecc := false, satd := false, t := 0 })
  else
    let li := s.lineInfo line
    let (s1, eccF) := s.readFlat u li (band * npix + p)
    let (s2, t, eccT) := s1.lineT u line p
    let (gain, dark, flag) := s2.flatFor li (band * npix + p)
    let d := if x.forced then (if x.up then 65535 else 0, false)
      else toDn (x.m - (t + dark)) gain (s2.pfld line R.PLTG_OUT F.PLTG_OUT.OFFDN)
    (s2, { dn := d.1, flag := flag, ecc := eccF || eccT, satd := d.2, t := t })

/-- A forced sample is counted and marks its line (R169). -/
def State.noteForced (s : State) (line : Nat) : State := ((s.bump R.PLTG_ORCNT 1).evt P.PLTG 9).lineFlag line 7

/-- A sample that R139 leaves unpredictable: its DN, merged value and codes are free. -/
def State.wildSmp (s : State) (x : Smp) : Smp :=
  let v (i : Nat) : Int := if x.single then ((s.freeAt i % 65536 : Nat) : Int) else toSigned 16 (s.freeAt i % 65536)
  { x with wild := true, dn := s.free % 65536, m := toSigned 23 (s.freeAt 1 % 2 ^ 23)
           raw := x.raw.map (fun r => (r.1, { r.2 with code := v (2 + r.1) })) }

/-- Hold a sample until its readout is released. -/
def State.hold (s : State) (x : Smp) (broken : Bool) : State :=
  if broken then ({ s with plt := { s.plt with held := s.plt.held ++ [s.wildSmp x] } } : State).skipFree 6
  else { s with plt := { s.plt with held := s.plt.held ++ [x] } }

/-- A dark-slot sample is held with its merged value (R161). -/
def State.holdDark (s : State) (line c prim : Nat) (p : Part) (x : Merged) : State :=
  let px := s.pixelOf line prim p.pix
  let smp : Smp := { prim := prim, chan := c, band := 16, pixel := px, line := line, dn := 0, m := x.m,
                     single := (s.setOf line c).mode != 1, flag := 0, ecc := false, forced := x.forced, satd := false,
                     suspect := x.opn, off := false, t := s.darkFor (s.pfld line R.FFT_DARK F.FFT_DARK.MODE) line px
                     exPho := true, exStrk := true, raw := rawOf p }
  (s.hold smp (s.mapBroken line prim px)).when x.forced (fun s => s.noteForced line)

/-- A band's sample is processed through step 6 and held (R161, R174, R175, R180). -/
def State.holdBand (s : State) (u : List Upset) (line c prim : Nat) (p : Part) (x : Merged) : State :=
  let px := s.pixelOf line prim p.pix
  let (s1, d) := s.bandSample u line p.slot px x
  let eccFlag := 8 + s1.pfld line R.PLTG_DEF F.PLTG_DEF.ECCMODE
  let smp : Smp := { prim := prim, chan := c, band := p.slot, pixel := px, line := line, dn := d.dn, m := x.m,
                     single := (s.setOf line c).mode != 1, flag := if d.ecc then eccFlag else d.flag, ecc := d.ecc,
                     forced := x.forced, satd := d.satd, suspect := x.opn, off := false, t := d.t
                     exPho := false, exStrk := false, raw := rawOf p }
  let s2 := (s1.hold smp (s.mapBroken line prim px)).when x.forced (fun s => s.noteForced line)
  (s2.when d.satd (fun s => ((s.bump R.PLTG_SATCNT 1).evt P.PLTG 8).lineFlag line 8)).evtIf d.ecc P.PLTG 11

/-- Spare-match coefficients of primary c for a line: its registers, or in fixed substitution those last derived for the
pair, unity if none exist (R148, R172). -/
def State.matchOf (s : State) (line c : Nat) : Nat × Nat :=
  if (s.spareOf line (c / 16)).pos = 4 then tabGet (4194304, 0) s.plt.pairs c
  else (s.pfld line (R.PLTn_CHk_SMG (c / 16) (c % 16)) F.PLTn_CHk_SMG.GAIN,
    s.pfld line (R.PLTn_CHk_SMO (c / 16) (c % 16)) F.PLTn_CHk_SMO.OFS)

/-- A sample for output is processed and held; a spare's is matched to its primary first, a forced one too: R169 skips
steps 5 and 6 alone (R161, R172, R194). -/
def State.holdSample (s : State) (u : List Upset) (line c prim : Nat) (matched : Bool) (p : Part) (x : Merged) : State :=
  let k := s.matchOf line prim
  let x := if matched then { x with m := spareMatch x.m k.1 (toSigned 20 k.2) } else x
  let s1 := if p.slot = 16 then s.holdDark line c prim p x else s.holdBand u line c prim p x
  s1.lineFlagIf matched line 1

/-- Codes of a converter sweep, kept per DAC level for sweeps 2 and 3 (R306, R307). -/
def State.sweepSample (s : State) (line : Nat) (off : Bool) (p : Part) (o : ObSum) : State :=
  match tabFind s.col.smap (line * 32 + p.slot) with
  | none => s
  | some i =>
    let d := cds off p
    let lv := i % 64
    let add (l : List (Nat × Level)) : List (Nat × Level) :=
      let x := tabGet {} l lv
      tabIns l lv { high := x.high + (4 * d.1 - o.lh), low := x.low + (4 * d.2 - o.ll), n := x.n + 1 }
    if i / 64 = 1 then { s with col := { s.col with level2 := add s.col.level2 } }
    else if i / 64 = 2 then { s with col := { s.col with level3 := add s.col.level3 } }
    else s

/-- A complete sample of channel c (R159): optical black or pixel. A forced sample of a channel that only shadows is no
output sample: it is not counted and marks no line (DESIGN CHOICE, notes/assumptions 101). -/
def State.sample (s : State) (u : List Upset) (c : Nat) (p : Part) : State :=
  let line := s.lineOfSeq p.seq
  let ob := s.pfld line R.MER_OVH F.MER_OVH.OB
  let off := s.cdsOff line c
  let o := s.obSum c p.slot p.seq
  if 1024 - ob ≤ p.pix ∧ p.pix < 1024 ∧ ob ≠ 0 then
    let d := cds off p
    let o' : ObSum := { o with high := o.high + d.1, low := o.low + d.2, n := o.n + 1 }
    if o'.n = ob then s.closeOb line c p.slot p.seq o'
    else { s with plt := { s.plt with ob := tabIns s.plt.ob c o' } }
  else
    let s1 := if o.done then s else s.closeOb line c p.slot p.seq o
    let o := s1.obSum c p.slot p.seq
    match s1.useOf line c with
    | .sweep => s1.sweepSample line off p o
    | .shadow =>
      let x := s1.mergeSample line c p o
      let sh : Shadow := { chan := c, line := line, band := p.slot, pix := p.pix, m := x.m, bad := x.opn || x.forced }
      { s1 with plt := { s1.plt with shadow := s1.plt.shadow ++ [sh] } }
    | .output prim matched => s1.holdSample u line c prim matched p (s1.mergeSample line c p o)

/-! ## FABRIC_WORD (R117, R118, R159) -/

/-- A conversion word's content. -/
def wordConv (diff : Bool) (w : Nat) : Conv :=
  let raw := w / 2 ^ 24
  { code := if diff then toSigned 16 raw else (raw : Int), ovr := bit w 5, opn := bit w 6 }

/-- Put a conversion in its place by KIND (R125). -/
def partAdd (p : Part) (kind : Nat) (x : Conv) : Part :=
  match kind with
  | 0 => { p with rh := some x }
  | 1 => { p with sh := some x }
  | 2 => { p with rl := some x }
  | _ => { p with sl := some x }

/-- All words a sample needs are in (R159). -/
def partFull (off : Bool) (p : Part) : Bool :=
  p.sh.isSome && p.sl.isSome && (off || (p.rh.isSome && p.rl.isSome))

/-- The oldest unreleased readout of an island (R162). -/
def State.readHead (s : State) (g : Nat) : Option Readout := (tabGet [] s.plt.reads g).head?

/-- A check word belongs to the readout in hand when it carries that line's SEQ (R19, R128) and conversions of that
readout have come before it on the same crossing (R118, R135), unless the channel sends none. -/
def State.checkFor (s : State) (c seq : Nat) : Bool :=
  match s.readHead (groupOf c) with
  | none => false
  | some e =>
    let o := tabGet {} s.plt.ob c
    let prim := (s.procPrim e.line c).getD c
    let sends := s.pfld e.line R.MER_OVH F.MER_OVH.OB != 0 || s.mapPeriods e.line prim != 0
    seq == e.line % 16 && (!sends || (o.slot == e.band && o.seq == e.line % 16))

/-- One word reaches its plate island. -/
def State.plateWord (s : State) (u : List Upset) (c w : Nat) : State :=
  let slot := bits w 21 17
  let pix := bits w 16 7
  let seq := bits w 3 0
  if slot = 31 then
    if s.checkFor c seq then { s with plt := { s.plt with check := tabIns s.plt.check c (bit w 6) } } else s
  else
    let x := wordConv ((s.setOf (s.lineOfSeq seq) c).mode == 1) w
    let p0 := tabGet {} s.plt.part c
    let p0 : Part := if p0.slot = slot ∧ p0.pix = pix ∧ p0.seq = seq then p0
      else { slot := slot, pix := pix, seq := seq, spare := bit w 4 }
    let p := partAdd p0 (bits w 23 22) x
    let off := s.cdsOff (s.lineOfSeq seq) c
    if partFull off p then
      ({ s with plt := { s.plt with part := tabPut {} s.plt.part c {} } } : State).sample u c p
    else { s with plt := { s.plt with part := tabPut {} s.plt.part c p } }

/-- FABRIC_WORD (R12, R18, R157 to R175): the oldest word of channel c's crossing reaches its plate island. -/
def execFabricWord (c : Nat) (u : List Upset) (s : State) : Host.Outcome State Fault Refusal :=
  match (s.ch c).fabric with
  | [] => .next s
  | w :: ws => .next ((s.setCh c { s.ch c with fabric := ws }).plateWord u c w.toNat)

/-! ## Steps 7 and 8, and the release (R162, R176 to R183) -/

/-- REPL acted on: 7 is treated as 0 (R176). -/
def replOf (flag : Nat) : Nat := if flag % 8 = 7 then 0 else flag % 8

/-- A sample is under channel policy (R178). -/
def Smp.policy (x : Smp) : Bool := x.suspect || x.off

/-- A good sample for replacing x (R177). -/
def goodFor (x y : Smp) : Bool :=
  y.band == x.band && y.line == x.line && y.prim == x.prim && replOf y.flag == 0 && !y.policy

/-- Nearest good sample on one side, 1 to 8 pixels away: its distance and DN. -/
def nearGood (l : List Smp) (x : Smp) (left : Bool) : Option (Nat × Nat) :=
  (List.range 8).findSome? (fun i =>
    let d := i + 1
    if left ∧ x.pixel < d then none
    else
      let p := if left then x.pixel - d else x.pixel + d
      (l.find? (fun y => y.pixel == p && goodFor x y)).map (fun y => (d, y.dn)))

/-- Replacement DN by FLAG (R176, R177). -/
def replaceDn (l : List Smp) (x : Smp) (repdn : Nat) : Nat :=
  let a := nearGood l x true
  let b := nearGood l x false
  match replOf x.flag with
  | 0 => x.dn
  | 5 => repdn
  | 6 => 0
  | r =>
    match a, b with
    | none, none => repdn
    | some (_, v), none => v
    | none, some (_, v) => v
    | some (dl, vl), some (dr, vr) =>
      if r = 1 then vl else if r = 2 then vr
      else if r = 3 then (roundHe (vl + vr : Nat) 2).toNat
      else (roundHe (vl * dr + vr * dl : Nat) (dl + dr : Nat)).toNat

/-- Delivered DN and exclusions of one sample (R178, R179): policy first, FLAG after. A sample of a broken map keeps its
free value (R139). -/
def finishSmp (l : List Smp) (dpol repdn : Nat) (x : Smp) : Smp :=
  let d := if dpol = 3 then 1 else dpol
  let dn :=
    if x.policy then
      if d = 1 then 0 else if d = 2 then repdn
      else if x.off then 0 else replaceDn l x repdn
    else replaceDn l x repdn
  let defEx := decide (8 ≤ x.flag % 16) && !(x.policy && (d != 0 || x.off))
  { x with dn := if x.wild then x.dn else dn, exPho := (x.policy && d != 0) || defEx, exStrk := x.policy || decide (8 ≤ x.flag % 16) }

/-- Samples of a channel-off primary in one readout: its mapped pixels, without conversions (R143); where its map is
broken, their DN is free (R139). -/
def State.offSamples (s : State) (c line band : Nat) : List Smp :=
  (List.range (s.mapPeriods line c)).map (fun j =>
    let px := s.pixelOf line c j
    let wild := s.mapBroken line c px
    { prim := c, chan := c, band := band, pixel := px, line := line, dn := if wild then s.freeAt (c % 16 * 1024 + j) % 65536 else 0
      m := 0, single := true, flag := 0, ecc := false, forced := false, satd := false, suspect := false, off := true
      wild := wild, exPho := false, exStrk := true, raw := [] })

/-- An accumulator changes while a scan runs: the scan may have read it before, or reads it later (R348). -/
def State.scanTouch (s : State) (key : Nat) : State :=
  if s.pho.scanning && (tabFind s.pho.scanRead key).isNone then
    (s.when (s.free % 2 == 1) (fun s =>
      { s with pho := { s.pho with scanRead := tabIns s.pho.scanRead key (tabFind s.plt.streak key) } })).useFree
  else s

/-- Streak accumulator update of one sample in one selection (R182). -/
def State.streakStep (s : State) (sel k : Nat) (x : Smp) : State :=
  let key := sel * npix + x.pixel
  let s := s.scanTouch key
  let v := x.dn * 16777216
  let a := match tabFind s.plt.streak key with
    | none => v
    | some a => ((a : Int) + ((v : Int) - a).fdiv (2 ^ k : Nat)).toNat
  { s with plt := { s.plt with streak := tabIns s.plt.streak key a } }

def State.streakSample (s : State) (x : Smp) : State :=
  let k := s.pfld x.line R.PLTG_STREAK F.PLTG_STREAK.K
  let en := s.pfld x.line R.PLTG_STREAK F.PLTG_STREAK.BEN
  forN 4 (fun s sel =>
    let band := s.pfld x.line R.PLTG_STREAK (19 + 4 * sel, 16 + 4 * sel)
    if bit en sel && band == x.band && !x.exStrk then s.streakStep sel k x else s) s

/-- Sums of a calibration run (R220): M and T for a dark run, Y with the active bank for a white run. -/
def State.calSample (s : State) (x : Smp) : State :=
  if s.fft.run = 0 || s.fft.copyBusy || x.off || decide (npix ≤ x.pixel) || !(s.lineInfo x.line).cal then s
  else
    let i := x.band * npix + x.pixel
    let t := x.t
    let y := if s.fft.run = 1 then x.m else x.m - (t + entDark (s.flatEntry s.fft.active i))
    let o := tabGet (0, 0) s.fft.sums i
    { s with fft := { s.fft with sums := tabIns s.fft.sums i (o.1 + y, o.2 + t),
                                 count := tabIns s.fft.count i (tabGet 0 s.fft.count i + 1) } }

/-- Dark noise of one dark sample, per band (R325): (Md - T) × GAIN_b, squared and summed over the exposure in hand. -/
def State.noiseSample (s : State) (x : Smp) : State :=
  let d := x.m - x.t
  forN 16 (fun s b =>
    let g := entGain (s.flatEntry s.fft.active (b * npix + x.pixel))
    let o := tabGet (0, 0) s.col.noiseAcc b
    { s with col := { s.col with noiseAcc := tabIns s.col.noiseAcc b (o.1 + (d * g).natAbs ^ 2, o.2 + 1) } }) s

/-- The latest 64 dark exposures of band b, the one in hand among them. -/
def State.noiseLast (s : State) (b : Nat) : List (Nat × Nat) :=
  match tabFind s.col.noiseAcc b with
  | none => (tabGet [] s.col.noise b).take 64
  | some a => (a :: tabGet [] s.col.noise b).take 64

/-- A line's first dark sample is released: the exposure in hand so far joins the earlier ones (R325). -/
def State.noisePush (s : State) (line : Nat) : State :=
  if s.col.noiseLine = line then s
  else
    let l := ((List.range 16).filter (fun b => !(s.noiseLast b).isEmpty)).map (fun b => (b, s.noiseLast b))
    { s with col := { s.col with noise := l, noiseAcc := [], noiseLine := line } }

/-- A dark readout has been released: the figures over the latest 64 exposures (R325); the rounding of a figure's last
place is free. -/
def State.noiseShow (s : State) : State :=
  forN 16 (fun s b =>
    let l := s.noiseLast b
    if l.isEmpty then s
    else
      let q := l.foldl (fun (p : Nat × Nat) (y : Nat × Nat) => (p.1 + y.1, p.2 + y.2)) (0, 0)
      let r := Nat.sqrt (q.1 / (max 1 q.2 * 2 ^ 20)) + s.free % 2
      s.useFree.setReg (R.COL_DNOISEb b) (BitVec.ofNat 32 (min r 65535))) s

/-- A released dark sample: the tracker, or the report of a wire-suspect one (R161, R215, R216). -/
def State.releaseDark (s : State) (x : Smp) : State :=
  let mode := s.pfld x.line R.FFT_DARK F.FFT_DARK.MODE
  let k := s.pfld x.line R.FFT_DARK F.FFT_DARK.K
  if x.suspect || x.off || x.forced || decide (npix ≤ x.pixel) || (s.lineInfo x.line).preroll then s
  else
    let s1 := (s.noisePush x.line).noiseSample x
    if mode ≤ 1 then s1 else s1.darkHold x.prim x.line x.pixel k x.m

/-- Wire-suspect bookkeeping of one sample (R178): flag, trailer bits, count, event; a pre-roll line's flag and trailer
bits go with it. -/
def State.noteSuspect (s : State) (x : Smp) : State :=
  if x.suspect then
    let m := tabGet 0 s.plt.trail x.line ||| 2 ^ x.chan ||| (if x.band = 16 then 0 else 2 ^ x.prim)
    let s1 := { s with plt := { s.plt with trail := tabIns s.plt.trail x.line m } }
    ((s1.bump R.PLTG_WPCNT 1).evt P.PLTG 10).lineFlag x.line 0
  else s

/-- Release one finished sample: streaks, calibration sums, formatters. Pre-roll lines reach none of them (R183, R410). -/
def State.releaseSmp (s : State) (x : Smp) : State :=
  let s1 := s.noteSuspect x
  if x.band = 16 then
    let s2 := s1.releaseDark x
    if (s.lineInfo x.line).preroll then s2
    else { s2 with plt := { s2.plt with rel := s2.plt.rel ++ [x] } }
  else if (s.lineInfo x.line).preroll then s1
  else
    let s2 := (s1.streakSample x).calSample x
    { s2 with plt := { s2.plt with rel := s2.plt.rel ++ [x] } }

/-- Primary c is disabled or parked with no spare standing in (R143, R178). -/
def State.chanOff (s : State) (c : Nat) : Bool :=
  let sp := s.spare (c / 16)
  !(s.ch c).cur.on && !(decide (3 ≤ sp.pos) && sp.tgt == c % 16)

/-- The mask of the numbers below n that satisfy p. -/
def maskOf (n : Nat) (p : Nat → Bool) : Nat :=
  (List.range n).foldl (fun m c => if p c then m + 2 ^ c else m) 0

/-- A readout begins at a slot boundary: every island expects it (R76, R162). -/
def State.readBegin (s : State) (e : Exposure) : State :=
  let r : Readout := { line := e.line, band := e.band, off := maskOf 256 s.chanOff, chk := maskOf 272 s.checks }
  { s with plt := { s.plt with
      reads := (List.range 16).map (fun g => (g, tabGet [] s.plt.reads g ++ [r])) } }

/-- Every check word that island g waits for is in (R162). -/
def State.checksIn (s : State) (g : Nat) (r : Readout) : Bool :=
  (List.range 17).all (fun k =>
    let c := if k = 16 then 256 + g else 16 * g + k
    !bit r.chk c || (tabFind s.plt.check c).isSome)

/-- Mark that island g has released a readout that ended its line. A pre-roll line is forgotten when every island has
released it: it has no number, no header and no record (R410). -/
def State.islandDone (s : State) (g line : Nat) : State :=
  let m := tabGet 0 s.plt.done line ||| 2 ^ g
  if (s.lineInfo line).preroll && m == 65535 then
    { s with lines := tabErase s.lines line, plt := { s.plt with done := tabErase s.plt.done line, trail := tabErase s.plt.trail line } }
  else { s with plt := { s.plt with done := tabIns s.plt.done line m } }

/-- One more pair of a least-squares fit. -/
def fitAdd (f : Fit) (x y : Int) : Fit :=
  { n := f.n + 1, sx := f.sx + x, sy := f.sy + y, sxx := f.sxx + x * x, sxy := f.sxy + x * y
    lo := if f.n = 0 then x else min f.lo x
    hi := if f.n = 0 then x else max f.hi x }

/-- One pair of a rotation step (R302, R304, R310): sv the spare's value, pv the primary's. -/
def State.colPair (s : State) (line : Nat) (sv pv : Int) : State :=
  let li := s.lineInfo line
  let s1 := match li.probe with
    | none => s
    | some x =>
      let k := (x + 64).toNat
      let o := tabGet (0, 0) s.col.probe k
      { s with col := { s.col with probe := tabIns s.col.probe k (o.1 + (sv - pv), o.2 + 1) } }
  match li.half with
  | 1 => { s1 with col := { s1.col with fitA := fitAdd s1.col.fitA sv pv } }
  | 2 => { s1 with col := { s1.col with fitB := fitAdd s1.col.fitB sv pv } }
  | _ => s1

/-- The Collimator takes the valid sample pairs of a readout of island g: the output samples of the primary in rotation
beside the shadowing channel's, by band and pixel. While the spare stands in, the output is the spare's. -/
def State.colPairs (s : State) (g : Nat) (e : Readout) (own : List Smp) (sh : List Shadow) : State :=
  match s.col.ch with
  | none => s
  | some c =>
    if c / 16 = g then
      foldS (fun s (x : Smp) =>
        match sh.find? (fun y => y.line == e.line && y.band == e.band && s.pixelOf e.line c y.pix == x.pixel &&
            groupOf y.chan == g && !y.bad && y.chan != x.chan) with
        | none => s
        | some y => if x.chan = c then s.colPair e.line y.m x.m else s.colPair e.line x.m y.m) s
        (own.filter (fun x => x.prim == c && !x.suspect && !x.forced))
    else s

/-- READOUT_RELEASE (R162, R176 to R183): island g applies defect and wire handling to the readout it holds and releases
it, once the check words of its group are in. -/
def execReadoutRelease (g t : Nat) (s : State) : Host.Outcome State Fault Refusal :=
  match s.readHead g with
  | none => .next s
  | some e =>
    if s.checksIn g e then
      let s0 := s.upto t
      let mine (x : Smp) : Bool := groupOf x.prim == g && x.line == e.line && x.band == e.band
      let own := (s0.plt.held.filter mine).map
        (fun x => { x with suspect := x.suspect || tabGet false s0.plt.check x.chan })
      let offs := (List.range 16).flatMap (fun k =>
        let c := 16 * g + k
        if bit e.off c && e.band != 16 then s0.offSamples c e.line e.band else [])
      let l := own ++ offs
      let repdn := s0.pfld e.line R.PLTG_DEF F.PLTG_DEF.REPDN
      let fin := l.map (fun x => if x.band = 16 then x
        else finishSmp l (s0.pfld x.line (R.PLTn_CHk_PROC g (x.prim % 16)) F.PLTn_CHk_PROC.DPOL) repdn x)
      let s1 := { s0 with plt := { s0.plt with
        held := s0.plt.held.filter (fun x => !mine x),
        shadow := s0.plt.shadow.filter (fun x => !(groupOf x.chan == g && x.line == e.line && x.band == e.band)),
        ob := s0.plt.ob.filter (fun o => !(groupOf o.1 == g && o.2.slot == e.band && o.2.seq == e.line % 16)),
        reads := tabIns s0.plt.reads g (tabGet [] s0.plt.reads g).tail,
        check := tabKeep (fun c => groupOf c != g) s0.plt.check } }
      let s2 := foldS State.releaseSmp ((s1.skipFree 16384).colPairs g e own s0.plt.shadow) fin
      let s2 := s2.when (e.band == 16) State.noiseShow
      .next (if e.band = s2.seqBand (s2.nslot - 1) then s2.islandDone g e.line else s2)
    else .next s

end Sys2Proof.Machine
end

