-- ==== Sys2Proof/Machine/Hel.lean ====
section
/-! DEFINITION. Heliostat: the lamp matrix (spec/07). Lamp (k, c) has number k × 64 + c; column c lies on page
HEL(c / 8), index c % 8. -/

namespace Sys2Proof.Machine

def colCtl (c : Nat) : Nat := R.HELn_COLk_CTL (c / 8) (c % 8)
def colStat (c : Nat) : Nat := R.HELn_COLk_STAT (c / 8) (c % 8)
def colLflt (c : Nat) : Nat := R.HELn_COLk_LFLT (c / 8) (c % 8)
def colLast (c : Nat) : Nat := R.HELn_COLk_LAST (c / 8) (c % 8)
def colCnt (c : Nat) : Nat := R.HELn_COLk_FLTCNT (c / 8) (c % 8)

/-! ## The binning table (R235) -/

def binAddr (k c : Nat) : Nat := 0x2900000 + (k * 64 + c) * 16
def State.binWidth (s : State) (k c : Nat) : Nat := bits (s.load (binAddr k c) 4) 31 16
def State.binCode (s : State) (k c : Nat) : Nat := bits (s.load (binAddr k c) 4) 9 0
def State.binThsel (s : State) (k c : Nat) : Nat := bits (s.load (binAddr k c + 4) 4) 18 16
def State.binTc (s : State) (k c : Nat) : Int := toSigned 16 (bits (s.load (binAddr k c + 4) 4) 15 0)
def State.binMax (s : State) (k c : Nat) : Nat :=
  let v := bits (s.load (binAddr k c + 8) 4) 9 0
  if v = 0 then 1023 else v
def State.binQexp (s : State) (k c : Nat) : Nat := bits (s.load (binAddr k c + 12) 4) 23 0

/-! ## Rows, columns and lamps in service -/

/-- Safety-critical rows (R259). -/
def State.critRows (s : State) : Nat :=
  s.fld R.HELG_SAFE F.HELG_SAFE.SAFE ||| s.fld R.HELG_UV F.HELG_UV.UV

/-- ILK_N is high (R261, R262). -/
def State.ilkHigh (s : State) : Bool := s.hel.ilkPin || s.hel.ilkBack.any (fun t => decide (t ≤ s.now))

/-- Rows held off by the interlock (R261, R262). -/
def State.ilkRows (s : State) : Nat :=
  (if s.flag R.HELG_ILK F.HELG_ILK.LATCH then s.fld R.HELG_ILK F.HELG_ILK.FORCED else 0) |||
  (if s.ilkHigh then 0 else s.critRows)

def State.rowOn (s : State) (k : Nat) : Bool :=
  bit (s.fld R.HELG_ROWEN F.HELG_ROWEN.EN) k && !bit s.ilkRows k

def State.colOn (s : State) (c : Nat) : Bool :=
  s.flag (colCtl c) F.HELn_COLk_CTL.EN && !s.flag (colStat c) F.HELn_COLk_STAT.FLT &&
  (tabFind s.hel.restart c).isNone && (tabFind s.hel.recover c).isNone

/-- Lamp (k, c) is not masked, and no verdict stands against it (R228, R257). -/
def State.lampOn (s : State) (k c : Nat) : Bool :=
  !bit (s.fld (colStat c) F.HELn_COLk_STAT.LMASK) k && !bit (s.fld (colLflt c) F.HELn_COLk_LFLT.OPEN) k &&
  !bit (s.fld (colLflt c) F.HELn_COLk_LFLT.SHORT) k

/-- Fade values are held for a line while its slots run; in a wait the hold cycles use the running ones (R242, R244). -/
def State.lamHeld (s : State) : Bool := s.mer.cycle && s.mer.phase != .idle

/-- The global fade value in force (R242). -/
def State.lamNow (s : State) : Nat := if s.lamHeld then s.hel.lineLam else s.hel.lam

/-- Fade value of a unit in force (R248). -/
def State.unitV (s : State) (key : Nat) : Nat :=
  match tabFind s.hel.units key with
  | some u => if s.lamHeld then u.line else u.v
  | none => 65536

def rowKey (k : Nat) : Nat := k
def colKey (c : Nat) : Nat := 100 + c
def lampKey (k c : Nat) : Nat := 1000 + k * 64 + c

/-- Λ of lamp (k, c) (R242, R248): the smallest of its four fade values. -/
def State.lambdaOf (s : State) (k c : Nat) : Nat :=
  min (min s.lamNow (s.unitV (rowKey k))) (min (s.unitV (colKey c)) (s.unitV (lampKey k c)))

/-- The lamps are powered: neither OFF nor SAFE (R240). -/
def State.lampsUp (s : State) : Bool := s.hel.st != .off && s.hel.st != .safe

/-- ROWSTAT.ON: the rows in service, none in OFF and SAFE (DESIGN CHOICE, notes/assumptions 108). -/
def State.rowsUp (s : State) : Nat := if s.lampsUp then maskOf 16 s.rowOn else 0

/-- The strobes the present state allows (R246): none in OFF and SAFE, and none in a dark run's lines (spec/06). -/
def State.strobesAllowed (s : State) : Bool := s.lampsUp && !(s.fft.run == 1)

/-! ## The strobe of a lamp (R228 to R234) -/

/-- Pre-charge time in taps (R228, R233). -/
def State.preTaps (s : State) : Nat :=
  s.nsTaps (min (max (s.fld R.HELG_PRE F.HELG_PRE.TPRE) 50) 2000)

/-- Taps from the slot boundary to the rise of the row's LROW: the strobe window opens after the transfer, a diagnostic
strobe's row is selected at once (R84, R228, R253). -/
def State.rowTap (s : State) : Nat := if s.mer.phase == .diag then 0 else s.fld R.MER_OVH F.MER_OVH.XFER * 64

/-- Taps from the slot boundary to the end of pre-charge. -/
def State.openTap (s : State) : Nat := s.rowTap + s.preTaps

/-- On-time in taps (R229). -/
def onTime (width lam lt : Nat) : Nat := width * lam * lt / 2 ^ 32

/-- Sub-pulse count: the largest n up to the row's setting with floor(W / n) at least 100 ns (R234). -/
def subCount (w min100 : Nat) : Nat → Nat
  | 0 => 1
  | n + 1 => if n = 0 ∨ min100 ≤ w / (n + 1) then n + 1 else subCount w min100 n

/-- Row k's sub-pulse setting (R234). -/
def State.nsubOf (s : State) (k : Nat) : Nat :=
  let a := if k < 8 then R.HELG_NSUB0 else R.HELG_NSUB1
  s.fld a (4 * (k % 8) + 3, 4 * (k % 8)) + 1

/-- Integrator range of column c (R268). -/
def State.actRange (s : State) (c : Nat) : Nat := s.fld (R.ACT_RANGEi (c / 16)) (2 * (c % 16) + 1, 2 * (c % 16))

/-- Snapshot of lamp (k, c) at a slot boundary (R228, R231, R234). -/
def State.snapLamp (s : State) (k c : Nat) (hold : Bool) : ColRun :=
  let lt := s.slotLen * 64
  let width := s.binWidth k c
  let w := onTime width (s.lambdaOf k c) lt
  let n := subCount w (s.nsTaps 100) (s.nsubOf k)
  let code := tabGet 0 s.hel.applied (k * 64 + c)
  { row := k, width := width, code := code, qexp := s.binQexp k c, w := w, n := n,
    space := (lt - s.openTap) / n, sub := w / n,
    lit := s.rowOn k && s.colOn c && s.lampOn k c && w != 0 && code != 0 && s.strobesAllowed,
    on := false, pulse := 0, hold := hold, got := w, range := s.actRange c, bhat := 0, last := s.reg (colLast c) }

/-- End of the last sub-pulse in taps from the slot boundary (R234). -/
def State.lastEnd (s : State) (x : ColRun) : Nat := s.openTap + (x.n - 1) * x.space + (x.w - (x.n - 1) * x.sub)

/-- Shortest sub-pulse of a lamp (R252). -/
def shortest (x : ColRun) : Nat := min x.sub (x.w - (x.n - 1) * x.sub)

/-- Taps from the slot boundary to the start of sub-pulse i, and the sub-pulse's length (R234). -/
def State.pulseTap (s : State) (x : ColRun) (i : Nat) : Nat := s.openTap + i * x.space
def pulseLen (x : ColRun) (i : Nat) : Nat := if i + 1 = x.n then x.w - i * x.sub else x.sub

/-- On-time steered by e taps after the slot boundary: the sub-pulses that have begun, the last one the longest. -/
def onBy (open_ : Nat) (x : ColRun) (e : Nat) : Nat :=
  (List.range x.n).foldl (fun a i =>
    a + min (pulseLen x i) (e - (open_ + i * x.space))) 0

/-- Taps since a slot began. -/
def State.tapsSince (s : State) (start : Nat) : Nat := (s.now - start) * s.pclk * 64 / 1000000000

/-- Instant at which the slot in hand began: a line's slot or a hold slot. -/
def State.slotFrom (s : State) : Nat := if s.hel.holdSlot.isSome then s.hel.holdAt else s.mer.slotAt

/-- Move the clock to a tap of the slot in hand. -/
def State.uptoTap (s : State) (tap : Nat) : State := s.upto (s.slotFrom + cdiv (tap * 1000000000) (s.pclk * 64))

/-- Strobes end at once and do not start again in their slot. A strobe that starts at this very instant is not started:
HELn_COLk_LAST keeps what it showed before (R264). -/
def State.killCols (s : State) (p : Nat → ColRun → Bool) : State :=
  let e := s.tapsSince s.slotFrom
  let hit := s.hel.cols.filter (fun (c : Nat × ColRun) => p c.1 c.2 && !c.2.dead)
  let cols := s.hel.cols.map (fun (c : Nat × ColRun) =>
    (c.1, if p c.1 c.2 && !c.2.dead then { c.2 with on := false, dead := true, got := onBy s.openTap c.2 e } else c.2))
  foldS (fun s (c : Nat × ColRun) => if c.2.on && onBy s.openTap c.2 e == 0 then s.setReg (colLast c.1) c.2.last else s)
    { s with hel := { s.hel with cols := cols } } hit

/-- No strobe, every LROW low, every regulator stopped, no hold cycle (R240, R247). -/
def State.lampsDark (s : State) : State :=
  let s := s.killCols (fun _ _ => true)
  { s with hel := { s.hel with lrow := none, sets := [], holdSlot := none, holding := false, waited := false } }

/-- Column c stops as in R226 with code 0, and is out of service. -/
def State.columnDark (s : State) (c : Nat) : State :=
  let s := s.killCols (fun x _ => x == c)
  { s with hel := { s.hel with
      sets := tabErase s.hel.sets c, restart := tabErase s.hel.restart c, recover := tabErase s.hel.recover c
      units := tabErase s.hel.units (colKey c) } }

/-- A slot boundary cuts every running strobe and counts those it cuts (R230). -/
def State.cutStrobes (s : State) : State :=
  let lt := s.slotLen * 64
  let cut := s.hel.cols.filter (fun (c : Nat × ColRun) => c.2.lit && !c.2.dead && decide (lt < s.lastEnd c.2))
  let s1 := s.when (!cut.isEmpty) (fun s => (s.bump R.HELG_TRUNC cut.length).evt P.HELG 16)
  { s1 with hel := { s1.hel with lrow := none, cols := s1.hel.cols.map (fun (c : Nat × ColRun) =>
      (c.1, { c.2 with on := false, got := if c.2.dead then c.2.got else onBy s.openTap c.2 lt })) } }

/-- The set point of column c in a slot of row k: the applied code of its lamp, 0 where the column is stopped (R226). -/
def State.setPoint (s : State) (k c : Nat) : Nat :=
  if s.lampsUp && s.flag (colCtl c) F.HELn_COLk_CTL.EN && !s.flag (colStat c) F.HELn_COLk_STAT.FLT then
    tabGet 0 s.hel.applied (k * 64 + c)
  else 0

/-- Select row k and move every regulator to its set point (R228). -/
def State.selectRow (s : State) (k : Nat) (cols : List (Nat × ColRun)) : State :=
  { s with hel := { s.hel with
      lrow := if s.rowOn k && s.strobesAllowed then some k else none, cols := cols
      sets := (List.range 64).foldl (fun l c => tabPut 0 l c (s.setPoint k c)) s.hel.sets } }

/-- The snapshot of a band slot's row (R228, R231). -/
def State.snapRow (s : State) (k : Nat) (hold : Bool) : State :=
  s.selectRow k ((List.range 64).map (fun c => (c, s.snapLamp k c hold)))

/-- A slot carries no strobe: no row is selected and no column is prepared (R84). -/
def State.noRow (s : State) : State := { s with hel := { s.hel with lrow := none, cols := [] } }

/-- Level of pin LROW[k] at tap t of the slot in hand (R225, R228). -/
def State.lrowPin (s : State) (k t : Nat) : Bool := s.hel.lrow == some k && decide (s.rowTap ≤ t)

/-- Level of pin LCOL_SB[c]: low while the column is steered in (R225, R227). -/
def State.lcolSb (s : State) (c : Nat) : Bool :=
  match tabFind s.hel.cols c with
  | some x => !x.on
  | none => true

/-- Steer a column in at its tap: LCOL_SB low, the latest strobe shown (R228, R231). -/
def State.steerIn (s : State) (c : Nat) (pulse : Nat) : State :=
  match tabFind s.hel.cols c with
  | none => s
  | some x =>
    if x.lit && decide (pulse < x.n) && !x.on && !x.dead && s.hel.lrow == some x.row then
      let s := s.uptoTap (s.pulseTap x pulse)
      let bh := if pulse = 0 then toSigned 24 (s.fld (R.ACT_BASEc c) F.ACT_BASEc.BASE) else x.bhat
      let y := { x with on := true, ran := true, pulse := pulse, bhat := bh }
      let s1 := { s with hel := { s.hel with cols := tabIns s.hel.cols c y } }
      s1.setReg (colLast c) (BitVec.ofNat 32 (x.width * 65536 + x.row * 1024 + x.code))
    else s

/-- STROBE_START (R227, R228, R233, R234, R246): sub-pulse number pulse of the lit lamps of the slot's row, or of one
column's lamp, is steered in. -/
def execStrobeStart (pulse : Nat) (col : Option Nat) (s : State) : Host.Outcome State Fault Refusal :=
  match col with
  | some c => .next (s.steerIn c pulse)
  | none => .next (forN 64 (fun s c => s.steerIn c pulse) s)

/-- STROBE_END (R228, R234): LCOL_SB of column c goes high at the end of its on-time. -/
def execStrobeEnd (c : Nat) (s : State) : Host.Outcome State Fault Refusal :=
  match tabFind s.hel.cols c with
  | none => .next s
  | some x =>
    if x.on then
      let s1 := s.uptoTap (min (s.slotLen * 64) (s.pulseTap x x.pulse + pulseLen x x.pulse))
      .next { s1 with hel := { s1.hel with cols := tabIns s1.hel.cols c { x with on := false } } }
    else .next s

/-! ## Currents (R237 to R239) -/

/-- Temperature of lamp-board thermistor i as last reported, 1/16 °C. -/
def State.thermistor (s : State) (i : Nat) : Int := toSigned 24 (s.fld (R.HKA_RESi i) F.HKA_RESi.VALUE)

/-- The value of R237's formula before its limits, for a base code at a temperature. -/
def State.codeFormula (s : State) (code : Nat) (tc temp : Int) : Int :=
  if s.flag R.HELG_TFF F.HELG_TFF.EN then
    let dt := temp - toSigned 16 (s.fld R.HELG_TFF F.HELG_TFF.TREF)
    roundHe ((code : Int) * (1048576 + tc * dt)) 1048576
  else code

/-- Target code of a base code of lamp (k, c) (R237). -/
def State.targetOf (s : State) (k c code : Nat) : Nat :=
  (sat (s.codeFormula code (s.binTc k c) (s.thermistor (s.binThsel k c))) 0 (s.binMax k c)).toNat

/-- Move an applied code toward its target by at most step codes; step 0: at once (R238). -/
def codeMove (step applied target : Nat) : Nat :=
  if step = 0 then target
  else if applied < target then min target (applied + step)
  else max target (applied - step)

/-- A lamp has met CODEMAX: HDRM, and the Notice once until HDRM is cleared (R239). -/
def State.lampLimit (s : State) (lamp : Nat) : State :=
  let s2 := (s.setFlag (colStat (lamp % 64)) F.HELn_COLk_STAT.HDRM true).evt P.HELG 18
  if (tabFind s2.hel.limited lamp).isSome then s2
  else ({ s2 with hel := { s2.hel with limited := tabIns s2.hel.limited lamp true } } : State).fault 0x0903 lamp

/-- One lamp's code step (R237 to R239). -/
def State.lampCode (s : State) (lamp : Nat) : State :=
  let k := lamp / 64
  let c := lamp % 64
  let f := s.codeFormula (s.binCode k c) (s.binTc k c) (s.thermistor (s.binThsel k c))
  let exceeds := decide ((s.binMax k c : Int) < f)
  let tgt := s.targetOf k c (s.binCode k c)
  let a := codeMove (s.fld R.HELG_CTL F.HELG_CTL.ISTEP) (tabGet 0 s.hel.applied lamp) tgt
  let s1 := { s with hel := { s.hel with applied := tabPut 0 s.hel.applied lamp a } }
  if exceeds then s1.lampLimit lamp else s1

/-- Lamps whose code can step: those with a binning entry listed, or an applied code. Every other lamp has CODE 0 and
applied code 0, which a step leaves as they are. -/
def State.codeLamps (s : State) : List Nat :=
  let l := (s.bar2.filter (fun c => 0x2900000 ≤ c.1 && c.1 < 0x2904000)).map (fun c => (c.1 - 0x2900000) / 16) ++
    s.hel.applied.map (·.1)
  (l.foldl (fun m k => tabIns m k ()) ([] : List (Nat × Unit))).map (·.1)

/-- CODE_STEP: every lamp at a line boundary or at the start of a hold cycle (R237, R238). -/
def State.codeStep (s : State) : State := foldS State.lampCode s s.codeLamps

/-! ## Fades (R241, R242, R248, R249) -/

def clampFade (v : Nat) : Nat := min (max v 10) 60000
def State.tin (s : State) : Nat := clampFade (s.fld R.HELG_FADE F.HELG_FADE.TIN)
def State.tout (s : State) : Nat := clampFade (s.fld R.HELG_FADE F.HELG_FADE.TOUT)

def State.setHelSt (s : State) (x : HelSt) : State := { s with hel := { s.hel with st := x } }

/-- Show Λ. -/
def State.setLam (s : State) (v : Nat) : State :=
  ({ s with hel := { s.hel with lam := v } } : State).setFld R.HELG_LAMBDA F.HELG_LAMBDA.LAMBDA v

/-- Begin a global fade from the Λ reached (R242). -/
def State.fadeBegin (s : State) (x : HelSt) (ms : Nat) : State :=
  { s with hel := { s.hel with st := x, base := s.hel.lam, t := 0, fadeMs := ms } }

/-- LAMPEN written to 1 (R241, R532); until the device is booted LAMPEN reads 0 (R545, R575). -/
def State.lampEnable (s : State) : State :=
  if s.chr.safe || s.pwr.st == 0 then s.setFlag R.HELG_CTL F.HELG_CTL.LAMPEN false
  else
    let s1 := s.setFlag R.HELG_CTL F.HELG_CTL.LAMPEN true
    match s1.hel.st with
    | .off => s1.fadeBegin .fadein s1.tin
    | .fadeout => s1.fadeBegin .fadein s1.tin
    | _ => s1

/-- LAMPEN written to 0 (R241). -/
def State.lampDisable (s : State) : State :=
  let s1 := s.setFlag R.HELG_CTL F.HELG_CTL.LAMPEN false
  match s1.hel.st with
  | .fadein => s1.fadeBegin .fadeout s1.tout
  | .hold => s1.fadeBegin .fadeout s1.tout
  | .scan => s1.fadeBegin .fadeout s1.tout
  | _ => s1

/-- LAMP_ENABLE (R241). -/
def execLampEnable (s : State) : Host.Outcome State Fault Refusal := .next (s.hostWrite P.HELG (fun s => s.lampEnable))

/-- LAMP_DISABLE (R241). -/
def execLampDisable (s : State) : Host.Outcome State Fault Refusal := .next (s.hostWrite P.HELG (fun s => s.lampDisable))

/-- Λ after one more ms of the global fade (R242). -/
def State.fadeStep (s : State) : State :=
  let t := s.hel.t + 1
  let s1 := { s with hel := { s.hel with t := t } }
  match s.hel.st with
  | .fadein =>
    let v := min 65536 (s.hel.base + 65536 * t / s.hel.fadeMs)
    let s2 := s1.setLam v
    if v = 65536 then (s2.setHelSt .hold).evt P.HELG 14 else s2
  | .fadeout =>
    let v := s.hel.base - min s.hel.base (65536 * t / s.hel.fadeMs)
    let s2 := s1.setLam v
    if v = 0 then (s2.lampsDark.setHelSt .off).evt P.HELG 14 else s2
  | _ => s

/-- One unit's fade after one more ms (R248). -/
def unitStep (u : UnitFade) : UnitFade :=
  if u.running then { u with t := u.t + 1, v := min 65536 (65536 * (u.t + 1) / u.tin) } else u

/-- Start a unit's fade from 0 (R248). -/
def State.unitStart (s : State) (key : Nat) : State :=
  { s with hel := { s.hel with units := tabIns s.hel.units key { tin := s.tin, running := true } } }

/-- A row that the interlock holds off stays at 0; its fade runs from 0 once the hold is removed (R264). -/
def State.unitHold (s : State) (key : Nat) : State :=
  { s with hel := { s.hel with units := tabIns s.hel.units key {} } }

/-- Row k fades in, or waits at 0 while the interlock holds it off (R248, R264). -/
def State.rowStart (s : State) (k : Nat) : State :=
  if s.rowOn k then s.unitStart (rowKey k) else s.unitHold (rowKey k)

/-- Rows whose hold is over begin their fades (R264). -/
def State.rowsFreed (s : State) : State :=
  forN 16 (fun s k =>
    match tabFind s.hel.units (rowKey k) with
    | some u => if !u.running && s.rowOn k then s.unitStart (rowKey k) else s
    | none => s) s

/-- Drop a unit's fade: the unit is out of service (R264: it restarts from 0). -/
def State.unitDrop (s : State) (key : Nat) : State :=
  { s with hel := { s.hel with units := tabErase s.hel.units key } }

/-- A column or one of its lamps fades (HELn_COLk_STAT.FADE). -/
def State.colFades (s : State) (c : Nat) : Bool :=
  s.hel.units.any (fun (u : Nat × UnitFade) => u.1 == colKey c || (1000 ≤ u.1 && (u.1 - 1000) % 64 == c))

/-- Units that have reached 65,536 leave the table; in a job only after a line boundary has shown it (R249). -/
def State.unitPrune (s : State) : State :=
  { s with hel := { s.hel with units := s.hel.units.filter (fun (u : Nat × UnitFade) => u.2.v < 65536 || s.mer.cycle) } }

/-- FADE_TICK (R242, R248): 1 ms has passed. -/
def execFadeTick (t : Nat) (s : State) : Host.Outcome State Fault Refusal :=
  let s1 := (s.upto t).rowsFreed.fadeStep
  let s2 := { s1 with hel := { s1.hel with units := s1.hel.units.map (fun (u : Nat × UnitFade) => (u.1, unitStep u.2)) } }
  .next s2.unitPrune

/-- Fade values taken by a line, and the registers of R249: the first line at whose boundary the fade runs, and the first
at 65,536. -/
def State.unitLine (s : State) (line : Nat) (key : Nat) : State :=
  match tabFind s.hel.units key with
  | none => s
  | some u =>
    let s1 := { s with hel := { s.hel with units := tabIns s.hel.units key { u with line := u.v, marked := u.marked || u.running } } }
    let s2 := s1.when (!u.marked && u.running) (fun s => s.setReg64 R.HELG_CFL0 line)
    if u.v = 65536 then ((s2.setReg64 R.HELG_CFL1 line).evt P.HELG 15).unitDrop key else s2

/-- Columns that have recovered return through a fade from this line boundary (R258). -/
def State.recoverCols (s : State) : State :=
  let l := s.hel.recover.map (·.1)
  foldS (fun s c => s.unitStart (colKey c)) { s with hel := { s.hel with recover := [] } } l

/-- The Heliostat at a line boundary (R237, R238, R241, R242, R245, R249). -/
def State.helLine (s : State) (line : Nat) : State :=
  let s1 := s.recoverCols
  let s2 := { s1 with hel := { s1.hel with lineLam := s1.hel.lam, holding := false, waited := false,
                                           st := if s1.hel.st = .hold then .scan else s1.hel.st } }
  let s3 := foldS (fun s k => s.unitLine line k) s2 (s2.hel.units.map (·.1))
  s3.codeStep

/-- The job stops or ends, or the line cycle has waited: SCAN to HOLD (R241). -/
def State.helHold (s : State) : State := if s.hel.st = .scan then s.setHelSt .hold else s

/-- HOLD_WAIT_EXPIRY (R241, R244, R246): the wait since the last capture end has outlasted HELG_HOLD.PER. -/
def execHoldWaitExpiry (t : Nat) (s : State) : Host.Outcome State Fault Refusal :=
  let s := s.upto t
  let long := s.mer.capEnd.any (fun e => decide (s.fld R.HELG_HOLD F.HELG_HOLD.PER * 1000000 < s.now - e))
  if s.mer.cycle && s.mer.phase == .idle && long then
    let s1 := s.helHold
    .next { s1 with hel := { s1.hel with waited := true } }
  else .next s

/-! ## Shutdowns and verdicts (R250, R256 to R264) -/

/-- End every strobe of the rows in a mask and drive their LROW low. -/
def State.endRows (s : State) (m : Nat) : State :=
  let hit := match s.hel.lrow with | some k => bit m k | none => false
  let s := s.killCols (fun _ x => bit m x.row)
  { s with hel := { s.hel with lrow := if hit then none else s.hel.lrow } }

/-- Band-wide shutdown of row k (R260). -/
def State.rowShutdown (s : State) (k : Nat) : State :=
  let s1 := s.endRows (2 ^ k)
  let clr (w : Word) : Word := w &&& ~~~(BitVec.ofNat 32 (2 ^ k))
  let s2 := s1.setReg R.HELG_ROWEN (clr (s1.reg R.HELG_ROWEN))
  let s3 := match tabFind s2.pend R.HELG_ROWEN with
    | some w => { s2 with pend := tabIns s2.pend R.HELG_ROWEN (clr w) }
    | none => s2
  ((s3.unitDrop (rowKey k)).fault 0x0901 k).evt P.HELG 12

/-- Mask a lamp (R257). -/
def State.maskLamp (s : State) (k c : Nat) : State :=
  let a := colStat c
  (s.setFld a F.HELn_COLk_STAT.LMASK (s.fld a F.HELn_COLk_STAT.LMASK ||| 2 ^ k)).unitDrop (lampKey k c)

/-- An OPEN or SHORT verdict of lamp (k, c) (R250, R251, R257, R260). -/
def State.lampVerdict (s : State) (k c : Nat) (short : Bool) : State :=
  let f := if short then F.HELn_COLk_LFLT.SHORT else F.HELn_COLk_LFLT.OPEN
  let s1 := s.setFld (colLflt c) f (s.fld (colLflt c) f ||| 2 ^ k)
  let s2 := (s1.bump (colCnt c) 1).evt P.HELG (if short then 9 else 8)
  let lamp := k * 64 + c
  if bit s2.critRows k then s2.rowShutdown k
  else (s2.maskLamp k c).fault (if short then 0x0A02 else 0x0A01) lamp

/-- Continuous on-time, in taps, of the latest sub-pulse of a column by now. -/
def State.contOn (s : State) (x : ColRun) : Nat :=
  if !x.ran then 0
  else if x.dead then x.got - x.pulse * x.sub
  else min (pulseLen x x.pulse) (s.tapsSince s.slotFrom - s.pulseTap x x.pulse)

/-- The regulator can judge lamp (k, c): the column has been steered into it for at least TDIAG (R250). -/
def State.judged (s : State) (k c tdiag : Nat) : Bool :=
  match tabFind s.hel.cols c with
  | some x => x.row == k && decide (s.nsTaps tdiag ≤ s.contOn x)
  | none => false

/-- TDIAG in ns, within its limits (R250, R265). -/
def State.tdiag (s : State) : Nat := min (max (s.fld R.HELG_DIAG F.HELG_DIAG.TDIAG) 500) 4000

/-- REGULATOR_VERDICT (R250, R257): the regulator judges lamp (k, c) after TDIAG of on-time. -/
def execRegulatorVerdict (k c : Nat) (short : Bool) (t : Nat) (s : State) : Host.Outcome State Fault Refusal :=
  let s := s.upto t
  if k < 16 ∧ c < 64 ∧ s.judged k c s.tdiag = true then .next (s.lampVerdict k c short) else .next s

/-- Column c has a lit lamp in row k: both in service, no verdict, an on-time above 0 (R228, R257). -/
def State.litIn (s : State) (c : Nat) (k : Nat) : Bool :=
  s.rowOn k && s.colOn c && s.lampOn k c && onTime (s.binWidth k c) (s.lambdaOf k c) (s.slotLen * 64) != 0

/-- Column c stops; safety-critical rows with a lit lamp in it shut down (R257, R260). -/
def State.columnStop (s : State) (c : Nat) : State :=
  let rows := (List.range 16).filter (fun k => bit s.critRows k && s.litIn c k)
  let s1 := (s.setFlag (colStat c) F.HELn_COLk_STAT.FLT true).columnDark c
  ((foldS State.rowShutdown s1 rows).evt P.HELG 11).fault 0x0A04 c

/-- COLUMN_FAULT (R257, R260). -/
def execColumnFault (c t : Nat) (s : State) : Host.Outcome State Fault Refusal :=
  if c < 64 then .next ((s.upto t).columnStop c) else .next s

/-- Writing 1 to bits of LFLT clears verdicts, unmasks lamps and starts their fades (R258). -/
def State.verdictClear (s : State) (c : Nat) (w : Word) : State :=
  let old := (s.reg (colLflt c)).toNat
  let s1 := s.setReg (colLflt c) (s.reg (colLflt c) &&& ~~~w)
  forN 16 (fun s k =>
    let hit := (bit old k && bit w.toNat k) || (bit old (16 + k) && bit w.toNat (16 + k))
    let left := bit (s.reg (colLflt c)).toNat k || bit (s.reg (colLflt c)).toNat (16 + k)
    if hit && !left then
      let a := colStat c
      let m := s.fld a F.HELn_COLk_STAT.LMASK
      let s2 := s.setFld a F.HELn_COLk_STAT.LMASK (m - (if bit m k then 2 ^ k else 0))
      let r := tabGet {} s2.act.lamps (k * 64 + c)
      let s3 := { s2 with act := { s2.act with lamps := tabPut {} s2.act.lamps (k * 64 + c) { r with low := 0 } } }
      s3.unitStart (lampKey k c)
    else s) s1

/-- LAMP_VERDICT_CLEAR (R258). -/
def execLampVerdictClear (c : Nat) (w : Word) (s : State) : Host.Outcome State Fault Refusal :=
  if c < 64 then .next (s.hostWrite (P.HELn (c / 8)) (fun s => s.verdictClear c w)) else .next s

/-- REEN clears FLT and restarts the column's regulator (R258). -/
def State.columnReen (s : State) (c : Nat) : State :=
  let s1 := s.setFlag (colStat c) F.HELn_COLk_STAT.FLT false
  { s1 with hel := { s1.hel with restart := tabIns s1.hel.restart c true } }

/-- COLUMN_REEN (R258). -/
def execColumnReen (c : Nat) (s : State) : Host.Outcome State Fault Refusal :=
  if c < 64 then .next (s.hostWrite (P.HELn (c / 8)) (fun s => s.columnReen c)) else .next s

/-- COLUMN_RECOVERED (R258): the current is in tolerance; the column fades in from the next line boundary, or at once
while no line cycle runs. -/
def execColumnRecovered (c : Nat) (s : State) : Host.Outcome State Fault Refusal :=
  if (tabFind s.hel.restart c).isSome then
    let s1 := { s with hel := { s.hel with restart := tabErase s.hel.restart c } }
    .next (if s1.mer.cycle then { s1 with hel := { s1.hel with recover := tabIns s1.hel.recover c true } }
      else s1.unitStart (colKey c))
  else .next s

/-- The column's regulator runs (R226, HELn_COLk_STAT.ACTIVE): it is restarting, or holds a set point above 0. -/
def State.colActive (s : State) (c : Nat) : Bool :=
  s.lampsUp && s.flag (colCtl c) F.HELn_COLk_CTL.EN && !s.flag (colStat c) F.HELn_COLk_STAT.FLT &&
  ((tabFind s.hel.restart c).isSome || tabGet 0 s.hel.sets c != 0)

/-- Columns whose EN has become 1 fade in; a column whose EN has become 0 stops (R226, R248, R267). old: before. -/
def State.colFollow (s old : State) : State :=
  forN 64 (fun s c =>
    let was := old.flag (colCtl c) F.HELn_COLk_CTL.EN
    let is := s.flag (colCtl c) F.HELn_COLk_CTL.EN
    if is && !was then s.unitStart (colKey c)
    else if was && !is then s.columnDark c
    else s) s

/-- Clearing HDRM allows CODE_LIMIT again for every lamp of the column (R239). -/
def State.hdrmClear (s : State) (c : Nat) : State :=
  let s1 := s.setFlag (colStat c) F.HELn_COLk_STAT.HDRM false
  { s1 with hel := { s1.hel with limited := s1.hel.limited.filter (fun l => l.1 % 64 != c) } }

/-- HDRM_CLEAR (R239). -/
def execHdrmClear (c : Nat) (s : State) : Host.Outcome State Fault Refusal :=
  if c < 64 then .next (s.hostWrite (P.HELn (c / 8)) (fun s => s.hdrmClear c)) else .next s

/-- A row the interlock holds off: its fade restarts from 0 when the hold is removed (R264). -/
def State.rowHoldOff (s : State) (k : Nat) : State :=
  if bit (s.fld R.HELG_ROWEN F.HELG_ROWEN.EN) k then s.unitHold (rowKey k) else s.unitDrop (rowKey k)

/-- The interlock forces every safety-critical row off (R261). back: the instant at which ILK_N is high again. -/
def State.ilkFall (s : State) (back : Option Nat) : State :=
  let m := s.critRows
  let old := if s.flag R.HELG_ILK F.HELG_ILK.LATCH then s.fld R.HELG_ILK F.HELG_ILK.FORCED else 0
  let s1 := s.endRows m
  let s2 := { s1 with hel := { s1.hel with ilkPin := false, ilkBack := back } }
  let s3 := s2.setReg R.HELG_ILK (BitVec.ofNat 32 ((m ||| old) * 65536 + 2))
  let s4 := forN 16 (fun s k => if bit m k then s.rowHoldOff k else s) s3
  ((s4.evt P.HELG 13).emit 152).fault 0x0902 0

/-- ILK_FALL (R261, R506). -/
def execIlkFall (x : IlkIn) (s : State) : Host.Outcome State Fault Refusal := .next ((s.upto x.t).ilkFall x.back)

/-- Clear the interlock latch while ILK_N is high; the forced rows whose ROWEN bit is 1 fade back in (R262). -/
def State.ilkClear (s : State) : State :=
  if s.ilkHigh && s.flag R.HELG_ILK F.HELG_ILK.LATCH then
    let m := s.fld R.HELG_ILK F.HELG_ILK.FORCED
    let s1 := s.setReg R.HELG_ILK 0
    forN 16 (fun s k => if bit m k && bit (s.fld R.HELG_ROWEN F.HELG_ROWEN.EN) k then s.rowStart k else s) s1
  else s

/-- ILK_LATCH_CLEAR (R262): a guarded write; pin: ILK_N is seen high at the write. -/
def execIlkLatchClear (pin : Bool) (s : State) : Host.Outcome State Fault Refusal :=
  let s1 := { s with hel := { s.hel with ilkPin := s.ilkHigh || pin } }
  .next (s1.hostWrite P.HELG (fun s => s.guarded P.HELG State.ilkClear))

/-- Bits of a ROWEN write that the device ignores (R256, R263). -/
def State.rowHeld (s : State) (k : Nat) : Bool :=
  s.isUnack 0x0901 k || (s.flag R.HELG_ILK F.HELG_ILK.LATCH && bit (s.fld R.HELG_ILK F.HELG_ILK.FORCED) k) ||
  bit s.hel.blindOff k

/-- ROWEN takes a new active value: rows that become 1 fade in (R248). -/
def State.rowenApply (s : State) (w : Word) : State :=
  let old := s.fld R.HELG_ROWEN F.HELG_ROWEN.EN
  let s1 := s.setReg R.HELG_ROWEN w
  forN 16 (fun s k => if bit w.toNat k && !bit old k then s.rowStart k
    else if bit old k && !bit w.toNat k then (s.endRows (2 ^ k)).unitDrop (rowKey k) else s) s1

/-- A write of ROWEN (boundary L): a 1 written to a bit that is held off is ignored and reported, the rest becomes
pending (R263). -/
def State.rowenWrite (s : State) (w : Word) : State :=
  let cur := (s.regNext R.HELG_ROWEN).toNat
  let bad := maskOf 16 (fun k => bit w.toNat k && s.rowHeld k)
  let v : Word := BitVec.ofNat 32 (maskOf 16 (fun k => if bit bad k then bit cur k else bit w.toNat k))
  let s1 := { s with pend := tabIns s.pend R.HELG_ROWEN v }
  s1.evtIf (bad != 0) P.HELG 19

/-- ROW_ENABLE (R263): a write of 1 to row k's ROWEN bit. -/
def execRowEnable (k : Nat) (s : State) : Host.Outcome State Fault Refusal :=
  if k < 16 then
    .next (s.hostWrite P.HELG (fun s => s.rowenWrite (BitVec.ofNat 32 ((s.regNext R.HELG_ROWEN).toNat ||| 2 ^ k))))
  else .next s

/-- Method of diagnosis of row k in the job (R252). -/
def State.diagOf (s : State) (k : Nat) : Nat := bits s.hel.diagM (2 * k + 1) (2 * k)

/-- Rows newly marked safety-critical while a job is armed or running, with method 3, shut down (R256). -/
def State.markRows (s : State) (m : Nat) : State :=
  forN 16 (fun s k =>
    if bit m k && s.ssc.st != 0 && s.diagOf k == 3 then
      let s1 := s.rowShutdown k
      { s1 with hel := { s1.hel with blindOff := s1.hel.blindOff ||| 2 ^ k } }
    else s) s

/-- Rows newly marked safety-critical while ILK_N is low are held off at once (R261). -/
def State.ilkMark (s : State) (m : Nat) : State :=
  if s.ilkHigh then s else forN 16 (fun s k => if bit m k then s.rowHoldOff k else s) (s.endRows m)

/-- Write SAFE (its KW effect) or set UV bits (R259). -/
def State.safeWrite (s : State) (w : Nat) : State :=
  let new_ := maskOf 16 (fun k => bit w k && !bit s.critRows k)
  ((s.setFld R.HELG_SAFE F.HELG_SAFE.SAFE w).ilkMark new_).markRows new_

def State.uvWrite (s : State) (w : Nat) : State :=
  let new_ := maskOf 16 (fun k => bit w k && !bit s.critRows k)
  ((s.setFld R.HELG_UV F.HELG_UV.UV (s.fld R.HELG_UV F.HELG_UV.UV ||| w)).ilkMark new_).markRows new_

/-- SAFE_ROW_MARK (R256): a guarded write sets row k's SAFE or UV bit. Writing a SAFE bit that is set already is no KW
write (R622). -/
def execSafeRowMark (k : Nat) (uv : Bool) (s : State) : Host.Outcome State Fault Refusal :=
  if k < 16 then
    .next (s.hostWrite P.HELG (fun s =>
      if !uv && bit (s.fld R.HELG_SAFE F.HELG_SAFE.SAFE) k then s
      else s.guarded P.HELG (fun s =>
        if uv then s.uvWrite (2 ^ k) else s.safeWrite (s.fld R.HELG_SAFE F.HELG_SAFE.SAFE ||| 2 ^ k))))
  else .next s

/-! ## Methods of diagnosis (R252) -/

/-- Length of a diagnostic strobe in pclk (R252). -/
def State.diagLen (s : State) : Nat :=
  let pre := min (max (s.fld R.HELG_PRE F.HELG_PRE.TPRE) 50) 2000
  cdiv ((pre + s.tdiag) * min (max (s.fld R.MER_PCLK F.MER_PCLK.FREQ) 2000) 40000) 1000000 + 1

/-- Method of row k with the values the job will run with: lamps at Λ 65,536, slot length l and spacing sp in pclk. -/
def State.methodOf (s : State) (k n l sp khz : Nat) : Nat :=
  let lt := l * 64
  let taps (ns : Nat) : Nat := cdiv (ns * khz * 64) 1000000
  let ws := ((List.range 64).filter (fun c => s.rowOn k && s.colOn c && s.lampOn k c && s.binWidth k c != 0)).map
    (fun c => onTime (s.binWidth k c) 65536 lt)
  let ws := ws.filter (fun w => w != 0)
  let nsub (w : Nat) : Nat :=
    subCount w (taps 100) (s.fld (if k < 8 then R.HELG_NSUB0 else R.HELG_NSUB1) (4 * (k % 8) + 3, 4 * (k % 8)) + 1)
  let short (w : Nat) : Nat := min (w / nsub w) (w - (nsub w - 1) * (w / nsub w))
  if ws.isEmpty then 0
  else if ws.all (fun w => taps s.tdiag ≤ short w) then 0
  else if s.flag R.HELG_CTL F.HELG_CTL.DIAGEN && decide ((n + 2) * l + s.diagLen + 5 ≤ sp) then 1
  else if ws.all (fun w => taps 200 ≤ w) then 2
  else 3

/-! ## Hold cycles (R244) -/

/-- Every STG output at its idle level (R99). -/
def State.stgIdle (s : State) : State :=
  { s with mer := { s.mer with stg := BitVec.ofNat 24 (s.fld R.MER_STGIDLE F.MER_STGIDLE.IDLE), late := [] } }

/-- Between lines of a job: the job's line cycle waits for a trigger after a line of its own, neither stopped nor paused
(R244). -/
def State.betweenLines (s : State) : Bool :=
  s.mer.cycle && s.mer.capEnd.isSome && !(s.ssc.st == 5 || s.ssc.st == 6 || s.ssc.st == 8)

/-- The Heliostat runs hold cycles now (R244). -/
def State.holdRuns (s : State) : Bool :=
  s.mer.phase == .idle &&
  (s.hel.st == .hold || ((s.hel.st == .fadein || s.hel.st == .fadeout) && (!s.betweenLines || s.hel.waited)))

/-- Instant at which the hold slot in hand ends (R244). -/
def State.holdSlotOver (s : State) : Nat := (s.pclkAfter s.hel.holdAt 0 s.slotLen).1

/-- Instant at which the next hold cycle of the run in hand begins (R244). -/
def State.nextCycle (s : State) : Nat :=
  s.hel.cycleAt + max (s.fld R.HELG_HOLD F.HELG_HOLD.PER * 1000000) (s.pclkPs (s.nslot * s.slotLen))

end Sys2Proof.Machine
end

