-- ==== Sys2Proof/Machine/ColReq.lean ====
section
/-! DEFINITION. Requests, results and rejections of the Collimator (spec/09 R321 to R323, R333), shared by the blocks
that trigger it. Runs are numbered as COL_STAT.RUN: 1 lamp, 2 flux correction, 3 dark, 4 white. -/

namespace Sys2Proof.Machine

/-- A fault under R282 or R324 is unacknowledged: no result is accepted (R323). -/
def State.colRefuses (s : State) : Bool := s.codeUnack 0x0C01 || s.codeUnack 0x0D02

/-- COL_STAT.PHASE (R300, R312, R324). -/
def State.colPhase (s : State) : Nat :=
  if s.col.idle.isSome then 8 else if s.col.ch.isSome && (s.col.held || s.codeUnack 0x0D02) then 9 else s.col.phase

/-- COL_STAT shows the run and the rotation (R300, R333); NEED is kept. -/
def State.showCol (s : State) : State :=
  let x := s.col
  let rot := match x.ch with | some c => if x.phase = 7 then 256 + c / 16 else c | none => 511
  let s1 := s.setFld R.COL_STAT F.COL_STAT.PHASE s.colPhase
  let s2 := s1.setFld R.COL_STAT F.COL_STAT.ROTCH rot
  let s3 := s2.setFld R.COL_STAT F.COL_STAT.TRY (if x.run = 0 then 0 else x.retry)
  s3.setFld R.COL_STAT F.COL_STAT.RUN x.run

/-- COL_RESULT: kind, outcome (0 accepted, 1 rejected, 2 abandoned), retries used, item. -/
def State.colResult (s : State) (kind outcome tries item : Nat) : State :=
  s.setReg R.COL_RESULT (BitVec.ofNat 32 (item % 1024 * 65536 + tries % 8 * 256 + outcome % 4 * 16 + kind % 8))

/-- A result is accepted (R333). -/
def State.colAccept (s : State) (kind tries item : Nat) : State :=
  (s.colResult kind 0 tries item).evt P.COL 8

/-- A result is rejected (R322). -/
def State.colReject (s : State) (kind tries item : Nat) : State :=
  let s1 := (s.colResult kind 1 tries item).fault 0x0D01 item
  ((s1.bump R.COL_REJCNT 1).evt P.COL 9).setAttn 5

/-- A run or step is abandoned (R295, R313). -/
def State.colAbandon (s : State) (kind item : Nat) : State := s.colResult kind 2 s.col.retry item

/-- A bit of COL_STAT.NEED: 0 white run, 1 dark run, 2 switch awaited (R318, R321, R333). -/
def State.colNeed (s : State) (b : Nat) : State :=
  let n := s.fld R.COL_STAT F.COL_STAT.NEED ||| 2 ^ b
  ((s.setFld R.COL_STAT F.COL_STAT.NEED n).evt P.COL 10).setAttn 5

def State.colNeedDone (s : State) (b : Nat) : State :=
  let n := s.fld R.COL_STAT F.COL_STAT.NEED
  s.setFld R.COL_STAT F.COL_STAT.NEED (n - (if bit n b then 2 ^ b else 0))

/-- A run may start now: a job is armed for a dark or white run, no blend is in progress for a run that writes a bank
(R222, R318, R319). -/
def State.runReady (s : State) (kind : Nat) : Bool :=
  if kind = 1 then true
  else if kind = 2 then !s.fft.blend && !s.fft.calBusy
  else !s.fft.blend && !s.fft.calBusy && decide (2 ≤ s.ssc.st) && decide (s.ssc.st ≠ 9)

/-- The next pending run: lamp, flux correction, dark, white (R321). -/
def nextRun (req : Nat) : Nat :=
  if bit req 0 then 1 else if bit req 1 then 2 else if bit req 2 then 3 else if bit req 3 then 4 else 0

/-- Start a run. Every run uses its own averaging, 64 lines, although the paragraph after R223 lets NAVG apply to a run of
the host's: R319 follows for it too (DESIGN CHOICE, notes/assumptions 109). -/
def State.runBegin (s : State) (kind : Nat) : State :=
  let s1 := { s with col := { s.col with run := kind, retry := 0, second := false, wrote := false, windows := [], first := [],
                                         req := s.col.req - (if bit s.col.req (kind - 1) then 2 ^ (kind - 1) else 0) } }
  let s2 := match kind with
    | 2 => s1.runStart 3 0
    | 3 => (s1.setFld R.FFT_CALCFG F.FFT_CALCFG.NAVG 6).runStart 1 64
    | 4 => (s1.setFld R.FFT_CALCFG F.FFT_CALCFG.NAVG 6).runStart 2 64
    | _ => s1
  s2.showCol

/-- Pending runs are served one at a time while the Collimator is on and the control core's services run
(R17, R295, R321). -/
def State.colServe (s : State) : State :=
  let k := nextRun s.col.req
  if s.col.run = 0 && k != 0 && s.flag R.COL_CTL F.COL_CTL.EN && !s.sec.paused && s.runReady k then s.runBegin k else s

/-- A run ends: its COL_REQ bit clears, with ATTN bit 5 when the host asked for it (R333). -/
def State.runEnd (s : State) : State :=
  let b := s.col.run - 1
  let asked := bit (s.reg R.COL_REQ).toNat b
  let s1 := s.setFld R.COL_REQ (b, b) 0
  let s2 := { s1 with col := { s1.col with run := 0, retry := 0, second := false, wrote := false, windows := [], first := [] } }
  let s3 := { s2 with fft := { s2.fft with run := 0, sums := [], count := [] } }
  ((s3.when asked (fun s => s.setAttn 5)).showCol).colServe

/-- A trigger for a run: it merges with a pending or running one of its kind (R321). -/
def State.colTrigger (s : State) (kind : Nat) : State :=
  if s.col.run = kind then s
  else ({ s with col := { s.col with req := s.col.req ||| 2 ^ (kind - 1) } } : State).colServe

/-! ## Temperature triggers (R321) -/

/-- CAL_DT in 1/16 °C. -/
def State.calDt (s : State) : Nat := max 1 (s.fld R.COL_TRIG F.COL_TRIG.CAL_DT)

/-- The signed value of a housekeeping result. -/
def State.hkValue (s : State) (i : Nat) : Int := toSigned 24 (s.fld (R.HKA_RESi i) F.HKA_RESi.VALUE)

/-- COL_DTMAX follows the largest difference. -/
def State.dtMax (s : State) (src : Nat) (d : Nat) : State :=
  if s.fld R.COL_DTMAX F.COL_DTMAX.DT < d then
    s.setReg R.COL_DTMAX (BitVec.ofNat 32 (src * 65536 + min d 4095))
  else s

/-- A temperature has been reported: compared with its reference. -/
def State.tempCheck (s : State) (i : Nat) : State :=
  let ten := s.flag R.COL_TRIG F.COL_TRIG.TEN
  if i < 8 then
    match tabFind s.col.lampRef i with
    | none => s
    | some r =>
      let d := (s.hkValue i - r).natAbs
      let s1 := s.dtMax i d
      if ten && decide (s.calDt < d) then s1.colTrigger 1 else s1
  else if 56 ≤ i ∧ i < 60 then
    match tabFind s.col.dieRef (i - 56) with
    | none => s
    | some r =>
      let d := (s.hkValue i - r).natAbs
      let s1 := s.dtMax (i - 48) d
      if ten && decide (s.calDt < d) then { s1 with col := { s1.col with dieTrig := true } } else s1
  else s

/-! ## The urgent queue of the housekeeping converter (R284, R285) -/

/-- Settle of an entry in µs, and its number of conversions, of 1 µs each (R283). -/
def entSettle (w : Word) : Nat := bits w.toNat 31 24
def entConv (w : Word) : Nat := 4 ^ bits w.toNat 21 20

/-- Instant at which the running entry's first conversion begins. -/
def State.hkConvAt (s : State) : Nat := s.hka.startAt + entSettle s.hka.entryW * 1000000

/-- Instant at which a request made now may start: at once, at the end of the conversion under way, or (none) when the
entry has completed with its last conversion (R285). -/
def State.urgentFrom (s : State) : Option Nat :=
  let d := s.now - s.hkConvAt
  if !s.hka.running ∨ s.now < s.hkConvAt then some s.now
  else if entConv s.hka.entryW ≤ d / 1000000 then none
  else if d % 1000000 = 0 then some s.now
  else if d / 1000000 + 1 < entConv s.hka.entryW then some (s.now - d % 1000000 + 1000000)
  else none

/-- The oldest request becomes the urgent conversion, from the instant t on. -/
def State.urgentTake (s : State) (t : Nat) : State :=
  { s with hka := { s.hka with cur := s.hka.queue.head?, queue := s.hka.queue.tail, urgAt := t, takeAt := none } }

/-- A conversion that a request waited for has ended by now: the request has started. -/
def State.hkTake (s : State) : State :=
  match s.hka.cur, s.hka.takeAt with
  | none, some t => if t ≤ s.now then s.urgentTake t else s
  | _, _ => s

/-- Requests that wait are taken up as soon as the converter lets them. -/
def State.urgentPull (s : State) : State :=
  if s.hka.cur.isSome ∨ s.hka.takeAt.isSome then s
  else ({ s with hka := { s.hka with takeAt := s.urgentFrom } } : State).hkTake

/-- A request joins the queue's end. -/
def State.urgentPut (s : State) (u : Urgent) : State :=
  ({ s with hka := { s.hka with queue := s.hka.queue ++ [{ u with at_ := s.now }] } } : State).urgentPull

/-! ## The reference DAC check (R324) -/

/-- Queue the next point of a running check while the urgent queue has room. -/
def State.dacPump (s : State) : State :=
  let s := s.hkTake
  let busy := s.hka.queue.any (fun u => u.dac.isSome) || s.hka.cur.any (fun u => u.dac.isSome)
  if s.col.dacStep < 9 && !busy && decide (s.hka.queue.length < 4) then
    s.urgentPut { input := 60, kind := 0, tag := 0, dac := some s.col.dacStep }
  else s

/-- A check begins at the start of a rotation pass or an idle sweep. -/
def State.dacStart (s : State) : State :=
  if s.col.dacStep < 9 then s
  else ({ s with col := { s.col with dacStep := 0, dacRes := [] } } : State).dacPump

/-- Least-squares line of the nine results against their number, times 60 (exact): slope and level at the mean. -/
def dacSlope60 (l : List Int) : Int :=
  (List.range 9).foldl (fun (a : Int) (i : Nat) => a + ((i : Int) - 4) * (l[i]?).getD 0) 0
def dacSum (l : List Int) : Int := l.foldl (· + ·) 0

/-- A point deviates by more than 0.05 % of the fitted span: 540 × |y - fit| > 540 × span / 2000. -/
def dacFails (l : List Int) : Bool :=
  let b := dacSlope60 l
  let sm := dacSum l
  (List.range 9).any (fun (i : Nat) =>
    let dev := 540 * (l[i]?).getD 0 - 60 * sm - 9 * b * ((i : Int) - 4)
    decide (9 * b.natAbs * 8 < 2000 * dev.natAbs))

/-- A point of the check has been converted; after the ninth the DAC is judged, and its gain and offset serve every later
level. -/
def State.dacPoint (s : State) (v : Int) : State :=
  let l := s.col.dacRes ++ [v]
  let s1 := { s with col := { s.col with dacStep := s.col.dacStep + 1, dacRes := l } }
  if s1.col.dacStep < 9 then s1.dacPump
  else
    let s1 := { s1 with col := { s1.col with dacFit := some (dacSlope60 l, dacSum l) } }
    if dacFails l then (s1.fault 0x0D02 0).showCol
  else s1

end Sys2Proof.Machine
end

