-- ==== Sys2Proof/Machine/Act.lean ====
section
/-! DEFINITION. The Actinometer (spec/08 R268 to R280): holds, baseline, flux and verdicts of measured slots; the
hold cycles of the Heliostat, which it measures (R244). -/

namespace Sys2Proof.Machine

/-! ## Which slots are measured (R273, R274) -/

/-- The smallest number from b on that has no common factor with n; one lies within n numbers. -/
def coprimeFrom (b n : Nat) : Nat :=
  match (List.range (n + 1)).find? (fun i => Nat.gcd (b + i) n == 1) with
  | some i => b + i
  | none => b

/-- The interval m of a slot length in pclk at a pclk in kHz with n exposure slots (R273). -/
def measInterval (len khz n : Nat) : Nat := coprimeFrom (max 1 (cdiv (17 * khz) (2000 * len))) n

def State.measM (s : State) : Nat := measInterval s.slotLen s.pclk s.nslot

/-- Put an interval in force. -/
def State.setMeasM (s : State) (m : Nat) : State := { s with act := { s.act with m := m } }

/-- A job is armed: m, the slot count, VALID, the first mean and WEAKCNT of every lamp, the filters (R273, R277, R278,
R280). -/
def State.actArm (s : State) : State :=
  let s1 := { s with act := { s.act with slots := 0, jobRestart := true, lamps := s.act.lamps.map (fun (l : Nat × LampRes) =>
    (l.1, { l.2 with valid := false, hasMean := false, weak := 0 })) } }
  s1.setMeasM s1.measM

/-- TSET and TTAIL in taps (R270). -/
def State.tset (s : State) : Nat := s.nsTaps (min (max (s.fld R.ACT_TIME F.ACT_TIME.TSET) 20) 1000)
def State.ttail (s : State) : Nat := s.nsTaps (min (max (s.fld R.ACT_TIME F.ACT_TIME.TTAIL) 100) 4000)

/-- Second hold of the slot in hand, in taps from the slot boundary (R270). -/
def State.holdTap (s : State) : Nat :=
  let lt := s.slotLen * 64
  let lit := s.hel.cols.filter (fun (c : Nat × ColRun) => c.2.lit)
  if lit.isEmpty then lt
  else min lt (lit.foldl (fun (a : Nat) (c : Nat × ColRun) => max a (s.lastEnd c.2)) 0 + s.ttail)

/-- A slot that is counted ends; a measured one leaves its two sets of holds for conversion (R270, R274). -/
def State.actSlotEnd (s : State) (row : Nat) (hold : Bool) : State :=
  let n := if hold then s.act.hslots else s.act.slots
  let t1 := s.openTap
  let ms : MeasSlot := { row := row, a := t1 - s.tset, b := s.holdTap - t1, khz := s.pclk, cols := s.hel.cols, hold := hold,
                         ranges := (List.range 4).map (fun i => (s.reg (R.ACT_RANGEi i)).toNat) }
  let meas := s.flag R.ACT_CFG F.ACT_CFG.EN && s.act.m != 0 && n % s.act.m == 0
  { s with act := { s.act with
      hslots := if hold then n + 1 else s.act.hslots
      slots := if hold then s.act.slots else n + 1
      due := if meas then s.act.due ++ [ms] else s.act.due } }

/-! ## Lamp results (R278) -/

def State.lampRes (s : State) (lamp : Nat) : LampRes := tabGet {} s.act.lamps lamp
def State.setLampRes (s : State) (lamp : Nat) (r : LampRes) : State :=
  { s with act := { s.act with lamps := tabPut {} s.act.lamps lamp r } }

/-- On-time in taps of at least ns nanoseconds. -/
def longEnough (taps khz ns : Nat) : Bool := decide (ns * 64 * khz ≤ taps * 1000000)

/-- A consecutive count: held at 4, counted while low, reset otherwise (R278). -/
def lowCount (n : Nat) (low : Bool) : Nat := if n = 4 then 4 else if low then n + 1 else 0

/-- Flux below a percentage of the expected flux. -/
def fluxBelow (phi pct qexp : Nat) : Bool := decide (phi * 100 < pct * qexp)

/-- The results after an unsaturated measured strobe of flux phi. -/
def resAfter (r : LampRes) (phi qexp k openPct weakPct : Nat) (judged : Bool) : LampRes :=
  let r1 := { r with flux := phi, nmeas := min 65535 (r.nmeas + 1), sat := false, valid := true }
  if judged then
    let mean := if r.hasMean then ((r.mean : Int) + roundHe ((phi : Int) - r.mean) (2 ^ k : Nat)).toNat else phi
    { r1 with mean := mean, hasMean := true, low := lowCount r.low (fluxBelow phi openPct qexp)
              weak := lowCount r.weak (fluxBelow phi weakPct qexp) }
  else r1

def State.ltol (s : State) : Nat := s.fld R.COL_TOL F.COL_TOL.LTOL

/-- Both windows are full. -/
def winFull (w : LampWin) : Bool := w.n1 == 16 && w.n2 == 16

/-- The two window means agree within LTOL × 0.1 % of their mean (R315). -/
def winAgree (w : LampWin) (ltol : Nat) : Bool :=
  decide (2000 * ((w.sum1 : Int) - w.sum2).natAbs ≤ ltol * (w.sum1 + w.sum2))

/-- A strobe of a lamp run or a white run joins the lamp's windows (R315, R320). -/
def winAdd (w : LampWin) (phi : Nat) : LampWin :=
  if w.done then w
  else if w.n1 < 16 then { w with n1 := w.n1 + 1, sum1 := w.sum1 + phi }
  else if w.n2 < 16 then { w with n2 := w.n2 + 1, sum2 := w.sum2 + phi }
  else w

/-- In a white run a lamp whose windows disagree is measured again over the run's further lines, up to 3 times (R320,
R322). -/
def winRetry (w : LampWin) (ltol : Nat) : LampWin :=
  if winFull w && !winAgree w ltol && decide (w.tries < 3) then { tries := w.tries + 1 } else w

def State.windowAdd (s : State) (lamp phi : Nat) : State :=
  let w := winAdd (tabGet {} s.col.windows lamp) phi
  if s.col.run = 1 || s.col.run = 4 then
    { s with col := { s.col with windows := tabIns s.col.windows lamp (if s.col.run = 4 then winRetry w s.ltol else w) } }
  else s

/-- The flux a lamp is expected to give after the latest accepted lamp run: QEXP less the shortfall its flux factor
carries. -/
def State.fluxRef (s : State) (lamp qexp : Nat) : Nat := qexp * 4194304 / max 1 (tabGet 4194304 s.col.sigma lamp)

/-- LAMP_DECLINE (R330): the mean has declined by more than DECL since the latest accepted lamp run. -/
def State.lampDecline (s : State) (lamp qexp : Nat) : State :=
  let r := s.lampRes lamp
  let d := s.fluxRef lamp qexp - r.mean
  if s.flag R.ALM_CTL F.ALM_CTL.EN && s.flag R.ALM_CTL F.ALM_CTL.LAMP && s.flag R.COL_TRIG F.COL_TRIG.AEN &&
     r.hasMean && !r.declined && decide (s.fld R.ALM_MARG F.ALM_MARG.DECL * qexp < d * 10000) then
    (s.setLampRes lamp { r with declined := true }).colTrigger 1
  else s

/-- The verdicts that a lamp's counts give when they reach 4 (R251, R278, R257). -/
def State.actVerdict (s : State) (k c : Nat) (old new_ : LampRes) : State :=
  let s1 := s.when (old.low != 4 && new_.low == 4) (fun s => s.lampVerdict k c false)
  s1.when (old.weak != 4 && new_.weak == 4) (fun s => (s.evt P.HELG 10).fault 0x0A03 (k * 64 + c))

/-- A saturated strobe (R272): counted, reported, not low. -/
def State.measSat (s : State) (k c : Nat) (judged : Bool) : State :=
  let lamp := k * 64 + c
  let r := s.lampRes lamp
  let r1 := { r with sat := true, low := if judged then lowCount r.low false else r.low
                     weak := if judged then lowCount r.weak false else r.weak }
  (((s.setLampRes lamp r1).bump R.ACT_SATCNT 1).evt P.ACT 8).fault 0x0B01 lamp

/-- Charge of a code in qu (R268). -/
def quOf (code range : Nat) : Int := code * 4 ^ range

/-- Φ of R271. a, b and got in taps; bhat in 1/256 qu/µs. -/
def fluxOf (q1 q2 bhat : Int) (b got khz : Nat) : Nat :=
  (sat (roundHe (256 * (q2 - q1) * (64 * khz : Nat) - bhat * (b * 1000 : Nat)) (got * 1000 : Nat)) 0 16777215).toNat

/-- A baseline sample joins the running interval (R271, R276, R277). -/
def State.baseSample (s : State) (c : Nat) (v : Int) : State :=
  let s1 := if s.act.restart then
      { s with act := { s.act with restart := false, settle := 2 ^ s.fld R.ACT_NOTCH F.ACT_NOTCH.LPK, base := [], lastVal := [], notch := [] } }
    else s
  let o := tabGet (0, 0) s1.act.base c
  { s1 with act := { s1.act with base := tabIns s1.act.base c (o.1 + v, o.2 + 1) } }

/-- Range of column c in a measured slot, whose range words it kept (R268). -/
def MeasSlot.range (ms : MeasSlot) (c : Nat) : Nat := bits ((ms.ranges[c / 16]?).getD 0) (2 * (c % 16) + 1) (2 * (c % 16))

/-- One column of a measured slot (R269 to R272, R278). -/
def State.measCol (s : State) (ms : MeasSlot) (x : MeasIn) : State :=
  let c := x.col
  match tabFind ms.cols c with
  | none => { s with act := { s.act with offset := tabIns s.act.offset c (quOf x.h1 (ms.range c)) } }
  | some r =>
    if r.lit && r.got != 0 then
      let off := tabGet 0 s.act.offset c
      let q1 := quOf x.h1 r.range - off
      let q2 := quOf x.h2 r.range - off
      let judged := longEnough r.got ms.khz 200
      let s1 := s.when (longEnough ms.a ms.khz 100)
        (fun s => s.baseSample c (roundHe (256 * q1 * (64 * ms.khz : Nat)) (1000 * ms.a : Nat)))
      if x.h1 = 16383 ∨ x.h2 = 16383 then s1.measSat r.row c judged
      else
        let phi := fluxOf q1 q2 r.bhat ms.b r.got ms.khz
        let lamp := r.row * 64 + c
        let old := s1.lampRes lamp
        let new_ := resAfter old phi r.qexp (s1.fld R.ACT_CFG F.ACT_CFG.K) (s1.fld R.HELG_DIAG F.HELG_DIAG.OPENPCT)
          (s1.fld R.HELG_DIAG F.HELG_DIAG.WEAKPCT) judged
        let s2 := (s1.setLampRes lamp new_).windowAdd lamp phi
        (s2.actVerdict r.row c old new_).lampDecline lamp r.qexp
    else { s with act := { s.act with offset := tabIns s.act.offset c (quOf x.h1 r.range) } }

/-- STROBE_MEASURE (R269 to R272, R278): the holds of the oldest measured slot are converted. -/
def execStrobeMeasure (x : List MeasIn) (t : Nat) (s : State) : Host.Outcome State Fault Refusal :=
  match s.act.due with
  | [] => .next s
  | ms :: l =>
    let first := s.act.jobRestart && !ms.hold
    let s1 := { (s.upto t) with act := { s.act with
      due := l, restart := s.act.restart || first, jobRestart := s.act.jobRestart && !first } }
    let s2 := s1.when (!longEnough ms.a ms.khz 100) (fun s => (s.bump R.ACT_NBCNT 1).evt P.ACT 9)
    .next (foldS (fun s y => if y.col < 64 then s.measCol ms y else s) s2 x)

/-! ## Baseline (R276, R277) -/

/-- The frequencies in Hz at which ACT_NOTCH puts a notch (R276). -/
def State.notches (s : State) : List Nat :=
  let hs := (List.range 4).filter (fun h => bit (s.fld R.ACT_NOTCH F.ACT_NOTCH.HMASK) h)
  (if s.flag R.ACT_NOTCH F.ACT_NOTCH.F50 then hs.map (fun h => 50 * (h + 1)) else []) ++
  (if s.flag R.ACT_NOTCH F.ACT_NOTCH.F60 then hs.map (fun h => 60 * (h + 1)) else [])

/-- Notch width in 0.25 Hz; 0 is treated as 1 (R277, R290). -/
def State.notchBw (s : State) : Nat := max 1 (s.fld R.ACT_NOTCH F.ACT_NOTCH.BW)

/-- The value v of an interval goes through column c's notches, if any are selected, and its low-pass filter; while the
filters settle the baseline follows it unfiltered (R276, R277). -/
def State.baseOut (s : State) (c : Nat) (v : Int) : Int :=
  let x := if s.notches.isEmpty then v else Config.notchOut s.notches s.notchBw (tabGet 0 s.act.notch c) v
  if s.act.settle = 0 then Config.lowPass (s.fld R.ACT_NOTCH F.ACT_NOTCH.LPK) (tabGet 0 s.act.low c) x else v

/-- State of column c's notches after the value v. -/
def State.notchNext (s : State) (c : Nat) (v : Int) : Nat :=
  let q := tabGet 0 s.act.notch c
  if s.notches.isEmpty then q else Config.notchState s.notches s.notchBw q v

/-- One column at the end of an interval: the value of the interval, then the filters. -/
def State.baseCol (s : State) (c : Nat) : State :=
  let o := tabGet (0, 0) s.act.base c
  let v := if o.2 = 0 then tabGet 0 s.act.lastVal c else roundHe o.1 (o.2 : Nat)
  let b := s.baseOut c v
  let s1 := { s with act := { s.act with
    lastVal := tabIns s.act.lastVal c v, low := tabPut 0 s.act.low c b, notch := tabPut 0 s.act.notch c (s.notchNext c v) } }
  s1.setFld (R.ACT_BASEc c) F.ACT_BASEc.BASE (ofSigned 24 (sat b (-8388608) 8388607))

/-- BASELINE_INTERVAL (R276, R277): 500 µs of the timestamp have passed. -/
def execBaselineInterval (t : Nat) (s : State) : Host.Outcome State Fault Refusal :=
  let s0 := s.upto t
  if s0.act.restart then .next s0
  else
    let s1 := forN 64 State.baseCol s0
    .next { s1 with act := { s1.act with base := [], settle := s1.act.settle - 1 } }

/-! ## Lamp select (R279) -/

/-- Snapshot of a lamp's results. -/
def State.lampSelect (s : State) (w : Word) : State :=
  let lamp := w.toNat % 1024
  let r := s.lampRes lamp
  let s1 := s.setReg R.ACT_LSEL (BitVec.ofNat 32 lamp)
  let s2 := s1.setReg R.ACT_LFLUX (BitVec.ofNat 32 r.flux)
  let s3 := s2.setReg R.ACT_LMEAN (BitVec.ofNat 32 r.mean)
  s3.setReg R.ACT_LINFO
    (BitVec.ofNat 32 (r.nmeas * 65536 + r.low * 4096 + r.weak * 256 + r.sat.toNat * 2 + r.valid.toNat))

/-- LAMP_SELECT (R279). -/
def execLampSelect (w : Word) (s : State) : Host.Outcome State Fault Refusal := .next (s.hostWrite P.ACT (fun s => s.lampSelect w))

/-! ## Hold cycles (R244, R245, R269, R273) -/

/-- Begin hold slot j of the cycle in hand. -/
def State.holdSlot (s : State) (j : Nat) : State :=
  let s1 := { s with hel := { s.hel with holdSlot := some j, holdAt := s.now } }
  if s.seqBand j < 16 then s1.snapRow (s.seqBand j) true else s1.noRow

/-- End the hold slot in hand. -/
def State.holdSlotEnd (s : State) (j : Nat) : State := s.cutStrobes.actSlotEnd (s.seqBand j) true

/-- A cycle begins: a run of cycles takes its interval, offsets are measured, codes step, the first hold slot begins. -/
def State.holdBegin (s : State) (offsets : List (Nat × Int)) : State :=
  let s1 := if s.hel.holding then s
    else
      let s' := { s.stgIdle with hel := { s.hel with holding := true }, act := { s.act with hslots := 0 } }
      s'.setMeasM s'.measM
  let s1 := { s1 with hel := { s1.hel with cycleAt := s.now } }
  let s2 := foldS (fun s (o : Nat × Int) =>
    { s with act := { s.act with offset := tabIns s.act.offset o.1 (o.2 * 4 ^ s.actRange o.1) } }) s1
    (offsets.filter (fun o => o.1 < 64))
  s2.codeStep.holdSlot 0

/-- A line starts, or the Heliostat no longer holds: the cycle in hand is dropped (R245). -/
def State.holdCut (s : State) : State :=
  if s.hel.holdSlot.isSome then ({ s with hel := { s.hel with holdSlot := none } } : State).noRow else s

/-- HOLD_CYCLE (R244, R238, R269): a boundary of a hold cycle: its start with the measured offset codes, the boundary of
its next hold slot, or the end of its last one. A boundary that has not come changes nothing. -/
def execHoldCycle (t : Nat) (offsets : List (Nat × Int)) (s : State) : Host.Outcome State Fault Refusal :=
  let s0 := s.upto t
  if s0.holdRuns then
    match s0.hel.holdSlot with
    | none =>
      if s0.hel.holding && decide (s0.now < s0.nextCycle) then .next s0
      else .next ((if s.hel.holding then s.upto s.nextCycle else s0).holdBegin offsets)
    | some j =>
      if s0.now < s0.holdSlotOver then .next s0
      else
      let s1 := (s.upto s.holdSlotOver).holdSlotEnd j
      if j + 1 < s1.nslot then .next (s1.holdSlot (j + 1))
      else .next ({ s1 with hel := { s1.hel with holdSlot := none } } : State).noRow
  else .next s0.holdCut

end Sys2Proof.Machine
end

