-- ==== Sys2Proof/Machine/Crc.lean ====
section
/-! DEFINITION. Byte strings and CRC-32 of IEEE 802.3 (R195, R354, R446). -/

namespace Sys2Proof.Machine

/-- n bytes of v, little-endian. -/
def leBytes : Nat → Nat → List Byte
  | 0, _ => []
  | n + 1, v => BitVec.ofNat 8 v :: leBytes n (v / 256)

/-- The number a little-endian byte string spells. -/
def ofLe : List Byte → Nat
  | [] => 0
  | b :: l => b.toNat + 256 * ofLe l

/-- One bit step of the reflected CRC-32. -/
def crcBit (c : BitVec 32) : BitVec 32 := if c.getLsbD 0 then (c >>> 1) ^^^ 0xEDB88320#32 else c >>> 1

def crcByte (c : BitVec 32) (b : Byte) : BitVec 32 :=
  let x := c ^^^ b.zeroExtend 32
  crcBit (crcBit (crcBit (crcBit (crcBit (crcBit (crcBit (crcBit x)))))))

/-- CRC-32 of IEEE 802.3 over a byte string. -/
def crc32 (l : List Byte) : BitVec 32 := (l.foldl crcByte 0xFFFFFFFF#32) ^^^ 0xFFFFFFFF#32

end Sys2Proof.Machine
end

