-- ==== Sys2Proof/Machine/Alm.lean ====
section
/-! DEFINITION. The Almanac (spec/09 R326 to R331, R335): slack, clock and voltage plans, margin projections, history;
the PMBus regulator (spec/18 R562, R563). -/

namespace Sys2Proof.Machine

/-! ## Islands (R326, R560) -/

/-- Nominal and floor frequency of an island in MHz (R560). -/
def islandFreq (i : Nat) : Nat × Nat :=
  if i < 64 then (400, 360) else if i < 80 then (800, 680) else if i < 84 then (400, 180) else if i < 86 then (800, 800)
  else if i < 90 then (500, 250) else if i < 92 then (1000, 1000) else if i < 100 then (500, 400)
  else if i < 104 then (400, 400)
  else match i with
    | 104 => (250, 200) | 105 => (400, 320) | 106 => (100, 80) | 107 => (600, 400) | 108 => (400, 300)
    | 109 => (1000, 1000) | 110 => (500, 300) | 111 => (25, 25) | 112 => (400, 320) | _ => (400, 200)

def State.island (s : State) (i : Nat) : Island := tabGet {} s.alm.islands i

/-- Planned frequency in kHz. -/
def State.islandKhz (s : State) (i : Nat) : Nat :=
  let x := s.island i
  if x.khz = 0 then (islandFreq i).1 * 1000 else x.khz

/-- Keep an island, and report its slack and planned frequency. -/
def State.setIsland (s : State) (i : Nat) (x : Island) : State :=
  let s1 := { s with alm := { s.alm with islands := tabPut {} s.alm.islands i x } }
  s1.setReg (R.ALM_ISLi i) (BitVec.ofNat 32 (s1.islandKhz i / 1000 * 65536 + x.slack % 1024))

def State.minSlack (s : State) : Nat := s.fld R.ALM_MARG F.ALM_MARG.MINSLACK
def State.lowIsland (s : State) (i : Nat) : Bool := decide ((s.island i).slack < s.minSlack)
def State.atFloor (s : State) (i : Nat) : Bool := decide (s.islandKhz i ≤ (islandFreq i).2 * 1000)

/-- SLACK_MEASURE (R326, R327): one second has passed; l holds the slack of every island in 0.1 %. -/
def execSlackMeasure (l : List Nat) (t : Nat) (s : State) : Host.Outcome State Fault Refusal :=
  let s1 := forN 114 (fun s i =>
    let v := min 1023 ((l[i]?).getD 0)
    let x := s.island i
    s.setIsland i { x with slack := v, hourMin := min x.hourMin v }) (s.upto t)
  let good := (List.range 114).all (fun i => decide (s1.fld R.ALM_MARG F.ALM_MARG.TARGET ≤ (s1.island i).slack))
  .next { s1 with alm := { s1.alm with good := if good then s1.alm.good + 1 else 0 } }

/-! ## Plans (R327, R328, R329) -/

def State.vreq (s : State) : Nat := s.fld R.ALM_VNOW F.ALM_VNOW.VREQ
/-- VMAX within its limits (R329). -/
def State.vmax (s : State) : Nat := min (max (s.fld R.ALM_VLIM F.ALM_VLIM.VMAX) 750) 800
def State.vstep (s : State) : Nat := min (max (s.fld R.ALM_VLIM F.ALM_VLIM.STEP) 1) 20

/-- One island's clock one step of 1 % of nominal down, no lower than its floor (R327, R328). -/
def State.clockDown (s : State) (i : Nat) : State :=
  let f := max ((islandFreq i).2 * 1000) (s.islandKhz i - (islandFreq i).1 * 10)
  s.setIsland i { s.island i with khz := f }

/-- One step back toward nominal. -/
def State.clockUp (s : State) (i : Nat) : State :=
  let n := (islandFreq i).1 * 1000
  let f := min n (s.islandKhz i + (islandFreq i).1 * 10)
  s.setIsland i { s.island i with khz := if f = n then 0 else f }

/-- Work that falls due while the services are paused waits for them (R17); what only tests a condition waits once. -/
def State.defer (s : State) (d : Deferred) : State :=
  let once := match d with
    | .lampRun => true
    | .calRun => true
    | .idleSweep => true
    | _ => false
  if once && s.sec.deferred.contains d then s
  else { s with sec := { s.sec with deferred := s.sec.deferred ++ [d] } }

/-- One step of the clock plan (R327, R328): islands below MINSLACK slow down; after 60 s at TARGET, with the voltage back at 750 mV,
clocks return. -/
def State.clockStep (s0 : State) : State :=
  if s0.flag R.ALM_CTL F.ALM_CTL.EN && s0.flag R.ALM_CTL F.ALM_CTL.CLK then
    let low := (List.range 114).filter (fun i => s0.lowIsland i && !s0.atFloor i)
    let slow := (List.range 114).filter (fun i => (s0.island i).khz != 0)
    if !low.isEmpty then (foldS State.clockDown s0 low).evt P.ALM 9
    else if decide (60 ≤ s0.alm.good) && s0.vreq == 750 && !slow.isEmpty then
      (foldS State.clockUp s0 slow).evt P.ALM 9
    else s0
  else s0

/-- CLOCK_STEP (R17, R327, R328). The Almanac's work waits while the control core's services are paused. -/
def execClockStep (t : Nat) (s : State) : Host.Outcome State Fault Refusal :=
  let s0 := s.upto t
  .next (if s0.sec.paused then s0.defer .clockStep else s0.clockStep)

/-- A PMBus transfer failed or the regulator reported a fault (R329, R563). -/
def State.pmbusFault (s : State) : State :=
  ({ s with alm := { s.alm with stopped := true } } : State).fault 0x0E02 0 |>.evt P.ALM 11

/-- The exponent of VOUT_MODE: five bits, two's complement. -/
def State.vexp (s : State) : Int := toSigned 5 (s.alm.vmode % 32)

/-- A voltage in mV in the linear format, to the nearest mantissa (R562). -/
def State.linear (s : State) (mv : Nat) : Nat :=
  let e := s.vexp
  if e < 0 then (roundHe ((mv * 2 ^ e.natAbs : Nat) : Int) 1000).toNat else (roundHe (mv : Nat) (1000 * 2 ^ e.natAbs : Nat)).toNat

/-- A reading of the linear format in mV, to the nearest mV. -/
def State.unlinear (s : State) (raw : Nat) : Nat :=
  let e := s.vexp
  if e < 0 then (roundHe (raw * 1000 : Nat) (2 ^ e.natAbs : Nat)).toNat else raw * 1000 * 2 ^ e.natAbs

/-- VOUT_COMMAND with a request in mV (R562): taken when acknowledged. -/
def State.voutCommand (s : State) (mv : Nat) (ack : Bool) : State :=
  let s1 := s.send (.pmbus 0x21 (s.linear mv))
  if ack then
    ({ s1 with alm := { s1.alm with vcheck := true } } : State).setFld R.ALM_VNOW F.ALM_VNOW.VREQ mv
  else s1.pmbusFault

/-- A step of the voltage plan in mV: PLAN is set where the regulator took it (R329, R335). -/
def State.voltageGo (s : State) (mv : Nat) (ack : Bool) : State := (s.voutCommand mv ack).evtIf ack P.ALM 9

/-- One step of the voltage plan (R327, R329). -/
def State.voltageStep (s0 : State) (ack : Bool) : State :=
  if s0.flag R.ALM_CTL F.ALM_CTL.EN && !(s0.pwr.st == 6) then
    let low := (List.range 114).filter s0.lowIsland
    let stuck := low.filter s0.atFloor
    let may := s0.flag R.ALM_CTL F.ALM_CTL.VOLT && !s0.alm.stopped
    if !low.isEmpty && decide (s0.vmax ≤ s0.vreq) then
      (s0.fault 0x0E01 (low.headD 0)).evt P.ALM 10
    else if !stuck.isEmpty && may then s0.voltageGo (min s0.vmax (s0.vreq + s0.vstep)) ack
    else if low.isEmpty && decide (60 ≤ s0.alm.good) && may && decide (750 < s0.vreq) then
      s0.voltageGo (max 750 (s0.vreq - s0.vstep)) ack
    else s0
  else s0

/-- VOLTAGE_STEP (R17, R327, R329): every 10 s; it waits while the services are paused. -/
def execVoltageStep (ack : Bool) (t : Nat) (s : State) : Host.Outcome State Fault Refusal :=
  let s0 := s.upto t
  .next (if s0.sec.paused then s0.defer (.voltageStep ack) else s0.voltageStep ack)

/-! ## The regulator (R562, R563) -/

/-- VOUT_MODE has been read: a mode other than linear is a fault. -/
def State.voutMode (s : State) (m : Nat) : State :=
  let s1 := { s with alm := { s.alm with vmode := m % 256 } }
  s1.when (m % 256 / 32 != 0) State.pmbusFault

/-- PMBUS_POLL (R562, R563): STATUS_WORD and READ_VOUT, and VOUT_MODE where it was read since the latest poll. -/
def execPmbusPoll (x : PmbIn) (t : Nat) (s : State) : Host.Outcome State Fault Refusal :=
  let s0 := s.upto t
  if s0.pwr.st = 6 then .next s0
  else
    let s1 := (s0.send (.pmbus 0x79 0)).send (.pmbus 0x8B 0)
    if x.ack then
      let s2 := match x.mode with | some m => s1.voutMode m | none => s1
      let s3 := s2.setReg R.PWR_PMBSTAT (BitVec.ofNat 32 (min 65535 (s2.unlinear (x.vout % 65536)) * 65536 + x.status % 65536))
      .next (s3.when (x.status % 65536 / 2 != 0) State.pmbusFault)
    else .next s1.pmbusFault

/-- VOUT_CHECK (R563): 10 ms after a VOUT_COMMAND. -/
def execVoutCheck (x : PmbIn) (t : Nat) (s : State) : Host.Outcome State Fault Refusal :=
  let s0 := s.upto t
  if s0.alm.vcheck && !(s0.pwr.st == 6) then
    let s1 := ({ s0 with alm := { s0.alm with vcheck := false } } : State).send (.pmbus 0x8B 0)
    if x.ack then
      let mv := min 65535 (s1.unlinear (x.vout % 65536))
      let s2 := s1.setFld R.PWR_PMBSTAT F.PWR_PMBSTAT.VOUT mv
      .next (s2.when (decide (10 < ((mv : Int) - s2.vreq).natAbs)) State.pmbusFault)
    else .next s1.pmbusFault
  else .next s0

/-! ## Margins (R326, R331) -/

/-- Items of a kind: 1 islands, 2 the VCORE request, 3 lamps, 4 acquisition cores (two per primary). -/
def marginItems (kind : Nat) : Nat := match kind with | 1 => 114 | 2 => 1 | 3 => 1024 | _ => 512

/-- The ITEM a margin is reported under: a core's acquisition channel. -/
def marginItem (kind i : Nat) : Nat := if kind = 4 then i / 2 else i

/-- Present headroom of an item. -/
def State.headroom (s : State) (kind i : Nat) : Int :=
  match kind with
  | 1 => ((s.island i).slack : Int) - s.minSlack
  | 2 => (s.vmax : Int) - s.vreq
  | 3 => (s.binMax (i / 64) (i % 64) : Int) - s.binCode (i / 64) (i % 64)
  | _ =>
    let w := s.reg (R.ACQn_CHk_TRIMUSE (i / 8) (i / 2 % 4))
    100 - (bits w.toNat (8 * (i % 2) + 7) (8 * (i % 2)) : Int)

/-- The hourly value of an item: the hour's least slack for an island. -/
def State.hourly (s : State) (kind i : Nat) : Int :=
  if kind = 1 then ((s.island i).hourMin : Int) - s.minSlack else s.headroom kind i

/-- Least-squares slope per hour of an hourly history, newest first, as a fraction. -/
def histSlope (l : List Int) : Int × Int :=
  let n : Int := (l.length : Nat)
  let xs : List (Int × Int) := (List.range l.length).map (fun (i : Nat) => (-(i : Int), (l[i]?).getD 0))
  let sx := xs.foldl (fun a p => a + p.1) 0
  let sy := xs.foldl (fun a p => a + p.2) 0
  let sxx := xs.foldl (fun a p => a + p.1 * p.1) 0
  let sxy := xs.foldl (fun a p => a + p.1 * p.2) 0
  (n * sxy - sx * sy, n * sxx - sx * sx)

/-- Months left (R331). -/
def monthsOf (v : Int) (l : List Int) : Nat :=
  let (a, b) := histSlope l
  if l.length < 168 ∨ 0 ≤ a ∨ b ≤ 0 then 0xFFFF
  else min 65534 ((v * b) / (-a * 730)).toNat

/-- Record the hour and answer the least months of a kind with its item. -/
def State.projectKind (s : State) (kind : Nat) : State × (Nat × Nat) :=
  (List.range (marginItems kind)).foldl (fun (p : State × (Nat × Nat)) i =>
    let k := kind * 4096 + i
    let l := ((p.1.hourly kind i) :: tabGet [] p.1.alm.hist k).take 4320
    let m := monthsOf (p.1.headroom kind i) l
    let s1 := { p.1 with alm := { p.1.alm with hist := tabIns p.1.alm.hist k l } }
    (s1, if m < p.2.1 then (m, marginItem kind i) else p.2)) (s, (0xFFFF, 0))

/-- Hours of history held. -/
def State.histHours (s : State) : Nat := s.alm.hist.foldl (fun (a : Nat) (x : Nat × List Int) => max a x.2.length) 0

/-- The hour is recorded and the margins are projected and reported (R326, R331). -/
def State.marginHour (s0 : State) : State :=
  let (s1, m1) := s0.projectKind 1
  let (s2, m2) := s1.projectKind 2
  let (s3, m3) := s2.projectKind 3
  let (s4, m4) := s3.projectKind 4
  let best := [(1, m1), (2, m2), (3, m3), (4, m4)].foldl
    (fun (a : Nat × (Nat × Nat)) (x : Nat × (Nat × Nat)) => if x.2.1 < a.2.1 then x else a) (0, (0xFFFF, 0))
  let rep : Word := BitVec.ofNat 32 (best.2.2 * 2 ^ 20 + best.1 * 65536 + best.2.1)
  let old0 := s4.reg R.ALM_CAT0
  let old1 := s4.reg R.ALM_CAT1
  let fell (o : Word) (hi : Bool) (m : Nat) : Bool :=
    decide (6 ≤ (if hi then bits o.toNat 31 16 else bits o.toNat 15 0)) && decide (m < 6)
  let low := fell old0 false m1.1 || fell old0 true m2.1 || fell old1 false m3.1 || fell old1 true m4.1
  let s5 := (s4.setReg R.ALM_CAT0 (BitVec.ofNat 32 (m2.1 * 65536 + m1.1))).setReg R.ALM_CAT1
    (BitVec.ofNat 32 (m4.1 * 65536 + m3.1))
  let s6 := (s5.setReg R.ALM_HIST (BitVec.ofNat 32 s5.histHours)).evtIf (s5.reg R.ALM_REPORT != rep) P.ALM 8
  let s7 := (s6.setReg R.ALM_REPORT rep).when low (fun s => s.fault 0x0E03 best.2.2)
  { s7 with alm := { s7.alm with islands := s7.alm.islands.map (fun (x : Nat × Island) => (x.1, { x.2 with hourMin := x.2.slack })) } }

/-- MARGIN_PROJECTION (R17, R326, R331): an hour has passed; it waits while the services are paused. -/
def execMarginProjection (t : Nat) (s : State) : Host.Outcome State Fault Refusal :=
  let s0 := s.upto t
  .next (if s0.sec.paused then s0.defer .marginHour else s0.marginHour)

/-- The history goes to the half of the data area that does not hold the latest complete copy (R539). -/
def State.histSave (s : State) : State :=
  { s with alm := { s.alm with saved := s.alm.hist, half := 1 - s.alm.half, saveDue := false } }

/-- HISTORY_SAVE (R17, R326, R539): once per day; it waits while an image load is open or the services are paused. -/
def execHistorySave (t : Nat) (s : State) : Host.Outcome State Fault Refusal :=
  let s0 := s.upto t
  if s0.sec.load.isSome || s0.sec.paused then .next { s0 with alm := { s0.alm with saveDue := true } }
  else .next s0.histSave

/-- The newest complete half is restored at boot (R539, R571). -/
def State.histRestore (s : State) : State :=
  let s := { s with alm := { s.alm with hist := s.alm.saved, saveDue := false } }
  s.setReg R.ALM_HIST (BitVec.ofNat 32 s.histHours)

end Sys2Proof.Machine
end

