-- ==== Sys2Proof/Machine/Col.lean ====
section
/-! DEFINITION. The Collimator (spec/09 R294 to R325): lamp, flux-correction, dark and white runs, and the spare
rotation with its probe, fits and converter sweeps. Calibration runs write the pending bank by spec/06 R219 to R222. -/

namespace Sys2Proof.Machine

/-! ## Requests (R311, R315, R318, R319, R321, R295) -/

/-- A host request: its COL_REQ bit reads 1 until the run ends. -/
def State.colRequest (s : State) (kind : Nat) : State :=
  (s.setFld R.COL_REQ (kind - 1, kind - 1) 1).colTrigger kind

/-- COL_REQ_LAMP (R315). -/
def execColReqLamp (s : State) : Host.Outcome State Fault Refusal := .next (s.hostWrite P.COL (fun s => s.colRequest 1))
/-- COL_REQ_FLUX (R318). -/
def execColReqFlux (s : State) : Host.Outcome State Fault Refusal := .next (s.hostWrite P.COL (fun s => s.colRequest 2))
/-- COL_REQ_DARK (R319). -/
def execColReqDark (s : State) : Host.Outcome State Fault Refusal := .next (s.hostWrite P.COL (fun s => s.colRequest 3))
/-- COL_REQ_WHITE (R319). -/
def execColReqWhite (s : State) : Host.Outcome State Fault Refusal := .next (s.hostWrite P.COL (fun s => s.colRequest 4))

/-- The spare's next position and target; the acquisition islands take it at this line boundary's readout boundary. -/
def State.spareGo (s : State) (g pos tgt : Nat) : State :=
  let s1 := s.setSpare g { s.spare g with nextPos := pos, nextTgt := tgt }
  s1.when s1.acq.switchDue (fun s => s.spareBoundary g)

/-- A new rotation pass, and stopped groups resume: their spares leave the balls they stand in for at the next line
boundary (R123, R311). -/
def State.rotRestart (s : State) : State :=
  { s with col := { s.col with back := s.col.back ||| s.col.stopped, stopped := 0, next := 0, started := false
                               dieTrig := false } }

/-- COL_REQ_ROTRST (R311, R321). -/
def execColReqRotrst (s : State) : Host.Outcome State Fault Refusal := .next (s.hostWrite P.COL (fun s => s.rotRestart))

/-- An idle sweep in progress is abandoned and every multiplexer returned (R297). -/
def State.idleStop (s : State) : State :=
  match s.col.idle with
  | none => s
  | some g =>
    let s1 := forN 16 (fun s t => s.setFlag (statOf (16 * g + t)) F.ACQn_CHk_STAT.INCAL false)
      (s.setFld (R.SPR_SPg_STAT g) F.SPR_SPg_STAT.POS (s.spare g).pos)
    ({ s1 with col := { s1.col with idle := none } } : State).showCol

/-- The run in hand stops, recorded as abandoned (R208, R295). -/
def State.runStop (s : State) : State :=
  let s1 := s.colAbandon s.col.run 0
  let s2 := ({ s1 with fft := { s1.fft with calBusy := false, copyBusy := false } } : State).showFft
  s2.runEnd

/-- A running run that has not yet written ends; one that has written entries of the pending bank, or a lamp run with an
accepted lamp, goes on (R295). -/
def State.runAbandon (s : State) : State :=
  if s.col.run = 0 ∨ s.col.wrote ∨ (s.col.run = 1 ∧ s.col.windows.any (fun (w : Nat × LampWin) => w.2.ok)) then s else s.runStop

/-- Write COL_CTL or COL_PERM (R294, R295). -/
def State.colCtlWrite (s : State) (w : Word) : State :=
  let was := s.flag R.COL_CTL F.COL_CTL.EN
  let s1 := s.setReg R.COL_CTL (w &&& 3)
  if was && !bit w.toNat 0 then s1.runAbandon.idleStop else s1.colServe

def State.colPermWrite (s : State) (w : Word) : State := s.setReg R.COL_PERM (w &&& 0x7F)

/-- COL_DISABLE (R295): COL_CTL (reg 0) or COL_PERM (reg 1) is written. -/
def execColDisable (reg : Nat) (w : Word) (s : State) : Host.Outcome State Fault Refusal :=
  .next (s.hostWrite P.COL (fun s => if reg = 0 then s.colCtlWrite w else s.colPermWrite w))

/-- CAL_PERIOD_EXPIRY (R321): PERIOD minutes since the latest accepted lamp run. -/
def execCalPeriodExpiry (t : Nat) (s : State) : Host.Outcome State Fault Refusal :=
  let s0 := s.upto t
  let per := max 1 (s0.fld R.COL_TRIG F.COL_TRIG.PERIOD) * 60000000000000
  .next (s0.when (s0.flag R.COL_TRIG F.COL_TRIG.PEN && decide (per ≤ s0.now - s0.col.lampAt)) (fun s => s.colTrigger 1))

/-- WHITE_PERIOD_EXPIRY (R321): WPERIOD hours since the latest accepted white run. -/
def execWhitePeriodExpiry (t : Nat) (s : State) : Host.Outcome State Fault Refusal :=
  let s0 := s.upto t
  let h := s0.fld R.COL_FLAT F.COL_FLAT.WPERIOD
  .next (s0.when (h != 0 && decide (h * 3600000000000000 ≤ s0.now - s0.col.whiteAt)) (fun s => s.colNeed 0))

/-! ## Flux factors (R316, R317) -/

def State.sigma (s : State) (lamp : Nat) : Nat := tabGet 4194304 s.col.sigma lamp
/-- The required factor of a lamp: σ where no run has asked for another. -/
def State.needOf (s : State) (lamp : Nat) : Nat := tabGet (s.sigma lamp) s.col.need lamp

/-- COL_SSEL and its snapshot (R317). -/
def State.sigmaSelect (s : State) (w : Word) : State :=
  (s.setReg R.COL_SSEL (BitVec.ofNat 32 (w.toNat % 1024))).setReg R.COL_SIGMA (BitVec.ofNat 32 (s.sigma (w.toNat % 1024)))

/-- SIGMA_SELECT (R317). -/
def execSigmaSelect (w : Word) (s : State) : Host.Outcome State Fault Refusal := .next (s.hostWrite P.COL (fun s => s.sigmaSelect w))

/-! ## Lamp runs (R315, R316, R322, R323) -/

/-- Lamps that the armed job's sequence, or the hold cycles, light. -/
def State.litLamps (s : State) : List Nat :=
  ((List.range 16).filter (fun k => s.seq.contains k && s.rowOn k)).flatMap (fun k =>
    ((List.range 64).filter (fun c => s.colOn c && s.lampOn k c && s.binWidth k c != 0 &&
      tabGet 0 s.hel.applied (k * 64 + c) != 0)).map (fun c => k * 64 + c))

/-- The largest base code whose target does not exceed CODEMAX (R316). -/
def State.codeCap (s : State) (k c : Nat) : Nat :=
  (List.range 1024).foldl (fun m v =>
    if s.codeFormula v (s.binTc k c) (s.thermistor (s.binThsel k c)) ≤ s.binMax k c then v else m) 0

/-- Write a lamp's base code. -/
def State.setBinCode (s : State) (k c v : Nat) : State :=
  s.store (binAddr k c) 4 (putBits (s.load (binAddr k c) 4) 9 0 v)

/-- A lamp's accepted result (R316). sum: both windows, 32 × the mean flux. A mean flux or target of 0 leaves the
equation without a value: the code or the factor is free. -/
def State.lampAccept (s : State) (lamp sum : Nat) : State :=
  let k := lamp / 64
  let c := lamp % 64
  let q := 32 * s.binQexp k c
  let code := s.binCode k c
  let far := decide (s.ltol * sum < 1000 * ((q : Int) - sum).natAbs)
  let may := s.flag R.COL_PERM F.COL_PERM.LCODE
  let cap := s.codeCap k c
  let want := if sum = 0 then s.free % 1024 else (roundHe (code * q : Nat) (sum : Nat)).toNat
  let code' := if far && may then min want cap else code
  let a := s.targetOf k c code
  let a' := s.targetOf k c code'
  let s1 := ((s.setBinCode k c code').useFree).when (far && may && decide (cap < want)) (fun s => s.lampLimit lamp)
  if sum = 0 ∨ a' = 0 then
    { s1 with col := { s1.col with need := tabIns s1.col.need lamp (s1.free % 2 ^ 24) }, fv := s1.fv + 1 }
  else if s.ltol * (sum * a') < 1000 * ((q * a : Int) - (sum * a' : Nat)).natAbs then
    let v := (roundHe (s.sigma lamp * q * a : Nat) (sum * a' : Nat)).toNat
    { s1 with col := { s1.col with need := tabIns s1.col.need lamp (min v 0xFFFFFF) } }
  else s1

/-- Judge one lamp whose windows are full (R315, R322, R323). -/
def State.lampJudge (s : State) (lamp : Nat) : State :=
  let w := tabGet {} s.col.windows lamp
  let put (s : State) (w : LampWin) : State := { s with col := { s.col with windows := tabIns s.col.windows lamp w } }
  if w.done then s
  else if s.colRefuses then (put s { w with done := true }).colReject 1 w.tries lamp
  else if winAgree w s.ltol then
    ((put s { w with done := true, ok := true }).lampAccept lamp (w.sum1 + w.sum2)).colAccept 1 w.tries lamp
  else if w.tries < 3 then put s { tries := w.tries + 1 }
  else (put s { w with done := true }).colReject 1 w.tries lamp

/-- The latest accepted lamp run sets the references of R321 and R330. -/
def State.lampRefs (s : State) : State :=
  let s1 := { s with col := { s.col with lampAt := s.now, lampRef := (List.range 8).map (fun i => (i, s.hkValue i)) } }
  let s2 := s1.setReg R.COL_DTMAX 0
  { s2 with act := { s2.act with lamps := s2.act.lamps.map (fun (l : Nat × LampRes) => (l.1, { l.2 with declined := false })) } }

/-- The lamp run ends: a required factor that differs from σ starts a flux-correction run (R318). -/
def State.lampRunEnd (s : State) : State :=
  let ok := s.col.windows.any (fun (w : Nat × LampWin) => w.2.ok)
  let s1 := s.when ok State.lampRefs
  let differs := s1.col.need.any (fun n => n.2 != s1.sigma n.1)
  let s2 := s1.runEnd
  s2.when (differs && s2.flag R.COL_PERM F.COL_PERM.FLAT) (fun s => s.colTrigger 2)

/-- The windows of every lit lamp are complete: they are judged (R280, R315, R316, R318, R322, R323). -/
def State.lampRunDone (s0 : State) : State :=
  let l := s0.litLamps
  let full (s : State) (lamp : Nat) : Bool :=
    (tabGet {} s.col.windows lamp).done || winFull (tabGet {} s.col.windows lamp)
  if s0.col.run = 1 && l.all (full s0) then
    let s1 := foldS State.lampJudge s0 l
    let tries := s1.col.windows.foldl (fun (a : Nat) (w : Nat × LampWin) => if w.2.done then a else max a w.2.tries) 0
    if l.all (fun x => (tabGet {} s1.col.windows x).done) then s1.lampRunEnd
    else ({ s1 with col := { s1.col with retry := tries } } : State).showCol
  else s0

/-- LAMP_RUN_DONE (R17, R315): the judgement waits while the services are paused. -/
def execLampRunDone (t : Nat) (s : State) : Host.Outcome State Fault Refusal :=
  let s0 := s.upto t
  .next (if s0.sec.paused then s0.defer .lampRun else s0.lampRunDone)

/-! ## Writing the pending bank (R219 to R222, R318) -/

/-- Twice the centre of lamp segment c, in pixels (R318). -/
def segCentre2 (seg c : Nat) : Int := 2 * c * seg + seg - 1

/-- The factor of row k at pixel p, as a multiple of its weight: interpolated between segment centres (R318). -/
def fluxAt (f : Nat → Nat) (seg p : Nat) : Nat :=
  let x : Int := 2 * p
  if x ≤ segCentre2 seg 0 then f 0 * (2 * seg)
  else if segCentre2 seg 63 ≤ x then f 63 * (2 * seg)
  else
    let c := ((x - (seg - 1)) / (2 * seg)).toNat
    let d := (x - segCentre2 seg c).toNat
    f c * (2 * seg - d) + f (c + 1) * d

/-- Write GAIN of an entry of the pending bank. -/
def State.setGain (s : State) (i g : Nat) : State :=
  let a := flatAddr (1 - s.fft.active) i
  let e := s.load a 8
  s.writeEntry a (e - e % 2 ^ 20 + g % 2 ^ 20)

/-- Flux correction of band k: each pixel whose factors differ (R318). SEGPIX 0 and a factor of 0 leave the equation
without a value: the gain is free. -/
def State.fluxBand (s : State) (k : Nat) : State :=
  let seg := s.fld R.COL_SEG F.COL_SEG.SEGPIX
  let old (c : Nat) : Nat := s.sigma (k * 64 + c)
  let new_ (c : Nat) : Nat := s.needOf (k * 64 + c)
  forN npix (fun s p =>
    let i := k * npix + p
    let n := fluxAt new_ seg p
    let d := fluxAt old seg p
    if seg = 0 ∨ d = 0 then (s.setGain i (s.free % 2 ^ 20)).useFree
    else if n = d then s
    else
      let g := entGain (s.flatEntry (1 - s.fft.active) i)
      s.setGain i (sat (roundHe (g * n : Nat) (d : Nat)) 0 0xFFFFF).toNat) s

/-- DARK of a dark run: mean(M) - mean(T), n lines (R220). -/
def calDark (sm st : Int) (n : Nat) : Int := sat (roundHe (sm - st) (n : Nat)) (-32768) 32767

/-- GAIN of a white run before its limits, or none for a mean of Y not above 0 (R220, R221). -/
def State.calGain (s : State) (band : Nat) (sy : Int) (n : Nat) : Option Nat :=
  let wr := max 1 (s.fld R.FFT_WREF F.FFT_WREF.WREF)
  let num : Nat := s.fld R.PLTG_WHITE F.PLTG_WHITE.WHITE_DN * s.fld (R.FFT_REFb band) F.FFT_REFb.REF * 2 ^ 18 * n
  if sy ≤ 0 then none else some (roundHe num (wr * sy)).toNat

/-- Primaries whose map contains a pixel, the first enabled one (R137). -/
def State.ownerOf (s : State) (p : Nat) : Option Nat :=
  (List.range 256).find? (fun c => s.mapHits s.mer.line c p && (s.primOn c || s.fixedFor c))

/-- GDEV test: the mean of the gains of the neighbours within 16 pixels mapped by the same channel (R221). -/
def gainDeviates (gs : List Nat) (g gdev : Nat) : Bool :=
  let sm : Nat := gs.foldl (fun (a b : Nat) => a + b) 0
  !gs.isEmpty && decide (gdev * sm < 100 * ((g * gs.length : Nat) - (sm : Int)).natAbs)

/-- GAIN and FLAG a white run gives an entry (R220, R221). -/
def State.whiteEntry (s : State) (i : Nat) : Nat × Nat :=
  let band := i / npix
  let p := i % npix
  let gainAt (q : Nat) : Option Nat :=
    match tabFind s.fft.sums (band * npix + q) with
    | some (sy, _) => s.calGain band sy (tabGet 0 s.fft.count (band * npix + q))
    | none => none
  let near := (List.range 33).filterMap (fun (d : Nat) =>
    let q := p + d
    if q < 16 ∨ d = 16 then none
    else if s.ownerOf (q - 16) = s.ownerOf p then gainAt (q - 16) else none)
  let bad := (0x10000, 8 + s.fld R.FFT_CALCFG F.FFT_CALCFG.DREPL)
  match gainAt p with
  | none => bad
  | some g =>
    if 0xFFFFF < g then bad
    else if gainDeviates near g (max 1 (s.fld R.FFT_CALCFG F.FFT_CALCFG.GDEV)) then bad
    else (g, 0)

/-- Write one entry of a dark (kind 1) or white (kind 2) run, and keep its result for the second pass. -/
def State.calWrite (s : State) (kind i : Nat) : State :=
  let o := tabGet (0, 0) s.fft.sums i
  let n := tabGet 1 s.fft.count i
  let a := flatAddr (1 - s.fft.active) i
  let e := s.load a 8
  let may := s.flag R.COL_PERM F.COL_PERM.FLAT
  let keep (s : State) (v : Int) : State := { s with col := { s.col with first := tabIns s.col.first i v } }
  if kind = 1 then
    let d := calDark o.1 o.2 n
    (keep s d).when may (fun s => s.writeEntry a (putBits e 35 20 (ofSigned 16 d)))
  else
    let (g, f) := s.whiteEntry i
    let f' := if s.flag R.FFT_CALCFG F.FFT_CALCFG.FLAGKEEP && entFlag e != 0 then entFlag e else f
    (keep s g).when may (fun s => s.writeEntry a (putBits (putBits e 19 0 g) 39 36 f'))

/-- The entries a run has sums for. -/
def State.calKeys (s : State) : List Nat := s.fft.sums.map (·.1)

/-- Sum of exact squares over a list, as a rational. -/
def sqSum (l : List Rat) : Rat := l.foldl (fun a x => a + x * x) 0

/-- RMS in ppm, saturating; rounding to a whole ppm is free (R325). -/
def State.rmsPpm (s : State) (l : List Rat) : Nat :=
  let q := sqSum l * 1000000000000 / (max 1 l.length : Nat)
  min 65535 (Nat.sqrt q.floor.toNat + s.free % 2)

/-- Deviations of the second pass from the first, in a band, of a white run (R320). -/
def State.whiteDevs (s : State) (band : Nat) : List Rat :=
  (s.col.first.filter (fun f => f.1 / npix == band)).filterMap (fun f =>
    if tabFind s.fft.sums f.1 = none ∨ f.2 = 0 then none
    else some ((((s.whiteEntry f.1).1 : Int) - f.2 : Int) / (f.2 : Rat)))

/-- Residual error of a band: (Ȳ₂ × GAIN₁ / 2^18) / target - 1 (R325). -/
def State.whiteRes (s : State) (band : Nat) : List Rat :=
  let tgt : Rat := (s.fld R.PLTG_WHITE F.PLTG_WHITE.WHITE_DN * s.fld (R.FFT_REFb band) F.FFT_REFb.REF : Nat) /
    ((max 1 (s.fld R.FFT_WREF F.FFT_WREF.WREF) : Nat) : Rat)
  (s.col.first.filter (fun f => f.1 / npix == band)).filterMap (fun f =>
    match tabFind s.fft.sums f.1 with
    | none => none
    | some (sy, _) =>
      if tgt = 0 then none
      else some ((sy : Rat) / (max 1 (tabGet 1 s.fft.count f.1) : Nat) * f.2 / 262144 / tgt - 1))

/-- Deviations of the second pass of a dark run (R320). -/
def State.darkDevs (s : State) : List Rat :=
  s.col.first.filterMap (fun f =>
    match tabFind s.fft.sums f.1 with
    | none => none
    | some (sm, st) => some ((calDark sm st (tabGet 1 s.fft.count f.1) - f.2 : Int) : Rat))

/-- The RMS of a list is at most a limit. -/
def rmsWithin (l : List Rat) (lim : Rat) : Bool := decide (sqSum l ≤ lim * lim * (l.length : Nat))

/-- The two passes agree (R320). -/
def State.calAgrees (s : State) : Bool :=
  if s.col.run = 3 then rmsWithin s.darkDevs (s.fld R.COL_FLAT F.COL_FLAT.DARKTOL : Nat)
  else (List.range 16).all (fun b =>
    rmsWithin (s.whiteDevs b) ((s.fld R.COL_FLAT F.COL_FLAT.FLATTOL : Nat) / (100000 : Rat)))

/-- REP and, when accepted, RES of every band that the white run contains (R325). -/
def State.whiteFigures (s : State) (ok : Bool) : State :=
  forN 16 (fun s b =>
    if (s.whiteDevs b).isEmpty then s
    else
      let s1 := (s.setFld (R.COL_FFRESb b) F.COL_FFRESb.REP (s.rmsPpm (s.whiteDevs b))).useFree
      if ok then (s1.setFld (R.COL_FFRESb b) F.COL_FFRESb.RES (s1.rmsPpm (s1.whiteRes b))).useFree else s1) s

/-- A run the Collimator has accepted switches by AUTOSW, or awaits the host's switch (R222, R318). -/
def State.autoSwitch (s : State) : State :=
  if s.flag R.FFT_BANKCTL F.FFT_BANKCTL.AUTOSW then
    ({ s with pend := tabIns s.pend R.FFT_SWITCH 1 } : State).setFlag R.FFT_SWITCH F.FFT_SWITCH.GO true
  else s.colNeed 2

/-- A lamp of an accepted white run: QEXP takes its mean flux, or its measurement is rejected (R315, R320, R322). -/
def State.whiteLamp (s : State) (lamp : Nat) : State :=
  let w := tabGet {} s.col.windows lamp
  if winFull w && winAgree w s.ltol then
    s.when (s.flag R.COL_PERM F.COL_PERM.QEXP) (fun s =>
      s.store (binAddr (lamp / 64) (lamp % 64) + 12) 4 (roundHe (w.sum1 + w.sum2 : Nat) 32).toNat)
  else s.colReject 1 w.tries lamp

/-- The lamps of an accepted white run; every σ returns to 1.0 (R320). -/
def State.whiteLamps (s : State) : State :=
  let s1 := foldS State.whiteLamp s s.litLamps
  { s1 with col := { s1.col with sigma := [], need := [], whiteAt := s1.now } }

/-- Every line of the pass has been released. -/
def State.calLinesOut (s : State) : Bool :=
  !s.plt.reads.any (fun (r : Nat × List Readout) => r.2.any (fun e => (s.lineInfo e.line).cal))

/-- Start a pass of 64 lines. -/
def State.calPass (s : State) (second : Bool) : State :=
  { s with fft := { s.fft with runLeft := s.fft.runLines, sums := [], count := [] }, col := { s.col with second := second } }

/-- The last entry is written: CALBUSY clears and CALDONE is set (R210, R222). -/
def State.calDone (s : State) : State :=
  (({ s.mixEntries with fft := { s.mixEntries.fft with calBusy := false } } : State).showFft).evt P.FFT 12

/-- The end of a flux-correction run (R318). -/
def State.fluxDone (s : State) : State :=
  let rows := (List.range 16).filter (fun k => s.seq.contains k)
  let s1 := (s.when (s.flag R.COL_PERM F.COL_PERM.FLAT) (fun s => foldS State.fluxBand s rows)).calDone
  if s1.colRefuses then (s1.colReject 2 0 0).runEnd
  else
    let s2 := { s1 with col := { s1.col with sigma := foldl' s1.col.sigma s1.col.need, need := [] } }
    ((s2.colAccept 2 0 0).autoSwitch).runEnd
where
  /-- The required factors become σ. -/
  foldl' (sg : List (Nat × Nat)) : List (Nat × Nat) → List (Nat × Nat)
    | [] => sg
    | (k, v) :: l => foldl' (tabPut 4194304 sg k v) l

/-- The end of the second pass of a dark or white run (R320, R322, R323). -/
def State.calJudge (s : State) : State :=
  let kind := s.col.run
  let ok := s.calAgrees
  let s1 := s.when (kind == 4) (fun s => s.whiteFigures (ok && !s.colRefuses))
  if s1.colRefuses then (s1.colReject kind s1.col.retry 0).runEnd
  else if ok then
    let s2 := if kind = 4 then (s1.whiteLamps).colNeedDone 0 else s1.colNeedDone 1
    ((s2.colAccept kind s2.col.retry 0).autoSwitch).runEnd
  else if s1.col.retry < 3 then
    let s2 := { s1 with col := { s1.col with retry := s1.col.retry + 1, windows := [], first := [] } }
    (({ s2 with fft := { s2.fft with calBusy := true } } : State).showFft.calPass false).showCol
  else (s1.colReject kind 3 0).runEnd

/-- The run writes its last entry, or its second pass ends (R219 to R222, R317 to R320, R322, R323, R325). -/
def State.calRunDone (s0 : State) : State :=
  if s0.col.run < 2 ∨ s0.fft.copyBusy ∨ s0.fft.runLeft ≠ 0 ∨ !s0.calLinesOut then s0
  else if s0.col.run = 2 then s0.fluxDone
  else if s0.col.second then s0.calJudge
  else
    let s1 := foldS (fun s i => s.calWrite s.fft.run i) s0 s0.calKeys
    let s2 := s1.when (s1.flag R.COL_PERM F.COL_PERM.FLAT) (fun s => { s with col := { s.col with wrote := true } })
    s2.calDone.calPass true

/-- CAL_RUN_DONE (R17, R222): it waits while the services are paused. -/
def execCalRunDone (t : Nat) (s : State) : Host.Outcome State Fault Refusal :=
  let s0 := s.upto t
  .next (if s0.sec.paused then s0.defer .calRun else s0.calRunDone)

/-! ## Rotation (R295, R298 to R301) -/

/-- Rotation runs (R295). -/
def State.rotOn (s : State) : Bool :=
  s.flag R.COL_CTL F.COL_CTL.EN && s.flag R.COL_CTL F.COL_CTL.ROTEN && s.flag R.COL_PERM F.COL_PERM.TRIM &&
  s.flag R.COL_PERM F.COL_PERM.GR && s.flag R.COL_PERM F.COL_PERM.SM

/-- OVERLAP_LINES made even, at least 2. -/
def overlapOf (v : Nat) : Nat := if v ≤ 1 then 2 else (v + 1) / 2 * 2

/-- Rotation does not pass over primary c (R298, R311). -/
def State.rotates (s : State) (c : Nat) : Bool :=
  s.primOn c && s.fld (R.SPR_SPg_CFG (c / 16)) F.SPR_SPg_CFG.MODE == 0 && !bit (s.col.stopped ||| s.col.back) (c / 16)

/-- A pass begins: reference temperatures, DAC check. -/
def State.passStart (s : State) : State :=
  let s1 := { s with col := { s.col with passAt := s.now, started := true, dieTrig := false,
                                         dieRef := (List.range 4).map (fun i => (i, s.hkValue (56 + i))) } }
  s1.dacStart

/-- A pass ends (R298). -/
def State.passEnd (s : State) : State :=
  let d := min 65535 ((s.now - s.col.passAt) / 10000000000)
  let n := min 65535 (s.fld R.COL_PASS F.COL_PASS.COUNT + 1)
  (s.setReg R.COL_PASS (BitVec.ofNat 32 (d * 65536 + n))).evt P.COL 11

/-- Settings whose change abandons a step (R313). -/
def State.rotSettings (s : State) (c : Nat) : List Nat :=
  let x := s.primSet c
  [x.mode, x.pol, x.range, x.ped]

/-- G register of an acquisition channel. -/
def grOf (c : Nat) : Nat := R.PLTn_CHk_GR (groupOf c) (indexOf c)

/-- A step begins for primary c: the spare goes to its ball (R300 phase 1). -/
def State.stepBegin (s : State) (c : Nat) : State :=
  let x := s.ch c
  let s1 := { s with col := { s.col with
    ch := some c, next := c + 1, phase := 1, held := false, lines := 0, stepAt := some s.now, tries := 0, otries := 0, accepted := false
    oldSet := s.rotSettings c, oldTrims := x.trims, oldUse := (s.reg (R.ACQn_CHk_TRIMUSE (c / 4) (c % 4))).toNat
    oldG := s.fld (grOf c) F.PLTn_CHk_GR.RATIO
    ol := overlapOf (s.fld R.COL_ROT F.COL_ROT.OVERLAP_LINES)
    ph := min 32 (s.fld R.COL_WIN F.COL_WIN.PROBE_HALF), wt := max 1 (s.fld R.COL_WIN F.COL_WIN.WINTOL)
    probe := [], fitA := {}, fitB := {}, slots := 0, smap := [], level2 := [], level3 := [] } }
  (s1.spareGo (c / 16) 2 (c % 16)).showCol

/-- The next step is due (R299): ROT_PERIOD after the start of the previous one, or, under a die-temperature trigger, at
the first line boundary after it has ended; the first step is due at once. -/
def State.stepDue (s : State) : Bool :=
  match s.col.stepAt with
  | none => true
  | some a =>
    if s.col.dieTrig then s.col.endedAt != some (s.mer.boundary - 1)
    else decide (max 1 (s.fld R.COL_ROT F.COL_ROT.ROT_PERIOD) * 1000000000 ≤ s.now - a)

/-- ROTATION_STEP_START (R295, R298, R299, R324): at a line boundary, after ROT_PERIOD or back to back. -/
def execRotationStepStart (t : Nat) (s : State) : Host.Outcome State Fault Refusal :=
  let s0 := s.upto t
  let due := s0.stepDue
  if s0.rotOn && s0.col.ch.isNone && s0.acq.switchDue && s0.mer.cycle && !s0.sec.paused && due &&
     !s0.codeUnack 0x0D02 then
    let cand (a : Nat) : Option Nat := (List.range 256).find? (fun c => decide (a ≤ c) && s0.rotates c)
    let s1 := s0.when (!s0.col.started) State.passStart
    match cand s0.col.next with
    | some c => .next (s1.stepBegin c)
    | none =>
      match cand 0 with
      | some c => .next (s1.passEnd.passStart.stepBegin c)
      | none => .next s0
  else .next s0

/-! ## Judgements of a step (R302 to R311) -/

/-- A tolerance in units of 10 ppm, of the mean of two values: they agree. -/
def agreePpm (a b : Rat) (tol : Nat) : Bool :=
  decide (abs (a - b) * 200000 ≤ (tol : Nat) * abs (a + b))
where
  abs (x : Rat) : Rat := if x < 0 then -x else x

/-- Slope and offset of a least-squares fit, or none where x does not vary. -/
def fitLine (f : Fit) : Option (Rat × Rat) :=
  let n : Int := (f.n : Nat)
  let d := n * f.sxx - f.sx * f.sx
  if d = 0 ∨ f.n = 0 then none
  else
    let a : Rat := ((n * f.sxy - f.sx * f.sy : Int) : Rat) / d
    some (a, ((f.sy : Rat) - a * f.sx) / n)

/-- SMG and SMO of one half (R304): with a span below 16,384 quarter units SMG is the ratio of the two channels'
high-gain slopes. -/
def State.halfFit (s : State) (f : Fit) (c : Nat) : Option (Rat × Rat) :=
  if f.n = 0 then none
  else if f.hi - f.lo < 16384 then
    match tabFind s.col.slopes c, tabFind s.col.slopes (256 + c / 16) with
    | some (a, b), some (x, y) =>
      if x = 0 ∨ b = 0 then none
      else
        let g : Rat := ((a : Rat) / b) / ((x : Rat) / y)
        some (g, ((f.sy : Rat) - g * f.sx) / f.n)
    | _, _ => none
  else fitLine f

/-- The two halves agree (R305). -/
def State.halvesAgree (s : State) (p q : Rat × Rat) : Bool :=
  agreePpm p.1 q.1 (s.fld R.COL_TOL F.COL_TOL.SMGTOL) &&
  decide (agreePpm.abs (p.2 - q.2) ≤ (s.fld R.COL_TOL F.COL_TOL.SMOTOL : Nat))

/-- Round a rational to the nearest integer, halves to even. -/
def ratHe (x : Rat) : Int := roundHe x.num (x.den : Nat)

/-- One half of a return overlap is within the tolerances (R310). -/
def State.returnHalf (s : State) (f : Fit) : Bool :=
  match fitLine f with
  | none => false
  | some (a, b) =>
    decide (agreePpm.abs (a - 1) * 100000 ≤ (s.fld R.COL_TOL F.COL_TOL.SMGTOL : Nat)) &&
    decide (agreePpm.abs b ≤ (s.fld R.COL_TOL F.COL_TOL.SMOTOL : Nat))

/-- Mean quarter codes of a level: high, low; none where the level has no data. -/
def levelMean (l : List (Nat × Level)) (i : Nat) : Option (Rat × Rat) :=
  match tabFind l i with
  | none => none
  | some v => if v.n = 0 then none else some ((v.high : Rat) / v.n, (v.low : Rat) / v.n)

/-- Least-squares slope of y on x over points, as numerator and denominator. -/
def slopeOf (pts : List (Rat × Rat)) : Option Rat :=
  let n : Rat := (pts.length : Nat)
  let sx := pts.foldl (fun a p => a + p.1) 0
  let sy := pts.foldl (fun a p => a + p.2) 0
  let sxx := pts.foldl (fun a p => a + p.1 * p.1) 0
  let sxy := pts.foldl (fun a p => a + p.1 * p.2) 0
  let d := n * sxx - sx * sx
  if d = 0 then none else some ((n * sxy - sx * sy) / d)

/-- The gain ratio of a sweep: slope of Ch on Cl over levels 0 to 31 (R307). -/
def sweepG (l : List (Nat × Level)) : Option Rat :=
  let pts := (List.range 32).filterMap (fun i => (levelMean l i).map (fun v => (v.2, v.1)))
  if pts.length = 32 then slopeOf pts else none

/-- Level j of a converter sweep, in µV at the channel's input (R306): levels 0 to 31 reach 0.95 of the high-gain full
scale, levels 32 to 63 reach 0.98 of the low-gain one, from the pedestal on, or symmetric about 0 V (DEDUCED,
notes/assumptions 104). -/
def dacLevel (st : ChSet) (j : Nat) : Rat :=
  let top : Rat := if j < 32 then (95 : Rat) / 100 * fullScale st.range / 16 else (98 : Rat) / 100 * fullScale st.range
  let x : Rat := (j % 32 : Nat) / 31
  if st.mode = 1 then 2 * top * x - top
  else (st.ped : Rat) * 1250 + (if st.pol = 0 then top * x else -(top * x))

/-- DAC code for a level in µV (R306), with VREFX 2.5 V, or with the gain and offset of the latest check (R324); a
differential level is twice the DAC's distance from mid-scale. -/
def dacCode (fit : Option (Int × Int)) (diff : Bool) (v : Rat) : Nat :=
  let u : Rat := if diff then v / 2 + 2500000 else v
  let n : Rat := match fit with
    | none => u * 1048576 / 5000000
    | some (b, m) => ((u - (m : Rat) / 9) * 60 / b + 4) * 1048575 / 8
  (sat (roundHe n.num (n.den : Nat)) 0 1048575).toNat

/-- High-gain slope against the DAC level (R304). -/
def sweepSlope (st : ChSet) (l : List (Nat × Level)) : Option Rat :=
  slopeOf ((List.range 32).filterMap (fun i => (levelMean l i).map (fun v => (dacLevel st i, v.1))))

/-- Largest distance of points from their best straight line, the least-squares one (DEDUCED, notes/assumptions 105). -/
def lineDev (pts : List (Rat × Rat)) : Rat :=
  match slopeOf pts with
  | none => 0
  | some a =>
    let n : Rat := (pts.length : Nat)
    let b := (pts.foldl (fun x p => x + p.2) 0 - a * pts.foldl (fun x p => x + p.1) 0) / n
    pts.foldl (fun m p => let d := agreePpm.abs (p.2 - a * p.1 - b); if m < d then d else m) 0

/-- Linearity residual of a sweep in quarter codes: the high path over levels 0 to 31, the low path over all (R307). -/
def sweepLin (st : ChSet) (l : List (Nat × Level)) : Rat :=
  let h := lineDev ((List.range 32).filterMap (fun i => (levelMean l i).map (fun v => (dacLevel st i, v.1))))
  let w := lineDev ((List.range 64).filterMap (fun i => (levelMean l i).map (fun v => (dacLevel st i, v.2))))
  if h < w then w else h

/-- Largest difference of a level's mean codes between sweeps 2 and 3, in quarter codes: high path over levels 0 to 31,
low path over all (R307). -/
def sweepRep (a b : List (Nat × Level)) : Rat :=
  (List.range 64).foldl (fun m i =>
    match levelMean a i, levelMean b i with
    | some x, some y =>
      let h := if i < 32 then agreePpm.abs (x.1 - y.1) else 0
      let l := agreePpm.abs (x.2 - y.2)
      let d := if h < l then l else h
      if m < d then d else m
    | _, _ => m) 0

/-- The two sweeps agree: their mean G (R307). -/
def State.sweepAgrees (s : State) : Option Rat :=
  match sweepG s.col.level2, sweepG s.col.level3 with
  | some a, some b =>
    if agreePpm a b (s.fld R.COL_TOL F.COL_TOL.GRTOL) && decide (sweepRep s.col.level2 s.col.level3 ≤ 4) then
      some ((a + b) / 2)
    else none
  | _, _ => none

/-- REP of a judged pair of sweeps (R307, R325). -/
def State.showRep (s : State) (c : Nat) : State :=
  s.setFld (R.COL_CHQc c) F.COL_CHQc.REP (min 255 (ratHe (sweepRep s.col.level2 s.col.level3 * 4)).toNat)

/-- A figure in quarter codes as unsigned 4.4 codes. -/
def quarter44 (x : Rat) : Nat := min 255 (ratHe (x * 4)).toNat

/-- An accepted pair of sweeps: G, LIN as the larger residual of the two, the slope for R304 (R307). -/
def State.sweepAccept (s : State) (c : Nat) (g : Rat) : State :=
  let s1 := s.when (s.flag R.COL_PERM F.COL_PERM.GR)
    (fun s => s.setFld (grOf c) F.PLTn_CHk_GR.RATIO (min 0xFFFFF (ratHe (g * 32768)).toNat))
  let st := (s.ch c).cur
  let a := sweepLin st s.col.level2
  let b := sweepLin st s.col.level3
  let s2 := s1.setFld (R.COL_CHQc c) F.COL_CHQc.LIN (quarter44 (if a < b then b else a))
  match sweepSlope st s2.col.level3 with
  | some k => { s2 with col := { s2.col with slopes := tabIns s2.col.slopes c (k.num, k.den) } }
  | none => s2

/-- A trim that needs more than its range is set to the end of its range (R308). -/
def trimOf (need : Nat) : Nat := min need Config.trimRange

/-- Percentage of its range that a trim uses: 100 at its end (R308). -/
def trimUse (v : Nat) : Nat := if Config.trimRange ≤ v then 100 else v * 100 / Config.trimRange

/-- Trims found by a sweep: what the cores need is free (R307, R308). -/
def State.setTrims (s : State) (c : Nat) : State :=
  if s.flag R.COL_PERM F.COL_PERM.TRIM then
    let x := s.ch c
    let tr : Trims := { high := trimOf (s.freeAt 0), low := trimOf (s.freeAt 1) }
    let s1 := s.setCh c { x with trims := tr }
    let u := trimUse tr.high + trimUse tr.low * 256
    let s2 := { s1 with fv := s.fv + 2 }
    s2.when (decide (c < 256)) (fun s => s.setReg (R.ACQn_CHk_TRIMUSE (c / 4) (c % 4)) (BitVec.ofNat 32 u))
  else s

/-- The trims, trim use and G the primary had before the step (R311, R313). -/
def State.restorePrim (s : State) (c : Nat) : State :=
  let s1 := s.setCh c { s.ch c with trims := s.col.oldTrims }
  (s1.setReg (R.ACQn_CHk_TRIMUSE (c / 4) (c % 4)) (BitVec.ofNat 32 s.col.oldUse)).setFld (grOf c) F.PLTn_CHk_GR.RATIO s.col.oldG

/-! ## The phases at a captured line boundary (R300 to R313) -/

/-- The step ends; the spare's position as given. -/
def State.stepEnd (s : State) (g pos tgt : Nat) : State :=
  let s1 := s.spareGo g pos tgt
  ({ s1 with col := { s1.col with ch := none, phase := 0, held := false, lines := 0, endedAt := some s1.mer.boundary
                                  dac := 0, level := 0 } } : State).showCol

/-- Enter a phase of line boundaries. -/
def State.rotPhase (s : State) (p : Nat) : State :=
  ({ s with col := { s.col with phase := p, lines := 0 } } : State).showCol

/-- Enter a phase of sweeps. -/
def State.sweepPhase (s : State) (p : Nat) : State :=
  ({ s with col := { s.col with phase := p, lines := 0, slots := 0, smap := [], level2 := [], level3 := [] } } : State).showCol

/-- One tap toward a target. -/
def tapStep (v target : Int) : Int := if v < target then v + 1 else if target < v then v - 1 else v

def State.rspOf (s : State) (c : Nat) : Int := toSigned 12 (s.fld (R.MER_SPOFFc c) F.MER_SPOFFc.RSPOFF)
def State.vspOf (s : State) (c : Nat) : Int := toSigned 12 (s.fld (R.MER_SPOFFc c) F.MER_SPOFFc.VSPOFF)
def State.setSp (s : State) (c : Nat) (r v : Int) : State :=
  (s.setFld (R.MER_SPOFFc c) F.MER_SPOFFc.RSPOFF (ofSigned 12 r)).setFld (R.MER_SPOFFc c) F.MER_SPOFFc.VSPOFF (ofSigned 12 v)

/-- Mark a line with a probe position, or with a half of an overlap. -/
def State.markProbe (s : State) (line : Nat) (x : Int) : State := s.setLine line { s.lineInfo line with probe := some x }
def State.markHalf (s : State) (line : Nat) : State :=
  let n := s.col.lines
  let h := if n = 0 ∨ s.col.ol < n then 0 else if n ≤ s.col.ol / 2 then 1 else 2
  s.setLine line { s.lineInfo line with half := h }

/-- Mean difference at a probe position (R302). -/
def State.probeMean (s : State) (x : Int) : Option Rat :=
  match tabFind s.col.probe (x + 64).toNat with
  | none => none
  | some (a, n) => if n = 0 then none else some ((a : Rat) / n)

/-- Position x lies inside the window (R302): WINTOL counts merged units, M quarter ones. -/
def State.probeIn (s : State) (x : Int) : Bool :=
  match s.probeMean x, s.probeMean 0 with
  | some a, some b => decide (agreePpm.abs (a - b) ≤ (4 * s.col.wt : Nat))
  | _, _ => false

/-- Run of inside positions from 0 on, in a direction, up to n. -/
def State.probeRun (s : State) (dir : Int) : Nat → Int → Nat
  | 0, _ => 0
  | n + 1, x => if s.probeIn (x + dir) then 1 + s.probeRun dir n (x + dir) else 0

/-- The window is found and reported; the target of the primary's VSPOFF (R302, R303). -/
def State.probeEnd (s : State) (c : Nat) : State :=
  let up := s.probeRun 1 s.col.ph 0
  let dn := s.probeRun (-1) s.col.ph 0
  let inside := s.probeIn 0
  let w := if inside then up + dn + 1 else 0
  let mv := s.flag R.COL_PERM F.COL_PERM.SPOS && decide (5 ≤ w)
  let ctr := if mv then roundHe ((up : Int) - dn) 2 else 0
  let s1 := s.setFld (R.COL_CHQc c) F.COL_CHQc.WIN w
  { s1 with col := { s1.col with target := s1.vspOf c + ctr } }

/-- The Collimator may write sample offsets (R294). -/
def State.maySp (s : State) : Bool := s.flag R.COL_PERM F.COL_PERM.SPOS

/-- Spare sp's offsets move one tap each from where they stand, where the Collimator may write them (R294, R296). -/
def State.slewSp (s : State) (sp : Nat) (r v : Int) : State :=
  s.when s.maySp (fun s => s.setSp sp (tapStep (s.rspOf sp) r) (tapStep (s.vspOf sp) v))

/-- Spare sp's offsets have reached a goal, or stay where they are because the Collimator may not write them (DESIGN
CHOICE, notes/assumptions 103). -/
def State.spThere (s : State) (sp : Nat) (r v : Int) : Bool := !s.maySp || (s.rspOf sp == r && s.vspOf sp == v)

/-- Phase 1 at a line boundary. -/
def State.rot1 (s : State) (c line : Nat) : State :=
  let sp := 256 + c / 16
  let s1 := s.slewSp sp (s.rspOf c) (s.vspOf c - s.col.ph)
  if s1.spThere sp (s1.rspOf c) (s1.vspOf c - (s1.col.ph : Nat)) then
    if s1.col.ph = 0 then s1.rotPhase 4
    else
      (({ s1 with col := { s1.col with probeX := -(s1.col.ph : Int), probe := [] } } : State).rotPhase 2).markProbe line (-(s1.col.ph : Int))
  else s1

/-- Phase 3 at a line boundary: the moves, one tap each; a move of the primary sets CALBLEND. -/
def State.rot3 (s : State) (c line : Nat) : State :=
  let sp := 256 + c / 16
  if !s.maySp ∨ s.vspOf c = s.col.target ∧ s.rspOf sp = s.rspOf c ∧ s.vspOf sp = s.vspOf c then
    let s1 := ({ s with col := { s.col with fitA := {}, fitB := {} } } : State).rotPhase 4
    ({ s1 with col := { s1.col with lines := 1 } } : State).markHalf line
  else
    let v := tapStep (s.vspOf c) s.col.target
    let moved := v != s.vspOf c
    let s1 := s.setSp c (s.rspOf c) v
    let s2 := s1.slewSp sp (s1.rspOf c) s1.col.target
    s2.lineFlagIf moved line 5

/-- Phase 2 at a line boundary: the spare steps one tap toward the next position, from where its offset stands (R296). -/
def State.rot2 (s : State) (c line : Nat) : State :=
  let sp := 256 + c / 16
  if s.col.probeX < (s.col.ph : Nat) then
    let x := s.col.probeX + 1
    let s1 := s.slewSp sp (s.rspOf sp) (s.vspOf c + x)
    if s1.spThere sp (s1.rspOf sp) (s1.vspOf c + x) then
      ({ s1 with col := { s1.col with probeX := x } } : State).markProbe line x
    else s1
  else ((s.probeEnd c).rotPhase 3).rot3 c line

/-- The swap (R305): the coefficients are written, the spare stands in, the primary goes to the reference DAC. -/
def State.swap (s : State) (c line : Nat) (p q : Rat × Rat) : State :=
  let g := min 0xFFFFFF (ratHe ((p.1 + q.1) / 2 * 4194304)).toNat
  let o := sat (ratHe ((p.2 + q.2) / 2)) (-524288) 524287
  let s1 := s.when (s.flag R.COL_PERM F.COL_PERM.SM) (fun s =>
    ((s.setFld (R.PLTn_CHk_SMG (c / 16) (c % 16)) F.PLTn_CHk_SMG.GAIN g).setFld
      (R.PLTn_CHk_SMO (c / 16) (c % 16)) F.PLTn_CHk_SMO.OFS (ofSigned 20 o)))
  let s2 := { s1 with plt := { s1.plt with pairs := tabIns s1.plt.pairs c (g, ofSigned 20 o) }, col := { s1.col with tries := 0 } }
  ((s2.spareGo (c / 16) 3 (c % 16)).lineFlag line 5).sweepPhase 5

/-- A rejected step whose primary never left its ball: the spare parks. -/
def State.stepReject (s : State) (c : Nat) : State := (s.colReject 5 s.col.tries c).stepEnd (c / 16) 0 0

/-- Phase 4 at a line boundary (R304, R305, R322, R323). -/
def State.rot4 (s : State) (c line : Nat) : State :=
  let n := s.col.lines + 1
  let s1 := { s with col := { s.col with lines := n } }
  if n < s1.col.ol + 2 then s1.markHalf line
  else if s1.colRefuses then s1.stepReject c
  else
    match s1.halfFit s1.col.fitA c, s1.halfFit s1.col.fitB c with
    | some p, some q =>
      if s1.halvesAgree p q then s1.swap c line p q else again s1
    | _, _ => again s1
where
  /-- Produce both halves again, up to three times. -/
  again (s : State) : State :=
    if s.col.tries < 3 then
      ({ s with col := { s.col with tries := s.col.tries + 1, lines := 1, fitA := {}, fitB := {} } } : State).markHalf line
    else s.stepReject c

/-- The return overlap begins (R310). -/
def State.overlapStart (s : State) (line : Nat) : State :=
  let s1 := ({ s with col := { s.col with fitA := {}, fitB := {} } } : State).rotPhase 6
  ({ s1 with col := { s1.col with lines := 1 } } : State).markHalf line

/-- Phase 5 at a line boundary (R307 to R309, R322, R323). -/
def State.rot5 (s : State) (c line : Nat) : State :=
  if s.col.slots < 192 then s
  else
    let s1 := s.showRep c
    if s1.colRefuses then ((s1.restorePrim c).colReject 5 s1.col.tries c).overlapStart line
    else
      match s1.sweepAgrees with
      | some g =>
        let s2 := s1.sweepAccept c g
        ({ s2 with col := { s2.col with accepted := true, tries := 0 } } : State).overlapStart line
      | none =>
        if s1.col.tries < 3 then ({ s1 with col := { s1.col with tries := s1.col.tries + 1 } } : State).sweepPhase 5
        else ((s1.restorePrim c).colReject 5 3 c).overlapStart line

/-- Phase 6 at a line boundary (R310, R311). -/
def State.rot6 (s : State) (c line : Nat) : State :=
  let n := s.col.lines + 1
  let s1 := { s with col := { s.col with lines := n } }
  let g := c / 16
  if n < s1.col.ol + 2 then s1.markHalf line
  else if s1.returnHalf s1.col.fitA && s1.returnHalf s1.col.fitB && !s1.colRefuses then
    let s2 := { s1 with col := { s1.col with tries := 0, oldTrims := (s1.ch (256 + g)).trims } }
    ((s2.spareGo g 1 (c % 16)).lineFlag line 5).sweepPhase 7
  else if s1.col.otries < 3 && !s1.colRefuses then
    ({ s1 with col := { s1.col with otries := s1.col.otries + 1, tries := 0 } } : State).sweepPhase 5
  else
    let s2 := (s1.restorePrim c).colReject 5 s1.col.otries c
    let s3 := { s2 with col := { s2.col with stopped := s2.col.stopped ||| 2 ^ g } }
    s3.stepEnd g 3 (c % 16)

/-- Phase 7 at a line boundary: the spare's sweeps are judged and the step ends (R309). -/
def State.rot7 (s : State) (c : Nat) : State :=
  let g := c / 16
  if s.col.slots < 192 then s
  else
    let s1 := s.showRep (256 + g)
    let reject (s : State) : State :=
      ((s.setCh (256 + g) { s.ch (256 + g) with trims := s.col.oldTrims }).colReject 5 s.col.tries (256 + g)).stepEnd g 0 0
    if s1.colRefuses then reject s1
    else
      match s1.sweepAgrees with
      | some v => ((s1.sweepAccept (256 + g) v).colAccept 5 s1.col.tries c).stepEnd g 0 0
      | none =>
        if s1.col.tries < 3 then ({ s1 with col := { s1.col with tries := s1.col.tries + 1 } } : State).sweepPhase 7
        else reject s1

/-- The step is abandoned at this line boundary (R149, R313). A primary that stood aside returns with its old trims and
G, or with those that phase 5 has accepted: the next captured line then carries CALBLEND (R194). -/
def State.stepAbandon (s : State) (c : Nat) : State :=
  let aside := s.col.phase == 5 || s.col.phase == 6
  let s1 := s.when (!s.col.accepted && aside) (fun s => s.restorePrim c)
  let s2 := { s1 with col := { s1.col with blendDue := s1.col.blendDue || (aside && s1.col.accepted) } }
  (s2.colResult 5 2 s2.col.tries c).stepEnd (c / 16) 0 0

/-- The spare of a group leaves the ball it stands in for without a step: ROTRST, or its primary has been disabled (R149,
R311). -/
def State.standDown (s : State) (g : Nat) : State :=
  let sp := s.spare g
  let off := bit s.col.stopped g && sp.nextPos == 3 && !s.primOn (16 * g + sp.nextTgt)
  if bit s.col.back g || off then s.spareGo g 0 0 else s

/-- What ends a spare's standing in or a step at every line boundary, of captured and pre-roll lines, once its values are
in force (R149, R311, R313); a pause of the services defers it (R314). -/
def State.colWatch (s : State) : State :=
  if s.sec.paused then s
  else
    let s1 := match s.col.ch with
      | none => s
      | some c => if (s.rotSettings c != s.col.oldSet) || !s.primOn c then s.stepAbandon c else s
    let s2 := forN 16 State.standDown s1
    { s2 with col := { s2.col with back := 0 } }

/-- The wire check of the shared ball fails: the latest verdict of the channel that checks it (R132, R312). -/
def State.ballHeld (s : State) (c : Nat) : Bool :=
  (s.checks c && (s.ch c).wire) || (s.checks (256 + c / 16) && (s.ch (256 + c / 16)).wire)

/-- The start of the held phase: what it has gathered is dropped (R312). -/
def State.phaseRestart (s : State) : State :=
  let s1 := { s with col := { s.col with held := false, lines := 0, fitA := {}, fitB := {} } }
  if s1.col.phase = 5 then s1.sweepPhase 5
  else if s1.col.phase = 2 then ({ s1 with col := { s1.col with phase := 1, probe := [] } } : State).showCol
  else s1.showCol

/-- The rotation at a captured line boundary (ROTATION_PHASE and what comes within it: R300 to R313, R324). -/
def State.colLine (s : State) (line : Nat) : State :=
  match s.col.ch with
  | none => s
  | some c =>
    if s.sec.paused ∨ s.codeUnack 0x0D02 then s
    else if s.col.held ∧ s.ballHeld c then s
    else
      let s := if s.col.held then s.phaseRestart else s
      match s.col.phase with
      | 1 => s.rot1 c line
      | 2 => s.rot2 c line
      | 3 => s.rot3 c line
      | 4 => s.rot4 c line
      | 5 => s.rot5 c line
      | 6 => s.rot6 c line
      | _ => s.rot7 c

/-- STEP_HELD (R312): a check of the shared ball has failed. -/
def State.stepHeld (s : State) : State :=
  match s.col.ch with
  | none => s
  | some c =>
    if s.ballHeld c && s.col.phase != 7 then ({ s with col := { s.col with held := true } } : State).showCol else s

/-- WIRE_CHECK (R128, R130 to R136, R312): channel c judges its ball and sends its check word; a failing check of the
ball a rotation step shares holds the step. -/
def execWireCheck (c : Nat) (x : WireIn) (s : State) : Host.Outcome State Fault Refusal := .next (s.wireCheck c x).stepHeld

/-- A slot that carries sample points begins: the sweep of the channel on the reference DAC takes its next level
(R306, R307); after 64 slots sweep 1 has found the trims. -/
def State.colSlot (s : State) (e : Exposure) : State :=
  match s.col.ch with
  | none => s
  | some c =>
    let x := if s.col.phase = 7 then 256 + c / 16 else c
    if (s.col.phase == 5 || s.col.phase == 7) && (s.ch x).cur.dac && decide (s.col.slots < 192) then
      let n := s.col.slots
      let st := (s.ch x).cur
      let s1 := { s with col := { s.col with
        smap := tabIns s.col.smap (e.line * 32 + e.band) n, slots := n + 1, level := n % 64
        dac := dacCode s.col.dacFit (st.mode == 1) (dacLevel st (n % 64)) } }
      if n = 64 then s1.setTrims x else s1
    else s

/-! ## Idle sweeps (R297) -/

/-- A group's idle sweep begins, or completes with its trims, which are rejected while no result is accepted, and the next
group begins (R297, R323, R324). -/
def State.idleSweep (s0 : State) : State :=
  let ok := !s0.mer.cycle && s0.pwr.st == 1 && s0.ssc.st == 0 && s0.flag R.COL_CTL F.COL_CTL.EN
  let begin_ (s : State) (g : Nat) : State :=
    let s1 := forN 16 (fun s k => s.setFlag (statOf (16 * g + k)) F.ACQn_CHk_STAT.INCAL true)
      (s.setFld (R.SPR_SPg_STAT g) F.SPR_SPg_STAT.POS 1)
    (({ s1 with col := { s1.col with idle := some g } } : State).dacStart).showCol
  if ok then
    match s0.col.idle with
    | none => begin_ s0 0
    | some g =>
      let one (s : State) (k : Nat) : State :=
        let c := if k = 16 then 256 + g else 16 * g + k
        if s.colRefuses then s.colReject 5 0 c else s.setTrims c
      let s1 := forN 17 one s0
      begin_ s1.idleStop ((g + 1) % 16)
  else s0.idleStop

/-- IDLE_SWEEP (R17, R297): it waits while the services are paused. -/
def execIdleSweep (t : Nat) (s : State) : Host.Outcome State Fault Refusal :=
  let s0 := s.upto t
  .next (if s0.sec.paused then s0.defer .idleSweep else s0.idleSweep)

end Sys2Proof.Machine
end

