-- ==== Sys2Proof/Machine/Pho.lean ====
section
/-! DEFINITION. The Photometer (spec/10): windows, streak scans, cross-web bands and their records. -/

namespace Sys2Proof.Machine

/-! ## Rounding the manual leaves open -/

/-- num / den rounded to one of its two neighbouring integers, which one free; exact where it divides. -/
def State.nearby (s : State) (num : Int) (den : Nat) : Int :=
  let q := num.fdiv (den : Nat)
  if q * (den : Nat) = num then q else q + (s.free % 2 : Nat)

/-! ## Windows (R339 to R346) -/

def winAddr (w : Nat) : Nat := 0x2920000 + w * 64
def winEn (c : List Nat) : Bool := bit (c.headD 0) 31
def winRec (c : List Nat) : Bool := bit (c.headD 0) 30
def winAlmSel (c : List Nat) : Nat := bits (c.headD 0) 29 27
def winAlmCond (c : List Nat) : Nat := bits (c.headD 0) 26 24
def winStart (c : List Nat) : Nat := bits (c.headD 0) 17 0
def winWidth (e : List Nat) : Nat := max 1 (bits ((e[1]?).getD 0) 17 0)
def winLines (e : List Nat) : Nat := max 1 (bits ((e[2]?).getD 0) 27 16)
def winMask (e : List Nat) : Nat := bits ((e[2]?).getD 0) 15 0
def winThr (e : List Nat) : Nat := bits ((e[3]?).getD 0) 23 0

/-- The four configuration words of a window. -/
def State.winCfg (s : State) (w : Nat) : List Nat := (List.range 4).map (fun i => s.load (winAddr w + 4 * i) 4)

/-- Windows with a listed entry, lowest first; every other window is disabled. -/
def State.listedWins (s : State) : List Nat :=
  ((s.bar2.filter (fun c => 0x2920000 ≤ c.1 && c.1 < 0x2930000)).foldl
    (fun m c => tabIns m ((c.1 - 0x2920000) / 64) ()) ([] : List (Nat × Unit))).map (·.1)

/-- The enabled windows with their configurations now. -/
def State.winsNow (s : State) : List (Nat × List Nat) :=
  (s.listedWins.map (fun w => (w, s.winCfg w))).filter (fun x => winEn x.2)

/-- Windows whose configuration differs between two snapshots. -/
def winsMoved (old new_ : List (Nat × List Nat)) : List Nat :=
  ((old ++ new_).filter (fun x => tabFind old x.1 != tabFind new_ x.1)).map (·.1)

/-- The snapshot of the window configurations at a captured line's boundary (R342). -/
def State.phoLine (s : State) (line : Nat) : State :=
  let l := s.winsNow
  { s with pho := { s.pho with
      snaps := tabIns s.pho.snaps line l, moved := tabIns s.pho.moved line (s.pho.movedPre ++ winsMoved s.pho.seen l)
      movedPre := [], seen := l, scanLines := s.pho.scanLines + 1 } }

/-- The snapshot at a pre-roll line's boundary (R342): no interval counts the line, but it shows what has changed. -/
def State.phoPreroll (s : State) : State :=
  let l := s.winsNow
  { s with pho := { s.pho with movedPre := s.pho.movedPre ++ winsMoved s.pho.seen l, seen := l } }

/-- A window whose rules R341 states are broken: past the bar, or overlapping another enabled one in a shared band. -/
def winBroken (l : List (Nat × List Nat)) (w : Nat) (c : List Nat) : Bool :=
  decide (npix < winStart c + winWidth c) ||
  l.any (fun x => x.1 != w && (winMask x.2 &&& winMask c) != 0 &&
    decide (winStart x.2 < winStart c + winWidth c) && decide (winStart c < winStart x.2 + winWidth x.2))

/-- One counted sample joins an interval. -/
def winSample (r : WinRun) (x : Nat) : WinRun :=
  { r with n := r.n + 1, sum := r.sum + x, sq := r.sq + x * x
           mn := if r.n = 0 then x else min r.mn x, mx := if r.n = 0 then x else max r.mx x }

/-- A sample counts in a window (R337, R339). -/
def winTakes (c : List Nat) (x : Smp) : Bool :=
  decide (x.band < 16) && !x.exPho && bit (winMask c) x.band && decide (winStart c ≤ x.pixel) &&
  decide (x.pixel < winStart c + winWidth c)

/-- MEAN and VAR of an interval (R343). -/
def winMean (r : WinRun) : Nat := (roundHe (256 * r.sum : Nat) (r.n : Nat)).toNat
def winVar (r : WinRun) : Nat :=
  (roundHe (256 * ((r.sq * r.n : Nat) - (r.sum * r.sum : Nat) : Int)) (r.n * r.n : Nat)).toNat

/-- The alarm condition (R344). -/
def winAlarm (cond thr mean mn mx var : Nat) : Bool :=
  match cond with
  | 1 => decide (thr < mean)
  | 2 => decide (mean < thr)
  | 3 => decide (256 * mn < thr)
  | 4 => decide (thr < 256 * mx)
  | 5 => decide (thr * thr < var * 256)
  | _ => false

/-- Queue a record of 60 bytes: its CRC follows (R353, R354). -/
def State.phoRecord (s : State) (body : List Byte) : State :=
  if 512 ≤ s.pho.queue.length then (s.bump R.PHO_RECLOST 1).evt P.PHO 12
  else
    let r := body ++ leBytes 4 (crc32 body).toNat
    let s1 := { s with pho := { s.pho with queue := s.pho.queue ++ [r] } }
    s1.setReg R.PHO_RECQ (BitVec.ofNat 32 s1.pho.queue.length)

/-- The 60 bytes of a record before its CRC (R354). -/
def phoBody (a b c d w20 w24 w28 w2c ts : Nat) : List Byte :=
  leBytes 8 a ++ leBytes 8 b ++ leBytes 8 c ++ leBytes 8 d ++ leBytes 4 w20 ++ leBytes 4 w24 ++ leBytes 4 w28 ++
  leBytes 4 w2c ++ leBytes 8 ts ++ leBytes 4 0

/-- A window result (R343 to R346): the table words, the alarm, the record. alarmed: producers that have pulsed at this
line. An interval of a window that breaks R341 has free statistics. -/
def State.winResult (s : State) (alarmed : Nat) (w : Nat) (r : WinRun) (part broken : Bool) : State × Nat :=
  let fr (i m : Nat) : Nat := Config.free (s.fv + i) % m
  let n := if broken then fr 0 (2 ^ 35) else r.n
  let mean := if n = 0 then 0 else if broken then fr 1 (2 ^ 24) else winMean r
  let mn := if n = 0 then 0 else if broken then fr 2 65536 else r.mn
  let mx := if n = 0 then 0 else if broken then fr 3 65536 else r.mx
  let var := if n = 0 then 0 else if broken then fr 4 (2 ^ 40) else winVar r
  let alm := decide (n ≠ 0) && winAlarm (winAlmCond r.cfg) (winThr r.cfg) mean mn mx var
  let flags := alm.toNat + 2 * (n == 0).toNat + 4 * part.toNat
  let a := winAddr w
  let s0 := if broken then { s with fv := s.fv + 5 } else s
  let s1 := ((((((s0.store (a + 0x10) 8 r.first).store (a + 0x18) 8 n).store (a + 0x20) 4 mean).store (a + 0x24) 4
    (mx * 65536 + mn)).store (a + 0x28) 8 var).store (a + 0x34) 4 flags)
  let s2 := s1.store (a + 0x30) 4 (s1.load (a + 0x30) 4 + 1)
  let sel := winAlmSel r.cfg
  let s3 := s2.when alm (fun s =>
    let m := R.PHO_ALMMAPi (w / 32)
    let s' := ((s.setFld m (w % 32, w % 32) 1).bump R.PHO_ALMCNT 1).evt P.PHO 8
    if bit alarmed sel then s' else s'.emit (64 + sel))
  let w28 := w + alm.toNat * 65536 + (n == 0).toNat * 131072 + part.toNat * 262144
  let s4 := s3.when (winRec r.cfg) (fun s =>
    s.phoRecord (phoBody r.first r.last n var mean (mx * 65536 + mn) w28 (winMask r.cfg) s.ts))
  (s4, if alm then alarmed ||| 2 ^ sel else alarmed)

/-- Windows whose configuration has changed by a captured line's boundary, lines that were lost before it included. -/
def State.movedBy (s : State) (line : Nat) : List Nat :=
  (s.pho.moved.filter (fun (x : Nat × List Nat) => x.1 ≤ line)).flatMap (·.2)

/-- The running interval of a window with a configuration; a change of it discards the interval and clears NRES (R342). -/
def State.winRun (s : State) (line w : Nat) (c : List Nat) : State × WinRun :=
  match tabFind s.pho.wins w with
  | some r => if r.cfg = c ∧ !(s.movedBy line).contains w then (s, r) else (s.store (winAddr w + 0x30) 4 0, { cfg := c })
  | none => (s.store (winAddr w + 0x30) 4 0, { cfg := c })

/-- One window at a completed line. -/
def State.winLine (p : State × Nat) (line : Nat) (l : List (Nat × List Nat)) (smps : List Smp) (w : Nat) (c : List Nat) :
    State × Nat :=
  let (s, r0) := p.1.winRun line w c
  let r1 := { r0 with lines := r0.lines + 1, broken := r0.broken || winBroken l w c, first := if r0.lines = 0 then line else r0.first, last := line }
  let r := (smps.filter (winTakes c)).foldl (fun r x => winSample r x.dn) r1
  let put (s : State) (r : WinRun) : State := { s with pho := { s.pho with wins := tabIns s.pho.wins w r } }
  if winLines c ≤ r.lines then
    let (s1, al) := s.winResult p.2 w r false r.broken
    (put s1 { cfg := c }, al)
  else (put s r, p.2)

/-- Windows that a change leaves without an interval are dropped, NRES with them. -/
def State.winDrop (s : State) (l : List (Nat × List Nat)) : State :=
  let gone := s.pho.wins.filter (fun (x : Nat × WinRun) => (tabFind l x.1).isNone)
  let s1 := foldS (fun s (x : Nat × WinRun) => s.store (winAddr x.1 + 0x30) 4 0) s gone
  { s1 with pho := { s1.pho with wins := s1.pho.wins.filter (fun (x : Nat × WinRun) => (tabFind l x.1).isSome) } }

/-! ## Bands (R350, R351) -/

def bandSel (s : State) (line sel : Nat) : Nat := s.pfld line R.PLTG_STREAK (19 + 4 * sel, 16 + 4 * sel)

/-- PHO_BANDREFs shows R and whether a band is in progress. -/
def State.showBand (s : State) (sel : Nat) : State :=
  let b := tabGet {} s.pho.bands sel
  s.setReg (R.PHO_BANDREFs sel) (BitVec.ofNat 32 (b.inBand.toNat * 2 ^ 31 + (b.ref.getD 0) % 2 ^ 24))

def State.setBand (s : State) (sel : Nat) (b : BandRun) : State :=
  ({ s with pho := { s.pho with bands := tabPut {} s.pho.bands sel b } } : State).showBand sel

/-- A band ends: its result (R351, R354). -/
def State.bandEnd (s : State) (line sel : Nat) (b : BandRun) (long part : Bool) : State :=
  let s1 := (s.evt P.PHO 11).emit 74
  let w28 := sel + 2 * 4096 + part.toNat * 2 ^ 18 + long.toNat * 2 ^ 19 + bandSel s line sel * 2 ^ 24
  s1.when (s1.pfld line R.PHO_BANDCFG F.PHO_BANDCFG.RECEN == 1) (fun s =>
    s.phoRecord (phoBody b.first b.last b.n 0 (b.startR % 2 ^ 24) 0 w28 (ofSigned 24 b.peak) s.ts))

/-- One judged line of a selection with line mean m (R351). -/
def State.bandJudge (s : State) (line sel m : Nat) : State :=
  let b := tabGet {} s.pho.bands sel
  let cfg (f : Fld) : Nat := s.pfld line R.PHO_BANDCFG f
  match b.ref with
  | none => s.setBand sel { ref := some m, last := line }
  | some r =>
    let e : Int := (m : Int) - r
    if e.natAbs ≤ s.pfld line R.PHO_BANDTHR F.PHO_BANDTHR.THR then
      let r' := ((r : Int) + roundHe e (2 ^ cfg F.PHO_BANDCFG.KB : Nat)).toNat
      let s1 := s.when b.inBand (fun s => s.bandEnd line sel b false false)
      s1.setBand sel { ref := some r', last := line }
    else
      let b1 := { b with n := b.n + 1, first := if b.n = 0 then line else b.first, last := line
                         startR := if b.n = 0 then r else b.startR
                         peak := if b.n = 0 ∨ b.peak.natAbs < e.natAbs then e else b.peak }
      let start := !b.inBand && decide (max 1 (cfg F.PHO_BANDCFG.BMIN) ≤ b1.n)
      let s1 := s.when start (fun s => (s.evt P.PHO 10).emit 73)
      let b2 := { b1 with inBand := b.inBand || start }
      if b2.inBand && decide (max 1 (cfg F.PHO_BANDCFG.MAXL) ≤ b2.n) then
        (s1.bandEnd line sel b2 true false).setBand sel { ref := some m, last := line }
      else s1.setBand sel b2

/-- The line mean of a selection, or none without counted samples (R350). -/
def State.bandMean (s : State) (line sel : Nat) (smps : List Smp) : Option Nat :=
  let st := s.pfld line R.PHO_BSTART F.PHO_BSTART.START
  let wd := max 1 (s.pfld line R.PHO_BWIDTH F.PHO_BWIDTH.WIDTH)
  let l := smps.filter (fun x => x.band == bandSel s line sel && x.band != 16 && !x.exPho &&
    decide (st ≤ x.pixel) && decide (x.pixel < st + wd))
  if l.isEmpty then none
  else some (roundHe (256 * l.foldl (fun (a : Nat) (x : Smp) => a + x.dn) 0 : Nat) (l.length : Nat)).toNat

def State.bandLine (s : State) (line : Nat) (smps : List Smp) : State :=
  forN 4 (fun s sel =>
    if bit (s.pfld line R.PHO_BANDCFG F.PHO_BANDCFG.SEN) sel then
      match s.bandMean line sel smps with
      | some m => s.bandJudge line sel m
      | none => s
    else s) s

/-! ## LINE_COMPLETE (R336 to R346, R350 to R354) -/

/-- Streak results of lines up to one are queued (R352). The words: those of phoBody. -/
def State.streakOut (s : State) (due : Nat × List Nat → Bool) : State :=
  let l := s.pho.streakDue.filter due
  let s := { s with pho := { s.pho with streakDue := s.pho.streakDue.filter (fun x => !due x) } }
  foldS (fun (s : State) (x : Nat × List Nat) =>
    let w (i : Nat) : Nat := (x.2[i]?).getD 0
    s.phoRecord (phoBody (w 0) (w 1) (w 2) (w 3) (w 4) (w 5) (w 6) (w 7) s.ts)) s l

/-- The Photometer finishes a captured line: its windows, streak results and bands, in this order (R352). -/
def State.phoFinish (s : State) (line : Nat) : State :=
  let l := tabGet [] s.pho.snaps line
  let smps := s.plt.rel.filter (fun x => x.line == line)
  let s1 := s.winDrop l
  let (s2, _) := l.foldl (fun p x => State.winLine p line l smps x.1 x.2) (s1, 0)
  (s2.streakOut (fun x => decide (x.1 ≤ line))).bandLine line smps

/-- What is known of a line that the Photometer and every stream have taken is dropped. -/
def State.lineTidy (s : State) (line : Nat) : State :=
  let li := s.lineInfo line
  if li.phoDone && (li.sent &&& li.owed) == li.owed then
    { s with lines := tabErase s.lines line, plt := { s.plt with
      rel := s.plt.rel.filter (fun x => x.line != line), done := tabErase s.plt.done line, trail := tabErase s.plt.trail line } }
  else s

/-- Every island has released the line. -/
def State.lineOut (s : State) (line : Nat) : Bool := tabGet 0 s.plt.done line == 65535

/-- LINE_COMPLETE (R338): the line is complete; lines finish in increasing order. -/
def execLineComplete (line t : Nat) (s : State) : Host.Outcome State Fault Refusal :=
  let earlier := s.lines.any (fun (l : Nat × LineInfo) => l.1 < line && !l.2.phoDone && !l.2.preroll)
  if (tabFind s.lines line).isSome && s.lineOut line && !(s.lineInfo line).phoDone && !earlier then
    let s0 := s.upto t
    let li := s0.lineInfo line
    let s1 := if li.preroll || !s0.flag R.PHO_CTL F.PHO_CTL.EN then s0 else s0.phoFinish line
    let s2 := { s1 with pho := { s1.pho with
      snaps := tabErase s1.pho.snaps line, moved := s1.pho.moved.filter (fun (x : Nat × List Nat) => line < x.1) } }
    .next ((s2.setLine line { s2.lineInfo line with phoDone := true }).lineTidy line)
  else .next s

/-- Windows whose intervals are over keep the configuration that their NRES counts from (R339, R342). -/
def winIdle (l : List (Nat × WinRun)) : List (Nat × WinRun) :=
  l.map (fun (x : Nat × WinRun) => (x.1, { cfg := x.2.cfg }))

/-- A selection judges no line any more: its reference stays readable until the first line of a job (R350). -/
def State.bandOver (s : State) (sel : Nat) : State :=
  ({ s with pho := { s.pho with bands := tabErase s.pho.bands sel } } : State).setFlag (R.PHO_BANDREFs sel)
    F.PHO_BANDREFs.INBAND false

/-- Windows whose configuration a line boundary found changed, at lines that are lost or at pre-roll lines, lose their
intervals (R342). -/
def State.winLast (s : State) : State :=
  let m := s.pho.moved.flatMap (·.2) ++ s.pho.movedPre
  let s := s.winDrop ((s.pho.wins.filter (fun (x : Nat × WinRun) => !m.contains x.1)).map (fun (x : Nat × WinRun) => (x.1, x.2.cfg)))
  { s with pho := { s.pho with snaps := [], moved := [], movedPre := [] } }

/-- A job ends: running intervals and bands close with PART (R342, R351). -/
def State.phoJobEnd (s : State) : State :=
  let s0 := s.winLast
  let s1 := (s0.pho.wins.foldl (fun (p : State × Nat) (x : Nat × WinRun) =>
    if x.2.lines = 0 then p else p.1.winResult p.2 x.1 x.2 true x.2.broken) (s0, 0)).1
  let s2 := ({ s1 with pho := { s1.pho with wins := winIdle s1.pho.wins } } : State).streakOut (fun _ => true)
  forN 4 (fun s sel =>
    let b := tabGet {} s.pho.bands sel
    (s.when b.inBand (fun s => s.bandEnd b.last sel b false true)).bandOver sel) s2

/-! ## Streak scans (R347 to R349) -/

/-- The latest captured line: a pre-roll line has no number. -/
def State.lineNow (s : State) : Nat := if s.mer.preroll then s.ssc.lastKept else s.mer.line

/-- STREAK_SCAN_START (R347): PERIOD captured lines have passed. -/
def execStreakScanStart (t : Nat) (s : State) : Host.Outcome State Fault Refusal :=
  let s0 := s.upto t
  if s0.flag R.PHO_CTL F.PHO_CTL.EN && s0.fld R.PHO_STRK F.PHO_STRK.SEN != 0 && !s0.pho.scanning &&
     decide (max 1 (s0.fld R.PHO_STRK F.PHO_STRK.PERIOD) ≤ s0.pho.scanLines) then
    .next { s0 with pho := { s0.pho with scanning := true, scanFrom := s0.lineNow, scanLines := 0, scanRead := [] } }
  else .next s0

/-- Neighbours' sum and count among valid accumulators within h pixels of p (R347). -/
def nearSum (acc : List (Nat × Nat)) (p h : Nat) : Nat × Nat :=
  (acc.filter (fun x => x.1 != p && decide (p ≤ x.1 + h) && decide (x.1 ≤ p + h))).foldl
    (fun a x => (a.1 + x.2, a.2 + 1)) (0, 0)

/-- Deviations of the compared pixels of a selection: pixel, numerator and denominator of d in DN × 2^24 (R347). -/
def devList (acc : List (Nat × Nat)) (h : Nat) : List (Nat × (Int × Nat)) :=
  acc.filterMap (fun x =>
    let (sm, n) := nearSum acc x.1 h
    if n = 0 then none else some (x.1, ((x.2 * n : Nat) - (sm : Int), n)))

/-- |d| exceeds a threshold of 1/256 DN (R349). -/
def devOver (d : Int × Nat) (thr : Nat) : Bool := decide (thr * 65536 * d.2 < d.1.natAbs)

/-- a has the larger magnitude. -/
def devMore (a b : Int × Nat) : Bool := decide (b.1.natAbs * a.2 < a.1.natAbs * b.2)

/-- A run of streak pixels: first pixel, length, sign, peak. -/
structure StreakRun where
  first : Nat
  len   : Nat
  neg   : Bool
  peak  : Int × Nat
  deriving DecidableEq, Repr

/-- Runs of consecutive streak pixels whose deviations share a sign (R349), from a list with rising pixels. -/
def streakRuns : List (Nat × (Int × Nat)) → Option StreakRun → List StreakRun
  | [], none => []
  | [], some r => [r]
  | (p, d) :: l, none => streakRuns l (some ⟨p, 1, decide (d.1 < 0), d⟩)
  | (p, d) :: l, some r =>
    if p = r.first + r.len ∧ decide (d.1 < 0) = r.neg then
      streakRuns l (some { r with len := r.len + 1, peak := if devMore d r.peak then d else r.peak })
    else r :: streakRuns l (some ⟨p, 1, decide (d.1 < 0), d⟩)

/-- A deviation as signed 16.8 DN, saturated; its last place is free where it does not come out even. -/
def State.dev168 (s : State) (d : Int × Nat) : Int := sat (s.nearby d.1 (d.2 * 65536)) (-8388607) 8388607

/-- The valid accumulators of a selection as the scan read them: what it read early, else what they hold now (R348). -/
def State.scanAcc (s : State) (sel : Nat) : List (Nat × Nat) :=
  let early := s.pho.scanRead.filterMap (fun (x : Nat × Option Nat) => x.2.map (fun v => (x.1, v)))
  let late := s.plt.streak.filter (fun (x : Nat × Nat) => (tabFind s.pho.scanRead x.1).isNone)
  (early.foldl (fun l (x : Nat × Nat) => tabIns l x.1 x.2) late).filterMap
    (fun (x : Nat × Nat) => if x.1 / npix = sel then some (x.1 % npix, x.2) else none)

/-- The compared pixel with the largest |d|, the first of several. -/
def devLargest : List (Nat × (Int × Nat)) → Nat × (Int × Nat)
  | [] => (0, (0, 1))
  | d :: l => l.foldl (fun b x => if devMore x.2 b.2 then x else b) d

/-- A streak result's record waits for its line's window results, or is queued at once where these have been given before
the scan's end (R352; DESIGN CHOICE, notes/assumptions 111). -/
def State.streakRecord (s : State) (w : List Nat) : State :=
  let n := s.lineNow
  let s := { s with pho := { s.pho with streakDue := s.pho.streakDue ++ [(n, w)] } }
  if (tabFind s.lines n).any (fun (i : LineInfo) => !i.phoDone) then s else s.streakOut (fun x => decide (x.1 ≤ n))

/-- One selection at the end of a scan: its figures, its records, and whether it found a run. -/
def State.scanSel (p : State × Bool) (sel : Nat) : State × Bool :=
  let s := p.1
  if bit (s.fld R.PHO_STRK F.PHO_STRK.SEN) sel && bit (s.fld R.PLTG_STREAK F.PLTG_STREAK.BEN) sel then
    let acc := s.scanAcc sel
    let h := min 32 (max 1 (s.fld R.PHO_STRK F.PHO_STRK.HALF))
    let devs := devList acc h
    let thr := s.fld R.PHO_STRKTHR F.PHO_STRKTHR.THR
    let runs := streakRuns (devs.filter (fun x => devOver x.2 thr)) none
    let best := devLargest devs
    let dmax := min 65535 (s.dev168 best.2).natAbs
    let s1 := (s.setReg (R.PHO_STRKLASTs sel) (BitVec.ofNat 32 (min 65535 runs.length * 65536 + dmax))).setReg
      (R.PHO_STRKPIXs sel) (BitVec.ofNat 32 ((decide (best.2.1 < 0)).toNat * 2 ^ 31 + best.1))
    let s2 := if s1.flag R.PHO_STRKTHR F.PHO_STRKTHR.RECEN then
        foldS (fun s r =>
          let w28 := sel + 4096 + s.fld R.PLTG_STREAK (19 + 4 * sel, 16 + 4 * sel) * 2 ^ 24
          (s.streakRecord [s.pho.scanFrom, s.lineNow, devs.length, 0, r.first, r.len, w28,
            ofSigned 24 (s.dev168 r.peak)]).useFree) s1.useFree runs
      else s1.useFree
    (s2, p.2 || !runs.isEmpty)
  else p

/-- STREAK_SCAN_DONE (R348, R349, R352 to R354). -/
def execStreakScanDone (t : Nat) (s : State) : Host.Outcome State Fault Refusal :=
  if s.pho.scanning then
    let (s1, found) := (List.range 4).foldl State.scanSel (s.upto t, false)
    let s2 := ({ s1 with pho := { s1.pho with scanning := false } } : State).evt P.PHO 13
    .next (s2.when found (fun s => (s.evt P.PHO 9).emit 72))
  else .next s

/-- What a PHO page soft reset discards (R355). -/
def State.phoSoftReset (s : State) : State :=
  { s with pho := { s.pho with wins := winIdle s.pho.wins, scanning := false, scanLines := 0, streakDue := [], bands := [], queue := [] } }

end Sys2Proof.Machine
end

