-- ==== Sys2Proof/Machine/Rec.lean ====
section
/-! DEFINITION. Line records, gap records and trailers (spec/05 R184 to R196; containers: spec/04 R151, R152). -/

namespace Sys2Proof.Machine

/-! ## What a stream carries (R185, R186, R188) -/

def State.osH (s : State) (k : Nat) : Nat := sumCode (s.osFld0 k F.PLTG_OSs_CFG.HBIN)
def State.osProj (s : State) (k : Nat) : Nat := min 4 (s.osFld0 k F.PLTG_OSs_CFG.NPROJ)
def State.osLut (s : State) (k : Nat) : Bool := s.osFld0 k F.PLTG_OSs_CFG.LUT == 1
def State.osSum (s : State) (k : Nat) : Bool := s.osFld0 k F.PLTG_OSs_CFG.BINSUM == 1
def State.osTrail (s : State) (k : Nat) : Bool := s.flag (osCfg k) F.PLTG_OSs_CFG.TRAIL
def State.osOrder (s : State) (k : Nat) : Bool := s.flag (osCfg k) F.PLTG_OSs_CFG.ORDER
def State.osStart (s : State) (k : Nat) : Nat := s.fld (R.PLTG_OSs_START k) F.PLTG_OSs_START.START
def State.osWidth (s : State) (k : Nat) : Nat := max 1 (s.fld (R.PLTG_OSs_WIDTH k) F.PLTG_OSs_WIDTH.WIDTH)

/-- Bands of the line: illuminated ones, and all with the dark slot as 16. -/
def State.lineBands (s : State) : List Nat := (List.range 17).filter (fun b => s.seq.contains b)

/-- Components of a stream: bands, or projection outputs (R186). -/
def State.osComps (s : State) (k : Nat) : List Nat :=
  if s.osProj k ≠ 0 then List.range (s.osProj k)
  else s.lineBands.filter (fun b =>
    bit (s.fld (R.PLTG_OSs_BAND k) F.PLTG_OSs_BAND.MASK) b && (b != 16 || s.osFmt k != 0))

/-- Kinds of raw conversions delivered (R152). -/
def State.rawKinds (s : State) : List Nat :=
  (List.range 4).filter (fun i => bit (s.fld R.ACQG_RAWFMT F.ACQG_RAWFMT.KMASK) i)

/-- Bytes of one component of one output pixel (R191). -/
def State.compBytes (s : State) (k : Nat) : Nat :=
  match s.osFmt k with
  | 0 => if s.osLut k then 1 else 2
  | 1 => 4
  | _ => 4 * s.rawKinds.length

def State.osPixels (s : State) (k : Nat) : Nat := s.osWidth k / 2 ^ s.osH k
def State.osPayload (s : State) (k : Nat) : Nat := (s.osComps k).length * s.osPixels k * s.compBytes k
def pad64 (n : Nat) : Nat := (n + 63) / 64 * 64

/-- Record size Bs (R401). -/
def State.recSize (s : State) (k : Nat) : Nat := 64 + pad64 (s.osPayload k) + 64 * (s.osTrail k).toNat

/-! ## Values -/

/-- The released samples of a line. -/
def State.lineSmps (s : State) (l : Nat) : List Smp := s.plt.rel.filter (fun x => x.line == l)

def findSmp (l : List Smp) (band p : Nat) : Option Smp := l.find? (fun x => x.band == band && x.pixel == p)

/-- DN of a pixel of the bar: 0 where no enabled primary maps it (R140). -/
def dnOf (l : List Smp) (band p : Nat) : Nat :=
  match findSmp l band p with
  | some x => x.dn
  | none => 0

/-- Projection coefficient C[o][b] of stream k (R187). -/
def State.projCoef (s : State) (k o b : Nat) : Int :=
  toSigned 20 (s.load (0x2938000 + k * 0x100 + (o * 16 + b) * 4) 4 % 2 ^ 20)

/-- Value of a component of a pixel in format 0, before binning (R186, R187). -/
def State.compVal (s : State) (k : Nat) (l : List Smp) (c p : Nat) : Nat :=
  if s.osProj k = 0 then dnOf l c p
  else
    let sum : Int := (s.lineBands.filter (· < 16)).foldl (fun a b => a + s.projCoef k c b * (dnOf l b p : Nat)) 0
    (sat (roundHe sum 65536) 0 65535).toNat

/-- One output pixel of a component in format 0: binning over h pixels and the present lines (R188), then the LUT (R190). -/
def State.binVal (s : State) (k : Nat) (ls : List (List Smp)) (c q : Nat) : List Byte :=
  let h := 2 ^ s.osH k
  let sum := ls.foldl (fun a l => (List.range h).foldl (fun a i => a + s.compVal k l c (s.osStart k + q * h + i)) a) 0
  let v := if s.osSum k then min sum 65535 else (roundHe (sum : Nat) (h * ls.length : Nat)).toNat
  if s.osLut k then [s.byte (0x2930000 + k * 0x1000 + v / 16)] else leBytes 2 v

/-- Container of a merged value (R151, R171). -/
def mergedWord (left : Bool) (x : Smp) : Nat :=
  let v := if x.single then sat (roundHe x.m 4) 0 1048575 else sat (roundHe x.m 4) (-1048576) 1048575
  if x.single then (if left then v.toNat * 4096 else v.toNat)
  else if left then ofSigned 21 v * 2048 else ofSigned 32 v

/-- Container of a raw conversion (R151). -/
def rawWord (left spare : Bool) (c : Conv) : Nat :=
  if left then ofSigned 16 c.code * 65536 + c.opn.toNat * 64 + c.ovr.toNat * 32 + spare.toNat * 16
  else ofSigned 32 c.code

/-- One pixel of a component in formats 1 and 2. The manual states no container for a pixel without conversions: it is
free (R140, R143, notes/assumptions 45). -/
def State.wideVal (s : State) (k : Nat) (l : List Smp) (c p : Nat) : List Byte :=
  let left := s.flag R.ACQG_RAWFMT F.ACQG_RAWFMT.ALIGN
  match findSmp l c p with
  | none => leBytes (s.compBytes k) (s.freeAt (c * 163840 + p))
  | some x =>
    if s.osFmt k = 1 then leBytes 4 (if x.off then s.freeAt (c * 163840 + p) else mergedWord left x)
    else s.rawKinds.flatMap (fun i => match tabFind x.raw i with
      | some cv => leBytes 4 (rawWord left (decide (256 ≤ x.chan)) cv)
      | none => leBytes 4 (s.freeAt (c * 163840 + p)))

/-- Output pixel q of stream k draws on a pixel beyond the bar (R186). -/
def State.beyondBar (s : State) (k q : Nat) : Bool := decide (163840 < s.osStart k + (q + 1) * 2 ^ s.osH k)

/-- Bytes of one component of output pixel q. -/
def State.outVal (s : State) (k : Nat) (ls : List (List Smp)) (c q : Nat) : List Byte :=
  if s.beyondBar k q then leBytes (s.compBytes k) (s.freeAt (c * 163840 + q))
  else if s.osFmt k = 0 then s.binVal k ls c q
  else s.wideVal k (ls.headD []) c (s.osStart k + q)

/-- Payload of a group of lines (R191). -/
def State.payload (s : State) (k : Nat) (ls : List Nat) : List Byte :=
  let smps := ls.map s.lineSmps
  let px := List.range (s.osPixels k)
  if s.osOrder k then px.flatMap (fun q => (s.osComps k).flatMap (fun c => s.outVal k smps c q))
  else (s.osComps k).flatMap (fun c => px.flatMap (fun q => s.outVal k smps c q))

/-! ## Headers (R193 to R196) -/

def maskOfList (l : List Nat) : Nat := l.foldl (fun m b => m ||| 2 ^ b) 0

/-- BANDMASK: bands delivered, or the illuminated bands of a projection. -/
def State.bandMask (s : State) (k : Nat) : Nat :=
  if s.osProj k = 0 then maskOfList (s.osComps k) else maskOfList (s.lineBands.filter (· < 16))

/-- FORMAT without the trailer bit and POSSRC. -/
def State.formatBits (s : State) (k : Nat) : Nat :=
  s.osFmt k + (s.osOrder k).toNat * 8 + s.osH k * 16 + s.osV k * 64 + (s.osLut k).toNat * 256 +
  (s.osSum k).toNat * 512 + s.osProj k * 1024 + k * 8192 + s.fld R.MER_LSRC F.MER_LSRC.AXIS * 2 ^ 18

/-- A header with its check code. -/
def headerOf (line : Nat) (pos : Int) (ts cap mask format flags payload pixels first count : Nat) : List Byte :=
  let b := leBytes 8 line ++ leBytes 8 (ofSigned 64 pos) ++ leBytes 8 ts ++ leBytes 8 cap ++ leBytes 4 mask ++
    leBytes 4 format ++ leBytes 4 flags ++ leBytes 4 payload ++ leBytes 4 pixels ++ leBytes 4 first ++ leBytes 4 count
  b ++ leBytes 4 (crc32 b).toNat

/-- The record of a group of present lines whose first line number is n (R189, R193). Where that line is lost, TS and POS
are those of the group's first present line (DESIGN CHOICE, notes/assumptions 102). -/
def State.lineRecord (s : State) (k n : Nat) (ls : List Nat) : List Byte :=
  let f := s.lineInfo (ls.headD n)
  let z := s.lineInfo (ls.getLast?.getD n)
  let flags := ls.foldl (fun a l => a ||| (s.lineInfo l).flags) 0
  let pay := s.osPayload k
  let format := s.formatBits k + (s.osTrail k).toNat * 32768 + f.posSrc * 65536
  let trail := ls.foldl (fun a l => a ||| tabGet 0 s.plt.trail l) 0
  headerOf n (if f.posSrc = 2 then 0 else f.pos) f.ts z.capTs (s.bandMask k) format flags pay (s.osPixels k)
    (s.osStart k) ls.length ++
  s.payload k ls ++ List.replicate (pad64 pay - pay) 0 ++ (if s.osTrail k then leBytes 64 trail else [])

/-- A gap record (R195). -/
def State.gapRecord (s : State) (k n count : Nat) : List Byte :=
  headerOf n 0 0 0 0 (s.formatBits k + 2 * 65536) 8 0 (s.osPixels k) (s.osStart k) count

end Sys2Proof.Machine
end

