-- ==== Sys2Proof/Machine/Dma.lean ====
section
/-! DEFINITION. The DMA engine (spec/13): chains, rings, rate shares, completion queues, halts, and the delivery
measurement that a record's last write ends (spec/12 R419, R420; spec/16 R516, R517). -/

namespace Sys2Proof.Machine

def State.chan (s : State) (ch : Nat) : Dch := tabGet {} s.dma.chans ch
def State.setChan (s : State) (ch : Nat) (c : Dch) : State :=
  { s with dma := { s.dma with chans := tabPut {} s.dma.chans ch c } }

/-! ## Descriptors (R426 to R429) -/

def Desc.typ (d : Desc) : Nat := bits d.ctl 30 28
def Desc.valid (d : Desc) : Bool := bit d.ctl 31
def Desc.swap (d : Desc) : Nat := let v := bits d.ctl 21 20; if v = 3 then 0 else v
def Desc.sfix (d : Desc) : Bool := bit d.ctl 19 && (d.typ == 1 || d.typ == 3)
def Desc.dfix (d : Desc) : Bool := bit d.ctl 18 && (d.typ == 2 || d.typ == 3)
def Desc.evt (d : Desc) : Bool := bit d.ctl 17
def Desc.cqe (d : Desc) : Bool := bit d.ctl 16
def Desc.cq (d : Desc) : Nat := bits d.ctl 15 13
def Desc.tag (d : Desc) : Nat := bits d.ctl 7 0
def Desc.ringSize (d : Desc) : Nat := let r := bits d.ctl 26 22; 2 ^ (if r < 12 ∨ 30 < r then 12 else r)
def Desc.zero (d : Desc) : Bool := d.len == 0 || decide (4 ≤ d.typ)

/-- The descriptor 32 bytes at an address spell (R428). -/
def descOf (addr : Nat) (b : List Byte) : Desc :=
  { addr := addr, src := ofLe (b.take 8), dst := ofLe ((b.drop 8).take 8), len := ofLe ((b.drop 16).take 4),
    ctl := ofLe ((b.drop 20).take 4), next := ofLe ((b.drop 24).take 8) / 32 * 32 }

/-- A line DMA channel: its record source is a stream (R427). -/
def State.lineCh (s : State) (ch : Nat) : Bool := s.streams.any (fun k => s.osCh k == ch)
def State.phoCh (s : State) (ch : Nat) : Bool := s.flag R.PHO_CTL F.PHO_CTL.EN && s.fld R.PHO_CTL F.PHO_CTL.DMACH == ch

/-- The ring a descriptor names, on a channel that uses rings (R435). -/
def State.ringOf (s : State) (ch : Nat) (d : Desc) : Option (Nat × Nat) :=
  if d.typ = 0 ∧ bit d.ctl 27 ∧ s.lineCh ch then some (d.dst / d.ringSize * d.ringSize, d.ringSize) else none

/-- DMAch_NEXT; its bits 4 to 0 are reserved (R429, R462). -/
def State.nextAddr (s : State) (ch : Nat) : Nat := s.reg64 (R.DMAch_NEXT ch) / 32 * 32
def State.setNext (s : State) (ch a : Nat) : State := s.setReg64 (R.DMAch_NEXT ch) (a / 32 * 32)

def State.rwp (s : State) (ch : Nat) : Nat := (s.reg (R.DMAch_RWP ch)).toNat
def State.rrp (s : State) (ch : Nat) : Nat := (s.reg (R.DMAch_RRP ch)).toNat

/-- Free space of a ring of a size (R435); a free value below the size after a forbidden RRP (R437). -/
def State.ringFree (s : State) (ch size : Nat) : Nat :=
  if (s.chan ch).rrpBad then s.free % size
  else (((s.rrp ch : Int) - (s.rwp ch : Nat) - 64) % (size : Nat)).toNat

/-- A record of n bytes fits the ring in use, or the descriptor in hand needs none (R436). -/
def State.ringFits (s : State) (ch n : Nat) : Bool :=
  match (s.chan ch).desc with
  | some d => match s.ringOf ch d with
    | some (_, size) => decide (n ≤ s.ringFree ch size)
    | none => true
  | none => match (s.chan ch).ring with
    | some (_, size) => decide (n ≤ s.ringFree ch size)
    | none => true

/-! ## Waiting (R420) -/

/-- The channel waits for a descriptor, for ring space or for credits. -/
def Dch.waits (c : Dch) : Bool := c.st != 2 && c.st != 3 || c.wcred

/-- A channel waits or ceases to: records owed on it have seen it wait, and the host's flow starts afresh (R409). -/
def State.markHost (s : State) (ch : Nat) : State :=
  if s.lineCh ch then
    (s.setSsc (fun x => { x with flowFrom := s.now })).setJob (fun j => { j with owe := j.owe.map (fun (o : Nat × Owe) =>
      if s.osEn (o.1 % 4) && s.osCh (o.1 % 4) == ch then (o.1, { o.2 with host := true }) else o) })
  else s

/-- Enter a waiting state (R463). -/
def State.waitIn (s : State) (ch st : Nat) : State :=
  let c := s.chan ch
  ((s.setChan ch { c with st := st, lastRec := if st = 4 then none else c.lastRec }).evt (P.DMAch ch) 10).markHost ch

/-! ## Fetching (R430 to R432, R434) -/

/-- Send a read request and remember it. -/
def State.readReq (s : State) (ch addr len tries : Nat) : State :=
  (s.setChan ch { s.chan ch with rd := some (addr, len, s.now), tries := tries }).send (.memRead ch addr len)

/-- Begin a descriptor fetch: values with boundary D apply (R430, R457). -/
def State.fetchDesc (s : State) (ch : Nat) : State :=
  let s := s.applyPage .d (P.DMAch ch)
  let c := s.chan ch
  (s.setChan ch { c with st := 2, desc := none, buf := [], asked := 0 }).readReq ch (s.nextAddr ch) 32 0

/-- Fetch from DMAch_NEXT, or enter IDLE where it is 0 (R432, R456). -/
def State.proceed (s : State) (ch : Nat) : State :=
  if s.nextAddr ch = 0 then s.setChan ch { s.chan ch with st := 1, desc := none } else s.fetchDesc ch

/-! ## Completion queues (R446 to R451) -/

def State.cq (s : State) (q : Nat) : Nat × Bool × Nat := tabGet (0, true, 0) s.dma.cqs q
def State.cqSize (s : State) (q : Nat) : Nat :=
  2 ^ min 16 (max 2 (s.fld (R.DMAG_CQq_CFG q) F.DMAG_CQq_CFG.LOG2N))
def State.cqFull (s : State) (q : Nat) : Bool :=
  ((s.cq q).1 + 1) % s.cqSize q == s.fld (R.DMAG_CQq_RI q) F.DMAG_CQq_RI.RI

/-- Show a queue's write index and phase. -/
def State.setCq (s : State) (q : Nat) (v : Nat × Bool × Nat) : State :=
  ({ s with dma := { s.dma with cqs := tabIns s.dma.cqs q v } }).setReg (R.DMAG_CQq_WI q)
    (BitVec.ofNat 32 (v.2.1.toNat * 2 ^ 31 + v.1))

/-- Enabling a queue: index 0, phase 1 (R448). -/
def State.cqEnable (s : State) (q : Nat) : State :=
  ({ s with dma := { s.dma with cqOdd := putBits s.dma.cqOdd q q 0 } }).setCq q (0, true, 0)

/-- A queue's BASE or LOG2N changed while it was enabled (the paragraph after R451). -/
def State.cqMoved (s old : State) (q : Nat) : State :=
  let geo (s : State) : Nat × Nat :=
    (s.reg64 (R.DMAG_CQq_BASE q), s.fld (R.DMAG_CQq_CFG q) F.DMAG_CQq_CFG.LOG2N)
  s.when (old.flag (R.DMAG_CQq_CFG q) F.DMAG_CQq_CFG.EN && geo s != geo old) (fun s =>
    { s with dma := { s.dma with cqOdd := putBits s.dma.cqOdd q q 1 } })

/-- Write one record to a queue that has space (R446, R448, R451); at a free address where the queue was reconfigured
while enabled. -/
def State.cqWrite (s : State) (ch q : Nat) (body : List Byte) : State :=
  let (wi, ph, n) := s.cq q
  let size := s.cqSize q
  let base := s.reg64 (R.DMAG_CQq_BASE q) / (size * 32) * (size * 32)
  let odd := bit s.dma.cqOdd q
  let at_ := if odd then s.free % 2 ^ 64 else base + wi * 32
  let s := (s.when odd State.useFree).send (.memWrite ch at_ (body ++ leBytes 4 (ph.toNat * 2 ^ 31 + n)))
  let wi' := (wi + 1) % size
  let s := s.setCq q (wi', if wi' = 0 then !ph else ph, (n + 1) % 2 ^ 31)
  s.when (s.flag (R.DMAG_CQq_CFG q) F.DMAG_CQq_CFG.IEN) (fun s => s.sendVector q)

/-- Body of a completion record without its sequence word (R446). -/
def State.cqBody (s : State) (ch status : Nat) (d : Desc) : List Byte :=
  let c := s.chan ch
  leBytes 8 d.addr ++ leBytes 8 (if d.typ = 0 then c.last else 0) ++ leBytes 4 (min c.moved 0xFFFFFFFF) ++
  leBytes 4 (s.attn + status * 256 + ch * 65536 + d.tag * 2 ^ 24) ++
  leBytes 4 (if (s.ringOf ch d).isSome && !d.zero then s.rwp ch else 0)

/-- A completion record is due: written, discarded with the queue off, or waiting for space (R446, R449, R450). -/
def State.cqDue (s : State) (ch status : Nat) (d : Desc) : State :=
  let q := d.cq
  if !s.flag (R.DMAG_CQq_CFG q) F.DMAG_CQq_CFG.EN then s.evt P.DMAG 8
  else if s.cqFull q then
    let s := s.setChan ch { s.chan ch with cqWait := some (q, s.cqBody ch status d) }
    ((s.bump (R.DMAG_CQq_FULLCNT q) 1).evt P.DMAG 9)
  else s.cqWrite ch q (s.cqBody ch status d)

/-! ## Halts (R452, R453) -/

/-- The channel feeds a stream of a started job. -/
def State.jobChannel (s : State) (ch : Nat) : Bool := s.jobRuns && s.lineCh ch

def haltReg (ch : Nat) : Nat := if ch < 32 then R.DMAG_HALT0 else R.DMAG_HALT1

/-- The channel stops in HALTED with a status, NEXT holding the failing descriptor's address. -/
def State.haltAt (s : State) (ch status addr : Nat) : State :=
  let s := (s.setNext ch addr).setChan ch { s.chan ch with st := 7, desc := none, rd := none, buf := [], sent := 0, wcred := false }
  let s := s.setFld (R.DMAch_STAT ch) F.DMAch_STAT.HSTAT status
  s.setFld (haltReg ch) (ch % 32, ch % 32) 1

def State.halt (s : State) (ch status addr : Nat) (d : Option Desc) : State :=
  let s := match d with
    | some d => if d.cqe then s.cqDue ch status d else s
    | none => s
  let s := ((s.haltAt ch status addr).markHost ch).evt (P.DMAch ch) 9
  s.fault (if s.jobChannel ch then 0x1501 else 0x1502) ch

/-! ## Running a descriptor -/

/-- A record may start: in ACTIVE with a RECORD descriptor, the ring holding it (R436). -/
def State.recReady (s : State) (ch : Nat) : Bool :=
  match (s.chan ch).q with
  | r :: _ => (s.chan ch).sent != 0 || s.ringFits ch r.bytes.length
  | [] => true

/-- ACTIVE and WAITRING follow the ring space for the record in front (R436). -/
def State.ringState (s : State) (ch : Nat) : State :=
  let c := s.chan ch
  match c.desc with
  | some d =>
    if d.typ = 0 ∧ !d.zero then
      if c.st = 3 ∧ c.recs < d.len ∧ !s.recReady ch then s.waitIn ch 5
      else if c.st = 5 ∧ s.recReady ch then (s.markHost ch).setChan ch { s.chan ch with st := 3 }
      else s
    else s
  | none => s

/-- The next stored record of a channel, and the store without it. -/
def takeRec (ch : Nat) : List Record → Option (Record × List Record)
  | [] => none
  | r :: l => if r.ch = ch then some (r, l) else (takeRec ch l).map (fun (p : Record × List Record) => (p.1, r :: p.2))

/-- EST_FILL and EST_PEAK in blocks, rounded up (R423). -/
def blocksOf (n : Nat) : Nat := (n + 65535) / 65536
def State.showEst (s : State) : State :=
  let b := blocksOf s.est.fill
  let s := s.setReg R.EST_FILL (BitVec.ofNat 32 b)
  s.when (decide ((s.reg R.EST_PEAK).toNat < b)) (fun s => s.setReg R.EST_PEAK (BitVec.ofNat 32 b))

/-- A record leaves the store for the engine. -/
def State.unstore (s : State) (r : Record) (l : List Record) : State :=
  let n := r.bytes.length
  let lwm := s.fld R.EST_LWM F.EST_LWM.BLOCKS
  let was := blocksOf s.est.fill
  let s := { s with est := { s.est with
    recs := l, fill := s.est.fill - n, gapFill := if r.gap then s.est.gapFill - n else s.est.gapFill } }
  s.showEst.evtIf (decide (lwm < was) && decide (blocksOf s.est.fill ≤ lwm)) P.EST 10

/-- An idle record channel takes its next record: a stored one, else one of the Photometer's (R352, R403, R427). -/
def State.feed (s : State) (ch : Nat) : State :=
  let c := s.chan ch
  match c.desc with
  | some d =>
    if d.typ = 0 ∧ !d.zero ∧ c.q = [] ∧ c.recs < d.len ∧ (c.st = 3 ∨ c.st = 5) then
      match takeRec ch s.est.recs with
      | some (r, l) => ((s.unstore r l).setChan ch { c with q := [r] }).ringState ch
      | none =>
        if s.phoCh ch then
          match s.pho.queue with
          | b :: l =>
            let s := { s with pho := { s.pho with queue := l } }
            let s := s.setReg R.PHO_RECQ (BitVec.ofNat 32 l.length)
            (s.setChan ch { c with q := [{ stream := 4, ch := ch, line := ofLe (b.take 8), gap := false, bytes := b, viaStore := false }] }).ringState ch
          | [] => s
        else s
    else s.ringState ch
  | none => s

/-- Maximum payload, maximum read request in bytes (R439, R465). -/
def State.mps (s : State) : Nat := 128 * 2 ^ min 2 (s.fld R.HLK_LINK F.HLK_LINK.MPS)
def State.devCtl (s : State) : Nat := (tabGet (0x2010 : Word) s.hlk.cfg 0x78).toNat
def State.mrrs (s : State) : Nat := 128 * 2 ^ min 5 (bits s.devCtl 14 12)

/-- Ask for the next source bytes of a LOAD or COPY: within the read request size and 4 KB (R439, R441). -/
def State.askMore (s : State) (ch : Nat) : State :=
  let c := s.chan ch
  match c.desc with
  | some d =>
    if (d.typ = 1 ∨ d.typ = 3) ∧ !d.zero ∧ c.rd = none ∧ c.asked < d.len ∧ c.buf.length < 4096 then
      let a := if d.sfix then d.src else d.src + c.asked
      let n := if d.sfix then 4 else min (min s.mrrs (4096 - a % 4096)) (d.len - c.asked)
      (s.setChan ch { c with asked := c.asked + n }).readReq ch a n 0
    else s
  | none => s

/-- A fetched descriptor runs, or the channel waits or halts (R430 to R434, R438). -/
def State.runDesc (s : State) (ch : Nat) (d : Desc) : State :=
  if !d.valid then
    let s := s.waitIn ch 4
    s.setChan ch { s.chan ch with rd := none, pollAt := s.now }
  else
    let s := s.setReg64 (R.DMAch_CUR ch) d.addr
    let s := s.setChan ch { s.chan ch with rd := none, moved := 0, recs := 0, last := 0, sent := 0, buf := [], bufAt := 0, asked := 0 }
    let idle := s.fld (R.DMAch_STAT ch) F.DMAch_STAT.IDLECNT
    if d.zero ∧ 255 ≤ idle then s.halt ch 3 d.addr (some d)
    else
      let s := (s.setFld (R.DMAch_STAT ch) F.DMAch_STAT.IDLECNT (if d.zero then idle + 1 else 0)).setNext ch d.next
      let ring := if d.zero then none else s.ringOf ch d
      let s := if ring.isSome ∧ ring ≠ (s.chan ch).ring then
          ((s.setChan ch { s.chan ch with rrpBad := false }).setReg (R.DMAch_RWP ch) 0).setReg (R.DMAch_RRP ch) 0
        else s
      let c := s.chan ch
      let rec_ := if d.typ ≠ 0 then none else if d.zero then c.lastRec else some ring
      let s := s.setChan ch { c with st := 3, desc := some d, ring := if ring.isSome then ring else c.ring, lastRec := rec_ }
      (s.feed ch).askMore ch

def execDescriptorFetch (ch : Nat) (b : List Byte) (t : Nat) (s : State) : Host.Outcome State Fault Refusal :=
  let s := s.upto t
  match (s.chan ch).rd with
  | some (a, _, _) =>
    if ch < 64 ∧ (s.chan ch).st = 2 ∧ b.length = 32 then .next (s.runDesc ch (descOf a b)) else .next s
  | none => .next s

/-! ## What the formatters see of a channel (R405, R409) -/

/-- The channel has a descriptor: it runs a RECORD descriptor, or fetches on its way from one to the next. -/
def State.hasDesc (s : State) (ch : Nat) : Bool :=
  let c := s.chan ch
  match c.desc with
  | some d => c.st == 3 && d.typ == 0 && !d.zero
  | none => c.st == 2 && c.lastRec.isSome

/-- The ring of its latest RECORD descriptor has room for n bytes. -/
def State.ringRoom (s : State) (ch n : Nat) : Bool :=
  match (s.chan ch).lastRec with
  | some (some (_, size)) => decide (n ≤ s.ringFree ch size)
  | some none => true
  | none => false

/-- Bytes of the records that wait in the engine for a channel, less what has left. -/
def State.queued (s : State) (ch : Nat) : Nat :=
  ((s.chan ch).q.map (fun (r : Record) => r.bytes.length)).sum

/-- Every line DMA channel of the job has a descriptor and ring space for one record. -/
def State.hostFlows (s : State) : Bool :=
  s.streams.all (fun k => s.hasDesc (s.osCh k) && s.ringRoom (s.osCh k) (s.recSize k))

/-! ## Bytes toward the host (R439 to R441) -/

/-- Source index of byte i under byte or half-word swapping (R440). -/
def swapIdx (sw i : Nat) : Nat :=
  match sw with
  | 1 => i / 4 * 4 + (3 - i % 4)
  | 2 => i / 4 * 4 + (i % 4 + 2) % 4
  | _ => i

/-- Byte i of a transfer of len bytes after swapping; the last len mod 4 bytes are unpredictable when swapping. -/
def State.swapped (s : State) (sw len : Nat) (get : Nat → Byte) (i : Nat) : Byte :=
  if sw ≠ 0 ∧ len / 4 * 4 ≤ i then BitVec.ofNat 8 (s.freeAt (i % 4)) else get (swapIdx sw i)

/-- A byte of a table as a READ returns it (R458). -/
def State.tabByteAt (s : State) (a : Nat) : Byte :=
  BitVec.ofNat 8 (s.tabWord (a / 4 * 4) / 2 ^ (8 * (a % 4)))

/-- A READ has read every entry that n bytes at a touch (R213). -/
def State.readRange (s : State) (a n : Nat) : State :=
  let es := (List.range n).filterMap (fun i => entryOf ((a + i) % 2 ^ 26))
  foldS (fun s e => s.readEntry [] e) s (es.foldl (fun l e => if l.contains e then l else l ++ [e]) [])

/-- Source byte i of the transfer in hand, before swapping. -/
def State.srcByte (s : State) (c : Dch) (d : Desc) (i : Nat) : Byte :=
  match d.typ with
  | 0 => match c.q with
    | r :: _ => (r.bytes[i]?).getD 0
    | [] => 0
  | 2 => s.tabByteAt ((d.src + i) % 2 ^ 26)
  | _ => (c.buf[i - c.bufAt]?).getD 0

/-- Length of the first write of n bytes at address a (R439). -/
def chunk (mps a n : Nat) : Nat := if a % 64 ≠ 0 then min n (64 - a % 64) else min n (mps - a % mps)

/-- The next write of a channel: address, offset in the transfer, length (R435, R439, R441). -/
def State.nextWrite (s : State) (ch : Nat) : Option (Nat × Nat × Nat) :=
  let c := s.chan ch
  match c.desc with
  | none => none
  | some d =>
    if c.st ≠ 3 ∨ d.zero then none
    else if d.typ = 0 then
      match c.q with
      | [] => none
      | r :: _ =>
        if d.len ≤ c.recs ∨ !s.recReady ch then none
        else
          let left := r.bytes.length - c.sent
          match s.ringOf ch d with
          | some (base, size) =>
            let o := (s.rwp ch + c.sent) % size
            some (base + o, c.sent, chunk s.mps (base + o) (min left (size - o)))
          | none => some (d.dst + c.moved + c.sent, c.sent, chunk s.mps (d.dst + c.moved + c.sent) left)
    else if d.typ = 1 then none
    else
      let left := d.len - c.moved
      if left = 0 then none
      else
        let a := if d.dfix then d.dst else d.dst + c.moved
        let n := if d.dfix then min 4 left else chunk s.mps a left
        let have_ := if d.typ = 2 then d.len else c.bufAt + c.buf.length
        if min d.len ((c.moved + n + 3) / 4 * 4) ≤ have_ then some (a, c.moved, n) else none

/-! ## Delivery (R419, R420, R516, R517) -/

/-- Largest record key of a line. -/
def oweKey (line k : Nat) : Nat := line * 4 + k

def State.oweOf (s : State) (line : Nat) : List (Nat × Owe) :=
  s.ssc.job.owe.filter (fun (o : Nat × Owe) => o.1 / 4 == line)

/-- A line in delivery has no record left: its time is compared with SSC_DWORST, and SSC_LASTDLV follows. -/
def State.lineGone (s : State) (line : Nat) (lost : Bool) : State :=
  if !(s.oweOf line).isEmpty then s
  else
    match tabFind s.ssc.job.dlv line with
    | none => s
    | some v =>
      let us := (v.worst + 999999) / 1000000
      let s := s.setJob (fun j => { j with dlv := tabErase j.dlv line })
      let s := s.when (!lost && decide (s.fld R.SSC_DWORST F.SSC_DWORST.US < us)) (fun s =>
        (s.setFld R.SSC_DWORST F.SSC_DWORST.US (min us 0xFFFFFF)).setFlag R.SSC_DWORST F.SSC_DWORST.CAUSE (!v.host))
      s.when (!lost) (fun s => s.setReg64 R.SSC_LASTDLV line)

/-- A line record's last write has left the engine (R419). -/
def State.recLeft (s : State) (r : Record) : State :=
  if r.gap ∨ 4 ≤ r.stream then s
  else
    let k := oweKey r.line r.stream
    match tabFind s.ssc.job.owe k with
    | none => s
    | some o =>
      let v := tabGet {} s.ssc.job.dlv r.line
      let took := match o.start with
        | some t => s.now - t
        | none => 0
      let v := { v with worst := max v.worst took, host := v.host || o.host || r.viaStore }
      (s.setJob (fun j => { j with owe := tabErase j.owe k, dlv := tabIns j.dlv r.line v })).lineGone r.line false

/-- A line record is discarded or lost in transfer: nothing is measured (R517). -/
def State.recLost (s : State) (r : Record) : State :=
  if r.gap ∨ 4 ≤ r.stream then s
  else (s.setJob (fun j => { j with owe := tabErase j.owe (oweKey r.line r.stream) })).lineGone r.line true

/-! ## The rate shares (R443 to R445) -/

/-- Link write capacity C in 1/128 MB/s (R402, R464). -/
def State.capacity (s : State) : Nat :=
  let base := match s.fld R.HLK_LINK F.HLK_LINK.SPEED with
    | 1 => 1650 | 2 => 3300 | 3 => 6500 | 4 => 13000 | 5 => 26000 | _ => 0
  let m := match s.fld R.HLK_LINK F.HLK_LINK.MPS with
    | 0 => 14 | 1 => 15 | _ => 16
  if bits s.straps 1 0 = 2 ∨ !s.flag R.HLK_LINK F.HLK_LINK.UP then 0
  else base * s.fld R.HLK_LINK F.HLK_LINK.WIDTH * m

/-- Share Q. -/
def State.shareQ (s : State) (ch : Nat) : Nat := min 256 (s.fld (R.DMAch_RATE ch) F.DMAch_RATE.Q)

/-- Bucket cap in 1/32,768 byte. -/
def State.bucketCap (s : State) (ch : Nat) : Nat := max 1 (s.fld (R.DMAch_RATE ch) F.DMAch_RATE.BURST) * 4096 * 32768

/-- A channel's record in front came through the store (R444). -/
def Dch.stored (c : Dch) : Bool := match c.q with
  | r :: _ => r.viaStore
  | [] => false

/-- The head record is complete (R419, R436). -/
def State.recDone (s : State) (ch : Nat) : State :=
  let c := s.chan ch
  match c.q, c.desc with
  | r :: rest, some d =>
    let n := r.bytes.length
    let s := match s.ringOf ch d with
      | some (_, size) => s.setReg (R.DMAch_RWP ch) (BitVec.ofNat 32 ((s.rwp ch + n) % size))
      | none => s
    let s := s.setChan ch { c with q := rest, sent := 0, moved := c.moved + n, recs := c.recs + 1, last := r.line }
    ((s.recLeft r).feed ch)
  | _, _ => s

/-- A destination address of a COPY that lies in its source range too (R459). -/
def copyHits (d : Desc) (a : Nat) : Bool := (a + 2 ^ 64 - d.src % 2 ^ 64) % 2 ^ 64 < if d.sfix then min 4 d.len else d.len

/-- One write leaves the engine (R442); bytes in the overlap of a COPY's ranges are free (R459). -/
def State.leave (s : State) (ch : Nat) (w : Nat × Nat × Nat) : State :=
  let c := s.chan ch
  match c.desc with
  | none => s
  | some d =>
    let len := if d.typ = 0 then (match c.q with | r :: _ => r.bytes.length | [] => 0) else d.len
    let bytes := (List.range w.2.2).map (fun i =>
      if d.typ = 3 ∧ copyHits d (w.1 + i) then BitVec.ofNat 8 (s.freeAt (4 + i))
      else s.swapped d.swap len (s.srcByte c d) (w.2.1 + i))
    let s := (s.send (.memWrite ch w.1 bytes)).count64 (R.DMAch_BYTES ch) w.2.2
    let hit (i : Nat) : Bool := d.typ == 3 && copyHits d (w.1 + i)
    let s := if d.swap ≠ 0 ∧ len % 4 ≠ 0 ∨ (List.range w.2.2).any hit then s.skipFree (4 + w.2.2) else s
    let s := if d.typ = 2 then s.readRange (d.src + w.2.1) w.2.2 else s
    if d.typ = 0 then
      let s := s.setChan ch { c with sent := c.sent + w.2.2 }
      if c.sent + w.2.2 = len then s.recDone ch else s
    else
      let moved := c.moved + w.2.2
      let drop := if d.typ = 3 then moved / 4 * 4 - c.bufAt else 0
      (s.setChan ch { c with moved := moved, buf := c.buf.drop drop, bufAt := c.bufAt + drop }).askMore ch

/-- May this channel's next write leave in this phase? Phase 0: under its share; phase 1: in capacity that no share
claims, for stored records and for channels with Q = 0. -/
def State.maySend (s : State) (phase ch : Nat) : Option (Nat × Nat × Nat) :=
  match s.nextWrite ch with
  | none => none
  | some w =>
    let c := s.chan ch
    let share := decide (w.2.2 * 32768 ≤ c.bucket)
    let ok := if phase = 0 then share else (c.stored || s.shareQ ch == 0)
    if ok then some w else none

/-- Take credit for one write. -/
def State.credit (s : State) : Bool := s.hlk.credits != some 0
def State.useCredit (s : State) : State :=
  { s with hlk := { s.hlk with credits := s.hlk.credits.map (· - 1) } }

/-- A write leaves, with its tokens, credit and link capacity. -/
def State.serve (s : State) (phase ch : Nat) (w : Nat × Nat × Nat) : State :=
  let c := s.chan ch
  let s := if phase = 0 then s.setChan ch { c with bucket := c.bucket - w.2.2 * 32768 } else s
  let s := { s with dma := { s.dma with link := s.dma.link - w.2.2 * 128, turn := (ch + 1) % 64 } }
  s.useCredit.leave ch w

/-- Channels in round-robin order. -/
def State.order (s : State) : List Nat := (List.range 64).map (fun i => (s.dma.turn + i) % 64)

/-- Serve writes in round-robin order until capacity, credits or writes run out; n bounds their number. -/
def State.pump (s : State) (phase : Nat) : Nat → State
  | 0 => s
  | n + 1 =>
    if s.dma.link ≤ 0 ∨ !s.credit then s
    else
      match s.order.find? (fun ch => (s.maySend phase ch).isSome) with
      | none => s
      | some ch =>
        match s.maySend phase ch with
        | some w => (s.serve phase ch w).pump phase n
        | none => s

/-- Channels that lie ready without credits wait for them (R462 and DMAch_STAT.WCRED). -/
def State.creditWaits (s : State) : State :=
  if s.credit then s
  else forN 64 (fun s ch =>
    if (s.nextWrite ch).isSome ∧ !(s.chan ch).wcred then (s.setChan ch { s.chan ch with wcred := true }).markHost ch
    else s) s

/-- The buckets gain Q × C / 256 bytes and the link its capacity of one µs (R443). -/
def State.refill (s : State) : State :=
  let cap := s.capacity
  let s := forN 64 (fun s ch =>
    let c := s.chan ch
    s.setChan ch { c with bucket := min (c.bucket + s.shareQ ch * cap) (s.bucketCap ch) }) s
  { s with dma := { s.dma with link := min (s.dma.link + (cap : Int)) (cap : Int), tokAt := s.now / 1000000 * 1000000 } }

/-- Channels short of capacity: tokens and data, but no link (R445). -/
def State.shortCounts (s : State) : State :=
  if 0 < s.dma.link then s
  else forN 64 (fun s ch => if (s.maySend 0 ch).isSome then s.bump (R.DMAch_SHORT ch) 1 else s) s

/-- One µs of writes. -/
def State.sendWrites (s : State) : State :=
  (((s.pump 0 4096).pump 1 4096).shortCounts).creditWaits

/-- A soft error struck the stored record that a channel delivers (R406). -/
def State.storeHit (s : State) (h : StoreHit) : State :=
  let c := s.chan h.ch
  match c.q with
  | r :: rest =>
    if !r.viaStore then s
    else if h.double then
      let bytes := r.bytes.modify h.pos (fun b => b ^^^ BitVec.ofNat 8 h.mask)
      let r' := { r with bytes := bytes }
      let s := s.setChan h.ch { c with q := r' :: rest }
      ((s.bump R.EST_ECCUCNT 1).evt P.EST 13).fault 0x1301 0
    else s.bump R.EST_ECCCNT 1
  | [] => s

/-- TOKEN_REFILL: a µs passes, and writes leave under the shares. -/
def execTokenRefill (u : List StoreHit) (t : Nat) (s : State) : Host.Outcome State Fault Refusal :=
  let s := s.upto t
  if s.dma.tokAt + 1000000 ≤ s.now then
    let s := forN 64 (fun s ch => s.feed ch) s
    let s := (foldS State.storeHit s u).refill.sendWrites
    .next (if s.hostFlows then s else s.setSsc (fun x => { x with flowFrom := s.now }))
  else .next s

/-- POSTED_WRITE_CREDITS: credits return, and the waits for them end. -/
def execPostedWriteCredits (n : Nat) (t : Nat) (s : State) : Host.Outcome State Fault Refusal :=
  let s := s.upto t
  let s := { s with hlk := { s.hlk with credits := s.hlk.credits.map (· + n) } }
  let s := if s.credit then forN 64 (fun s ch =>
      if (s.chan ch).wcred then (s.setChan ch { s.chan ch with wcred := false }).markHost ch else s) s
    else s
  .next s.sendWrites

/-! ## The end of a descriptor (R433, R446, R447) -/

/-- Everything the descriptor moves has left the engine or been loaded. -/
def Dch.complete (c : Dch) : Bool :=
  match c.desc with
  | some d => d.zero || (if d.typ = 0 then c.recs == d.len else c.moved == d.len)
  | none => false

/-- DESCRIPTOR_DONE: event, completion record, next descriptor. -/
def State.descDone (s : State) (ch : Nat) : State :=
  match (s.chan ch).desc with
  | none => s
  | some d =>
    let s := if d.evt then s.emit (88 + ch) else s
    let s := s.evtIf (d.cqe || d.evt) (P.DMAch ch) 8
    let s := s.setReg (R.DMAch_NDESC ch) (s.reg (R.DMAch_NDESC ch) + 1)
    let s := if d.cqe then s.cqDue ch 0 d else s
    if (s.chan ch).cqWait.isSome then s.waitIn ch 6 else s.proceed ch

def execDescriptorDone (ch t : Nat) (s : State) : Host.Outcome State Fault Refusal :=
  let s := s.upto t
  if ch < 64 ∧ (s.chan ch).st = 3 ∧ (s.chan ch).complete then .next (s.descDone ch) else .next s

/-- A completion record carries the attention byte of the instant at which it is written (R67): byte 20 of its body. -/
def attnByte (b : List Byte) (v : Nat) : List Byte := b.take 20 ++ BitVec.ofNat 8 v :: b.drop 21

/-- CQ_RI_WRITE (R67, R448, R449): waiting completion records are written while there is space. -/
def State.cqRelease (s : State) (q ch : Nat) : State :=
  match (s.chan ch).cqWait with
  | some (q', b) =>
    if q' = q ∧ !s.cqFull q then
      let s := (s.cqWrite ch q (attnByte b s.attn)).setChan ch { s.chan ch with cqWait := none }
      if (s.chan ch).st = 6 then (s.markHost ch).proceed ch else s
    else s
  | none => s

def State.cqRiWrite (s : State) (q : Nat) (w : Word) : State :=
  forN 64 (fun s ch => s.cqRelease q ch) (s.setReg (R.DMAG_CQq_RI q) (w &&& 0xFFFF))

def execCqRiWrite (q : Nat) (w : Word) (s : State) : Host.Outcome State Fault Refusal :=
  .next (if q < 8 then s.hostWrite P.DMAG (fun s => s.cqRiWrite q w) else s)

/-! ## Reads from the host (R452, R458) -/

/-- Write the whole 8-byte blocks that the buffer now covers; a block touched in part takes a free value (R212). -/
def State.loadBlocks (s : State) (ch : Nat) : Nat → State
  | 0 => s
  | n + 1 =>
    let c := s.chan ch
    match c.desc with
    | none => s
    | some d =>
      let a := d.dst + c.moved
      let step := min (8 - a % 8) (d.len - c.moved)
      if d.typ ≠ 1 ∨ d.len ≤ c.moved ∨ c.bufAt + c.buf.length < min d.len ((c.moved + step + 3) / 4 * 4) then s
      else
        let get (i : Nat) : Byte := s.swapped d.swap d.len (s.srcByte c d) i
        let v := ofLe ((List.range 8).map (fun i => get (c.moved + i)))
        let block := a / 8 * 8 % 2 ^ 26
        let s := if step = 8 then (s.tabWrite 0 block true v).when (d.swap != 0 && d.len % 4 != 0) (fun s => s.skipFree 4)
          else (s.tabWrite 0 block true (s.free % 2 ^ 64)).useFree
        let moved := c.moved + step
        let drop := moved / 4 * 4 - c.bufAt
        ((s.count64 (R.DMAch_BYTES ch) step).setChan ch
          { s.chan ch with moved := moved, buf := c.buf.drop drop, bufAt := c.bufAt + drop }).loadBlocks ch n

/-- Source bytes of a LOAD or COPY have arrived. -/
def State.dataIn (s : State) (ch : Nat) (b : List Byte) : State :=
  let c := s.chan ch
  let s := s.setChan ch { c with rd := none, buf := c.buf ++ b }
  (s.loadBlocks ch (b.length + 8)).askMore ch

/-- The failing try was not the last: the read is reissued (R452). -/
def State.reissue (s : State) (ch status : Nat) : State :=
  let c := s.chan ch
  match c.rd with
  | none => s
  | some (a, n, _) =>
    if c.tries < s.fld (R.DMAch_CFG ch) F.DMAch_CFG.RETRY then
      (s.bump (R.DMAch_RETRYCNT ch) 1).readReq ch a n (c.tries + 1)
    else match c.desc with
      | some d => s.halt ch status d.addr (some d)
      | none => s.halt ch status a none

/-- READ_COMPLETION: data, or an error completion or poisoned data. -/
def execReadCompletion (ch : Nat) (ok : Bool) (b : List Byte) (t : Nat) (s : State) : Host.Outcome State Fault Refusal :=
  let s := s.upto t
  match (s.chan ch).rd with
  | some (_, n, _) =>
    if 64 ≤ ch then .next s
    else if !ok then .next (s.reissue ch 2)
    else if (s.chan ch).st = 3 ∧ b.length = n then .next (s.dataIn ch b)
    else .next s
  | none => .next s

/-- Completion timeout in ps (R466). -/
def State.cplTimeout (s : State) : Nat :=
  match bits (tabGet (0 : Word) s.hlk.cfg 0x98).toNat 3 0 with
  | 1 => 90000000
  | 2 => 9000000000
  | 6 => 200000000000
  | _ => 40000000000

/-- READ_TIMEOUT (R452, R470). -/
def execReadTimeout (ch t : Nat) (s : State) : Host.Outcome State Fault Refusal :=
  let s := s.upto t
  match (s.chan ch).rd with
  | some (_, _, t0) =>
    if ch < 64 ∧ t0 + s.cplTimeout ≤ s.now then
      .next (((s.bumpFld R.HLK_PCNT2 F.HLK_PCNT2.CTO 1).evt P.HLK 10).reissue ch 1)
    else .next s
  | none => .next s

/-! ## Host writes to a channel (R431, R432, R437, R454 to R456) -/

/-- DMAch_CTL.KICK. -/
def State.dmaKick (s : State) (ch : Nat) : State :=
  let c := s.chan ch
  if s.chr.safe then s
  else if c.st = 7 then
    let s := (s.setFld (R.DMAch_STAT ch) F.DMAch_STAT.HSTAT 0).setFld (R.DMAch_STAT ch) F.DMAch_STAT.IDLECNT 0
    ((s.setFld (haltReg ch) (ch % 32, ch % 32) 0).markHost ch).proceed ch
  else if c.st = 4 then (s.markHost ch).fetchDesc ch
  else s

def execDmaKick (ch : Nat) (s : State) : Host.Outcome State Fault Refusal := .next (if ch < 64 then s.hostWrite (P.DMAch ch) (fun s => s.dmaKick ch) else s)

/-- A write of DMAch_NEXT (R432). -/
def State.dmaNext (s : State) (ch a : Nat) : State :=
  let c := s.chan ch
  if c.st = 1 ∨ c.st = 4 ∨ c.st = 5 then
    ((s.markHost ch).setChan ch { c with desc := none, sent := 0, lastRec := none } |>.setNext ch a).proceed ch
  else if c.st = 7 ∨ c.st = 0 then s.setNext ch a
  else s.evt (P.DMAch ch) 11

def execDmaNextWrite (ch a : Nat) (s : State) : Host.Outcome State Fault Refusal :=
  .next (if ch < 64 then s.hostWrite (P.DMAch ch) (fun s => s.dmaNext ch (a % 2 ^ 64)) else s)

/-- DMA_POLL (R431). -/
def execDmaPoll (ch t : Nat) (s : State) : Host.Outcome State Fault Refusal :=
  let s := s.upto t
  let p := s.fld (R.DMAch_CFG ch) F.DMAch_CFG.POLL
  if ch < 64 ∧ (s.chan ch).st = 4 ∧ p ≠ 0 ∧ (s.chan ch).pollAt + p * 1000000 ≤ s.now then
    .next ((s.markHost ch).fetchDesc ch)
  else .next s

/-- An offset that R437 allows in RRP: a multiple of 64 that lies, in ring order, from RRP up to RWP. -/
def State.rrpOk (s : State) (ch w : Nat) : Bool :=
  match (s.chan ch).ring with
  | some (_, size) => decide (w % 64 = 0 ∧ w < size ∧
      ((w : Int) - s.rrp ch) % size ≤ ((s.rwp ch : Int) - s.rrp ch) % size)
  | none => true

/-- A write of DMAch_RRP (R437); a waiting record may start. -/
def State.rrpWrite (s : State) (ch : Nat) (w : Word) : State :=
  let bad := !s.rrpOk ch w.toNat
  ((s.when bad (fun s => s.setChan ch { s.chan ch with rrpBad := true })).setReg (R.DMAch_RRP ch) (w &&& 0x3FFFFFC0#32)).ringState ch

def execRrpWrite (ch : Nat) (w : Word) (s : State) : Host.Outcome State Fault Refusal :=
  .next (if ch < 64 then s.hostWrite (P.DMAch ch) (fun s => s.rrpWrite ch w) else s)

/-- Set a register to a free value. -/
def State.freeReg (s : State) (a : Nat) : State := (s.setReg a (BitVec.ofNat 32 s.free)).useFree

/-- DMAch_PCTL.EN = 0 (R455): everything on the channel is dropped. -/
def State.dmaDisable (s : State) (ch : Nat) : State :=
  let c := s.chan ch
  let next := match c.desc with
    | some d => d.addr
    | none => s.nextAddr ch
  let s := foldS (fun (s : State) r => s.recLost r) s c.q
  let s := (s.setNext ch next).setChan ch { bucket := c.bucket, st := 0 }
  let s := (s.setHdr (P.DMAch ch) { s.hdr (P.DMAch ch) with en := false }).markHost ch
  let s := (s.setFld (R.DMAch_STAT ch) F.DMAch_STAT.HSTAT 0).setFld (haltReg ch) (ch % 32, ch % 32) 0
  foldS (fun (s : State) a => s.freeReg a) s
    [R.DMAch_BYTES ch, R.DMAch_BYTES ch + 4, R.DMAch_NDESC ch, R.DMAch_RWP ch, R.DMAch_RRP ch, R.DMAch_CUR ch, R.DMAch_CUR ch + 4]

def execDmaDisable (ch t : Nat) (s : State) : Host.Outcome State Fault Refusal :=
  .next (if ch < 64 then (s.upto t).hostWrite (P.DMAch ch) (fun s => s.dmaDisable ch) else s.upto t)

/-- DMAch_PCTL.EN = 1 (R456). -/
def State.dmaEnable (s : State) (ch : Nat) : State :=
  if (s.chan ch).st = 0 then
    let s := s.setHdr (P.DMAch ch) { s.hdr (P.DMAch ch) with en := true }
    let s := foldS (fun (s : State) a => s.setReg a 0) s
      [R.DMAch_BYTES ch, R.DMAch_BYTES ch + 4, R.DMAch_NDESC ch, R.DMAch_RETRYCNT ch, R.DMAch_SHORT ch]
    let s := s.setFld (R.DMAch_STAT ch) F.DMAch_STAT.IDLECNT 0
    (s.setChan ch { s.chan ch with st := 1, ring := none }).proceed ch
  else s

def execDmaEnable (ch t : Nat) (s : State) : Host.Outcome State Fault Refusal :=
  .next (if ch < 64 then (s.upto t).hostWrite (P.DMAch ch) (fun s => s.dmaEnable ch) else s.upto t)

/-! ## Live registers (R460 to R463) -/

/-- Words of the computed registers of a DMAch page. -/
def State.dmaRead (s : State) (ch off : Nat) : Option Nat :=
  let c := s.chan ch
  match off with
  | 0x068 => some ((s.reg (R.DMAch_STAT ch)).toNat / 65536 * 65536 + c.cqWait.isSome.toNat * 8 + c.wcred.toNat * 4 +
      (c.st == 5).toNat * 2 + (c.st == 4).toNat)
  | _ => none

/-- Words of the computed registers of the DMAG page. -/
def State.dmagRead (s : State) (off : Nat) : Option Nat :=
  let n (p : Nat → Bool) : Nat := ((List.range 64).filter p).length
  match off with
  | 0x040 => some (n (fun ch => (s.chan ch).st == 2 || (s.chan ch).st == 3) * 65536 + n (fun ch => (s.chan ch).st == 7))
  | 0x044 => some ((List.range 64).foldl (fun a ch => if (s.hdr (P.DMAch ch)).en then a + s.shareQ ch else a) 0)
  | _ => none

end Sys2Proof.Machine
end

