-- ==== Sys2Proof/Machine/Trig.lean ====
section
/-! DEFINITION. Latching triggers and numbering lines (spec/03 R87, R88, R91; spec/12 R395, R400, R410, R412), and the
start points of the delivery measurement (spec/12 R419). -/

namespace Sys2Proof.Machine

def State.setMer (s : State) (f : Mer → Mer) : State := { s with mer := f s.mer }

/-- First number of the group of a stream that number n belongs to (R189). -/
def State.groupFirst (s : State) (k n : Nat) : Nat :=
  let f := s.ssc.job.first
  f + (n - f) / s.osLines k * s.osLines k

/-! ## Captures and start points (R80, R419) -/

/-- Every line of the group of n lines from g on that has been assigned and is not lost is captured. -/
def State.groupCaptured (s : State) (g n : Nat) : Bool :=
  !(s.mer.latch.any (fun t => !t.preroll && g ≤ t.line && t.line < g + n)) &&
  s.lines.all (fun (l : Nat × LineInfo) => l.1 < g || g + n ≤ l.1 || l.2.capDone || l.2.preroll)

/-- A group's start point: its last present capture end or the latching of the first number beyond it, whichever is
later (R419). After the job's last number no number follows, and the capture end alone counts (DEDUCED,
notes/assumptions 46). -/
def State.oweClose (s : State) : State :=
  if s.ssc.job.owe.all (fun (o : Nat × Owe) => o.2.start.isSome) then s
  else
    let ready (o : Nat × Owe) : Bool :=
      let n := s.osLines (o.1 % 4)
      (o.1 / 4 + n ≤ s.ssc.lastNum || s.ssc.st == 9) && s.groupCaptured (o.1 / 4) n
    s.setJob (fun j => { j with owe := j.owe.map (fun (o : Nat × Owe) =>
      if o.2.start.isNone && ready o then (o.1, { o.2 with start := some s.now }) else o) })

/-- The capture of a line ends: each of its records is owed (R419). -/
def State.oweLine (s : State) (line : Nat) : State :=
  let add (s : State) (k : Nat) : State :=
    let key := oweKey (s.groupFirst k line) k
    let o := tabGet {} s.ssc.job.owe key
    let o := { o with start := if s.osLines k = 1 then some s.now else none }
    s.setJob (fun j => { j with owe := tabIns j.owe key o, dlv := tabIns j.dlv (key / 4) (tabGet {} j.dlv (key / 4)) })
  (foldS add s s.streams).oweClose

/-! ## The end of a job's triggers (R395) -/

/-- ENDING: no further trigger is latched; in Tracking mode the scan axis stops. -/
def State.endJob (s : State) : State :=
  let s := s.setSsc (fun x => { x with
    st := 9, preArm := false, ending := false, pauseDue := false, istopDue := false, pauseF := false, pausers := [] })
  let s := s.setMer (fun m => { m with timerOn := false, fgridOn := false })
  let s := match s.scanAxis with
    | some x => s.cstop x
    | none => s
  s.oweClose

/-! ## Latching (R87, R91) -/

/-- A trigger finds the latch full: its line is skipped (R91). -/
def State.skipTrigger (s : State) (n : Nat) : State :=
  (((((s.bump R.MER_OVRCNT 1).evt P.MER 8).emit 51).faultLine 0x1801 0 n)).loseLine n

/-- A number taken in a pause, or after an immediate stop of the scan axis, starts no line (R412, R416, R417). -/
def State.numberLost (s : State) (t : Trig) : Bool :=
  s.ssc.st == 8 || (s.jobMode == 0 && (s.ssc.st == 5 || s.ssc.st == 6 || (s.ssc.istopDue && decide (s.ssc.istopAt < t.tick))))

/-- The first trigger after a restart: the job runs again (R408 step 7, R412). -/
def State.restarted (s : State) (n : Nat) : State :=
  let unt := match s.scanAxis with
    | some x => !s.flag (R.CDRx_GRID x) F.CDRx_GRID.SRC && (s.axis x).unt
    | none => false
  let seam := s.ssc.seam || unt
  let s := s.setSsc (fun x => { x with st := 3, preArm := false, seam := false, seamFor := if seam then some n else x.seamFor })
  (s.evt P.SSC 11).emit 77

/-- A trigger takes the next line number, and the latch when it is free (R87). -/
def State.latchReal (s : State) (t : Trig) : State :=
  let n := (s.chr.line + 1) % 2 ^ 64
  let s := { s with chr := { s.chr with line := n } }
  let s := s.setSsc (fun x => { x with assigned := x.assigned + 1, lastNum := n, lastK := x.lastK + 1 })
  let s := if s.ssc.st = 7 then s.restarted n else s
  let s :=
    if s.numberLost t then s.loseLine n
    else if s.mer.latch.isSome then s.skipTrigger n
    else s.setMer (fun m => { m with latch := some { t with line := n } })
  let s := s.oweClose
  let lim := s.fld R.SSC_NLINES F.SSC_NLINES.N
  if lim ≠ 0 ∧ lim ≤ s.ssc.assigned then s.endJob else s

/-- A pre-roll trigger takes no number; one that finds the latch full is only counted (R385, R410). -/
def State.latchPre (s : State) (t : Trig) : State :=
  if s.ssc.st ≠ 7 then s
  else if s.mer.latch.isSome then s.bump R.MER_OVRCNT 1
  else s.setMer (fun m => { m with latch := some { t with line := s.ssc.lastKept } })

/-- Meridian meets a trigger while the job takes triggers (R395). -/
def State.latchTrig (s : State) (t : Trig) : State :=
  if !s.takesTriggers then s
  else if t.preroll then s.latchPre t
  else s.latchReal t

/-- LINE_TRIGGER (R87): the oldest trigger on its way from a grid or an event channel reaches Meridian. -/
def execLineTrigger (t : Nat) (s : State) : Host.Outcome State Fault Refusal :=
  let s := s.upto t
  match s.mer.transit with
  | [] => .next s
  | tr :: rest => .next ((s.setMer (fun m => { m with transit := rest })).latchTrig tr)

/-! ## Triggers without a grid (R88, R92) -/

/-- A trigger of the timer or of an event, with the position it takes (R88). -/
def State.plainTrig (s : State) (timer : Bool) : Trig :=
  let x := s.fld R.MER_LSRC F.MER_LSRC.AXIS
  let p : Int × Nat :=
    if s.flag R.CDRG_FCFG F.CDRG_FCFG.EN then (s.cdr.fcount, 1)
    else if s.axisEn x then ((s.axis x).x, 0)
    else (0, 2)
  { line := 0, tick := s.now, pos := p.1, posSrc := p.2, timer := timer, preroll := false }

/-- Timer period in pclk (R92). -/
def State.timerPeriod (s : State) : Nat := max 5 (s.fld R.MER_LPER F.MER_LPER.PERIOD)

/-- The running count's length in pclk: the PERIOD with which it began, where that is known. -/
def State.timerCount (s : State) : Nat := if s.mer.timerPer = 0 then s.timerPeriod else s.mer.timerPer

/-- LINE_TIMER_EXPIRY (R92): 4 pclk before the end of the running count; the next count begins at that end. -/
def execLineTimerExpiry (s : State) : Host.Outcome State Fault Refusal :=
  if s.mer.timerOn then
    let n := s.timerCount
    let e := s.pclkAfter s.mer.timerAt s.mer.timerFr (n - 4)
    let b := s.pclkAfter s.mer.timerAt s.mer.timerFr n
    let s := s.upto e.1
    let s := s.setMer (fun m => { m with timerAt := b.1, timerFr := b.2, timerPer := 0 })
    .next (s.latchTrig { s.plainTrig true with fr := if s.now = e.1 then e.2 else 0 })
  else .next s

end Sys2Proof.Machine
end

