-- ==== Sys2Proof/Machine/Derive.lean ====
section
/-! DEFINITION. What a profile derives (spec/12 R623; spec/01 R27 to R29). -/

namespace Sys2Proof.Machine

/-- A number as a field of n bits reports it: a number that does not fit has a free value, the i-th of its use
(notes/assumptions 47). -/
def State.fit (s : State) (n v i : Nat) : Nat := if v < 2 ^ n then v else s.freeAt i % 2 ^ n

/-- The control core writes a field of a page in basic mode: with boundary J it stays pending until the next arming;
other values wait for a line boundary while a line cycle runs and are active at once otherwise (R29, R393). -/
def State.derive (s : State) (a : Nat) (f : Fld) (v : Nat) : State :=
  if (s.hdr (pageBase a)).expert then s
  else
    let w : Word := BitVec.ofNat 32 (putBits (s.regNext a).toNat f.1 f.2 v)
    match bndOf a with
    | some .j => { s with pend := tabIns s.pend a w, ssc := { s.ssc with jHold := a :: s.ssc.jHold.filter (· != a) } }
    | some .m => { s with pend := tabIns s.pend a w }
    | some .d => { s with pend := tabIns s.pend a w }
    | _ =>
      if s.mer.cycle then { s with pend := tabIns s.pend a w }
      else { s with pend := tabErase s.pend a }.activate a w

/-- Bands of the profile in sequence order, the dark slot last. -/
def State.profileBands (s : State) : List Nat :=
  (List.range 17).filter (fun b => bit (s.fldNext R.SSC_PBANDS F.SSC_PBANDS.MASK) b)

/-- pclk that the job will run with, in kHz. -/
def State.pclkNext (s : State) : Nat := min (max (s.fldNext R.MER_PCLK F.MER_PCLK.FREQ) 2000) 40000

def State.profileLpi (s : State) : Nat := max 1 (s.fldNext R.SSC_PGEOM F.SSC_PGEOM.LPI)
def State.profileSpeed (s : State) : Nat := s.fldNext R.SSC_PSPEED F.SSC_PSPEED.SPEED
def State.profileWidth (s : State) : Nat := s.fldNext R.SSC_PGEOM F.SSC_PGEOM.WIDTH
def State.profileMode (s : State) : Nat := s.fldNext R.SSC_PMODE F.SSC_PMODE.MODE

/-- The Meridian fields (R623). -/
def State.deriveMer (s : State) : State :=
  let bs := s.profileBands
  let n := bs.length
  let vs := s.fld R.PWR_STAT F.PWR_STAT.VSOK
  let s := foldS (fun (s : State) (e : Nat × Nat) =>
    (s.derive (R.MER_SEQk e.1) F.MER_SEQk.BAND e.2).derive (R.MER_SEQk e.1) F.MER_SEQk.TYPE 0) s
    ((List.range n).zip bs)
  let s := if n = 0 then s else s.derive R.MER_SEQCFG F.MER_SEQCFG.NSLOT n
  let s := match s.profileMode with
    | 0 => (s.derive R.MER_LSRC F.MER_LSRC.SRC 1).derive R.MER_LSRC F.MER_LSRC.AXIS (s.fldNext R.SSC_PMODE F.SSC_PMODE.AXIS)
    | 1 => s.derive R.MER_LSRC F.MER_LSRC.SRC 2
    | 2 => s.derive R.MER_LSRC F.MER_LSRC.SRC 0
    | _ => (s.derive R.MER_LSRC F.MER_LSRC.SRC 3).derive R.MER_LSRC F.MER_LSRC.EVC (s.fldNext R.SSC_PMODE F.SSC_PMODE.EVC)
  let len := s.fldNext R.MER_SLOT F.MER_SLOT.PIXPER + s.fldNext R.MER_SLOT F.MER_SLOT.OVH
  let s := s.derive R.MER_LPER F.MER_LPER.PERIOD (n * len)
  s.derive R.MER_STGEN F.MER_STGEN.EN (maskOf 24 (fun o => bit vs (o / 6)))

/-- The acquisition fields of primary c (R623). -/
def State.deriveChan (s : State) (c : Nat) : State :=
  let w := s.profileWidth
  let cfg := cfgOf c
  let map := mapOf c
  let park := decide (w ≤ 640 * c)
  let mode := if park then 3 else bits (regDefault s.straps cfg).toNat F.ACQn_CHk_CFG.MODE.1 F.ACQn_CHk_CFG.MODE.2
  let s := s.derive cfg F.ACQn_CHk_CFG.MODE mode
  ((s.derive map F.ACQn_CHk_MAP.REV 0).derive map F.ACQn_CHk_MAP.FIRST (640 * c)).derive map F.ACQn_CHk_MAP.COUNT
    (min 640 (w - 640 * c))

/-- The stream fields (R623). -/
def State.deriveOut (s : State) : State :=
  let cfg := R.PLTG_OSs_CFG 0
  let set (s : State) (e : Fld × Nat) : State := s.derive cfg e.1 e.2
  let s := foldS set s
    [ (F.PLTG_OSs_CFG.EN, 1), (F.PLTG_OSs_CFG.FMT, s.fldNext R.SSC_POUT F.SSC_POUT.FMT),
      (F.PLTG_OSs_CFG.HBIN, s.fldNext R.SSC_POUT F.SSC_POUT.HBIN), (F.PLTG_OSs_CFG.VSUM, s.fldNext R.SSC_POUT F.SSC_POUT.VSUM),
      (F.PLTG_OSs_CFG.LUT, s.fldNext R.SSC_POUT F.SSC_POUT.LUT), (F.PLTG_OSs_CFG.DMACH, 0), (F.PLTG_OSs_CFG.BINSUM, 0),
      (F.PLTG_OSs_CFG.NPROJ, 0), (F.PLTG_OSs_CFG.ORDER, 0), (F.PLTG_OSs_CFG.TRAIL, 0) ]
  let s := s.derive (R.PLTG_OSs_BAND 0) F.PLTG_OSs_BAND.MASK (s.fldNext R.SSC_PBANDS F.SSC_PBANDS.MASK)
  let s := s.derive (R.PLTG_OSs_START 0) F.PLTG_OSs_START.START 0
  let s := s.derive (R.PLTG_OSs_WIDTH 0) F.PLTG_OSs_WIDTH.WIDTH s.profileWidth
  foldS (fun (s : State) k => s.derive (R.PLTG_OSs_CFG k) F.PLTG_OSs_CFG.EN 0) s [1, 2, 3]

/-- The spacing and hold period (R623). -/
def State.deriveTimes (s : State) : State :=
  let ls := s.profileLpi * s.profileSpeed
  let khz := s.pclkNext
  let spc := if s.profileSpeed = 0 then 0 else khz * 1000 * 25400 / ls
  let s := s.derive R.SSC_MINSPC F.SSC_MINSPC.PCLK (s.fit 24 spc 0)
  if s.profileMode = 2 then
    s.derive R.HELG_HOLD F.HELG_HOLD.PER (s.fit 24 (roundHe (s.fldNext R.MER_LPER F.MER_LPER.PERIOD * 1000 : Nat) (khz : Nat)).toNat 1)
  else if s.profileSpeed = 0 then s
  else s.derive R.HELG_HOLD F.HELG_HOLD.PER (s.fit 24 (roundHe (25400 * 1000000 : Nat) (ls : Nat)).toNat 1)

/-- Every derived field of every page in basic mode. -/
def State.deriveAll (s : State) : State := ((forN 256 State.deriveChan s.deriveMer).deriveOut.deriveTimes).skipFree 2

/-- Only the fields of one page. -/
def State.derivePage (s : State) (page : Nat) : State :=
  let other (a : Nat) : Bool := pageBase a != page
  let d := s.deriveAll
  let merge {α : Type} (old new : List (Nat × α)) : List (Nat × α) :=
    foldlIns (tabKeep other old) (tabKeep (fun a => !other a) new)
  { s with
    regs := merge s.regs d.regs
    pend := merge s.pend d.pend
    fv := d.fv
    ssc := { s.ssc with jHold := d.ssc.jHold.filter (fun a => s.ssc.jHold.contains a || !other a) } }
where
  foldlIns {α : Type} (old : List (Nat × α)) (new : List (Nat × α)) : List (Nat × α) :=
    new.foldl (fun m (e : Nat × α) => tabIns m e.1 e.2) old

end Sys2Proof.Machine
end

