-- ==== Sys2Proof/Machine/Adm.lean ====
section
/-! DEFINITION. Admission (spec/12 R398 to R407, R423): the checks and the figures it reports. Every function here
reads a copy of the machine in which the derived fields and every value pending with boundary J are already active. -/

namespace Sys2Proof.Machine

/-- The copy that admission judges (R393, R398). -/
def State.admCopy (s : State) : State := s.deriveAll.applyBnd .j

/-- f_pclk in Hz. -/
def State.fHz (s : State) : Nat := s.pclk * 1000

/-- The scan axis of the line source. -/
def State.lsrcAxis (s : State) : Nat := s.fld R.MER_LSRC F.MER_LSRC.AXIS

/-- Line pitch of an axis grid in microsteps (R399). -/
def State.pitchQ (s : State) (x : Nat) : Rat :=
  let p : Rat := (s.gridPitch x : Nat) / (65536 : Rat)
  if s.flag (R.CDRx_GRID x) F.CDRx_GRID.SRC then p * ((s.fld (R.CDRx_ENCR x) F.CDRx_ENCR.RATIO : Nat) : Rat) / 65536 else p

/-- Follow-encoder grid pitch in counts. -/
def State.fpitchQ (s : State) : Rat :=
  let p := s.fld R.MER_FGRID_PITCH F.MER_FGRID_PITCH.PITCH
  ((if p = 0 then 65536 else p : Nat) : Rat) / 65536

def State.spd (s : State) : Nat := s.fld R.SSC_SPD F.SSC_SPD.SPD
def State.tacc (s : State) : Nat := s.fld R.SSC_TACC F.SSC_TACC.LIMIT
def State.tjrk (s : State) : Nat := s.fld R.SSC_TJRK F.SSC_TJRK.LIMIT

/-- S in pclk (R399); 0 where it is not defined. -/
def State.admS (s : State) : Nat :=
  let per (p : Rat) : Nat := if s.spd = 0 then 0 else ((s.fHz : Nat) * p / (s.spd : Nat) : Rat).floor.toNat
  match s.fld R.MER_LSRC F.MER_LSRC.SRC with
  | 0 => s.timerPeriod
  | 1 => per (s.pitchQ s.lsrcAxis)
  | 2 => per s.fpitchQ
  | _ => s.fld R.SSC_MINSPC F.SSC_MINSPC.PCLK

/-- Store capacity in bytes. -/
def State.storeCap (s : State) : Nat := s.fld R.EST_CFG F.EST_CFG.GB * 2 ^ 30

/-- Record bytes of one line over all streams, a vertical sum counted in full (R407). -/
def State.lineBytes (s : State) : Nat := (s.streams.map s.recSize).sum

/-- Lines a second. -/
def State.lineRate (s : State) : Rat := (s.fHz : Nat) / ((s.admS : Nat) : Rat)

/-- Required rate of a stream in bytes/s (R401). -/
def State.streamRate (s : State) (k : Nat) : Rat := (s.recSize k : Nat) * s.lineRate / ((s.osLines k : Nat) : Rat)

/-- Required rate of the Photometer's records (R401, R353). -/
def State.phoRate (s : State) : Rat :=
  if s.flag R.PHO_CTL F.PHO_CTL.EN then
    (s.listedWins.map s.winCfg).foldl (fun (a : Rat) (c : List Nat) =>
      if winEn c && winRec c then a + 64 * s.lineRate / ((winLines c : Nat) : Rat) else a) 0
  else 0

/-- W in bytes/s. -/
def State.admW (s : State) : Rat := s.streams.foldl (fun (a : Rat) k => a + s.streamRate k) 0

/-- Required rate of a DMA channel. -/
def State.chanRate (s : State) (ch : Nat) : Rat :=
  (s.streams.filter (fun k => s.osCh k == ch)).foldl (fun (a : Rat) k => a + s.streamRate k)
    (if s.fld R.PHO_CTL F.PHO_CTL.DMACH = ch then s.phoRate else 0)

/-- C in bytes/s, and the share of a channel. -/
def State.capRate (s : State) : Rat := (s.capacity : Nat) * 1000000 / (128 : Rat)
def State.shareRate (s : State) (ch : Nat) : Rat := (s.shareQ ch : Nat) * s.capRate / 256

/-- D in µs; 0xFFFFFF where a stream's transfer has no bound (R404). -/
def State.admD (s : State) : Nat :=
  if s.streams.any (fun k => s.shareRate (s.osCh k) == 0) then 0xFFFFFF
  else
    let worst := s.streams.foldl (fun (a : Rat) k => maxQ a ((s.recSize k : Nat) * 1000000 / s.shareRate (s.osCh k))) 0
    (6000 / ((s.pclk : Nat) : Rat) + 454 / 100 + 2 * worst).ceil.toNat

/-- Ceiling of the square root of a rational. -/
def ceilSqrt (q : Rat) : Nat :=
  let n := Nat.sqrt q.floor.toNat
  if q ≤ ((n * n : Nat) : Rat) then n else n + 1

/-- Ndec (R407); none where an acceleration or jerk limit of 0 leaves the stop without a bound. -/
def State.ndec (s : State) : Option Nat :=
  let v : Rat := (s.spd : Nat)
  let a : Rat := (s.tacc : Nat)
  let j : Rat := (s.tjrk : Nat)
  let p := s.pitchQ s.lsrcAxis
  if a = 0 ∨ j = 0 ∨ p = 0 then none
  else if a * a / j ≤ v then some (v * (v / a + a / j) / 2 / p).ceil.toNat
  else some (ceilSqrt (v * v * v / j / (p * p)))

/-- HWM in blocks (R407). -/
def State.admHwm (s : State) : Nat :=
  match s.ndec with
  | none => 0
  | some n => (s.storeCap - 65536 - (n + 2) * s.lineBytes) / 65536

def State.estHwm (s : State) : Nat := s.fld R.EST_HWM F.EST_HWM.BLOCKS
def State.estLwm (s : State) : Nat := s.fld R.EST_LWM F.EST_LWM.BLOCKS

/-- Method of diagnosis of each row of the sequence (R252). -/
def State.admMethods (s : State) : List (Nat × Nat) :=
  ((List.range 16).filter (fun k => s.seq.contains k)).map
    (fun k => (k, s.methodOf k s.nslot s.slotLen s.admS s.pclk))

/-- Check r fails (R398). -/
def State.admFails (s : State) (r : Nat) : Bool :=
  let ls := s.slotLen
  let n := s.nslot
  let sp := s.admS
  let mode := s.jobMode
  match r with
  | 1 => s.chr.safe || s.chr.unack.any (fun u => 2 ≤ u.2.2)
  | 2 => decide (s.fld R.MER_SLOT F.MER_SLOT.OVH <
      s.fld R.MER_OVH F.MER_OVH.XFER + s.fld R.MER_OVH F.MER_OVH.OB + s.fld R.MER_OVH F.MER_OVH.WC)
  | 3 => decide (1024 < s.fld R.MER_SLOT F.MER_SLOT.PIXPER + s.fld R.MER_OVH F.MER_OVH.OB)
  | 4 => s.flag R.ACQG_LP F.ACQG_LP.LPJOB && decide (10000 < s.pclk)
  | 5 => decide (sp < max (n * ls) (ls + 5))
  | 6 => sp != 0 && (s.streams.any (fun k => (s.chan (s.osCh k)).st == 0 || (s.chan (s.osCh k)).st == 7) ||
      (List.range 64).any (fun ch => decide (s.shareRate ch < s.chanRate ch)))
  | 7 => sp != 0 && decide (s.capRate < s.admW + s.phoRate)
  | 8 => sp != 0 && decide (((s.fld R.EST_CEIL F.EST_CEIL.MBS * 1000000 : Nat) : Rat) < s.admW + s.capRate)
  | 9 => s.storeCap == 0 || (if mode = 0 then decide (s.admHwm ≤ s.estLwm) else decide (s.storeCap < s.lineBytes + 65536))
  | 10 => s.seq.any (fun b => b < 16) && (s.hel.st == .off || s.hel.st == .safe || s.hel.st == .fadein || s.hel.st == .fadeout)
  | 11 => s.admMethods.any (fun (e : Nat × Nat) => e.2 == 3 && bit s.critRows e.1)
  | 12 => s.seq.any (fun b => b < 16) && decide (16 < s.measM)
  | 13 =>
    let src := s.fld R.MER_LSRC F.MER_LSRC.SRC
    match mode with
    | 0 => src != 1 || !s.axisEn s.lsrcAxis || (s.axis s.lsrcAxis).unt
    | 1 => src != 2
    | 2 => src != 0
    | _ => src != 3
  | 14 => s.fld R.SSC_DREQ F.SSC_DREQ.US != 0 && decide (s.fld R.SSC_DREQ F.SSC_DREQ.US < s.admD)
  | 15 => !(s.hdr P.MER).expert && s.fld R.SSC_PBANDS F.SSC_PBANDS.MASK == 0
  | _ => false

/-- The failing checks as SSC_ADMFAIL shows them. -/
def State.admMask (s : State) : Nat := (List.range 16).foldl (fun m r => if s.admFails r then m + 2 ^ r else m) 0

/-- The lowest failing code, 0 when none fails. -/
def State.admReason (s : State) : Nat :=
  match (List.range 16).find? (fun r => s.admFails r) with
  | some r => r
  | none => 0

/-- MB/s, rounded up. -/
def mbCeil (r : Rat) : Nat := (r / 1000000).ceil.toNat

/-- The words of SSC_S, SSC_D, SSC_WRATE, SSC_LINKCAP and SSC_ADMFAIL (R399 to R404). -/
def State.admWrate (s : State) : Nat := if s.admS = 0 then 0 else min 65535 (mbCeil s.admW)
def State.admLinkcap (s : State) : Nat := min 65535 (s.capacity / 128)
def State.admReports (s : State) : List Nat :=
  [s.fit 24 s.admS 0, s.fit 24 s.admD 1, s.admWrate, s.admLinkcap, s.admMask]

/-- Admission reports on the machine (R398 to R404). -/
def State.admShow (s c : State) : State :=
  let put (s : State) (e : Nat × Nat) : State := s.setReg e.1 (BitVec.ofNat 32 e.2)
  let s := foldS put s ([R.SSC_S, R.SSC_D, R.SSC_WRATE, R.SSC_LINKCAP, R.SSC_ADMFAIL].zip c.admReports)
  let s := s.setFld R.SSC_STAT F.SSC_STAT.REASON c.admReason
  (s.when (c.jobMode == 0) (fun s => s.setFld R.EST_HWM F.EST_HWM.BLOCKS (c.fit 24 c.admHwm 2))).skipFree 5

/-! ## Acceptance -/

/-- Methods of diagnosis of the accepted job (R252, R254). -/
def State.admRows (s : State) (l : List (Nat × Nat)) : State :=
  let m := l.foldl (fun (m : Nat) (e : Nat × Nat) => m + e.2 * 4 ^ e.1) 0
  let s := ({ s with hel := { s.hel with diagM := m } } : State).setReg R.HELG_DIAGM (BitVec.ofNat 32 m)
  let s := s.setFld R.HELG_ROWSTAT F.HELG_ROWSTAT.BLIND 0
  foldS (fun (s : State) (e : Nat × Nat) =>
    if e.2 = 3 then ((s.setFld R.HELG_ROWSTAT (16 + e.1, 16 + e.1) 1).evt P.HELG 17).fault 0x0904 e.1 else s) s l

/-- Admission accepts (R120, R393): the J values are active, the job is armed. -/
def State.admAccept (c : State) : State :=
  let a := (c.setSsc (fun x => { x with st := 2, job := {}, seam := false, seamFor := none, jHold := [] })).evt P.SSC 8
  let a := (a.idleStop.actArm).admRows c.admMethods
  let a := { a with pwr := { a.pwr with st := 2 }, hel := { a.hel with gapNext := 0, diagFlag := false } }
  if a.flag R.ACQG_LP F.ACQG_LP.LPJOB then a.setCores 1
  else if a.acq.power = 3 then a else a.setCores 2

/-- Pending values of boundary J; those of a refused job wait for the next arming (R393). -/
def State.pendJ (s : State) : List Nat :=
  (s.pend.filter (fun (e : Nat × Word) => bndOf e.1 == some .j)).map (fun (e : Nat × Word) => e.1)

/-- ADMISSION (R392, R393, R398): derivation and admission of the job, while the control core's services run (R17). -/
def State.admission (s : State) : State :=
  if s.ssc.st ≠ 1 ∨ s.sec.paused then s
  else
    let c := s.admCopy
    if c.admReason = 0 then (c.admShow c).admAccept
    else
      let r := s.deriveAll
      ((r.admShow c).setSsc (fun x => { x with st := 0, jHold := r.pendJ })).evt P.SSC 9

def execAdmission (t : Nat) (s : State) : Host.Outcome State Fault Refusal := .next (s.upto t).admission

end Sys2Proof.Machine
end

