-- ==== Sys2Proof/Machine/Sha.lean ====
section
/-! DEFINITION. SHA-256, which the security island computes (spec/17 R542, R551, R554). The manual names the function;
its arithmetic is that of FIPS 180-4 (PRESUMED, notes/assumptions 60). -/

namespace Sys2Proof.Machine

/-- Round constants. -/
def shaK : List Word :=
  [0x428a2f98, 0x71374491, 0xb5c0fbcf, 0xe9b5dba5, 0x3956c25b, 0x59f111f1, 0x923f82a4, 0xab1c5ed5] ++
  [0xd807aa98, 0x12835b01, 0x243185be, 0x550c7dc3, 0x72be5d74, 0x80deb1fe, 0x9bdc06a7, 0xc19bf174] ++
  [0xe49b69c1, 0xefbe4786, 0x0fc19dc6, 0x240ca1cc, 0x2de92c6f, 0x4a7484aa, 0x5cb0a9dc, 0x76f988da] ++
  [0x983e5152, 0xa831c66d, 0xb00327c8, 0xbf597fc7, 0xc6e00bf3, 0xd5a79147, 0x06ca6351, 0x14292967] ++
  [0x27b70a85, 0x2e1b2138, 0x4d2c6dfc, 0x53380d13, 0x650a7354, 0x766a0abb, 0x81c2c92e, 0x92722c85] ++
  [0xa2bfe8a1, 0xa81a664b, 0xc24b8b70, 0xc76c51a3, 0xd192e819, 0xd6990624, 0xf40e3585, 0x106aa070] ++
  [0x19a4c116, 0x1e376c08, 0x2748774c, 0x34b0bcb5, 0x391c0cb3, 0x4ed8aa4a, 0x5b9cca4f, 0x682e6ff3] ++
  [0x748f82ee, 0x78a5636f, 0x84c87814, 0x8cc70208, 0x90befffa, 0xa4506ceb, 0xbef9a3f7, 0xc67178f2]

/-- Initial hash value. -/
def shaInit : List Word :=
  [0x6a09e667, 0xbb67ae85, 0x3c6ef372, 0xa54ff53a, 0x510e527f, 0x9b05688c, 0x1f83d9ab, 0x5be0cd19]

def shaRot (x : Word) (n : Nat) : Word := x.rotateRight n

/-- Message schedule, newest word first: n further words. -/
def shaSchedule : Nat → List Word → List Word
  | 0, l => l
  | n + 1, l =>
    let v (i : Nat) : Word := (l[i]?).getD 0
    let a := v 14
    let b := v 1
    let s0 := shaRot a 7 ^^^ shaRot a 18 ^^^ (a >>> 3)
    let s1 := shaRot b 17 ^^^ shaRot b 19 ^^^ (b >>> 10)
    shaSchedule n ((v 15 + s0 + v 6 + s1) :: l)

/-- One round on the eight working words. -/
def shaRound (h : List Word) (kw : Word × Word) : List Word :=
  let v (i : Nat) : Word := (h[i]?).getD 0
  let e := v 4
  let a := v 0
  let t1 := v 7 + (shaRot e 6 ^^^ shaRot e 11 ^^^ shaRot e 25) + ((e &&& v 5) ^^^ (~~~e &&& v 6)) + kw.1 + kw.2
  let t2 := (shaRot a 2 ^^^ shaRot a 13 ^^^ shaRot a 22) + ((a &&& v 1) ^^^ (a &&& v 2) ^^^ (v 1 &&& v 2))
  [t1 + t2, a, v 1, v 2, v 3 + t1, e, v 5, v 6]

/-- A big-endian word of four bytes. -/
def beWord (l : List Byte) : Word := BitVec.ofNat 32 (l.foldl (fun n b => n * 256 + b.toNat) 0)
def beBytes (w : Word) : List Byte := (leBytes 4 w.toNat).reverse

/-- Words of a byte string, four bytes each. -/
def beWords : Nat → List Byte → List Word
  | 0, _ => []
  | n + 1, l => beWord (l.take 4) :: beWords n (l.drop 4)

def shaBlock (h : List Word) (b : List Byte) : List Word :=
  let w := (shaSchedule 48 (beWords 16 b).reverse).reverse
  (h.zip ((shaK.zip w).foldl shaRound h)).map (fun x => x.1 + x.2)

/-- n blocks of 64 bytes. -/
def shaBlocks : Nat → List Word → List Byte → List Word
  | 0, h, _ => h
  | n + 1, h, l => shaBlocks n (shaBlock h (l.take 64)) (l.drop 64)

/-- SHA-256 of a byte string. -/
def sha256 (m : List Byte) : List Byte :=
  let z := (119 - m.length % 64) % 64
  let p := m ++ [0x80#8] ++ List.replicate z 0 ++ (leBytes 8 (8 * m.length)).reverse
  (shaBlocks (p.length / 64) shaInit p).foldr (fun w l => beBytes w ++ l) []

end Sys2Proof.Machine
end

