-- ==== Sys2Proof/Machine/Image.lean ====
section
/-! DEFINITION. Firmware images: loading, verifying, committing and swapping them (spec/17 R538 to R549), and the control
core's pauses (spec/01 R16, R17). -/

namespace Sys2Proof.Machine

def State.setSec (s : State) (f : Sec → Sec) : State := { s with sec := f s.sec }
def State.slot (s : State) (i : Nat) : Slot := tabGet {} s.sec.slots i
def State.setSlot (s : State) (i : Nat) (x : Slot) : State :=
  s.setSec (fun c => { c with slots := tabIns c.slots i x })

/-! ## Image layout (R541) -/

def byteAt (b : List Byte) (i : Nat) : Nat := ((b[i]?).getD 0).toNat

/-- The little-endian field of n bytes at an offset of an image. -/
def imgField (b : List Byte) (o n : Nat) : Nat := ofLe ((b.drop o).take n)
def imgLen (b : List Byte) : Nat := imgField b 0x08 4
def imgVersion (b : List Byte) : Nat := imgField b 0x0C 4
def imgArc (b : List Byte) : Nat := imgField b 0x10 4
def imgSub (b : List Byte) : Nat := imgField b 0x14 4
def imgKey (b : List Byte) : List Byte := (b.drop 0x40).take 32
def imgDigest (b : List Byte) : List Byte := (b.drop 0x60).take 32
def imgHeader (b : List Byte) : List Byte := b.take 256
def imgPayload (b : List Byte) : List Byte := (b.drop 256).take (imgLen b)
def imgSignature (b : List Byte) : List Byte := (b.drop (256 + imgLen b)).take 7856

def imgHeaderOk (b : List Byte) : Bool :=
  imgField b 0 4 == 0x59469640 && imgField b 4 2 == 1 && imgField b 6 2 == 0 && imgField b 0x18 40 == 0 && imgField b 0x80 128 == 0

def imgLengthOk (b : List Byte) : Bool :=
  decide (4 ≤ imgLen b) && decide (imgLen b ≤ 8380496) && imgLen b % 4 == 0 && b.length == 256 + imgLen b + 7856

/-- REASON of R542, 0 where the image is accepted. A load with a discarded word fails with reason 7 (R546). -/
def State.imageReason (s : State) (x : Slot) (readOk : Bool) : Nat :=
  let b := x.bytes
  if x.lost then 7
  else if !imgHeaderOk b then 1
  else if !imgLengthOk b || b.length != x.len then 2
  else if sha256 (imgKey b) ≠ Config.firmwareKeyHash then 3
  else if sha256 (imgPayload b) ≠ imgDigest b then 4
  else if !Config.slhVerify (imgKey b) (sha256 (imgHeader b)) (imgSignature b) then 5
  else if imgArc b < s.sec.otp then 6
  else if !readOk then 8
  else 0

/-! ## Outcomes -/

def State.opIgnored (s : State) : State := s.evt P.SEC 9

/-- SEC_RESULT: the latest outcome. -/
def State.secResult (s : State) (op slot reason : Nat) : State :=
  s.setReg R.SEC_RESULT (BitVec.ofNat 32 (op * 2 ^ 24 + slot * 2 ^ 16 + (reason == 0).toNat * 16 + reason))

/-- An image is rejected (R542, R549). -/
def State.imageRejected (s : State) (slot : Nat) : State := (s.evt P.SEC 10).fault 0x1901 slot

/-- VERSION of a slot as SEC_VERA and SEC_VERB show it: 0 where the image is rejected. -/
def State.showVersion (s : State) (slot reason : Nat) : State :=
  let v : Word := BitVec.ofNat 32 (if reason = 0 then imgVersion (s.slot slot).bytes else 0)
  if slot = 0 then s.setReg R.SEC_VERA v else if slot = 1 then s.setReg R.SEC_VERB v else s

/-! ## The boot record (R540, R548) -/

/-- The slot the boot record prefers. -/
def State.preferred (s : State) : Nat :=
  match s.sec.half0, s.sec.half1 with
  | some h, _ => h.2
  | none, some h => h.2
  | none, none => 0

/-- Writing the record: both halves with the same SEQ and PREF. -/
def State.bootRecord (s : State) (slot : Nat) : State :=
  let seq := match s.sec.half0, s.sec.half1 with
    | some h, _ => (h.1 + 1) % 2 ^ 32
    | none, some h => (h.1 + 1) % 2 ^ 32
    | none, none => 0
  s.setSec (fun c => { c with half0 := some (seq, slot), half1 := some (seq, slot) })

/-! ## Loading (R546, R547) -/

/-- The open load ends; a history save that waited for it is made (R539). -/
def State.loadEnd (s : State) : State :=
  let s := s.setSec (fun c => { c with load := none, erasing := false, buf := [] })
  s.when (s.alm.saveDue && !s.sec.paused) State.histSave

/-- SEC_KOP BEGIN. -/
def State.imageBegin (s : State) (slot : Nat) : State :=
  let n := s.fld R.SEC_LEN F.SEC_LEN.BYTES
  if slot = s.sec.run ∨ slot = 3 ∨ n % 4 ≠ 0 ∨ 8388608 < n ∨ s.sec.load.isSome ∨ s.sec.verify.isSome then s.opIgnored
  else (s.setSlot slot { len := n }).setSec (fun c => { c with load := some (slot, 0), erasing := decide (slot < 2), buf := [], loose := [] })

/-- IMAGE_BEGIN (R546): a guarded write of SEC_KOP with OP 1. -/
def execImageBegin (w : Word) (s : State) : Host.Outcome State Fault Refusal :=
  .next (s.hostWrite P.SEC (fun s => s.guarded P.SEC (fun s => s.imageBegin (bits w.toNat 5 4))))

/-- FLASH_ERASE_DONE (R546). -/
def execFlashEraseDone (t : Nat) (s : State) : Host.Outcome State Fault Refusal :=
  .next ((s.upto t).setSec (fun c => { c with erasing := false }))

/-- A write of SEC_IMGW: into the load's buffer, or discarded; without an open load it joins a response or a challenge
of at most 1,973 words (R551, R554; notes/assumptions 61). -/
def State.imageWord (s : State) (w : Word) : State :=
  match s.sec.load with
  | some (slot, n) =>
    if (s.slot slot).len ≤ 4 * n ∨ 1024 ≤ s.sec.buf.length then
      (s.setSlot slot { s.slot slot with lost := true }).opIgnored
    else s.setSec (fun c => { c with load := some (slot, n + 1), buf := c.buf ++ [w] })
  | none =>
    if s.sec.loose.length < 1973 then s.setSec (fun c => { c with loose := c.loose ++ [w] }) else s.opIgnored

/-- IMAGE_WORD (R546). -/
def execImageWord (w : Word) (s : State) : Host.Outcome State Fault Refusal := .next (s.hostWrite P.SEC (fun s => s.imageWord w))

def wordsBytes (l : List Word) : List Byte := l.foldr (fun w b => leBytes 4 w.toNat ++ b) []

/-- BUFFER_DRAIN (R546): n words of the buffer are written into the slot. -/
def State.bufferDrain (s : State) (n : Nat) : State :=
  match s.sec.load with
  | some (slot, _) =>
    if s.sec.erasing then s
    else
      let x := s.slot slot
      (s.setSlot slot { x with bytes := x.bytes ++ wordsBytes (s.sec.buf.take n) }).setSec (fun c => { c with buf := c.buf.drop n })
  | none => s

def execBufferDrain (n t : Nat) (s : State) : Host.Outcome State Fault Refusal := .next ((s.upto t).bufferDrain n)

/-- SEC_OP VERIFY: it waits for the buffer to drain (R547). -/
def State.imageVerify (s : State) (slot : Nat) : State :=
  if slot = 3 ∨ s.sec.verify.isSome then s.opIgnored else s.setSec (fun c => { c with verify := some slot })

def execImageVerify (w : Word) (s : State) : Host.Outcome State Fault Refusal := .next (s.hostWrite P.SEC (fun s => s.imageVerify (bits w.toNat 5 4)))

/-- SEC_OP ABORT: an open load ends. -/
def State.imageAbort (s : State) : State := if s.sec.load.isSome then s.loadEnd else s

def execImageAbort (s : State) : Host.Outcome State Fault Refusal := .next (s.hostWrite P.SEC (fun s => s.imageAbort))

/-! ## An image starts -/

/-- The control core's services run the image of a slot. -/
def State.imageRuns (s : State) (slot : Nat) : State :=
  s.setSec (fun c => { c with run := slot, st := 2, paused := false, stopped := false, swap := none })

/-- One piece of work that waited is done. -/
def State.deferredDo (s : State) (d : Deferred) : State :=
  match d with
  | .lampRun => s.lampRunDone
  | .calRun => s.calRunDone
  | .idleSweep => s.idleSweep
  | .clockStep => s.clockStep
  | .voltageStep ack => s.voltageStep ack
  | .marginHour => s.marginHour

/-- The work that waited for the services is taken up: what fell due in the pause in its order, a pending run of the
Collimator, a history save (R17). -/
def State.servicesServe (s : State) : State :=
  let l := s.sec.deferred
  let s := foldS State.deferredDo (s.setSec (fun c => { c with deferred := [] })) l
  s.colServe.when (s.alm.saveDue && s.sec.load.isNone) State.histSave

/-- The first image of a boot starts (R562, R575): history restored, VOUT_MODE read and VCORE 750 mV requested (ack: the
regulator acknowledges), expert settings derived. -/
def State.imageStart (s : State) (slot : Nat) (ack : Bool) : State :=
  if s.pwr.started then s.imageRuns slot
  else
    let s := (((s.imageRuns slot).histRestore).send (.pmbus 0x20 0)).voutCommand 750 ack
    let s := s.deriveAll
    ({ s with pwr := { s.pwr with started := true } } : State).servicesServe

/-! ## Verification (R542, R547) -/

/-- VERIFY_DONE: the slot's checks are made; readOk: the flash read back without error. -/
def State.verifyDone (s : State) (readOk ack : Bool) : State :=
  match s.sec.verify with
  | none => s
  | some slot =>
    if !s.sec.buf.isEmpty || s.sec.erasing then s
    else
      let r := s.imageReason (s.slot slot) readOk
      let s := (s.setSlot slot { s.slot slot with passed := r == 0 }).setSec (fun c => { c with verify := none })
      let s := if s.sec.load.any (fun l => l.1 == slot) then s.loadEnd else s
      let s := ((s.secResult 1 slot r).evt P.SEC 8).showVersion slot r
      if r ≠ 0 then s.imageRejected slot
      else if slot = 2 ∧ s.sec.st = 1 then s.imageStart 2 ack
      else s

def execVerifyDone (readOk ack : Bool) (t : Nat) (s : State) : Host.Outcome State Fault Refusal :=
  .next ((s.upto t).verifyDone readOk ack)

/-! ## The anti-rollback counter (R543) -/

/-- SEC_KOP COMMIT: fuses are blown up to the running image's ARC. -/
def State.otpCommit (s : State) : State :=
  if s.sec.run = 3 then s
  else s.setSec (fun c => { c with otp := max c.otp (min 127 (imgArc (s.slot s.sec.run).bytes)) })

def execOtpCommit (s : State) : Host.Outcome State Fault Refusal := .next (s.hostWrite P.SEC (fun s => s.guarded P.SEC State.otpCommit))

/-! ## Live swap (R548, R549) -/

/-- SEC_KOP SWAP: the image is copied; same: its digest is still the one VERIFY found. -/
def State.firmwareSwap (s : State) (slot : Nat) (same : Bool) : State :=
  if 3 ≤ slot ∨ !(s.slot slot).passed ∨ s.sec.swap.isSome then s.opIgnored
  else if !same then (s.secResult 3 slot 4).imageRejected slot
  else s.setSec (fun c => { c with swap := some slot, st := 3 })

/-- FIRMWARE_SWAP (R548): a guarded write of SEC_KOP with OP 3. -/
def execFirmwareSwap (w : Word) (same : Bool) (s : State) : Host.Outcome State Fault Refusal :=
  .next (s.hostWrite P.SEC (fun s => s.guarded P.SEC (fun s => s.firmwareSwap (bits w.toNat 5 4) same)))

/-- SWAP_HANDOVER: at a line boundary while a line cycle runs, the old image stops. -/
def State.swapHandover (s : State) : State :=
  if s.sec.swap.isSome && !s.sec.stopped && (!s.mer.cycle || s.acq.switchDue) then
    s.setSec (fun c => { c with stopped := true, paused := true, stopAt := s.now })
  else s

def execSwapHandover (t : Nat) (s : State) : Host.Outcome State Fault Refusal := .next (s.upto t).swapHandover

/-- SWAP_TIMEOUT: 5 ms after its start the new image has not reported itself running. -/
def State.swapTimeout (s : State) : State :=
  match s.sec.swap with
  | none => s
  | some slot =>
    if s.sec.stopped && decide (s.sec.stopAt + 5000000000 ≤ s.now) then
      let s := s.setSec (fun c => { c with swap := none, st := if c.run = 3 then 1 else 2 })
      (s.secResult 3 slot 9).imageRejected slot
    else s

def execSwapTimeout (t : Nat) (s : State) : Host.Outcome State Fault Refusal := .next (s.upto t).swapTimeout

/-- A pause of the services ends: it is counted (R537). -/
def State.pauseOver (s : State) : State :=
  s.setSec (fun c => { c with pauses := c.pauses + 1, longest := max c.longest (s.now - c.stopAt) })

/-- CORE_RESUME (R17, R548): the new image reports itself running, or the old one has restarted. -/
def State.coreResume (s : State) : State :=
  if !s.sec.stopped then s
  else
    let s := s.pauseOver
    match s.sec.swap with
    | some slot =>
      let s := ((s.imageStart slot true).evt P.SEC 13).setAttn 1
      (if slot < 2 then s.bootRecord slot else s).servicesServe
    | none =>
      if s.sec.run = 3 then s.setSec (fun c => { c with stopped := false }) else (s.imageRuns s.sec.run).servicesServe

def execCoreResume (t : Nat) (s : State) : Host.Outcome State Fault Refusal := .next (s.upto t).coreResume

end Sys2Proof.Machine
end

