-- ==== Sys2Proof/Machine/Link.lean ====
section
/-! DEFINITION. The host links' state (spec/14 R464 to R466, R470 to R473, R479, R482): the PCIe link, its errors, MSI-X,
the write lock and configuration space. -/

namespace Sys2Proof.Machine

def State.setHlk (s : State) (f : Hlk → Hlk) : State := { s with hlk := f s.hlk }

/-! ## Which links are present (R464) -/

def State.iface (s : State) : Nat := bits s.straps 1 0
def State.pcieOn (s : State) : Bool := s.iface != 2
def State.spiOn (s : State) : Bool := s.iface != 1

/-! ## The link (R471, R482) -/

def State.linkUp (s : State) : Bool := s.flag R.HLK_LINK F.HLK_LINK.UP

/-- Show speed, width and whether the data link layer is up; the maximum payload is that of Device Control. -/
def State.showLink (s : State) (up : Bool) (speed width : Nat) : State :=
  let mps := min 2 (bits s.devCtl 7 5)
  s.setReg R.HLK_LINK (BitVec.ofNat 32 (s.iface * 2 ^ 30 + mps * 2 ^ 16 + width % 16 * 2 ^ 8 + speed % 8 * 2 + up.toNat))

/-- Every DMA channel is disabled (R455, R471). -/
def State.dmaAllOff (s : State) : State := forN 64 State.dmaDisable s

/-- DL_Down (R471, R479). -/
def State.dlDown (s : State) : State :=
  let s := (s.dmaAllOff.showLink false 0 0).setHlk (fun h => { h with st := 0, credits := none })
  let s := if s.fld R.HLK_WLOCK F.HLK_WLOCK.OWN = 1 then s.setReg R.HLK_WLOCK 0 else s
  (s.evt P.HLK 9).fault 0x1601 0

/-- DL_DOWN: the data link layer of a link that was up reports down. -/
def execDlDown (t : Nat) (s : State) : Host.Outcome State Fault Refusal :=
  let s := s.upto t
  .next (if s.linkUp then s.dlDown else s)

/-- LINK_UP (R482): the link has trained to a speed (1 to 5) and a width. -/
def execLinkUp (speed width t : Nat) (s : State) : Host.Outcome State Fault Refusal :=
  let s := s.upto t
  if s.pcieOn ∧ s.hlk.perst ∧ !s.linkUp ∧ s.pwr.st ≠ 6 then
    .next (((s.showLink true speed width).setHlk (fun h => { h with st := 2 })).evt P.HLK 8)
  else .next s

/-- LINK_RETRAIN (R470, R482): the link entered Recovery; a new speed or width is reported. -/
def execLinkRetrain (speed width t : Nat) (s : State) : Host.Outcome State Fault Refusal :=
  let s := s.upto t
  if s.linkUp then
    let new_ := s.fld R.HLK_LINK F.HLK_LINK.SPEED != speed % 8 || s.fld R.HLK_LINK F.HLK_LINK.WIDTH != width % 16
    let s := (s.bumpFld R.HLK_PCNT3 F.HLK_PCNT3.RECOV 1).evt P.HLK 10
    .next (if new_ then (s.showLink true speed width).evt P.HLK 13 else s)
  else .next s

/-! ## Errors of the partner (R470) -/

/-- Count an error of the partner. -/
def State.partnerError (s : State) (a : Nat) (f : Fld) : State := (s.bumpFld a f 1).evt P.HLK 10

/-- A received TLP or link error. kind: 0 malformed TLP, 1 unsupported request, 2 poisoned write or ECRC error,
3 unexpected completion, 4 LCRC or sequence error; posted: no completion is due. -/
def State.rxError (s : State) (kind : Nat) (posted : Bool) : State :=
  match kind with
  | 0 => (s.partnerError R.HLK_PCNT0 F.HLK_PCNT0.MAL).send (.link 18)
  | 1 => (s.partnerError R.HLK_PCNT0 F.HLK_PCNT0.UR).when (!posted) (fun s => s.send (.completionError 1))
  | 2 => (s.partnerError R.HLK_PCNT1 F.HLK_PCNT1.POIS).send (.link 12)
  | 3 => (s.partnerError R.HLK_PCNT2 F.HLK_PCNT2.UNX).send (.link 16)
  | 4 => (s.partnerError R.HLK_PCNT3 F.HLK_PCNT3.LCRC).send (.link 6)
  | _ => s

/-- PCIE_RX_ERROR. -/
def execPcieRxError (kind : Nat) (posted : Bool) (t : Nat) (s : State) : Host.Outcome State Fault Refusal :=
  let s := s.upto t
  .next (if s.linkUp then s.rxError kind posted else s)

/-! ## MSI-X (R472, R473) -/

/-- Vector v is unmasked with its pending bit set: its message is sent. -/
def State.msixFlush (s : State) (v : Nat) : State :=
  if s.hlk.msixEn && !s.vecMasked v && s.hlk.pba.getLsbD v then
    (s.setHlk (fun h => { h with pba := h.pba &&& ~~~(BitVec.ofNat 64 (2 ^ v)) })).send (.msix v)
  else s

def State.msixCtl (s : State) (v : Nat) (w : Word) : State :=
  (s.setHlk (fun h => { h with msixCtl := tabPut 1 h.msixCtl v w })).msixFlush v

/-- MSIX_UNMASK (R473): the mask bit of vector v is written 0. -/
def execMsixUnmask (v : Nat) (s : State) : Host.Outcome State Fault Refusal :=
  .next (if v < 64 ∧ !s.busDark then s.msixCtl v (tabGet (1 : Word) s.hlk.msixCtl v &&& 0xFFFFFFFE#32) else s)

/-- A read of the MSI-X table (64 entries of 16 bytes) or of the pending bit array. -/
def State.msixRead (s : State) (a : Nat) : Word :=
  if a < 0x148400 then
    let o := a - 0x148000
    if o % 16 = 12 then tabGet (1 : Word) s.hlk.msixCtl (o / 16) else tabGet (0 : Word) s.hlk.msixTab o
  else if a = 0x149000 then s.hlk.pba.truncate 32
  else if a = 0x149004 then (s.hlk.pba >>> 32).truncate 32
  else 0

/-- A write of the MSI-X table; the pending bit array is read-only. -/
def State.msixWrite (s : State) (a : Nat) (w : Word) : State :=
  if a < 0x148400 then
    let o := a - 0x148000
    if o % 16 = 12 then s.msixCtl (o / 16) w
    else s.setHlk (fun h => { h with msixTab := tabPut 0 h.msixTab o w })
  else s

/-- An address of one of the two MSI-X structures (R36). -/
def msixAddr (a : Nat) : Bool :=
  (decide (0x148000 ≤ a) && decide (a < 0x148400)) || (decide (0x149000 ≤ a) && decide (a < 0x149008))

/-! ## The write lock (R479, R480) -/

def State.wlockOwn (s : State) : Nat := s.fld R.HLK_WLOCK F.HLK_WLOCK.OWN

/-- A write of HLK_WLOCK.OWN by a link: 0 PCIe, 1 the management SPI. -/
def State.wlockWrite (s : State) (link w : Nat) : State :=
  let own := s.wlockOwn
  let v := bits w 1 0
  if own = 0 ∧ v ≠ 0 then s.setReg R.HLK_WLOCK (BitVec.ofNat 32 (link + 1))
  else if own = link + 1 ∧ v = 0 then s.setReg R.HLK_WLOCK 0
  else s

/-- WLOCK_WRITE. -/
def execWlockWrite (link : Nat) (w : Word) (s : State) : Host.Outcome State Fault Refusal :=
  .next (if link < 2 then s.hostWrite P.HLK (fun s => s.wlockWrite link w.toNat) else s)

/-- The write lock keeps a link's write to an address out. -/
def State.wlocked (s : State) (link a : Nat) : Bool :=
  s.wlockOwn != 0 && s.wlockOwn != link + 1 && a != R.HLK_WLOCK

/-! ## Configuration space (R465, R466, R573) -/

/-- Reset value of a configuration word that the manual states. The places of the capabilities (power management 0x40,
PCI Express 0x70, MSI-X 0xB0) and the layout of their words are those of the PCIe specification (PRESUMED,
notes/assumptions 62). -/
def cfgStated (off : Nat) : Option Nat :=
  match off with
  | 0x08 => some 0x11800001
  | 0x10 => some 0
  | 0x14 => some 0
  | 0x18 => some 0xC
  | 0x1C => some 0
  | 0x20 => some 0
  | 0x24 => some 0
  | 0x30 => some 0
  | 0x78 => some 0x2010
  | 0x98 => some 0
  | 0xB4 => some 0x148000
  | 0xB8 => some 0x149000
  | _ => none

/-- A configuration word. -/
def State.cfgRead (s : State) (off : Nat) : Word :=
  match off with
  | 0x00 => BitVec.ofNat 32 (0x9640 * 65536 + (Config.cfgReset 0).toNat % 65536)
  | 0x2C => BitVec.ofNat 32 (if s.sec.run = 3 then 0 else imgSub (s.slot s.sec.run).bytes)
  | 0x3C => BitVec.ofNat 32 (putBits (tabGet (Config.cfgReset 0x3C) s.hlk.cfg 0x3C).toNat 15 8 0)
  | 0xB0 => BitVec.ofNat 32 (putBits (putBits (Config.cfgReset 0xB0).toNat 31 30 (s.hlk.msixEn.toNat * 2 + s.hlk.funcMask.toNat)) 26 16 63)
  | _ => tabGet (match cfgStated off with
      | some v => BitVec.ofNat 32 v
      | none => Config.cfgReset off) s.hlk.cfg off

def State.cfgPut (s : State) (off : Nat) (w : Word) : State :=
  s.setHlk (fun h => { h with cfg := tabIns h.cfg off w })

/-- A write of a configuration word, apart from the power state. -/
def State.cfgWrite (s : State) (off : Nat) (w : Word) : State :=
  let v := w.toNat
  match off with
  | 0x10 => s.cfgPut off (BitVec.ofNat 32 (bits v 31 24 * 2 ^ 24))
  | 0x18 => s.cfgPut off (BitVec.ofNat 32 (bits v 31 26 * 2 ^ 26 + 0xC))
  | 0x1C => s.cfgPut off w
  | 0x78 =>
    let s := s.cfgPut off w
    s.showLink s.linkUp (s.fld R.HLK_LINK F.HLK_LINK.SPEED) (s.fld R.HLK_LINK F.HLK_LINK.WIDTH)
  | 0x98 => s.cfgPut off (BitVec.ofNat 32 (putBits v 4 4 0))
  | 0xB0 =>
    let s := s.setHlk (fun h => { h with msixEn := bit v 31, funcMask := bit v 30 })
    forN 64 State.msixFlush s
  | _ =>
    if off = 0x00 ∨ off = 0x08 ∨ off = 0x2C ∨ (cfgStated off).isSome then s
    else s.cfgPut off (Config.cfgAfter off (s.cfgRead off) w)

/-- Configuration space, MSI-X table and pending bits return to reset (R571). -/
def State.cfgReset (s : State) : State :=
  s.setHlk (fun h => { h with
    msixEn := false, funcMask := false, msixTab := [], msixCtl := [], pba := 0, cfg := [], d3hot := false })

end Sys2Proof.Machine
end

