-- ==== Sys2Proof/Machine/Cdr.lean ====
section
/-! DEFINITION. The Clock Drive (spec/11): move queues, profile ticks, group moves, microstep addresses, coil current,
encoders, stalls, stops and homing. -/

namespace Sys2Proof.Machine

def xMin : Int := -(2 ^ 47)
def xMax : Int := 2 ^ 47 - 1

/-- A value in its signed 48-bit register (R358, R359); one beyond the register's range leaves a value the manual does not
state (notes/assumptions 113). -/
def pos48 (v : Int) : Int := if xMin ≤ v ∧ v ≤ xMax then v else toSigned 48 (Config.posOver v % 2 ^ 48)

/-! ## Pushes (R360) -/

/-- Target of the staged move (R359, R360). -/
def State.pushTarget (s : State) (x : Nat) (rel : Bool) : Int :=
  let t := toSigned 48 (s.reg64 (R.CDRx_MTGT x) % 2 ^ 48)
  let base := match (s.axis x).queue.getLast? with
    | some m => m.tgt
    | none => (s.axis x).x
  sat (if rel then base + t else t) xMin xMax

/-- The staged move with the flags of an MCTL word. -/
def State.stagedMove (s : State) (x : Nat) (w : Word) : Move :=
  let n := w.toNat
  { tgt := s.pushTarget x (bit n 1), vel := (s.reg (R.CDRx_MVEL x)).toNat, acc := (s.reg (R.CDRx_MACC x)).toNat,
    dec := (s.reg (R.CDRx_MDEC x)).toNat, jrk := (s.reg (R.CDRx_MJRK x)).toNat, tag := bits n 15 8,
    home := bit n 4, group := bit n 3, blend := bit n 2 }

/-- A push is ignored for a reason other than a full queue (R360, R394, R532). -/
def State.pushRejected (s : State) (x : Nat) : Bool :=
  [R.CDRx_MVEL x, R.CDRx_MACC x, R.CDRx_MDEC x, R.CDRx_MJRK x].any (fun a => s.reg a == 0) ||
  (s.axis x).st == 3 || !s.axisEn x || s.chr.safe || s.scanAxis == some x

/-- Push the staged move, or ignore the push. -/
def State.push (s : State) (x : Nat) (w : Word) : State :=
  let full := decide (8 ≤ (s.axis x).queue.length)
  let rej := s.pushRejected x
  if full || rej then (s.evtIf full (P.CDRx x) 12).evtIf rej (P.CDRx x) 13
  else s.setAxis x { s.axis x with queue := (s.axis x).queue ++ [s.stagedMove x w] }

/-- A write of CDRx_MCTL: the flags are kept, and PUSH = 1 pushes the move. -/
def State.mctlWrite (s : State) (x : Nat) (w : Word) : State :=
  (s.setReg (R.CDRx_MCTL x) (w &&& 0xFF1E#32)).when (bit w.toNat 0) (fun s => s.push x w)

def execMovePush (x : Nat) (w : Word) (s : State) : Host.Outcome State Fault Refusal :=
  .next (if x < 4 then s.hostWrite (P.CDRx x) (fun s => s.mctlWrite x (w ||| 1#32)) else s)

/-! ## Starting moves (R362, R364, R365, R374) -/

/-- A move starts on one axis: its M values apply, SCALE returns to 256 and the wake delay begins when SCALE was
reduced. -/
def State.startOne (s : State) (x : Nat) (m : Move) : State :=
  let s := s.applyPage .m (P.CDRx x)
  let a := s.axis x
  let zero := m.tgt * 2 ^ 32 == a.pos && !m.own
  let wake := decide (a.scale < 256) && s.fld (R.CDRx_CUR x) F.CDRx_CUR.TWAKE != 0 && !zero
  s.setAxis x { a with
    cur := some m, st := if m.home then 5 else 2, decided := false, joint := false, scale := 256, fallAt := none,
    held := false, waking := wake, wakeAt := s.now + s.fld (R.CDRx_CUR x) F.CDRx_CUR.TWAKE * 100000000,
    released := false }

/-- Does a move run as a member of a group (R364, R383)? -/
def State.runsInGroup (s : State) (x : Nat) (m : Move) : Bool := m.group && !m.home && (s.groupOfAxis x).isSome

/-- The axis can start the move at the head of its queue, apart from the condition of R365. -/
def Axis.idle (a : Axis) : Bool := a.cur.isNone && (a.st == 1 || a.st == 4)

/-- The head moves of all members of a group, when every member has a GROUP move in front and can start. -/
def State.groupHeads (s : State) (g : Nat) (chk : Axis → Bool) : Option (List (Nat × Move)) :=
  (s.groupMembers g).foldr (fun x l =>
    match l, (s.axis x).queue with
    | some l, m :: _ => if m.group && !m.home && chk (s.axis x) then some ((x, m) :: l) else none
    | _, _ => none) (some [])

/-- The member with the largest distance, the lowest of equal ones. -/
def masterOfMembers : List (Nat × (Int × Int)) → Nat × (Int × Int)
  | [] => (0, (0, 0))
  | m :: l => l.foldl (fun b (c : Nat × Int × Int) => if b.2.2.natAbs < c.2.2.natAbs then c else b) m

/-- Start a group move from the members' present positions. The master's profile starts at t0 with speed v0. -/
def State.groupBegin (s : State) (g : Nat) (l : List (Nat × Move)) (t0 v0 : Rat) : State :=
  let mem := l.map (fun (e : Nat × Move) => (e.1, ((s.axis e.1).x, e.2.tgt - (s.axis e.1).x)))
  let ms := masterOfMembers mem
  let s := foldS (fun (s : State) (e : Nat × Move) =>
    let a := s.axis e.1
    (s.setAxis e.1 { a with queue := a.queue.drop 1 }).startOne e.1 e.2) s l
  let a := s.axis ms.1
  let s := match a.cur with
    | some m => s.setAxis ms.1 { a with plan := some (planMove t0 (a.x : Rat) v0 m) }
    | none => s
  { s with cdr := { s.cdr with groups := tabIns s.cdr.groups g { master := ms.1, members := mem } } }

/-- Start the head move of an axis when R362 and R365 allow it. -/
def State.tryStart (s : State) (x : Nat) : State :=
  let a := s.axis x
  match a.queue with
  | [] => s
  | m :: rest =>
    if !a.idle || !s.axisEn x then s
    else if s.runsInGroup x m then
      match s.groupOfAxis x with
      | none => s
      | some g =>
        match s.groupHeads g Axis.idle with
        | none => s
        | some l => s.groupBegin g l (secs s.now) 0
    else
      let s := (s.setAxis x { a with queue := rest }).startOne x m
      let a := s.axis x
      s.setAxis x { a with plan := some (planMove (secs s.now) a.posQ 0 m) }

/-- A move of scan control starts at once (R394, R408). -/
def State.driveAxis (s : State) (x : Nat) (m : Move) (p : Plan) : State :=
  let s := s.startOne x m
  s.setAxis x { s.axis x with plan := some p }

/-! ## Joints and ends (R362, R363, R365, R384) -/

/-- Largest speed from which a move can still come to rest within a distance. -/
def restSpeed (cap : Rat) (d : Rat) (m : Move) : Rat := largest (fun w => rampDist w 0 m.dec m.jrk ≤ d) 0 cap

/-- The next move that move c of an axis may blend into: both run in the same direction, and the next is no home
move. In a group every member must agree, and the next move has the same master (DEDUCED, notes/assumptions 41). -/
def State.nextMove (s : State) (x : Nat) (c : Move) : Option Move :=
  let sameDir (a : Axis) (c n : Move) : Bool := match a.plan with
    | some p => (c.tgt : Rat) != p.x0 && decide (0 < p.dir * (n.tgt - c.tgt))
    | none => false
  match s.groupRunOf x with
  | none =>
    match (s.axis x).queue with
    | n :: _ => if c.blend && !c.home && !n.home && !s.runsInGroup x n && sameDir (s.axis x) c n then some n else none
    | [] => none
  | some (g, r) =>
    match s.groupHeads g (fun _ => true) with
    | none => none
    | some l =>
      let mem := l.map (fun (e : Nat × Move) =>
        (e.1, ((0 : Int), e.2.tgt - (match (s.axis e.1).cur with | some c => c.tgt | none => (s.axis e.1).x))))
      let okOne (e : Nat × Move) : Bool := match (s.axis e.1).cur with
        | some c => c.blend && (r.members.find? (fun (m : Nat × Int × Int) => m.1 == e.1)).any
            (fun (m : Nat × Int × Int) => decide (0 ≤ m.2.2 * (e.2.tgt - c.tgt)))
        | none => false
      if l.all okOne && (masterOfMembers mem).1 == r.master then
        (l.find? (fun (e : Nat × Move) => e.1 == x)).map (fun (e : Nat × Move) => e.2)
      else none

/-- The joint decision (R363): the rest of the way is planned anew when the move blends. -/
def State.decideJoint (s : State) (x : Nat) : State :=
  let a := s.axis x
  match a.plan, a.cur with
  | some p, some c =>
    let a := { a with decided := true }
    match s.nextMove x c with
    | none => s.setAxis x a
    | some n =>
      let q := p.after p.decideAt
      let x0 := p.x0 + p.dir * q.1
      let d := absQ ((c.tgt : Rat) - x0)
      let w := q.2.1
      let vmax := minQ c.vel n.vel
      let vj := restSpeed vmax (absQ ((n.tgt - c.tgt : Int) : Rat)) n
      let ve := if w ≤ vj then reach w vj d c.acc c.jrk
        else largest (fun u => rampDist w u c.dec c.jrk ≤ d) 0 vj
      let cv := cover w ve c.vel d c.acc c.dec c.jrk
      let p' := { p with t0 := p.t0 + p.decideAt, x0 := x0, v0 := w, a0 := 0, segs := cv.1, ve := ve }
      s.setAxis x { a with joint := true, plan := some p' }
  | _, _ => s

/-- Bookkeeping of a move's end on one axis (R362, R384). Moves of scan control are nobody's pushed moves. -/
def State.endOne (s : State) (x : Nat) (joint : Bool) : State :=
  let a := s.axis x
  match a.cur with
  | none => s
  | some m =>
    let s := s.setAxis x { a with
      pos := m.tgt * 2 ^ 32, cur := none, plan := none, joint := false, decided := false,
      v := if joint then a.v else 0, st := if joint then a.st else 1, tag := if m.own then a.tag else m.tag }
    let s := if m.own then s else (s.evt (P.CDRx x) 8).emit (52 + x)
    if m.home then (s.evt (P.CDRx x) 15).fault 0x1104 x else s

/-- A stop of an axis has reached rest (R380). -/
def State.stoppedOne (s : State) (x : Nat) : State :=
  let a := s.axis x
  (s.setAxis x { a with cur := none, plan := none, v := 0, st := 1, joint := false, decided := false }).evt (P.CDRx x) 9

/-- The axes whose moves end with that of an axis: itself, or its group. -/
def State.endSet (s : State) (x : Nat) : List Nat := s.stopSet x

def State.dropGroup (s : State) (x : Nat) : State :=
  match s.groupRunOf x with
  | some (g, _) => { s with cdr := { s.cdr with groups := tabErase s.cdr.groups g } }
  | none => s

/-- A move has passed its target at its joint speed, and the move it was to blend into has been discarded since: the axis
comes to rest as in a controlled stop, from the move's end on (DESIGN CHOICE, notes/assumptions 112). -/
def State.jointStop (s : State) (xs : List Nat) (x : Nat) (p : Plan) (c : Move) : State :=
  let s := foldS (fun (s : State) y => s.setAxis y { s.axis y with queue := [], st := 3 }) s xs
  s.setAxis x { s.axis x with cur := some c, plan := some (planStop p p.time c) }

/-- A profile has reached its end (R362, R363, R365, R380). -/
def State.planEnd (s : State) (x : Nat) (p : Plan) : State :=
  let xs := s.endSet x
  let g := s.groupRunOf x
  let a := s.axis x
  if a.st = 3 then
    let s := s.setAxis x { a with pos := holdPos (p.xAt p.time) }
    (foldS (fun (s : State) y => s.stoppedOne y) s xs).dropGroup x
  else
    let joint := a.joint
    let t1 := p.t0 + p.time
    let s := foldS (fun (s : State) y => s.endOne y joint) s xs
    if !joint then s.dropGroup x
    else
      match g with
      | some (g, _) =>
        match s.groupHeads g (fun _ => true) with
        | some l => (s.dropGroup x).groupBegin g l t1 p.ve
        | none => match a.cur with
          | some c => s.jointStop xs x p c
          | none => s.dropGroup x
      | none =>
        match (s.axis x).queue with
        | m :: rest =>
          let s := (s.setAxis x { s.axis x with queue := rest }).startOne x m
          let a := s.axis x
          s.setAxis x { a with plan := some (planMove t1 a.posQ p.ve m) }
        | [] => match a.cur with
          | some c => s.jointStop xs x p c
          | none => s

/-- Evaluate an axis's profile at the present tick (R359): its position and speed, its joint decision and its end.
n bounds how many joined moves may end within one tick. -/
def State.advance (s : State) (x : Nat) : Nat → State
  | 0 => s
  | n + 1 =>
    let a := s.axis x
    match a.plan with
    | none => if a.st = 3 && (s.groupRunOf x).isNone then s.stoppedOne x else s
    | some p =>
      if (s.stopSet x).any (fun y => (s.axis y).waking) then s
      else
        let t := secs s.now - p.t0
        if p.tgt.isSome && !a.decided && a.st != 3 && p.decideAt ≤ t then
          (s.decideJoint x).advance x n
        else if p.scan || t < p.time then
          let q := p.after t
          s.setAxis x { a with pos := holdPos (p.x0 + p.dir * q.1), v := p.dir * q.2.1 }
        else (s.planEnd x p).advance x n

/-- Members of a running group follow their master's progress (R365). -/
def State.follow (s : State) (g : Nat × GroupRun) : State :=
  let r := g.2
  match r.members.find? (fun (m : Nat × Int × Int) => m.1 == r.master) with
  | none => s
  | some (_, s0, dm) =>
    let am := s.axis r.master
    let prog := (am.pos - s0 * 2 ^ 32).natAbs
    if dm = 0 then s
    else foldS (fun (s : State) (m : Nat × Int × Int) =>
      if m.1 = r.master then s
      else
        let a := s.axis m.1
        s.setAxis m.1 { a with
          pos := (m.2.1 + roundHe (m.2.2 * (prog : Nat)) (dm.natAbs * 2 ^ 32 : Nat)) * 2 ^ 32,
          v := am.v * m.2.2 / dm }) s r.members

/-! ## Addresses and coil current (R368 to R374) -/

/-- r of R368 before the reduction modulo 1,024. -/
def State.rawAddr (s : State) (x : Nat) (pos : Int) : Int :=
  (if s.flag (R.CDRx_CFG x) F.CDRx_CFG.DIR then -pos else pos) + ((s.axis x).phase : Nat)

/-- Step size of a step code (R369). -/
def stepSize (code : Nat) : Nat := 4 ^ code

/-- Threshold Vk. -/
def State.resV (s : State) (x k : Nat) : Nat :=
  match k with
  | 1 => s.fld (R.CDRx_RES0 x) F.CDRx_RES0.V1
  | 2 => s.fld (R.CDRx_RES0 x) F.CDRx_RES0.V2
  | 3 => s.fld (R.CDRx_RES1 x) F.CDRx_RES1.V3
  | _ => s.fld (R.CDRx_RES1 x) F.CDRx_RES1.V4

/-- The step code that the speed (full steps/s) asks for, from the code in force (R369). -/
def State.wantCode (s : State) (x code : Nat) (fs : Rat) : Nat :=
  let h := min 50 (s.fld (R.CDRx_RESH x) F.CDRx_RESH.HYST)
  let top := min 4 (s.fld (R.CDRx_RESH x) F.CDRx_RESH.STEPMAX)
  let up := (List.range 4).foldl (fun c _ => if c < 4 ∧ ((s.resV x (c + 1) : Nat) : Rat) ≤ fs then c + 1 else c) code
  let down := (List.range 4).foldl (fun c _ =>
    if 0 < c ∧ fs * 100 < ((s.resV x c * (100 - h) : Nat) : Rat) then c - 1 else c) up
  min down top

/-- Table values IA and IB of an entry (R367). -/
def State.tableI (s : State) (x a : Nat) (b : Bool) : Int :=
  let w := s.load (0x2910000 + x * 0x1000 + a * 4) 4
  toSigned 12 (if b then bits w 11 0 else bits w 27 16)

/-- Step code, applied address and table values after X has moved from old (R368, R369). -/
def State.stepAddr (s : State) (x : Nat) (old : Int) : State :=
  let a := s.axis x
  let r0 := s.rawAddr x old
  let r1 := s.rawAddr x a.x
  let top := min 4 (s.fld (R.CDRx_RESH x) F.CDRx_RESH.STEPMAX)
  let passes := r0.fdiv 256 < r1.fdiv 256 || (-r0).fdiv 256 < (-r1).fdiv 256
  let code := min top (if passes then s.wantCode x a.code (absQ a.v / 256) else a.code)
  let st := stepSize code
  let ad := (r1 % 1024).toNat / st * st
  s.setAxis x { a with code := code, addr := ad, ia := s.tableI x ad false, ib := s.tableI x ad true }

/-- SCALE during the fall to the hold scale: 256 steps over 64 ms (R374). -/
def State.scaleStep (s : State) (x : Nat) : State :=
  let a := s.axis x
  match a.fallAt with
  | none => s
  | some t0 =>
    if a.held then s
    else
      let k := min 256 ((s.now - t0) / 250000000)
      let ih := s.fld (R.CDRx_CUR x) F.CDRx_CUR.IHOLD
      let sc := (roundHe (256 * 256 - (256 - ih : Int) * (k : Nat)) 256).toNat
      let s := s.setAxis x { a with scale := sc, held := k == 256 }
      s.evtIf (k == 256) (P.CDRx x) 18

/-- The table value a phase has taken. -/
def Axis.phaseI (a : Axis) (b : Bool) : Int := if b then a.ib else a.ia

/-- Target of a phase in 0.25 mV (R371). -/
def State.phaseV (s : State) (x : Nat) (i : Int) : Nat :=
  (roundHe (4 * (i.natAbs * s.fld (R.CDRx_CUR x) F.CDRx_CUR.RUNV * (s.axis x).scale : Nat)) (2048 * 256)).toNat

/-- Vt of a phase (R371). -/
def State.vt (s : State) (x : Nat) (b : Bool) : Nat := s.phaseV x ((s.axis x).phaseI b)

/-- Vt v has been in force until now (R373). -/
def Chop.vtRun (c : Chop) (v now : Nat) : Chop := { c with vtSum := c.vtSum + v * (now - c.vtAt), vtAt := now }

/-- A chopper cycle begins now: its drive does (R372). -/
def Chop.fresh (c : Chop) (now : Nat) : Chop := { c with cycAt := now, vtAt := now, vtSum := 0 }

/-- Both phases' Vt has been in force until this tick. -/
def State.vtTick (s : State) (x : Nat) : State :=
  let a := s.axis x
  s.setAxis x { a with chopA := a.chopA.vtRun (s.vt x false) s.now, chopB := a.chopB.vtRun (s.vt x true) s.now }

/-- What the table asks of a phase: release, hold in slow decay, or drive; a change of polarity passes through slow
decay (R370 to R372). -/
def State.chopTarget (s : State) (x : Nat) (i : Int) (c : Chop) : Chop :=
  let v := s.phaseV x i
  if (s.axis x).released || s.pwr.st == 0 || s.fld (R.CDRx_CUR x) F.CDRx_CUR.RUNV == 0 then { c with drv := 0 }
  else if v = 0 then { c with drv := 1 }
  else
    let p := decide (0 ≤ i)
    if c.drv ≤ 1 ∧ p = c.pos then { c.fresh s.now with drv := 2, stepAt := s.now }
    else if p ≠ c.pos then { c with drv := 6, pos := p, stepAt := s.now }
    else c

def State.chopTick (s : State) (x : Nat) : State :=
  let a := s.axis x
  s.setAxis x { a with chopA := s.chopTarget x a.ia a.chopA, chopB := s.chopTarget x a.ib a.chopB }

/-! ## Encoder position and deviation (R378, R379) -/

/-- E before EOFS. -/
def State.encRaw (s : State) (x : Nat) : Int := roundHe ((s.axis x).count * (s.fld (R.CDRx_ENCR x) F.CDRx_ENCR.RATIO : Nat)) 65536

def State.encEn (s : State) (x : Nat) : Bool := s.flag (R.CDRx_CFG x) F.CDRx_CFG.ENCEN

/-- Encoder position E. -/
def State.epos (s : State) (x : Nat) : Int := if s.encEn x then pos48 (s.encRaw x + (s.axis x).eofs) else 0

/-- Note since when the deviation has been outside the window. -/
def State.devTick (s : State) (x : Nat) : State :=
  let a := s.axis x
  let win := s.fld (R.CDRx_DEV x) F.CDRx_DEV.DEVWIN
  let out := s.encEn x && win != 0 && decide (win < (a.x - s.epos x).natAbs)
  s.setAxis x { a with outSince := if out then (match a.outSince with | some t => some t | none => some s.now) else none }

/-- The rest of a tick of one axis, which stood at old. -/
def State.tickTail (s : State) (x : Nat) (old : Int) : State :=
  let s := (((s.vtTick x).stepAddr x old).scaleStep x).devTick x
  let a := s.axis x
  let s := if a.cur.isSome || !a.queue.isEmpty || a.st == 3 then s.setAxis x { a with restAt := s.now } else s
  (s.chopTick x).when (!s.flag (R.CDRx_GRID x) F.CDRx_GRID.SRC) (fun s => s.gridMove x)

/-- Groups whose controlled stop has reached rest (R388). -/
def State.groupStops (s : State) : State :=
  foldS (fun (s : State) g =>
    if bit s.cdr.gstop g && (s.groupMembers g).all (fun x => (s.axis x).cur.isNone && (s.axis x).st != 3) then
      { s with cdr := { s.cdr with gstop := s.cdr.gstop - 2 ^ g } }.evt P.CDRG 9
    else s) s [0, 1, 2, 3]

/-- One profile tick at the instant t (R359, R382). -/
def State.profileTick (s : State) : State :=
  let old := [0, 1, 2, 3].map (fun x => (s.axis x).x)
  let s := foldS (fun (s : State) x => s.advance x 16) s [0, 1, 2, 3]
  let s := foldS (fun (s : State) x => s.tryStart x) s [0, 1, 2, 3]
  let s := foldS (fun (s : State) x => if (s.axis x).plan.isSome then s.advance x 16 else s) s [0, 1, 2, 3]
  let s := foldS (fun (s : State) g => s.follow g) s s.cdr.groups
  let s := foldS (fun (s : State) x => s.tickTail x ((old[x]?).getD 0)) s [0, 1, 2, 3]
  s.groupStops

def execProfileTick (t : Nat) (s : State) : Host.Outcome State Fault Refusal := .next (s.upto t).profileTick

/-! ## Stops (R366, R380, R381) -/

def execControlledStop (x : Nat) (s : State) : Host.Outcome State Fault Refusal := .next (if x < 4 then s.cstop x else s)

def execImmediateStop (x : Nat) (s : State) : Host.Outcome State Fault Refusal := .next (if x < 4 then s.freeze x false else s)

def execQueueFlush (x : Nat) (s : State) : Host.Outcome State Fault Refusal := .next (if x < 4 then s.hostWrite (P.CDRx x) (fun s => s.queueFlush x) else s)

/-- A controlled stop of every member of a group. -/
def State.groupCstop (s : State) (g : Nat) : State :=
  let l := s.groupMembers g
  let s := foldS (fun (s : State) x => if (s.axis x).st = 3 then s else s.cstop x) s l
  if l.isEmpty then s
  else if l.all (fun x => (s.axis x).cur.isNone && (s.axis x).st != 3) then s.evt P.CDRG 9
  else { s with cdr := { s.cdr with gstop := s.cdr.gstop ||| 2 ^ g } }

def execGroupCstop (g : Nat) (s : State) : Host.Outcome State Fault Refusal := .next (if g < 4 then s.hostWrite P.CDRG (fun s => s.groupCstop g) else s)

/-- An immediate stop of every member of a group, which is then at rest. -/
def State.groupIstop (s : State) (g : Nat) : State :=
  let l := s.groupMembers g
  let s := foldS (fun (s : State) x => s.freeze x false) s l
  s.evtIf (!l.isEmpty) P.CDRG 9

def execGroupIstop (g : Nat) (s : State) : Host.Outcome State Fault Refusal := .next (if g < 4 then s.hostWrite P.CDRG (fun s => s.groupIstop g) else s)

/-- A write of CDRx_CTL (R389): a stop and the discarding of the queue in the order of R382. -/
def State.cdrCtl (s : State) (x : Nat) (w : Nat) : State :=
  let s := if bit w 2 then s.queueFlush x else s
  if bit w 1 then s.freeze x false else if bit w 0 then s.cstop x else s

/-- A write of CDRG_GCMD (R387). -/
def State.cdrGcmd (s : State) (w : Nat) : State :=
  let s := foldS (fun (s : State) g => if bit w (4 + g) then s.groupIstop g else s) s [0, 1, 2, 3]
  foldS (fun (s : State) g => if bit w g && !bit w (4 + g) then s.groupCstop g else s) s [0, 1, 2, 3]

/-- The stop tasks 18 to 25 (R488): a stop of an axis at rest, or a second stop during a stop, does nothing. -/
def State.stopTask (s : State) (x : Nat) (imm : Bool) : State :=
  let a := s.axis x
  if a.cur.isNone then s
  else if imm then s.freeze x false
  else if a.st = 3 then s else s.cstop x

/-- A write of CDRx_PCTL.EN (R370, R381): the bridges are released, and EN = 0 is an immediate stop. -/
def State.cdrEnable (s : State) (x : Nat) (en : Bool) : State :=
  let s := if en then s else s.freeze x false
  s.setAxis x { s.axis x with released := true }

/-! ## The chopper (R372, R373) -/

/-- Mean Vt of the cycle in hand, in 0.25 mV (R373). -/
def State.vtMean (s : State) (x : Nat) (b : Bool) (c : Chop) : Rat :=
  let c := c.vtRun (s.vt x b) s.now
  if s.now ≤ c.cycAt then (s.vt x b : Nat) else (c.vtSum : Nat) / (((s.now - c.cycAt : Nat) : Rat))

/-- A chopper cycle is complete: its mean sensed voltage, in 1/256 of 0.25 mV, less its mean Vt, and after 16 cycles the
adaptive offset (R373). -/
def State.cycleEnd (s : State) (x : Nat) (b : Bool) (mean : Int) (c : Chop) : Chop :=
  let c := { c.fresh s.now with cycles := c.cycles + 1, err := c.err + ((mean : Rat) / 256 - s.vtMean x b c) }
  if c.cycles < 16 then c
  else
    let lim : Int := s.fld (R.CDRx_CHOP x) F.CDRx_CHOP.OFSLIM
    let e := c.err / 32
    { c with cycles := 0, err := 0, ofs := sat (c.ofs - roundHe e.num e.den) (-lim) lim }

/-- HYST in 0.25 mV; 0 is treated as 1. -/
def State.chopHyst (s : State) (x : Nat) : Nat := max 1 (s.fld (R.CDRx_CHOP x) F.CDRx_CHOP.HYST)
def State.chopToff (s : State) (x : Nat) : Nat := max 1 (s.fld (R.CDRx_CHOP x) F.CDRx_CHOP.TOFF) * 500000
def State.chopTfast (s : State) (x : Nat) : Nat := s.fld (R.CDRx_CHOP x) F.CDRx_CHOP.TFAST * 100000
def State.chopBlank (s : State) (x : Nat) : Nat := s.fld (R.CDRx_CHOP x) F.CDRx_CHOP.TBLANK * 50000

/-- The sensed voltage (0.25 mV) is at or below the lower threshold. -/
def State.belowLow (s : State) (x : Nat) (b : Bool) (sense : Nat) (c : Chop) : Bool :=
  decide (2 * (sense : Int) ≤ 2 * ((s.vt x b : Int) + c.ofs) - (s.chopHyst x : Nat))

def State.aboveHigh (s : State) (x : Nat) (b : Bool) (sense : Nat) (c : Chop) : Bool :=
  decide (2 * ((s.vt x b : Int) + c.ofs) + (s.chopHyst x : Nat) ≤ 2 * (sense : Int))

/-- Drive again: when the bridge is in opposite drive, or was less than 100 ns ago, slow decay comes first (R370). -/
def State.redrive (s : State) (x : Nat) (b : Bool) (mean : Int) (c : Chop) : Chop :=
  let c' := { s.cycleEnd x b mean c with oppAt := none, done := false }
  if c.drv = 4 then { c' with drv := 6, stepAt := s.now }
  else match c.oppAt with
    | some t => if s.now < t + 100000 then { c' with drv := 6, stepAt := t } else { c' with drv := 2, stepAt := s.now }
    | none => { c' with drv := 2, stepAt := s.now }

/-- The sensed voltage of a phase, with the mean error of the cycle: on-time ends at the upper threshold, and drive
resumes at the lower one once the off-time has passed. The sense input is ignored during blanking. -/
def State.chopSense (s : State) (x : Nat) (b : Bool) (sense : Nat) (mean : Int) (c : Chop) : Chop :=
  if s.now < c.stepAt + s.chopBlank x then c
  else if c.drv = 2 then
    if s.aboveHigh x b sense c then
      { c with drv := if s.fld (R.CDRx_CHOP x) F.CDRx_CHOP.DECAY = 0 then 5 else 3, offAt := s.now, stepAt := s.now, done := false }
    else c
  else if (c.drv = 4 ∨ c.drv = 5) ∧ c.done ∧ s.belowLow x b sense c then s.redrive x b mean c
  else c

def Axis.chop (a : Axis) (b : Bool) : Chop := if b then a.chopB else a.chopA
def State.setChop (s : State) (x : Nat) (b : Bool) (c : Chop) : State :=
  s.setAxis x (if b then { s.axis x with chopB := c } else { s.axis x with chopA := c })

def execChopperSwitch (x : Nat) (b : Bool) (sense : Nat) (mean : Int) (t : Nat) (s : State) :
    Host.Outcome State Fault Refusal :=
  if x < 4 then
    let s := s.upto t
    .next (s.setChop x b (s.chopSense x b sense mean ((s.axis x).chop b)))
  else .next s

/-- A timer of the off-time runs out: the 100 ns of slow decay between opposite drive states, TFAST of opposite drive, and
TOFF, after which the chopper may drive again once the blanking is over (R370, R372). -/
def State.chopTimer (s : State) (x : Nat) (b : Bool) (sense : Nat) (mean : Int) (c : Chop) : Chop :=
  let mixed := 2 ≤ s.fld (R.CDRx_CHOP x) F.CDRx_CHOP.DECAY
  if c.drv = 6 ∧ c.stepAt + 100000 ≤ s.now then { c.fresh s.now with drv := 2, stepAt := s.now }
  else
    let c := if c.drv = 3 ∧ c.stepAt + 100000 ≤ s.now then { c with drv := 4, stepAt := s.now } else c
    let c := if c.drv = 4 ∧ mixed ∧ c.stepAt + s.chopTfast x ≤ s.now then
        { c with drv := 5, stepAt := s.now, oppAt := some s.now }
      else c
    if (c.drv = 4 ∨ c.drv = 5) ∧ c.offAt + s.chopToff x ≤ s.now then
      let c := { c with done := true }
      if c.stepAt + s.chopBlank x ≤ s.now ∧ s.belowLow x b sense c then s.redrive x b mean c else c
    else c

def execChopperOffTimeEnd (x : Nat) (b : Bool) (sense : Nat) (mean : Int) (t : Nat) (s : State) :
    Host.Outcome State Fault Refusal :=
  if x < 4 then
    let s := s.upto t
    .next (s.setChop x b (s.chopTimer x b sense mean ((s.axis x).chop b)))
  else .next s

/-- Levels of the two bridge balls of a phase (R370). -/
def Chop.balls (c : Chop) : Bool × Bool :=
  match c.drv with
  | 0 => (true, true)
  | 2 => (c.pos, !c.pos)
  | 4 => (!c.pos, c.pos)
  | _ => (false, false)

/-! ## Hold and wake delays (R374) -/

/-- HOLD_DELAY in ps. -/
def State.holdDelay (s : State) (x : Nat) : Nat :=
  min 10000 (max 1 (s.fld (R.CDRx_HOLDT x) F.CDRx_HOLDT.HOLD_DELAY)) * 1000000000

/-- The axis has stood still with an empty queue for HOLD_DELAY: SCALE begins to fall. -/
def execHoldDelayExpiry (x t : Nat) (s : State) : Host.Outcome State Fault Refusal :=
  let s' := s.upto t
  let a := s'.axis x
  if x < 4 ∧ a.cur.isNone ∧ a.queue = [] ∧ a.st ≠ 3 ∧ a.fallAt = none ∧ a.scale = 256 ∧ a.restAt + s'.holdDelay x ≤ s'.now then
    .next (s'.setAxis x { a with fallAt := some s'.now })
  else .next s'

/-- TWAKE has passed: X begins to change. A group begins when its last member has woken. -/
def execWakeDelayExpiry (x t : Nat) (s : State) : Host.Outcome State Fault Refusal :=
  let s := s.upto t
  let a := s.axis x
  if x < 4 ∧ a.waking ∧ a.wakeAt ≤ s.now then
    let s := s.setAxis x { a with waking := false }
    if (s.stopSet x).any (fun y => (s.axis y).waking) then .next s
    else
      let m := s.masterOf x
      let am := s.axis m
      .next (match am.plan with
        | some p => s.setAxis m { am with plan := some { p with t0 := secs s.now } }
        | none => s)
  else .next s

/-! ## Faults of an axis (R375, R377, R379) -/

/-- A sensed voltage above OCLIM for 1 µs, the phase outside blanking (R375). -/
def State.overCurrent (s : State) (i : OcIn) : Bool :=
  decide (i.x < 4) && decide (8 * max 1 (s.fld (R.CDRx_CFG i.x) F.CDRx_CFG.OCLIM) < i.v) &&
    decide (((s.axis i.x).chop i.b).stepAt + s.chopBlank i.x ≤ s.now)

def execOvercurrent (x : OcIn) (t : Nat) (s : State) : Host.Outcome State Fault Refusal :=
  let s := s.upto t
  .next (if s.overCurrent x then ((s.freeze x.x true).evt (P.CDRx x.x) 16).fault 0x1101 x.x else s)

/-- TFILT in ps. -/
def State.stallTime (s : State) (x : Nat) : Nat := max 1 (s.fld (R.CDRx_DEV x) F.CDRx_DEV.TFILT) * 1000000

/-- A stall (R379): the deviation has been outside the window for TFILT. -/
def execStall (x t : Nat) (s : State) : Host.Outcome State Fault Refusal :=
  let s := s.upto t
  match (s.axis x).outSince with
  | some t0 =>
    if x < 4 ∧ t0 + s.stallTime x ≤ s.now then
      .next ((((s.freeze x false).evt (P.CDRx x) 11).emit (56 + x)).fault 0x1102 x)
    else .next s
  | none => .next s

/-- Quadrature: 0 no change, 1 or -1 a count with A leading B counting up, and none for an illegal transition. -/
def quad (a b a' b' : Bool) : Option Int :=
  if a = a' ∧ b = b' then some 0
  else if a ≠ a' ∧ b ≠ b' then none
  else if a ≠ a' then some (if a' = b then -1 else 1)
  else some (if b' = a then 1 else -1)

/-- An illegal transition of an axis encoder: counted, and a fault above BADLIM in one second (R376, R377), which, from the
last kept line's capture end to the next line's trigger, gives that line SEAM with an encoder grid (R412). -/
def State.axisBad (s : State) (x : Nat) : State :=
  let a := s.axis x
  let sec := s.now / 10 ^ 12
  let n := if a.badSec = sec then a.badN + 1 else 1
  let s := (s.setAxis x { a with badSec := sec, badN := n }).bump (R.CDRx_ENCBAD x) 1
  if n = s.fld R.CDRG_ENCF F.CDRG_ENCF.BADLIM + 1 then
    let s := if s.encEn x then s.freeze x false else s
    let kept := (5 ≤ s.ssc.st ∧ s.ssc.st ≤ 8) ∨ ((s.ssc.st = 3 ∨ s.ssc.st = 4) ∧ s.captureOver ∧ s.mer.transit = [])
    let s := if s.scanAxis = some x ∧ kept ∧ s.flag (R.CDRx_GRID x) F.CDRx_GRID.SRC then
        { s with ssc := { s.ssc with seam := true } }
      else s
    (s.evt (P.CDRx x) 17).fault 0x1103 x
  else s

def State.followBad (s : State) : State :=
  let sec := s.now / 10 ^ 12
  let n := if s.cdr.fBadSec = sec then s.cdr.fBadN + 1 else 1
  let s := { s with cdr := { s.cdr with fBadSec := sec, fBadN := n } }.bump R.CDRG_FBAD 1
  if n = s.fld R.CDRG_ENCF F.CDRG_ENCF.BADLIM + 1 then (s.evt P.CDRG 8).fault 0x1001 0 else s

/-- New accepted levels of A and B at an encoder: an axis (0 to 3) or the follow encoder (4) (R376). -/
def State.encoderEdge (s : State) (src : Nat) (a b : Bool) : State :=
  if src < 4 then
    let ax := s.axis src
    let s := s.setAxis src { ax with encA := a, encB := b }
    match quad ax.encA ax.encB a b with
    | none => s.axisBad src
    | some d =>
      let d := if s.flag (R.CDRx_CFG src) F.CDRx_CFG.ENCDIR then -d else d
      let s := s.setAxis src { s.axis src with count := pos48 (ax.count + d) }
      s.when (s.flag (R.CDRx_GRID src) F.CDRx_GRID.SRC) (fun s => s.gridMove src)
  else if src = 4 then
    let q := quad s.cdr.fA s.cdr.fB a b
    let s := { s with cdr := { s.cdr with fA := a, fB := b } }
    match q with
    | none => s.followBad
    | some d =>
      if s.flag R.CDRG_FCFG F.CDRG_FCFG.EN then
        let d := if s.flag R.CDRG_FCFG F.CDRG_FCFG.FDIR then -d else d
        { s with cdr := { s.cdr with fcount := pos48 (s.cdr.fcount + d) } }.followMove
      else s
  else s

/-- The levels have been stable for FILT ns: the device accepts them (R376). -/
def State.accepted (s : State) (i : EncIn) : Bool := decide (s.fld R.CDRG_ENCF F.CDRG_ENCF.FILT * 1000 ≤ i.held)

def execEncoderEdge (src : EncIn) (a b : Bool) (t : Nat) (s : State) : Host.Outcome State Fault Refusal :=
  let s := s.upto t
  .next (if s.accepted src then s.encoderEdge src.src a b else s)

/-! ## Homing (R383, R384) -/

/-- The home position ZPOS. -/
def State.zpos (s : State) (x : Nat) : Int := toSigned 48 (s.reg64 (R.CDRx_ZPOS x) % 2 ^ 48)

/-- The home event of a home move, from the index edge (task false) or the home task input: X, PHASE and E are
rebased and a controlled stop begins. -/
def State.homeEvent (s : State) (x : Nat) (task : Bool) : State :=
  let a := s.axis x
  let src := s.fld (R.CDRx_HOME x) F.CDRx_HOME.SRC
  if a.st = 5 && (if src = 1 then task else !task && s.encEn x) then
    let z := s.zpos x
    let d := a.x - z
    let ph := (if s.flag (R.CDRx_CFG x) F.CDRx_CFG.DIR then (a.phase : Int) - d else (a.phase : Int) + d) % 1024
    let plan := a.plan.map (fun p => { p with x0 := p.x0 + z - a.posQ })
    let s := s.setAxis x { a with
      pos := z * 2 ^ 32, phase := ph.toNat, plan := plan, unt := false,
      eofs := if src = 1 then a.eofs else z - s.encRaw x }
    ((s.gridLost x).evt (P.CDRx x) 14).cstop x
  else s

/-- HOME_EVENT: an accepted edge of the index input Z (R376, R383). -/
def execHomeEvent (x : EncIn) (t : Nat) (s : State) : Host.Outcome State Fault Refusal :=
  let s := s.upto t
  .next (if x.src < 4 ∧ s.accepted x then s.homeEvent x.src false else s)

/-! ## Live registers (R388 to R390) -/

/-- Acceleration at the present tick along the direction of motion. -/
def State.axisAcc (s : State) (x : Nat) : Rat :=
  match (s.axis x).plan with
  | some p => (p.after (secs s.now - p.t0)).2.2
  | none => 0

/-- Distance of a controlled stop begun now, in whole microsteps, rounding free (R380). -/
def State.sdist (s : State) (x : Nat) : Nat :=
  match (s.axis x).plan, (s.axis x).cur with
  | some _, some c =>
    let d := stopDist (absQ (s.axis x).v) (s.axisAcc x) c.dec c.jrk
    min (d.floor.toNat + s.free % 2) 0xFFFFFFFF
  | _, _ => 0

/-- CDRx_PSTAT.STATE. -/
def State.axisState (s : State) (x : Nat) : Nat := if s.axisEn x then (s.axis x).st else 0

/-- X is changing: a move, a stop or a group move runs past its wake delay. -/
def Axis.moving (a : Axis) : Bool := a.cur.isSome && !a.waking

/-- Words of the computed registers of page CDRx, by offset. -/
def State.cdrRead (s : State) (x off : Nat) : Option Nat :=
  let a := s.axis x
  let w64 (v : Int) (hi : Bool) : Nat := if hi then ofSigned 64 v / 2 ^ 32 else ofSigned 64 v % 2 ^ 32
  match off with
  | 0x0A0 => some (w64 a.x false) | 0x0A4 => some (w64 a.x true)
  | 0x0A8 => some (w64 (s.epos x) false) | 0x0AC => some (w64 (s.epos x) true)
  | 0x0B0 => some (w64 a.count false) | 0x0B4 => some (w64 a.count true)
  | 0x0B8 => some (ofSigned 32 (sat (a.x - s.epos x) (-2147483648) 2147483647))
  | 0x0BC => some (ofSigned 32 (sat (a.v.floor + (s.free % 2 : Nat)) (-2147483648) 2147483647))
  | 0x0C0 => some (a.scale * 65536 + a.tag * 256 + a.unt.toNat * 128 + a.fallAt.isSome.toNat * 64 +
      (s.groupRunOf x).isSome.toNat * 32 + a.moving.toNat * 16 + a.queue.length)
  | 0x0C4 => some (s.sdist x)
  | 0x0C8 => some (a.code * 2 ^ 26 + a.addr * 65536 + a.phase)
  | 0x0CC => some (ofSigned 8 a.chopB.ofs * 2 ^ 24 + ofSigned 8 a.chopA.ofs * 65536)
  | _ => none

/-- Words of the computed registers of page CDRG, by offset. -/
def State.cdrgRead (s : State) (off : Nat) : Option Nat :=
  match off with
  | 0x058 => some (ofSigned 64 s.cdr.fcount % 2 ^ 32)
  | 0x05C => some (ofSigned 64 s.cdr.fcount / 2 ^ 32)
  | 0x064 => some (maskN 4 (fun x => (s.axis x).unt) * 65536 + maskN 4 (fun x => (s.axis x).moving))
  | _ => none
where
  /-- Mask of the axes that satisfy p. -/
  maskN (n : Nat) (p : Nat → Bool) : Nat := (List.range n).foldl (fun m i => if p i then m + 2 ^ i else m) 0

end Sys2Proof.Machine
end

