-- ==== Sys2Proof/Machine/Pass.lean ====
section
/-! DEFINITION. Records on their way from the formatters to the elastic store or the DMA engine (spec/05 R189, R192,
R195; spec/12 R405 to R408, R413 to R415; spec/01 R13, R14). -/

namespace Sys2Proof.Machine

/-- Next line number that a stream has not dealt with. -/
def State.nextNum (s : State) (k : Nat) : Nat := tabGet s.ssc.job.first s.ssc.job.next k
def State.setNextNum (s : State) (k n : Nat) : State :=
  s.setJob (fun j => { j with next := tabIns j.next k n })

/-- The first number from n on that is not lost. -/
def State.skipLost (s : State) (n : Nat) : Nat :=
  match s.ssc.job.lost.find? (fun (r : Nat × Nat) => r.1 ≤ n && n < r.1 + r.2) with
  | some r => r.1 + r.2
  | none => n

/-- The lost runs among the numbers lo to hi − 1. -/
def State.lostIn (s : State) (lo hi : Nat) : List (Nat × Nat) :=
  (s.ssc.job.lost.map (fun (r : Nat × Nat) =>
    let a := max lo r.1
    (a, min hi (r.1 + r.2) - a))).filter (fun (r : Nat × Nat) => 0 < r.2)

/-- Every number of a group is assigned, or no further one will be (R189). -/
def State.groupTaken (s : State) (k g : Nat) : Bool := g + s.osLines k ≤ s.ssc.lastNum + 1 || s.ssc.st == 9

/-- Present numbers of a stream's group that begins at g. -/
def State.present (s : State) (k g : Nat) : List Nat :=
  ((List.range (s.osLines k)).map (fun i => g + i)).filter
    (fun n => n ≤ s.ssc.lastNum && !runsHave s.ssc.job.lost n)

/-- A line's samples have all been released to the formatters (R192). -/
def State.lineReady (s : State) (n : Nat) : Bool :=
  (tabFind s.lines n).isSome && (s.lineInfo n).capDone && s.lineOut n

/-! ## Into the engine or the store -/

/-- A record joins the engine's queue of its channel directly (R405). -/
def State.passDirect (s : State) (r : Record) : State :=
  let c := s.chan r.ch
  (s.setChan r.ch { c with q := c.q ++ [r] }).feed r.ch

/-- Space outside the gap reserve (R406, R414). -/
def State.storeRoom (s : State) (n : Nat) : Bool := decide (s.est.fill - s.est.gapFill + n ≤ s.storeCap - 65536)

/-- The fill of a running Tracking job has reached HWM (R408). -/
def State.hwmCheck (s : State) : State :=
  if s.ssc.st = 3 ∧ s.jobMode = 0 ∧ !s.ssc.istopDue ∧ s.estHwm * 65536 ≤ s.est.fill then (s.evt P.EST 9).trackStop else s

/-- A record goes into the store. -/
def State.passStore (s : State) (r : Record) : State :=
  let r := { r with viaStore := true }
  let n := r.bytes.length
  let s := { s with est := { s.est with
    recs := s.est.recs ++ [r], fill := s.est.fill + n, gapFill := if r.gap then s.est.gapFill + n else s.est.gapFill
    dropping := s.est.dropping && r.gap } }
  (s.showEst.feed r.ch).hwmCheck

/-- The first record that cannot pass directly: from here on the job's records pass through the store (R13, R405). -/
def State.divert (s : State) : State :=
  if s.est.divert then s
  else (({ s with est := { s.est with divert := true } } : State).evt P.EST 8).setAttn 2

def State.passVia (s : State) (store : Bool) (r : Record) : State := if store then s.passStore r else s.passDirect r

/-- A channel can take m records of n bytes in all directly: with at most one earlier record before the last (R405). -/
def State.takesDirect (s : State) (ch m n : Nat) : Bool :=
  s.hasDesc ch && decide ((s.chan ch).q.length + m ≤ 2) && s.ringRoom ch (s.queued ch + n)

/-! ## The route of a line -/

/-- Streams whose record waits for this line as its last present one. -/
def State.lineStreams (s : State) (line : Nat) : List Nat :=
  s.streams.filter (fun k =>
    let g := s.groupFirst k line
    decide (s.nextNum k ≤ line) && s.groupTaken k g && (s.present k g).getLast? == some line)

/-- Every record of the line can pass directly. -/
def State.allDirect (s : State) (line : Nat) : Bool :=
  let ks := s.lineStreams line
  ks.all (fun k =>
    let ch := s.osCh k
    let on := ks.filter (fun k' => s.osCh k' == ch)
    s.takesDirect ch on.length (on.map s.recSize).sum)

/-- The greatest number assigned that is not lost. -/
def State.keptNum (s : State) : Nat :=
  match s.ssc.job.lost.find? (fun (r : Nat × Nat) => r.1 ≤ s.ssc.lastNum && s.ssc.lastNum < r.1 + r.2) with
  | some r => r.1 - 1
  | none => s.ssc.lastNum

/-- The grid's furthest point goes back to the last line kept (R413). -/
def State.backToKept (s : State) : State :=
  match s.ssc.grid with
  | none => s
  | some g =>
    let n := s.keptNum
    let g := { g with far := s.ssc.lastK - ((s.ssc.lastNum - n : Nat) : Int) }
    (s.setSsc (fun x => { x with grid := some g, lastKept := n })).setReg64 R.SSC_LASTKEPT n

/-- The line is dropped on every stream: the store cannot hold its records (R413, R414). -/
def State.dropStored (s : State) (line : Nat) : State :=
  let s := { s with est := { s.est with dropping := true } }
  let s := (((s.evt P.EST 11).setAttn 2).evt P.SSC 12).loseLine line
  let i := s.lineInfo line
  let s := (s.setLine line { i with sent := i.owed }).lineTidy line
  s.when (s.jobMode == 0 && s.ssc.st != 3 && s.ssc.st != 9) State.backToKept

/-- Settle the route of a line: 1 direct, 2 store, 0 dropped. -/
def State.chooseRoute (s : State) (line : Nat) : State × Nat :=
  match tabFind s.ssc.job.route line with
  | some r => (s, r)
  | none =>
    let put (s : State) (r : Nat) : State := s.setJob (fun j => { j with route := tabIns j.route line r })
    if !s.est.divert && s.allDirect line then (put s 1, 1)
    else if s.storeRoom ((s.lineStreams line).map s.recSize).sum then (put s.divert 2, 2)
    else (s.dropStored line, 0)

/-! ## Gap records (R195, R415) -/

/-- Gap records of a run: COUNT is at most 0xFFFFFFFF. -/
def State.gapRecords (s : State) (k first : Nat) : Nat → Nat → List Record
  | 0, _ => []
  | n + 1, count =>
    if count = 0 then []
    else
      let c := min count 0xFFFFFFFF
      { stream := k, ch := s.osCh k, line := first, gap := true, bytes := s.gapRecord k first c, viaStore := false } ::
        s.gapRecords k (first + c) n (count - c)

/-- A run is reported once on each line DMA channel, by the lowest stream the channel carries (R415). -/
def State.gapsOf (s : State) (k : Nat) (r : Nat × Nat) : List Record :=
  if s.streams.any (fun k' => k' < k && s.osCh k' == s.osCh k) then []
  else s.gapRecords k r.1 (r.2 / 0xFFFFFFFF + 1) r.2

def State.passGaps (s : State) (store : Bool) (k : Nat) (l : List (Nat × Nat)) : State :=
  foldS (fun (s : State) r => s.passVia store r) s (l.flatMap (s.gapsOf k))

/-- The gap reserve has room for the gap records of some runs (R406). -/
def State.gapRoom (s : State) (k : Nat) (l : List (Nat × Nat)) : Bool :=
  decide (s.est.gapFill + 64 * (l.flatMap (s.gapsOf k)).length ≤ 65536)

/-! ## A formatter passes what is due on its stream -/

/-- A number that every stream which owes it has passed needs no route any more; what is known of the line goes. -/
def State.markSent (s : State) (k n : Nat) : State :=
  let i := s.lineInfo n
  let i := { i with sent := i.sent ||| 2 ^ k }
  let s := if (i.sent &&& i.owed) = i.owed then s.setJob (fun j => { j with route := tabErase j.route n }) else s
  (s.setLine n i).lineTidy n

/-- Two enabled streams share a stream's DMA channel: their records are unpredictable (R184). -/
def State.chShared (s : State) (k : Nat) : Bool := (s.streams.filter (fun k' => s.osCh k' == s.osCh k)).length != 1

/-- The bytes of a line record: free where two streams share the channel (R184). -/
def State.recordBytes (s : State) (k g : Nat) (ls : List Nat) : List Byte :=
  let b := s.lineRecord k g ls
  if s.chShared k then (List.range b.length).map (fun i => BitVec.ofNat 8 (s.freeAt (2785280 + i))) else b

/-- Pass the record of the group that begins at g with its present lines: the run ahead of it, the record, the runs
inside it. A run that reaches the group's end stays open (R415). -/
def State.passGroup (s : State) (k p g : Nat) (ls : List Nat) (store : Bool) : State :=
  let e := min (g + s.osLines k) (s.ssc.lastNum + 1)
  let ahead := if p < g then [(p, g - p)] else []
  let inside := s.lostIn (max p g) e
  let closed := inside.filter (fun (r : Nat × Nat) => r.1 + r.2 < e)
  let next := match inside.find? (fun (r : Nat × Nat) => e ≤ r.1 + r.2) with
    | some r => r.1
    | none => e
  let r : Record := { stream := k, ch := s.osCh k, line := g, gap := false, bytes := s.recordBytes k g ls, viaStore := false }
  let s := s.passGaps store k ahead
  let s := s.passVia store r
  let s := s.passGaps store k closed
  let s := (s.setJob (fun j => { j with
    owe := j.owe.filter (fun (o : Nat × Owe) => o.1 % 4 != k || o.1 / 4 < p || g ≤ o.1 / 4) })).setNextNum k next
  (foldS (fun (s : State) n => s.markSent k n) s ls).skipFree (2785280 + r.bytes.length)

/-- At the end of a job the run that is still open is reported (R395, R415). -/
def State.passTail (s : State) (k p : Nat) : State :=
  let run := (p, s.ssc.lastNum + 1 - p)
  let store := s.est.divert || !s.takesDirect (s.osCh k) 1 64
  if store && !s.gapRoom k [run] then s
  else ((s.when store State.divert).passGaps store k [run]).setNextNum k (s.ssc.lastNum + 1)

/-- RECORD_PASS (R189, R192, R405, R414): what is due next on a stream. -/
def State.recordPass (s : State) (k : Nat) : State :=
  let p := s.nextNum k
  let n := s.skipLost p
  if s.ssc.lastNum < n then
    if s.ssc.st = 9 ∧ p ≤ s.ssc.lastNum then s.passTail k p else s
  else
    let g := s.groupFirst k n
    let ls := s.present k g
    if !s.groupTaken k g || !ls.all s.lineReady then s
    else
      match ls.getLast? with
      | none => s
      | some key =>
        let s' := s.chooseRoute key
        if s'.2 = 0 then s'.1
        else
          let store := s'.2 == 2
          let e := min (g + s.osLines k) (s.ssc.lastNum + 1)
          if store && !s'.1.gapRoom k ((if p < g then [(p, g - p)] else []) ++ s.lostIn (max p g) e) then s'.1
          else s'.1.passGroup k p g ls store

def execRecordPass (stream t : Nat) (s : State) : Host.Outcome State Fault Refusal :=
  let s := s.upto t
  .next (if 3 ≤ s.ssc.st ∧ s.osEn stream then s.recordPass stream else s)

/-- STORE_DRAINED (R13): the store is empty and direct passing resumes. -/
def execStoreDrained (t : Nat) (s : State) : Host.Outcome State Fault Refusal :=
  let s := s.upto t
  if s.est.divert ∧ s.est.recs = [] then
    .next (({ s with est := { s.est with divert := false, dropping := false } } : State).evt P.EST 12)
  else .next s

end Sys2Proof.Machine
end

