-- ==== Sys2Proof/Machine/Ssc.lean ====
section
/-! DEFINITION. Scan control (spec/12 R391 to R413): the job's commands, the Tracking stop, back-up and restart, and the
job's end. -/

namespace Sys2Proof.Machine

def State.cmdIgnored (s : State) : State := s.evt P.SSC 15

/-- SSC_ARM (R392): derivation and admission begin. -/
def State.arm (s : State) : State := if s.ssc.st = 0 then s.setSsc (fun x => { x with st := 1 }) else s.cmdIgnored
def execSscArm (s : State) : Host.Outcome State Fault Refusal := .next (s.hostWrite P.SSC (fun s => s.arm))

/-! ## Driving the scan axis (R394, R408) -/

/-- The scan axis can be driven: its limits are not 0 (DEDUCED, notes/assumptions 48). -/
def State.scanMoves (s : State) : Bool := s.spd != 0 && s.tacc != 0 && s.tjrk != 0

/-- A move of scan control with the scan move's limits. -/
def State.scanMove (s : State) (tgt : Int) : Move :=
  { tgt := tgt, vel := s.spd, acc := s.tacc, dec := s.tacc, jrk := s.tjrk, own := true }

/-- Dacc + Dset in microsteps (R394). -/
def State.leadIn (s : State) : Rat :=
  (if s.scanMoves then rampDist 0 (s.spd : Nat) (s.tacc : Nat) (s.tjrk : Nat) else 0) +
  (s.spd : Nat) * (s.fld R.SSC_TSET F.SSC_TSET.TSETTLE : Nat) / 10000

/-- Drive forward up to SSC_SPD, without an end. -/
def State.driveForward (s : State) (x : Nat) : State :=
  if s.scanMoves then
    let p : Plan := { t0 := secs s.now, x0 := (s.axis x).posQ, dir := s.gridDir x, v0 := 0, a0 := 0,
                      segs := ramp 0 (s.spd : Nat) (s.tacc : Nat) (s.tjrk : Nat), tgt := none, scan := true }
    s.driveAxis x (s.scanMove 0) p
  else s

/-- A rational rounded to one of its two neighbouring integers, which one free. -/
def State.nearQ (s : State) (r : Rat) : Int := s.nearby r.num r.den

/-- Position of the furthest grid point in microsteps (R408): with an encoder grid as the encoder stands to X. -/
def State.keptX (s : State) (x : Nat) (g : Grid) : Rat :=
  let d := s.gridDir x * pointPos (s.gridPitch x) g.far
  if s.flag (R.CDRx_GRID x) F.CDRx_GRID.SRC then
    (s.axis x).posQ + ((g.anchor + g.off + d - (s.axis x).count : Int) : Rat) * ((s.fld (R.CDRx_ENCR x) F.CDRx_ENCR.RATIO : Nat) : Rat) / 65536
  else ((g.anchor + g.off + d : Int) : Rat)

/-- B of R408. -/
def State.backLines (s : State) (x : Nat) : Nat :=
  let p := s.pitchQ x
  if p = 0 then 1 else (s.leadIn / p).ceil.toNat + 1

/-- Step 4 (R408): move backward to the restart position. -/
def State.backUp (s : State) : State :=
  let s := s.setSsc (fun x => { x with st := 5 })
  match s.scanAxis, s.ssc.grid with
  | some x, some g =>
    let b := s.backLines x
    let s := s.setReg R.SSC_BACKUP (BitVec.ofNat 32 b)
    let goal := s.keptX x g - (s.gridDir x : Rat) * (((b : Nat) : Rat) + 1 / 2) * s.pitchQ x
    if s.scanMoves then
      let m := s.scanMove (s.nearQ goal)
      (s.driveAxis x m (planMove (secs s.now) (s.axis x).posQ 0 m)).useFree
    else s
  | _, _ => s

/-- The scan axis is at rest: no move runs on it. -/
def State.scanRest (s : State) : Bool :=
  match s.scanAxis with
  | some x => (s.axis x).cur.isNone && (s.axis x).st != 3
  | none => true

/-! ## START (R394) -/

/-- The anchor of the position grid. -/
def State.anchorGrid (s : State) (x : Nat) : State :=
  let d := s.leadIn
  let enc := s.flag (R.CDRx_GRID x) F.CDRx_GRID.SRC
  let off : Rat := if enc then d * 65536 / ((s.fld (R.CDRx_ENCR x) F.CDRx_ENCR.RATIO : Nat) : Rat) else d
  let g : Grid := { anchor := s.gridSource x + s.gridDir x * s.nearQ off, far := -1, prev := s.gridSource x }
  (s.setSsc (fun j => { j with grid := some g })).useFree

/-- The job's counters as START finds them; the clamp levels start afresh (R165). -/
def State.jobStart (s : State) : State :=
  let s := s.setReg64 R.SSC_LOST 0
  let s := s.setSsc (fun x => { x with
    st := 3, preArm := false, assigned := 0, lastNum := s.chr.line, lastK := -1, ending := false, pauseF := false,
    pausers := [], pauseDue := false, istopDue := false, istopped := false, seam := false, seamFor := none,
    job := { first := s.chr.line + 1 } })
  let s := { s with plt := { s.plt with level := [] } }
  s.stgIdle.setMer (fun m => { m with cycle := true, capEnd := none, transit := [], latch := none })

def State.start (s : State) : State :=
  if s.ssc.st ≠ 2 then s.cmdIgnored
  else
    let s := s.jobStart
    match s.jobMode with
    | 0 =>
      match s.scanAxis with
      | some x => (s.anchorGrid x).driveForward x
      | none => s
    | 1 =>
      let s := s.setMer (fun m => { m with fgridOn := true, fAnchor := s.cdr.fcount, fIndex := 0 })
      s.latchTrig { line := 0, tick := s.now, pos := s.cdr.fcount, posSrc := 1, timer := false, preroll := false }
    | 2 =>
      let at_ := s.pclkAfter s.now 0 4
      let s := s.setMer (fun m => { m with timerOn := true, timerAt := at_.1, timerFr := at_.2, timerPer := 0 })
      s.latchTrig (s.plainTrig true)
    | _ => s
def execSscStart (s : State) : Host.Outcome State Fault Refusal := .next (s.hostWrite P.SSC (fun s => s.start))

/-! ## END (R395, R413) -/

def State.endCmd (s : State) : State :=
  match s.ssc.st with
  | 0 => s.cmdIgnored
  | 1 => s.cmdIgnored
  | 9 => s.cmdIgnored
  | 2 =>
    (s.setSsc (fun x => { x with lastNum := s.chr.line, job := { first := s.chr.line + 1 } })).endJob
  | 3 => s.setSsc (fun x => { x with ending := true })
  | _ => s.endJob
def execSscEnd (s : State) : Host.Outcome State Fault Refusal := .next (s.hostWrite P.SSC (fun s => s.endCmd))

/-! ## The job returns to IDLE (R391, R395, R396) -/

/-- Scan control's own state in IDLE. -/
def idleSsc (x : Ssc) : Ssc :=
  { x with
    st := 0, grid := none, preArm := false, ending := false, pauseF := false, pausers := [], pauseDue := false
    istopDue := false, istopped := false, seam := false, seamFor := none }

/-- The lamps' job settings end with the job. -/
def State.idleHel (s : State) : State :=
  let s := { s with hel := { s.hel with blindOff := 0, diagFlag := false } }
  (({ s with hel := { s.hel with diagM := 0 } } : State).setReg R.HELG_DIAGM 0).setFld R.HELG_ROWSTAT F.HELG_ROWSTAT.BLIND 0

/-- The lines, the measured slots and the store's routes end with the job. -/
def State.idleStore (s : State) : State :=
  let s := s.when (!s.hel.holding) (fun s => { s with act := { s.act with m := 0 } })
  { s with lines := [], est := { s.est with divert := false, dropping := false } }

/-- The cores leave their line-cycle power state. -/
def State.idleCores (s : State) : State :=
  if s.pwr.st = 2 then ({ s with pwr := { s.pwr with st := 1 } } : State).coresReady else s

/-- What every block does when the job returns to IDLE. -/
def State.toIdle (s : State) : State :=
  let s := (((s.darkCommit.phoJobEnd).helHold).idleStore.idleHel).setSsc idleSsc
  let s := s.stgIdle.setMer (fun m => { m with cycle := false, transit := [], timerOn := false, fgridOn := false })
  s.idleCores.evt P.SSC 14

/-- Every record of the job has left the engine or been lost. -/
def State.allLeft (s : State) : Bool :=
  s.streams.all (fun k => decide (s.ssc.lastNum < s.nextNum k)) && s.est.recs.isEmpty &&
  (List.range 64).all (fun ch => (s.chan ch).q.all (fun (r : Record) => decide (4 ≤ r.stream)))

/-- JOB_IDLE (R391, R395). -/
def State.jobIdle (s : State) : State :=
  if s.ssc.st = 9 ∧ s.captureOver ∧ s.lines.isEmpty ∧ s.allLeft ∧ s.scanRest then
    (s.toIdle).setSsc (fun x => { x with job := {} })
  else s
def execJobIdle (t : Nat) (s : State) : Host.Outcome State Fault Refusal := .next (s.upto t).jobIdle

/-! ## ABORT (R396, R517) -/

/-- The slot sequence in progress ends at once: no strobe, no conversion, no further line; what the plate islands
and formatters hold is discarded. -/
def State.cutCapture (s : State) : State :=
  let s := s.stgIdle.setMer (fun m => { m with
    phase := .idle, latch := none, transit := [], expose := none, readout := none, prev := none, lastLine := none,
    timerOn := false, fgridOn := false, preroll := false })
  let s := ({ s with hel := { s.hel with holdSlot := none } } : State).noRow
  let chans := s.acq.chans.map (fun (c : Nat × AcqCh) => (c.1, { c.2 with fabric := [] }))
  { s with
    acq := { s.acq with chans := chans, switchDue := false },
    plt := { s.plt with part := [], ob := [], reads := [], check := [], held := [], rel := [], shadow := [], trail := [], done := [] },
    lines := [] }

/-- The store is emptied without gap records; records that the engine has stay owed. -/
def State.dropRecords (s : State) : State :=
  let kept (o : Nat × Owe) : Bool := (List.range 64).any (fun ch => (s.chan ch).q.any (fun (r : Record) =>
    !r.gap && r.stream < 4 && oweKey r.line r.stream == o.1))
  let owe := s.ssc.job.owe.filter kept
  let dlv := s.ssc.job.dlv.filter (fun (d : Nat × Dlv) => owe.any (fun (o : Nat × Owe) => o.1 / 4 == d.1))
  let s := s.setJob (fun j => { j with owe := owe, dlv := dlv, route := [] })
  ({ s with est := { s.est with recs := [], fill := 0, gapFill := 0 } } : State).showEst

/-- The job is aborted: by ABORT, by Safe state, by a soft reset of the SSC page. -/
def State.abortJob (s : State) : State :=
  if s.ssc.st = 0 then s
  else if s.ssc.st = 1 then (s.setSsc (fun x => { x with st := 0 })).evt P.SSC 14
  else
    let s := match s.scanAxis with
      | some x => s.freeze x false
      | none => s
    s.cutCapture.dropRecords.toIdle
def execSscAbort (s : State) : Host.Outcome State Fault Refusal := .next (s.hostWrite P.SSC (fun s => s.abortJob))

/-! ## The Tracking stop and restart (R408 to R413) -/

/-- JOB_STOPPED (R408 step 3): at rest and after the last kept line's capture end. -/
def State.jobStopped (s : State) : State :=
  if s.ssc.st = 4 ∧ s.scanRest ∧ s.captureOver ∧ s.mer.transit = [] ∧ !s.ssc.istopDue then
    let unt := match s.scanAxis with
      | some x => (s.axis x).unt
      | none => false
    let enc := match s.scanAxis with
      | some x => s.flag (R.CDRx_GRID x) F.CDRx_GRID.SRC
      | none => false
    let n := s.keptNum
    let s := s.helHold.setSsc (fun x => { x with stopUnt := unt, seam := x.seam || (unt && !enc), lastKept := n })
    (s.setReg64 R.SSC_LASTKEPT n).backUp
  else s
def execJobStopped (t : Nat) (s : State) : Host.Outcome State Fault Refusal := .next (s.upto t).jobStopped

/-- TRACKING_PAUSE (R412): after an immediate stop of the scan axis and the last kept line's capture end. -/
def State.trackingPause (s : State) : State :=
  if s.ssc.istopDue ∧ 3 ≤ s.ssc.st ∧ s.ssc.st ≤ 7 ∧ s.captureOver ∧
      !s.mer.transit.any (fun t => t.tick ≤ s.ssc.istopAt && !t.preroll) then
    let enc := match s.scanAxis with
      | some x => s.flag (R.CDRx_GRID x) F.CDRx_GRID.SRC
      | none => false
    let unt := match s.scanAxis with
      | some x => (s.axis x).unt
      | none => false
    let n := s.keptNum
    let s := s.helHold.setSsc (fun x => { x with
      st := 8, istopDue := false, istopped := true, stopUnt := unt, seam := x.seam || (unt && !enc), lastKept := n,
      pauseDue := false, preArm := false })
    s.setReg64 R.SSC_LASTKEPT n
  else s
def execTrackingPause (t : Nat) (s : State) : Host.Outcome State Fault Refusal := .next (s.upto t).trackingPause

/-- BACKUP_DONE (R391, R413): at rest at the restart position. -/
def State.backupDone (s : State) : State :=
  if s.ssc.st = 5 ∧ s.scanRest ∧ !s.ssc.istopDue then
    if s.ssc.pauseDue then s.setSsc (fun x => { x with st := 8, pauseDue := false, istopped := false })
    else s.setSsc (fun x => { x with st := 6, flowFrom := s.now })
  else s
def execBackupDone (t : Nat) (s : State) : Host.Outcome State Fault Refusal := .next (s.upto t).backupDone

/-- RESTART_BEGIN (R408 steps 5 and 6, R409). -/
def State.restartBegin (s : State) : State :=
  let flow := max 1 (s.fld R.SSC_TSET F.SSC_TSET.FLOWT) * 1000000
  if s.ssc.st = 6 ∧ !s.ssc.istopDue ∧ blocksOf s.est.fill ≤ s.estLwm ∧ s.hostFlows ∧ s.ssc.flowFrom + flow ≤ s.now ∧ s.scanRest then
    match s.scanAxis with
    | some x =>
      if (s.axis x).unt = s.ssc.stopUnt ∨ s.ssc.istopped then
        let far := match s.ssc.grid with
          | some g => g.far
          | none => -1
        let s := s.setSsc (fun j => { j with st := 7, preArm := true, lastK := far, istopped := false })
        (s.setReg R.SSC_PRECNT 0).driveForward x
      else s
    | none => s
  else s
def execRestartBegin (t : Nat) (s : State) : Host.Outcome State Fault Refusal := .next (s.upto t).restartBegin

/-- RESUME (R391, R392, R413, R416). -/
def State.resume (s : State) : State :=
  if s.ssc.st ≠ 8 ∨ s.ssc.pausers.any (fun p => s.isUnack p.1 p.2) then s.cmdIgnored
  else
    let s := s.setSsc (fun x => { x with pausers := [], pauseF := false })
    if s.jobMode ≠ 0 then s.setSsc (fun x => { x with st := 3 })
    else if s.ssc.istopped then s.backUp
    else s.setSsc (fun x => { x with st := 6, flowFrom := s.now })
def execSscResume (s : State) : Host.Outcome State Fault Refusal := .next (s.hostWrite P.SSC (fun s => s.resume))

/-! ## Live registers (R421, R424) -/

/-- SSC_STAT with its live bits. -/
def State.sscStat (s : State) : Nat :=
  let b := (s.reg R.SSC_STAT).toNat % 16
  b + s.est.divert.toNat * 1024 + (s.ssc.seam || s.ssc.seamFor.isSome).toNat * 512 + s.ssc.pauseF.toNat * 256

/-- EST_PSTAT.STATE. -/
def State.estState (s : State) : Nat :=
  if s.storeCap = 0 then 0
  else if s.est.dropping then 4
  else if s.est.fill = 0 then 1
  else if s.estHwm != 0 && decide (s.estHwm * 65536 ≤ s.est.fill) then 3
  else 2

/-- SSC_CMD (R392 to R396): its bits act from ARM up. -/
def State.sscCmd (s : State) (w : Nat) : State :=
  let s := s.when (bit w 0) State.arm
  let s := s.when (bit w 1) State.start
  let s := s.when (bit w 2) State.endCmd
  let s := s.when (bit w 3) State.abortJob
  s.when (bit w 4) State.resume

/-- EST page soft reset (R424). -/
def State.estSoftReset (s : State) (hwm : Word) : State := (s.setReg R.EST_HWM hwm).setReg R.EST_FILL (BitVec.ofNat 32 (blocksOf s.est.fill))

end Sys2Proof.Machine
end

