-- ==== Sys2Proof/Machine/Stg.lean ====
section
/-! DEFINITION. Sensor timing outputs: edge lists of the pattern memory and the levels of STG[23:0] (spec/03 R96 to
R101). -/

namespace Sys2Proof.Machine

/-! ## Edge lists (R96 to R98) -/

/-- First address of the list of slot type ty and output o in pattern set p. -/
def stgList (p ty o : Nat) : Nat := 0x2800000 + p * 0x80000 + ty * 0x8000 + o * 0x400

/-- One entry of a list: an edge at a tap, or a run of count pclk from a pclk with its rising and falling taps. -/
inductive StgItem where
  | edge (level : Bool) (pos : Nat)
  | run (start count rise fall : Nat)
  deriving DecidableEq, Repr

def StgItem.pos : StgItem → Nat
  | .edge _ p => p
  | .run st _ r f => st * 64 + min r f

/-- Last tap that an entry occupies. -/
def StgItem.last : StgItem → Nat
  | .edge _ p => p
  | .run st n r f => (st + n - 1) * 64 + max r f

/-- The entries of a list from entry i on, at most n of them; none where a RUN word stands alone, which R98 forbids. -/
def State.stgItems (s : State) (a : Nat) : Nat → Nat → Option (List StgItem)
  | 0, _ => some []
  | n + 1, i =>
    let w := s.load (a + 4 * i) 4
    match bits w 31 30 with
    | 0 => some []
    | 1 => (s.stgItems a n (i + 1)).map (fun l => .edge (bit w 29) (bits w 16 0) :: l)
    | 2 =>
      match n with
      | 0 => none
      | m + 1 =>
        let v := s.load (a + 4 * (i + 1)) 4
        if bits v 31 30 = 3 then
          (s.stgItems a m (i + 2)).map (fun l => .run (bits w 21 11) (bits w 10 0) (bits v 11 6) (bits v 5 0) :: l)
        else none
    | _ => none

/-- The entries stand in increasing time order, without overlap (R100). -/
def stgOrdered : List StgItem → Bool
  | [] => true
  | [_] => true
  | x :: y :: l => decide (x.last < y.pos) && stgOrdered (y :: l)

/-- Transitions of an entry at taps lo to hi − 1, in order. -/
def StgItem.edges (x : StgItem) (lo hi : Nat) : List (Nat × Bool) :=
  let l := match x with
    | .edge v p => [(p, v)]
    | .run st n r f =>
      if r = f then []
      else ((List.range n).filter (fun i => decide (lo < (st + i + 1) * 64) && decide ((st + i) * 64 < hi))).flatMap
        (fun i => [((st + i) * 64 + min r f, decide (r < f)), ((st + i) * 64 + max r f, decide (f < r))])
  l.filter (fun e => lo ≤ e.1 && e.1 < hi)

/-! ## Levels (R99, R101) -/

/-- Taps of skew of output o. -/
def State.stgSkew (s : State) (o : Nat) : Nat := s.fld R.MER_BSKEW (8 * (o / 6) + 7, 8 * (o / 6))

/-- The list output o follows in the slot in hand; none where the manual calls the result unpredictable (R100). -/
def State.stgFollow (s : State) (o : Nat) : Option (List StgItem) :=
  match s.stgItems (stgList (s.fld R.MER_PSET F.MER_PSET.SET) s.mer.slotType o) 256 0 with
  | some l => if stgOrdered l then some l else none
  | none => none

/-- The latest transition of output o up to tap t that the lists of earlier slots left for this one: tap and level. -/
def State.stgEarlier (s : State) (o t : Nat) : Option (Nat × Bool) :=
  ((s.mer.late.filter (fun e => e.out == o && decide (e.pos ≤ t))).getLast?).map (fun (e : LateEdge) => (e.pos, e.level))

/-- The latest transition of a list up to tap t of a slot of lt taps, delayed by k taps. -/
def stgLatest (l : List StgItem) (k lt t : Nat) : Option (Nat × Bool) :=
  if t < k then none
  else ((l.flatMap (fun (x : StgItem) => x.edges 0 (min (t - k) (lt - 1) + 1))).getLast?).map (fun (e : Nat × Bool) => (e.1 + k, e.2))

/-- Level that output o's lists give at tap t of the slot in hand: every delayed edge takes effect at its tap, whichever
slot's list it comes from (R99, R101); a list without a defined result gives a free level. -/
def State.stgListLevel (s : State) (o t : Nat) : Bool :=
  match s.stgFollow o with
  | none => bit s.free o
  | some l =>
    match stgLatest l (s.stgSkew o) (s.slotLen * 64) t, s.stgEarlier o t with
    | none, none => bit s.mer.stg.toNat o
    | some a, none => a.2
    | none, some b => b.2
    | some a, some b => if a.1 < b.1 then b.2 else a.2

/-- Output o follows its lists (R99, R106). -/
def State.stgOn (s : State) (o : Nat) : Bool :=
  s.mer.cycle && s.mer.lock && bit (s.fld R.MER_STGEN F.MER_STGEN.EN) o

/-- Level of pin STG[o] at tap t of the slot in hand. -/
def State.stgPin (s : State) (o t : Nat) : Bool :=
  if s.stgOn o then
    (if s.mer.phase == .exposure || s.mer.phase == .tail || s.mer.phase == .flush then s.stgListLevel o t else bit s.mer.stg.toNat o)
  else bit (s.fld R.MER_STGIDLE F.MER_STGIDLE.IDLE) o

/-- The pin is driven: its sensor bank is powered (R559); otherwise it is at high impedance. -/
def State.stgDriven (s : State) (o : Nat) : Bool := bit (s.fld R.PWR_STAT F.PWR_STAT.VSOK) (o / 6)

/-- Edges of output o that its skew moves past the end of the slot in hand (R101). -/
def State.stgLate (s : State) (o : Nat) : List LateEdge :=
  let k := s.stgSkew o
  let lt := s.slotLen * 64
  match s.stgFollow o with
  | none => []
  | some l => (l.flatMap (fun (x : StgItem) => x.edges (lt - k) lt)).map
      (fun (e : Nat × Bool) => { out := o, pos := e.1 + k - lt, level := e.2 })

/-- The slot in hand ends: levels and delayed edges pass to the next one. -/
def State.stgSlotEnd (s : State) : State :=
  let lt := s.slotLen * 64
  let v : Nat := (List.range 24).foldl (fun (m : Nat) o => if s.stgListLevel o (lt - 1) then m + 2 ^ o else m) 0
  (s.setMer (fun m => { m with stg := BitVec.ofNat 24 v, late := (List.range 24).flatMap s.stgLate })).useFree

end Sys2Proof.Machine
end

