-- ==== Sys2Proof/Machine/Meridian.lean ====
section
/-! DEFINITION. Meridian's slots and lines (spec/03 R74 to R93, R104 to R106, R108): what happens at a line boundary, at
the end of every slot, and when the tap delay line locks or loses lock. -/

namespace Sys2Proof.Machine

/-! ## Values of boundaries L and C (R8, R11, R20, R29, R54, R85, R147) -/

/-- Spare g takes a changed SPR_SPg_CFG at this line boundary (R147). -/
def State.spareFree (s : State) (g : Nat) : Bool :=
  let sp := s.spare g
  let waits := match s.col.ch with
    | some c => c / 16 == g && decide (4 ≤ s.col.phase) && decide (s.col.phase ≤ 6)
    | none => false
  sp.pos != 3 && sp.nextPos != 3 && !waits

/-- The group of an address of SPR_SPg_CFG. -/
def sparePage (a : Nat) : Option Nat := (List.range 16).find? (fun g => a == R.SPR_SPg_CFG g)

/-- Pending values whose effect is more than a new active value, or that wait longer. -/
def State.lineHeld (s : State) (a : Nat) : Bool :=
  a == R.HELG_ROWEN || a == R.FFT_SWITCH || (match sparePage a with
    | some g => !s.spareFree g
    | none => false)

/-- A 1 written to a bit that acts at the line boundary. -/
def State.pendBit (s : State) (a : Nat) (f : Fld) : Bool :=
  match tabFind s.pend a with
  | some w => bit w.toNat f.2
  | none => false

/-- A rewritten value of boundary I or S, or a value of boundary L (R29). -/
def lineBnd (a : Nat) : Bool :=
  match bndOf a with
  | some .l => true
  | some .i => true
  | some .s => true
  | _ => false

/-- The streak accumulators are cleared (R183). -/
def State.streakClear (s : State) : State :=
  let s := foldS (fun (s : State) (x : Nat × Nat) => s.scanTouch x.1) s s.plt.streak
  ({ s with plt := { s.plt with streak := [] } } : State).setFlag R.PLTG_STREAK F.PLTG_STREAK.CLR false

/-- The position SPR_SPg_CFG asks for: none where rotation moves the spare (R146). -/
def State.spareWant (s : State) (g : Nat) : Option (Nat × Nat) :=
  let cfg := R.SPR_SPg_CFG g
  match s.fld cfg F.SPR_SPg_CFG.MODE with
  | 0 => if (s.spare g).nextPos = 4 then some (0, 0) else none
  | 1 => some (4, s.fld cfg F.SPR_SPg_CFG.TGT)
  | _ => some (0, 0)

/-- The primary that a change of fixed substitution gives back converts its own input again, WARM (R147). -/
def State.warmBack (s : State) (g : Nat) (goal : Nat × Nat) : State :=
  let sp := s.spare g
  if sp.nextPos = 4 ∧ goal ≠ (4, sp.nextTgt) then
    let c := 16 * g + sp.nextTgt
    s.setCh c { s.ch c with warmDue := true }
  else s

/-- Spare g follows its configuration at a line boundary (R146, R147, R149). -/
def State.spareFollow (s : State) (g : Nat) : State :=
  if s.spareFree g then
    match s.spareWant g with
    | none => s
    | some goal =>
      let s := match s.col.ch with
        | some c => if c / 16 = g then s.stepAbandon c else s
        | none => s
      let s := s.warmBack g goal
      s.setSpare g { s.spare g with nextPos := goal.1, nextTgt := goal.2 }
  else s

/-- Every value of boundary L or C becomes active, with what goes with it; a request to switch banks waits for a
captured line (R203, R205). -/
def State.lineApply (s : State) : State :=
  let clrT := s.pendBit R.FFT_DARK F.FFT_DARK.CLR
  let clrS := s.pendBit R.PLTG_STREAK F.PLTG_STREAK.CLR
  let held := s
  let s := (s.applyPend (fun a => lineBnd a && !held.lineHeld a)).colFollow held
  let s := match tabFind s.pend R.HELG_ROWEN with
    | some w => ({ s with pend := tabErase s.pend R.HELG_ROWEN } : State).rowenApply w
    | none => s
  let s := foldS State.commit s s.commitPages
  let s := s.when clrT State.darkClear
  let s := s.when clrS State.streakClear
  forN 16 State.spareFollow s

/-! ## The timer's period (R92) -/

/-- A count that runs at this line boundary keeps the PERIOD with which it began. -/
def State.timerKeep (s : State) (period : Nat) : State :=
  if s.mer.timerOn && s.mer.timerPer == 0 && decide (s.mer.timerAt ≤ s.now) then s.setMer (fun m => { m with timerPer := period })
  else s

/-- The PERIOD of the count in hand, before and after the values of this boundary are in force. -/
def State.timerBefore (s : State) : State := if s.mer.timerAt < s.now then s.timerKeep s.timerPeriod else s
def State.timerAfter (s : State) : State := s.timerKeep s.timerPeriod

/-! ## Slots (R74, R76 to R78, R81, R84, R122) -/

/-- Begin exposure slot j of the line in hand, which reads out an exposure or purges. -/
def State.exposeSlot (s : State) (j : Nat) (read : Option Exposure) : State :=
  let band := s.seqBand j
  let s := s.setMer (fun m => { m with
    phase := .exposure, slot := j, slotAt := s.now, slotType := s.fld (R.MER_SEQk j) F.MER_SEQk.TYPE
    expose := some { line := m.line, band := band }, readout := read, prev := none, boundary := m.boundary + 1 })
  let s := s.emit 49
  let s := if band < 16 then s.snapRow band false else s.noRow
  match read with
  | some e => (s.readBegin e).colSlot e
  | none => s

/-- Begin the tail slot, which reads out the line's last exposure (R78). -/
def State.tailSlot (s : State) (e : Exposure) : State :=
  let s := s.setMer (fun m => { m with
    phase := .tail, slotAt := s.now, slotType := s.fld R.MER_XTYPE F.MER_XTYPE.TAILT, expose := none, readout := some e,
    prev := none, boundary := m.boundary + 1 })
  (s.noRow.readBegin e).colSlot e

/-- Begin the flush slot (R93). -/
def State.flushSlot (s : State) : State :=
  (s.setMer (fun m => { m with
    phase := .flush, slotAt := s.now, slotType := s.fld R.MER_XTYPE F.MER_XTYPE.FLUSHT, expose := none, readout := none,
    boundary := m.boundary + 1 })).noRow

/-- A slot has ended and no other begins at once: a trigger latched long enough starts its line now (R89). -/
def State.slotsOver (s : State) : State :=
  let due := match s.mer.latch with
    | some t => decide (t.tick + s.pclkPs 4 ≤ s.now)
    | none => false
  (s.setMer (fun m => { m with phase := if due then .lineDue else .idle, expose := none, readout := none, overAt := s.now })).noRow

/-! ## Diagnostic strobes (R252 to R254) -/

/-- The GAP rows in sequence order. -/
def State.gapRows (s : State) : List Nat :=
  (s.seq.filter (fun k => k < 16)).filter (fun k => s.diagOf k == 1)

/-- A lamp of the diagnostic strobe of row k: TDIAG at its applied code. -/
def State.diagLamp (s : State) (k c : Nat) : ColRun :=
  let x := s.snapLamp k c false
  let w := s.nsTaps s.tdiag
  { x with w := w, n := 1, space := 0, sub := w, got := w }

/-- Request and run the strobe of the next GAP row (R253). -/
def State.diagStrobe (s : State) : State :=
  let l := s.gapRows
  match l[s.hel.gapNext % max 1 l.length]? with
  | none => s.slotsOver
  | some k =>
    let s := s.setMer (fun m => { m with phase := .diag, slotAt := s.now, expose := none, readout := none })
    let s := s.selectRow k ((List.range 64).map (fun c => (c, s.diagLamp k c)))
    { s with hel := { s.hel with gapNext := (s.hel.gapNext + 1) % max 1 l.length, diagRow := k, diagFlag := true } }

/-- The decision after a tail slot. -/
def State.afterTail (s : State) : State :=
  if s.mer.latch.isNone && s.strobesAllowed then s.diagStrobe else s.slotsOver

/-- n pclk pass from the latest boundary on (R81, R92). -/
def State.passPclk (s : State) (n : Nat) : State :=
  let e := s.pclkAfter s.mer.slotAt s.mer.slotFr n
  let s := s.upto e.1
  s.setMer (fun m => { m with slotFr := if s.now = e.1 then e.2 else 0 })

/-- DIAG_STROBE_END (R93, R252): the strobe's DI pclk are over and the flush slot runs at once. -/
def State.diagEnd (s : State) : State :=
  if s.mer.phase = .diag then
    (s.passPclk s.diagLen).flushSlot
  else s

def execDiagStrobeEnd (s : State) : Host.Outcome State Fault Refusal := .next s.diagEnd

/-! ## The line boundary (R20, R85, R88 to R90, R194, R205, R301, R410) -/

/-- A line may start at t: the delay line is locked, the cores have settled, and a trigger is due (R89, R105, R120). -/
def State.lineReadyAt (s : State) (t : Nat) (tr : Trig) : Bool :=
  s.mer.cycle && s.mer.lock && (s.acq.power == 3 || (s.acq.power == 1 && s.flag R.ACQG_LP F.ACQG_LP.LPJOB)) &&
  (s.mer.phase == .lineDue || (s.mer.phase == .idle && decide (tr.tick + s.pclkPs 4 ≤ max s.now t)))

/-- Key under which the device knows a pre-roll line: its low 4 bits are those of the last kept line, whose SEQ its
conversions carry (R410). -/
def State.prerollKey (s : State) : Nat := s.ssc.lastKept + 2 ^ 64 + 16 * s.fld R.SSC_PRECNT F.SSC_PRECNT.COUNT

/-- A line starts late under R89: its trigger was latched before a tail, a diagnostic strobe or a flush had ended. -/
def State.startsLate (s : State) (tr : Trig) : Bool := s.mer.prev.isNone && decide (tr.tick < s.mer.overAt)

/-- Start delays (R90, R109): an idle start within 5 pclk of its trigger is on time; PEVT.LATE tells the late starts of
R89 alone. -/
def State.lateStart (s : State) (tr : Trig) (idle : Bool) : State :=
  let x := (s.now - tr.tick) * s.pclk + s.mer.slotFr - tr.fr
  let d := x / 1000000000
  let s := s.evtIf (s.startsLate tr) P.MER 9
  if d ≤ 4 ∨ (idle ∧ x ≤ 5000000000) then s
  else
    let s := s.bump R.MER_LATECNT 1
    s.setReg R.MER_MAXDLY (BitVec.ofNat 32 (max (s.reg R.MER_MAXDLY).toNat (min (d - 4) 0xFFFFFFFF)))

/-- Some spare substitutes for a primary from this line's readout boundary on: R148 has every such line carry SPARE. -/
def State.substitutes (s : State) : Bool := s.acq.spares.any (fun (g : Nat × Spare) => g.2.nextPos == 4)

/-- The bookkeeping of a captured line's start: flags of R194 that are known now, the calibration run's line count. -/
def State.newLine (s : State) (n : Nat) (tr : Trig) : State :=
  let x := s.fft
  let cal := x.run == 1 || x.run == 2
  let take := cal && !x.copyBusy && x.runLeft != 0
  let seam := match s.ssc.seamFor with
    | some k => decide (k ≤ n)
    | none => false
  let diag := s.hel.diagFlag || (List.range 16).any (fun k => s.diagOf k == 3)
  let blend := (x.blend && x.f != 0 && x.f != 65536) || s.col.blendDue
  let i : LineInfo := {
    pos := tr.pos, posSrc := tr.posSrc, ts := s.ts, start := s.now
    ord := x.ord
    flags := (if s.substitutes then 2 else 0) + (if seam then 4 else 0) + (if diag then 16 else 0) + (if blend then 32 else 0)
    f := if x.blend then x.f else 65536, newBank := x.active, blend := x.blend, cal := take, owed := maskOfList s.streams }
  let s := s.when take (fun s => { s with fft := { s.fft with runLeft := s.fft.runLeft - 1 } })
  let s := s.when seam (fun s => s.setSsc (fun j => { j with seamFor := none }))
  { (s.setLine n i) with hel := { s.hel with diagFlag := false }, col := { s.col with blendDue := false } }

/-- Readings that apply to a line: the ground-return senses as reported last (R166). -/
def State.senseLine (s : State) : State :=
  { s with plt := { s.plt with vgr := (List.range 32).map (fun i => (i, s.hkValue (8 + i))) } }

/-- What the blocks do at a captured line boundary that they do not at a pre-roll one (R410). -/
def State.capturedLine (s : State) (n : Nat) (tr : Trig) (go : Bool) : State :=
  let s := (s.darkCommit.fftLine go).newLine n tr
  let s := (s.colLine n).phoLine n
  (s.emit 48).colServe

/-- A pre-roll line is marked at its line boundary and counted. -/
def State.prerollLine (s : State) (k : Nat) (tr : Trig) : State :=
  let i : LineInfo := { pos := tr.pos, posSrc := tr.posSrc, ts := s.ts, start := s.now, ord := s.fft.ord, preroll := true,
                        phoDone := true }
  ((s.setLine k i).bumpFld R.SSC_PRECNT F.SSC_PRECNT.COUNT 1).phoPreroll

/-- The line boundary of the line that trigger tr starts. HELG_CFL0 and HELG_CFL1 (R249) take the last kept line's number at
a pre-roll line, which has none (DESIGN CHOICE, notes/assumptions 110). -/
def State.lineBoundary (s : State) (tr : Trig) : State :=
  let n := if tr.preroll then s.prerollKey else tr.line
  let before := s.mer.prev
  let s := s.timerBefore
  let s := s.keepUse
  let s := s.setMer (fun m => { m with
    latch := none, preroll := tr.preroll, line := n, lastLine := before.map (fun (e : Exposure) => e.line) })
  let s := s.senseLine.lineApply.timerAfter.colWatch
  let s := { s with fft := { s.fft with ord := s.fft.ord + 1 } }
  let go := s.pendBit R.FFT_SWITCH F.FFT_SWITCH.GO
  let s := if tr.preroll then s.prerollLine n tr
    else ({ s with pend := tabErase s.pend R.FFT_SWITCH } : State).capturedLine n tr go
  let s := s.holdCut.helLine (if tr.preroll then s.ssc.lastKept else n)
  let s := s.acqLine
  let s := s.lineFlagIf (s.anyWarm && !tr.preroll) n 6
  s.exposeSlot 0 before

/-- END takes effect at this line boundary (R395). -/
def State.endAtLine (s : State) : State := if s.ssc.ending then s.endJob else s

/-- A line that starts exactly 4 pclk after its trigger keeps the trigger's place between two ps. -/
def State.idleStart (s : State) (tr : Trig) : State :=
  let e := s.pclkAfter tr.tick tr.fr 4
  s.setMer (fun m => { m with slotFr := if s.now = e.1 then e.2 else 0 })

/-- LINE_START (R76, R85, R88, R89): the latched trigger's line starts at t. -/
def State.lineStart (s : State) (t : Nat) : State :=
  match s.mer.latch with
  | none => s
  | some tr =>
    if s.lineReadyAt t tr then
      let idle := s.mer.phase == .idle
      let s := if idle then (s.upto t).idleStart tr else s
      ((s.lateStart tr idle).lineBoundary tr).endAtLine
    else s

/-- The sequence is one the manual describes: every band at most once, none of 17 to 31 (R75). -/
def seqGood : List Nat → Bool
  | [] => true
  | b :: l => decide (b ≤ 16) && !l.contains b && seqGood l

def execLineStart (t : Nat) (s : State) : Host.Outcome State Fault Refusal :=
  match s.mer.latch with
  | none => .next s
  | some tr => if s.lineReadyAt t tr && !seqGood s.seq then .fault .badSequence else .next (s.lineStart t)

/-! ## The end of a slot (R74, R78, R80, R84, R122) -/

/-- The capture of a line ends now (R80). -/
def State.captureEnd (s : State) (line : Nat) : State :=
  let s := (s.emit 50).setMer (fun m => { m with capEnd := some s.now })
  match tabFind s.lines line with
  | none => s
  | some i =>
    if i.preroll then s
    else (s.setLine line { i with capDone := true, capAt := s.now, capTs := s.ts }).oweLine line

/-- The slot that read out a line's last exposure has ended. -/
def State.lastReadOut (s : State) : State :=
  match s.mer.lastLine with
  | some l => (s.setMer (fun m => { m with lastLine := none })).captureEnd l
  | none => s

/-- An exposure slot ends: its strobe is cut and measured, a delayed capture end and the readout boundary come, and the
next slot is decided. -/
def State.exposureEnd (s : State) : State :=
  let j := s.mer.slot
  let s := s.cutStrobes.actSlotEnd (s.seqBand j) false
  let s := if j = 0 then s.lastReadOut.acqReadout else s
  if j + 1 < s.nslot then s.exposeSlot (j + 1) s.mer.expose
  else
    match s.mer.expose with
    | none => s.slotsOver
    | some e =>
      let chain := match s.mer.latch with
        | some t => decide (t.tick + s.pclkPs 4 ≤ s.now)
        | none => false
      if chain then
        (s.setMer (fun m => { m with phase := .lineDue, expose := none, readout := none, prev := some e })).noRow
      else (s.setMer (fun m => { m with lastLine := some e.line })).tailSlot e

/-- SLOT_BOUNDARY (R81): the slot in hand has run its length. A chained line whose trigger a pause took away leaves its
exposure to a tail slot (R417). -/
def State.slotBoundary (s : State) : State :=
  match s.mer.phase with
  | .exposure => (((s.passPclk s.slotLen).applyBnd .s).stgSlotEnd).exposureEnd
  | .tail => (((s.passPclk s.slotLen).applyBnd .s).stgSlotEnd).lastReadOut.afterTail
  | .flush => (((s.passPclk s.slotLen).applyBnd .s).stgSlotEnd).slotsOver
  | .lineDue =>
    if s.mer.latch.isSome then s
    else
      match s.mer.prev with
      | some e => (s.setMer (fun m => { m with lastLine := some e.line })).tailSlot e
      | none => s.slotsOver
  | .idle => s
  | .diag => s

def execSlotBoundary (s : State) : Host.Outcome State Fault Refusal := .next s.slotBoundary

/-! ## Lock (R105, R106, R417) -/

/-- PCLK_LOCK (R105): the tap delay line has locked to pclk, while the reference is present (R561). -/
def State.pclkLock (s : State) : State :=
  if s.flag R.PWR_STAT F.PWR_STAT.REFOK then s.setMer (fun m => { m with lock := true, locking := false }) else s

def execPclkLock (t : Nat) (s : State) : Host.Outcome State Fault Refusal :=
  .next (if s.mer.lock then s else (s.upto t).pclkLock)

/-- Everything that the islands hold of some lines is discarded. -/
def State.dropHeld (s : State) (ls : List Nat) : State :=
  let seqs := ls.map (· % 16)
  let has (n : Nat) : Bool := ls.contains n
  let chans := s.acq.chans.map (fun (c : Nat × AcqCh) =>
    (c.1, { c.2 with fabric := c.2.fabric.filter (fun w => !seqs.contains (bits w.toNat 3 0)) }))
  { s with
    acq := { s.acq with chans := chans, switchDue := false }
    plt := { s.plt with
      part := s.plt.part.filter (fun (p : Nat × Part) => !seqs.contains p.2.seq)
      ob := s.plt.ob.filter (fun (o : Nat × ObSum) => !seqs.contains o.2.seq)
      reads := s.plt.reads.map (fun (r : Nat × List Readout) => (r.1, r.2.filter (fun x => !has x.line)))
      check := []
      held := s.plt.held.filter (fun x => !has x.line)
      shadow := s.plt.shadow.filter (fun x => !has x.line) } }

/-- The slot sequence in progress ends at once, and every line whose capture has not ended is dropped. Settings and
multiplexers that waited for the cut line's readout boundary switch now: the manual does not say (DESIGN CHOICE,
notes/assumptions 97). -/
def State.cutLines (s : State) : State :=
  let open_ := (s.lines.filter (fun (l : Nat × LineInfo) => !l.2.capDone)).map (fun (l : Nat × LineInfo) => l.1)
  let real := (s.lines.filter (fun (l : Nat × LineInfo) => !l.2.capDone && !l.2.preroll)).map (fun (l : Nat × LineInfo) => l.1)
  let s := s.setMer (fun m => { m with phase := .idle, expose := none, readout := none, prev := none, lastLine := none })
  let s := (s.noRow.acqReadout).dropHeld open_
  let s := { s with lines := s.lines.filter (fun (l : Nat × LineInfo) => !l.2.preroll) }
  foldS State.dropLine s real

/-- The tap delay line loses lock (R106). -/
def State.pclkUnlock (s : State) : State :=
  if s.mer.lock then
    let s := s.setMer (fun m => { m with lock := false, locking := true })
    if s.mer.cycle then ((s.stgIdle.cutLines).evt P.MER 10).fault 0x0201 0 else s
  else s

def execPclkUnlock (t : Nat) (s : State) : Host.Outcome State Fault Refusal := .next (s.upto t).pclkUnlock

/-! ## Reports (R107, R108) -/

def State.merStat (s : State) : Nat := s.mer.latch.isSome.toNat * 256 + s.mer.lock.toNat

/-- MER_PSTAT.STATE. -/
def State.merState (s : State) : Nat :=
  match s.mer.phase with
  | .exposure => 2
  | .tail => 3
  | .diag => 4
  | .flush => 4
  | _ => if s.mer.locking then 5 else if s.mer.cycle then 1 else 0

end Sys2Proof.Machine
end

