-- ==== Sys2Proof/Machine/Hka.lean ====
section
/-! DEFINITION. The housekeeping converter (spec/08 R281 to R289): sequencer, urgent queue, thermistors, open-wire
checks. -/

namespace Sys2Proof.Machine

/-! ## Values (R281) -/

/-- Internal divider D of an input. -/
def hkDiv (i : Nat) : Nat :=
  if i = 48 ∨ i = 55 ∨ i = 60 then 4 else if i = 53 ∨ i = 54 then 2 else if i = 63 then 5 else 1

/-- Clip a code to the converter's range. -/
def hkClip (c : Int) : Int := sat c (-32768) 32767

/-- A code at a clip limit. -/
def hkOver (c : Int) : Bool := decide (c ≤ -32768) || decide (32767 ≤ c)

/-- The reported mean of an entry's codes. -/
def hkMean (l : List Int) : Int := roundHe ((l.map hkClip).foldl (· + ·) 0) (l.length : Nat)

/-- A code in µV (R281). -/
def hkMicro (i : Nat) (code : Int) : Int := roundHe (code * (hkDiv i * 1250000 : Nat)) 32768

/-! ## Natural logarithm in fixed point, 64 fraction bits (R286) -/

/-- ln 2 with 64 fraction bits. -/
def ln2Fix : Int := 12786308645202655659

/-- 2 × (z + z³/3 + … + z^(2n-1)/(2n-1)) with 64 fraction bits, for z with 64 fraction bits. -/
def atanhSum : Nat → Int → Int → Nat → Int → Int
  | 0, _, _, _, acc => 2 * acc
  | n + 1, z2, p, k, acc => atanhSum n z2 (p * z2 / 2 ^ 64) (k + 2) (acc + p / (k : Nat))

/-- ln(num / den) with 64 fraction bits, for positive num and den. -/
def lnFix (num den : Nat) : Int :=
  let e : Int := (Nat.log2 num : Int) - (Nat.log2 den : Int)
  let n : Nat := num * 2 ^ Nat.log2 den
  let d : Nat := den * 2 ^ Nat.log2 num
  let z : Int := (((n : Int) - d) * 2 ^ 64) / (n + d : Nat)
  e * ln2Fix + atanhSum 40 (z * z / 2 ^ 64) z 1 0

/-- round_he(16 × T in °C) (R286), with T to 50 bits after the point, or none where the equation has no value. vi and lead in µV, i61 the reading of
input 61 in µV. -/
def thermRound (vi lead i61 : Int) (r0 b : Nat) : Option Int :=
  let num := (vi - lead) * 10000
  let den := i61 * (max 1 r0 : Nat)
  if num ≤ 0 ∨ den ≤ 0 then none
  else
    let q : Int := 20 * 2 ^ 64 / 5963 + lnFix num.toNat den.toNat / (max 1 b : Nat)
    if q ≤ 0 then none
    else some (roundHe (80 * (2 ^ 128 / q) - 21852 * 2 ^ 64) (5 * 2 ^ 64))

/-- The latest lead-loop result, 0 while LEADEN is 0 (R286). -/
def State.leadValue (s : State) : Int :=
  if s.flag R.HKA_EXC F.HKA_EXC.LEADEN then s.hka.lead else 0

/-- A thermistor's reported temperature; free where the equation has no value (R286). -/
def State.thermValue (s : State) (vi : Int) : Int :=
  match thermRound vi s.leadValue (s.hkValue 61) (s.fld R.HKA_THR0 F.HKA_THR0.R0) (s.fld R.HKA_THB F.HKA_THB.B) with
  | some v => v
  | none => toSigned 24 (s.free % 2 ^ 24)

/-! ## Results (R282, R287, R288, R321) -/

/-- KIND acted on: 5 to 7 are 0. -/
def kindOf (k : Nat) : Nat := if 5 ≤ k then 0 else k

def openReg (i : Nat) : Nat := if i < 32 then R.HKA_OPEN0 else R.HKA_OPEN1

/-- Set or clear an input's open flags. -/
def State.setOpen (s : State) (i : Nat) (b : Bool) : State :=
  (s.setFlag (R.HKA_RESi i) F.HKA_RESi.OPEN b).setFld (openReg i) (i % 32, i % 32) b.toNat

/-- A failing check (R287). -/
def State.hkFails (s : State) (kind : Nat) (mean : Int) : Bool :=
  let thr : Int := max 1 (s.fld R.HKA_OW F.HKA_OW.OWTHR)
  if kind = 1 ∨ kind = 3 then decide (thr ≤ mean) else if kind = 4 then decide (mean ≤ -thr) else false

/-- The value a measuring entry reports, and the state that has used its free value. Die sensors report their
temperature in 1/16 °C. -/
def State.hkReport (s : State) (kind i : Nat) (mean : Int) : Int × State :=
  if 56 ≤ i ∧ i < 60 then (mean, s)
  else if kind = 1 then (s.thermValue (hkMicro i mean), s.useFree)
  else (hkMicro i mean, s)

/-- A new VALUE of input i, with what follows from it. -/
def State.hkPut (s : State) (i : Nat) (v : Int) : State :=
  let s1 := s.setFld (R.HKA_RESi i) F.HKA_RESi.VALUE (ofSigned 24 v)
  let s2 := s1.when (i == 48 && decide (25000 < (v - 2500000).natAbs)) (fun s => (s.evt P.HKA 11).fault 0x0C01 48)
  s2.tempCheck i

/-- One conversion set of an input is complete (R281, R282, R286 to R289). -/
def State.hkResult (s : State) (kind i : Nat) (codes : List Int) : State :=
  let mean := hkMean codes
  let wasOpen := s.flag (R.HKA_RESi i) F.HKA_RESi.OPEN
  let s1 := (s.setFlag (R.HKA_RESi i) F.HKA_RESi.STALE false).setFlag (R.HKA_RESi i) F.HKA_RESi.OVR (codes.any hkOver)
  let s2 := { s1 with hka := { s1.hka with lastAt := tabIns s1.hka.lastAt i s1.now } }
  if s2.hkFails kind mean then
    ((s2.setOpen i true).evt P.HKA 8).fault 0x0C02 i
  else
    let check := kind = 1 ∨ kind = 3 ∨ kind = 4
    let s3 := if check then s2.setOpen i false else s2
    if kind = 3 ∨ kind = 4 then s3
    else if wasOpen ∧ kind ≠ 1 then s3
    else
      let (v, s4) := s3.hkReport kind i mean
      let s5 := if kind = 2 ∧ i = s.fld R.HKA_EXC F.HKA_EXC.LEADIN then { s4 with hka := { s4.hka with lead := v } } else s4
      s5.hkPut i v

/-! ## The sequencer and the urgent queue (R283 to R285) -/

def entKind (w : Word) : Nat := kindOf (bits w.toNat 14 12)
def entInput (w : Word) : Nat := bits w.toNat 5 0

/-- HKA_STAT: the queue and the entry. -/
def State.hkaStat (s : State) : Nat := s.hkTake.hka.queue.length * 2 ^ 24 + s.hka.entry * 2 ^ 16

/-- The entry whose turn it is starts with its word as written by now (R283). -/
def State.hkStart (s : State) : State :=
  if s.flag R.HKA_CTL F.HKA_CTL.RUN then
    let pass := if s.hka.entry = 0 then s.now else s.hka.passAt
    { s with hka := { s.hka with running := true, startAt := s.now, entryW := s.reg (R.HKA_SEQe s.hka.entry), passAt := pass } }
  else { s with hka := { s.hka with running := false } }

/-- The turn passes to the next entry; after the last one a pass has ended (R283). -/
def State.hkTurn (s : State) : State :=
  if s.fld R.HKA_CTL F.HKA_CTL.NENT ≤ s.hka.entry then
    let s1 := s.setFld R.HKA_CYCLE F.HKA_CYCLE.US (min 16777215 ((s.now - s.hka.passAt) / 1000000))
    { s1.evt P.HKA 12 with hka := { s1.hka with entry := 0 } }
  else { s with hka := { s.hka with entry := s.hka.entry + 1 } }

/-- The end of an entry: a waiting request goes before the next one (R283, R285). -/
def State.hkNext (s : State) : State :=
  let s := s.hkTurn
  if s.hka.queue.isEmpty then s.hkStart
  else ({ s with hka := { s.hka with running := false } } : State).urgentTake s.now

/-- Instant at which the running entry ends: it lasts exactly SETTLE + AVG µs (R283). -/
def State.hkEntryEnd (s : State) : Nat := s.hkConvAt + entConv s.hka.entryW * 1000000

/-- HK_ENTRY_DONE (R281 to R283, R286 to R288, R321). Codes that do not number the entry's conversions are no entry. -/
def execHkEntryDone (x : HkIn) (t : Nat) (s : State) : Host.Outcome State Fault Refusal :=
  let s := (s.upto t).hkTake
  let w := s.hka.entryW
  if s.hka.running && s.hka.cur.isNone && x.codes.length == entConv w && decide (s.hkEntryEnd ≤ s.now) then
    .next ((s.hkResult (entKind w) (entInput w) x.codes).hkNext)
  else .next s

/-- The queue has room for one more request. -/
def State.urgentRoom (s : State) : Bool := decide (s.hkTake.hka.queue.length < 4)

/-- Enqueue an urgent request: it waits in the queue of 4 until the converter lets it start, or is dropped (R284, R285). -/
def State.urgent (s : State) (u : Urgent) : State :=
  if s.urgentRoom then s.hkTake.urgentPut u else s.hkTake.evt P.HKA 9

/-- A request that a register write of this very instant has made: an event of the same instant goes before it (R284). -/
def State.sameWrite (s : State) (u : Urgent) : Bool := !u.task && u.dac.isNone && u.at_ == s.now

/-- An event's request, enqueued before the register writes of the same instant (R284): also before one that has just
started. A write's request that then finds no room is dropped. -/
def State.urgentFirst (s : State) (u : Urgent) : State :=
  let u := { u with at_ := s.now, task := true }
  let s := s.hkTake
  let started := s.hka.urgAt == s.now && s.hka.cur.any s.sameWrite
  if started then
    let q := s.hka.cur.toList ++ s.hka.queue
    ({ s with hka := { s.hka with cur := some u, queue := q.take 4 } } : State).evtIf (decide (4 < q.length)) P.HKA 9
  else
    let q := s.hka.queue.filter (fun x => !s.sameWrite x) ++ u :: s.hka.queue.filter s.sameWrite
    (({ s with hka := { s.hka with queue := q.take 4 } } : State).evtIf (decide (4 < q.length)) P.HKA 9).urgentPull

/-- An event's request finds room: a place is free, or a write of the same instant holds one. -/
def State.eventRoom (s : State) : Bool :=
  let s := s.hkTake
  decide ((s.hka.queue.filter (fun x => !s.sameWrite x)).length < 4)

/-- The request a word of HKA_URG or HKA_UPRE makes. -/
def urgentOf (w : Word) (tag : Nat) : Urgent := { input := entInput w, kind := entKind w, tag := tag }

/-- An event on the urgent task input: one conversion of HKA_UPRE with TAG 0xFF; a dropped event also sets the task's
overrun flag (R284, R491). -/
def State.urgentTask (s : State) : State :=
  if s.eventRoom then s.urgentFirst (urgentOf (s.reg R.HKA_UPRE) 0xFF)
  else ((s.evt P.HKA 9).setFlag (R.EVF_SUBt 17) F.EVF_SUBt.OVR true).evt P.EVF 9

/-- URGENT_REQUEST (R284, R285): a write of HKA_URG, or an event on its task. -/
def execUrgentRequest (w : Word) (task : Bool) (s : State) : Host.Outcome State Fault Refusal :=
  if task then .next s.urgentTask else .next (s.hostWrite P.HKA (fun s => s.urgent (urgentOf w (bits w.toNat 31 24))))

/-- After an urgent conversion: the next one, the interrupted entry from its settle, or the entry whose turn it is. -/
def State.urgentNext (s : State) : State :=
  if !s.hka.queue.isEmpty then s.urgentTake s.now
  else
    let s := { s with hka := { s.hka with cur := none } }
    if s.hka.running then { s with hka := { s.hka with startAt := s.now } } else s.hkStart

/-- Instant at which the urgent conversion ends: it settles for USETTLE µs and converts once (R285). -/
def State.urgentEnd (s : State) : Nat := s.hka.urgAt + (s.fld R.HKA_CTL F.HKA_CTL.USETTLE + 1) * 1000000

/-- URGENT_DONE (R281, R282, R285, R286, R324): the urgent conversion completes. -/
def execUrgentDone (x : HkIn) (t : Nat) (s : State) : Host.Outcome State Fault Refusal :=
  let s := (s.upto t).hkTake
  match s.hka.cur with
  | none => .next s
  | some u =>
    if x.codes.length = 1 ∧ s.urgentEnd ≤ s.now then
      let s1 := s.hkResult u.kind u.input x.codes
      let s2 := s1.setReg R.HKA_ULAST (BitVec.ofNat 32 (u.tag % 256 * 2 ^ 24 + u.input * 65536))
      let s3 := (s2.evt P.HKA 10).emit 75
      let s4 := s3.urgentNext
      .next (if u.dac.isSome then s4.dacPoint (s4.hkValue 60) else s4.dacPump)
    else .next s

/-- HK_STALE (R289): input i has not been converted in the last 10 ms. -/
def execHkStale (i t : Nat) (s : State) : Host.Outcome State Fault Refusal :=
  let s0 := s.upto t
  if i < 64 then
    match tabFind s0.hka.lastAt i with
    | none => .next s0
    | some a => .next (s0.when (decide (10000000000 ≤ s0.now - a)) (fun s => s.setFlag (R.HKA_RESi i) F.HKA_RESi.STALE true))
  else .next s0

end Sys2Proof.Machine
end

