-- ==== Sys2Proof/Machine/Chr.lean ====
section
/-! DEFINITION. The Chronograph (spec/16 R509 to R530): acknowledgement, the log's registers, loads of the timestamp and
of the line counter, captures, and the delivery deadline. -/

namespace Sys2Proof.Machine

def State.setChr (s : State) (f : Chr → Chr) : State := { s with chr := f s.chr }

/-! ## Acknowledgement (R522) -/

/-- A write w of CHR_ACK acknowledges a fault of a code, ITEM and severity: never a Critical one, nor one raised in the
same nanosecond. -/
def State.ackHits (s : State) (w code item sev : Nat) : Bool :=
  sev != 3 && (bit w 31 || code == w % 65536) && !s.justRose code item

def State.faultAck (s : State) (w : Nat) : State :=
  s.setChr (fun c => { c with
    unack := c.unack.filter (fun u => !s.ackHits w u.1 u.2.1 u.2.2)
    log := c.log.map (fun (e : Nat × LogEntry) => (e.1, { e.2 with ack := e.2.ack || s.ackHits w e.2.code e.2.item e.2.sev })) })

/-- FAULT_ACK (R522): a write of CHR_ACK. -/
def execFaultAck (w : Word) (s : State) : Host.Outcome State Fault Refusal := .next (s.hostWrite P.CHR (fun s => s.faultAck w.toNat))

/-- The end of Safe state acknowledges every Critical fault (R522, R530, R533). -/
def State.ackCritical (s : State) : State :=
  s.setChr (fun c => { c with
    unack := c.unack.filter (fun u => u.2.2 != 3)
    log := c.log.map (fun (e : Nat × LogEntry) => (e.1, { e.2 with ack := e.2.ack || e.2.sev == 3 })) })

/-! ## The log's registers (R527 to R529) -/

/-- CHR_LOGCTL.CLR frees every acknowledged entry. -/
def State.logClear (s : State) : State :=
  s.setChr (fun c => { c with log := c.log.filter (fun (e : Nat × LogEntry) => !e.2.ack) })

def execLogClear (s : State) : Host.Outcome State Fault Refusal := .next (s.hostWrite P.CHR (fun s => s.logClear))

/-- Word j of a log entry (R527). -/
def logWord (e : LogEntry) (j : Nat) : Nat :=
  match j with
  | 0 => e.tfirst
  | 1 => e.tfirst / 2 ^ 32
  | 2 => e.tlast
  | 3 => e.tlast / 2 ^ 32
  | 4 => e.line
  | 5 => e.line / 2 ^ 32
  | 6 => e.code + e.sev * 2 ^ 16 + e.ack.toNat * 2 ^ 18 + 2 ^ 19 + e.inst * 2 ^ 24
  | _ => e.count + e.item * 2 ^ 16

/-- A write of CHR_LOGSEL: the snapshot of the entry; a free entry reads as zeros. -/
def State.logSelect (s : State) (w : Nat) : State :=
  let i := w % 64
  let word (j : Nat) : Nat := match tabFind s.chr.log i with
    | some e => logWord e j
    | none => 0
  forN 8 (fun s j => s.setReg (R.CHR_LOGEj j) (BitVec.ofNat 32 (word j))) (s.setReg R.CHR_LOGSEL (BitVec.ofNat 32 i))

def execLogSelect (w : Word) (s : State) : Host.Outcome State Fault Refusal := .next (s.hostWrite P.CHR (fun s => s.logSelect w.toNat))

/-- Valid entries of the log. -/
def State.logUsed (s : State) : Nat := s.chr.log.length

/-- CHR_UNACK: pairs unacknowledged at each severity. -/
def State.unackWord (s : State) : Nat :=
  (List.range 4).foldl (fun a sv => a + min 255 (s.chr.unack.filter (fun u => u.2.2 == sv)).length * 2 ^ (8 * sv)) 0

/-- CHR_PSTAT.STATE (R535). -/
def State.chrState (s : State) : Nat :=
  if s.chr.safe then 3
  else if s.chr.unack.any (fun u => 2 ≤ u.2.2) then 2
  else if s.chr.unack.isEmpty then 0
  else 1

/-! ## Loads (R510, R512) -/

/-- A load of the timestamp at the write of the high word. -/
def State.tsLoad (s : State) (v : Nat) : State :=
  if s.ssc.st ≠ 0 then s.evt P.CHR 12
  else (s.setReg64 R.CHR_TSLOAD v).setChr (fun c => { c with tsBase := ((v : Int) - (s.now / 1000 : Nat)) % 2 ^ 64 |>.toNat })

def execTsloadWrite (v : Nat) (s : State) : Host.Outcome State Fault Refusal := .next (s.hostWrite P.CHR (fun s => s.tsLoad (v % 2 ^ 64)))

/-- A write of the line counter. -/
def State.lineLoad (s : State) (v : Nat) : State :=
  if s.ssc.st ≠ 0 then s.evt P.CHR 12 else s.setChr (fun c => { c with line := v })

def execLineCounterWrite (v : Nat) (s : State) : Host.Outcome State Fault Refusal := .next (s.hostWrite P.CHR (fun s => s.lineLoad (v % 2 ^ 64)))

/-! ## Captures (R513) -/

/-- Capture register i stores the timestamp and the line counter together; the event reached the island 0 to 5 ns after
it passed its channel, which the manual does not fix further (a free value). -/
def State.capture (s : State) (i : Nat) : State :=
  let ts := (s.ts + s.free % 6) % 2 ^ 64
  let s := (s.useFree.setReg64 (R.CHR_CAPi_TS i) ts).setReg64 (R.CHR_CAPi_LINE i) s.chr.line
  s.setReg (R.CHR_CAPi_CNT i) (s.reg (R.CHR_CAPi_CNT i) + 1)

/-! ## The delivery deadline (R420, R515, R516) -/

/-- D in ps. -/
def State.deadline (s : State) : Nat := s.fld R.SSC_D F.SSC_D.VALUE * 1000000

/-- A record of the line has been owed for D. -/
def State.lateLine (s : State) (line : Nat) : Bool :=
  (s.oweOf line).any (fun (o : Nat × Owe) => match o.2.start with
    | some t => decide (t + s.deadline ≤ s.now)
    | none => false)

/-- The host's side has held the line's records (R420): one went through the store, or its channel waited. -/
def State.lateHost (s : State) (line : Nat) (v : Dlv) : Bool :=
  v.host ||
  (s.oweOf line).any (fun (o : Nat × Owe) =>
    let ch := s.osCh (o.1 % 4)
    let its (r : Record) : Bool := r.line == line && r.stream == o.1 % 4 && !r.gap && r.viaStore
    o.2.host || (s.chan ch).waits || s.est.recs.any its || (s.chan ch).q.any its)

def State.deadlineMiss (s : State) (line : Nat) : State :=
  match tabFind s.ssc.job.dlv line with
  | none => s
  | some v =>
    if v.missed || !s.lateLine line then s
    else
      let host := s.lateHost line v
      let s := s.setJob (fun j => { j with dlv := tabIns j.dlv line { v with missed := true, host := host } })
      let s := s.bumpFld R.SSC_DMISS (if host then F.SSC_DMISS.HOST else F.SSC_DMISS.INTERNAL) 1
      ((s.evt P.SSC 13).emit 78).faultLine (if host then 0x1802 else 0x1803) 0 line

/-- DEADLINE_EXPIRY (R516): D has passed since the start point of a line that still owes a record. -/
def execDeadlineExpiry (line t : Nat) (s : State) : Host.Outcome State Fault Refusal := .next ((s.upto t).deadlineMiss line)

end Sys2Proof.Machine
end

