-- ==== Sys2Proof/Machine/Safe.lean ====
section
/-! DEFINITION. Safe state (spec/16 R519, R531 to R533; spec/07 R247). -/

namespace Sys2Proof.Machine

/-- The lamps go dark without a fade, and LAMPEN reads 0 (R247, R532). -/
def State.helSafe (s : State) : State :=
  ((s.lampsDark.setHelSt .safe).setLam 0).setFlag R.HELG_CTL F.HELG_CTL.LAMPEN false

/-- An enabled DMA channel stops without a completion record (R531). -/
def State.dmaSafe (s : State) (ch : Nat) : State :=
  let c := s.chan ch
  if c.st = 0 then s
  else
    let addr := match c.desc with
      | some d => d.addr
      | none => s.nextAddr ch
    ((s.setChan ch { c with cqWait := none }).haltAt ch 0 addr).markHost ch

/-- The device enters Safe state (R531). -/
def State.safeEntry (s : State) (code : Nat) : State :=
  let s := s.setChr (fun c => { c with safe := true, first := code })
  let s := (forN 64 State.dmaSafe s.helSafe).abortJob
  (foldS (fun (s : State) x => s.freeze x false) s [0, 1, 2, 3]).evt P.CHR 9

/-- Raise a Critical fault (R519): the first one enters Safe state, a further one is logged only (R532). -/
def State.critical (s : State) (code item : Nat) : State :=
  let s1 := s.fault code item
  if s.chr.safe then s1 else s1.safeEntry code

/-- SAFE_REQUEST (R520): a guarded write of CHR_SAFE.GO. -/
def execSafeRequest (s : State) : Host.Outcome State Fault Refusal :=
  .next (s.hostWrite P.CHR (fun s => s.guarded P.CHR (fun s => s.critical 0x1804 0)))

/-- Safe state ends (R533, R571): Critical faults are acknowledged and the Heliostat is OFF. -/
def State.safeExit (s : State) : State :=
  let s := s.ackCritical.setChr (fun c => { c with safe := false, first := 0 })
  if s.hel.st = .safe then s.setHelSt .off else s

/-- The exit's conditions (R533): every die sensor at +105.0 °C or less, every supervised supply within ±10 %. -/
def State.safeMayEnd (s : State) : Bool := s.pwr.dieHot == 0 && s.pwr.supBad == 0

/-- A write of CHR_SAFE.CLR that the key guard lets through. Outside Safe state there is nothing to leave. -/
def State.safeClear (s : State) : State :=
  if !s.chr.safe then s
  else if s.safeMayEnd then s.safeExit.evt P.CHR 10
  else s.evt P.CHR 11

/-- SAFE_CLEAR (R533): hot and bad are the masks of die sensors above 105 °C and of supplies out of range. -/
def execSafeClear (hot bad : Nat) (s : State) : Host.Outcome State Fault Refusal :=
  .next (({ s with pwr := { s.pwr with dieHot := hot % 16, supBad := bad % 64 } } : State).hostWrite P.CHR
    (fun s => s.guarded P.CHR State.safeClear))

end Sys2Proof.Machine
end

