-- ==== Sys2Proof/Machine/Lut.lean ====
section
/-! DEFINITION. The LUT cells and the pins of the event fabric (spec/15 R494 to R498). -/

namespace Sys2Proof.Machine

def State.setEvf (s : State) (f : Evf → Evf) : State := { s with evf := f s.evf }
def State.cell (s : State) (n : Nat) : Cell := tabGet {} s.evf.cells n
def State.setCell (s : State) (n : Nat) (c : Cell) : State :=
  s.setEvf (fun e => { e with cells := tabPut {} e.cells n c })

/-! ## Cells -/

/-- Value of one input of cell n: KIND and INDEX (R494). -/
def State.cellInput (s : State) (n kind index : Nat) : Bool :=
  match kind with
  | 1 => bit s.evf.pulses index
  | 2 => decide (index < 16) && bit s.evf.evi index
  | 3 => decide (index < n) && (s.cell index).q
  | _ => false

/-- Input j of cell n. -/
def State.cellIn (s : State) (n j : Nat) : Bool :=
  let w := (s.reg (R.EVF_LCn_IN n)).toNat
  s.cellInput n (bits w (8 * j + 7) (8 * j + 6)) (bits w (8 * j + 5) (8 * j))

/-- F of cell n. -/
def State.cellF (s : State) (n : Nat) : Bool :=
  let i := 8 * (s.cellIn n 3).toNat + 4 * (s.cellIn n 2).toNat + 2 * (s.cellIn n 1).toNat + (s.cellIn n 0).toNat
  bit (s.fld (R.EVF_LCn_CFG n) F.EVF_LCn_CFG.TT) i

def State.cellMode (s : State) (n : Nat) : Nat := s.fld (R.EVF_LCn_CFG n) F.EVF_LCn_CFG.MODE
def State.cellFilt (s : State) (n : Nat) : Nat := s.fld (R.EVF_LCn_CFG n) F.EVF_LCn_CFG.FILT

/-- Q takes a value; its rising edge publishes producer 16 + n (R487, R496). -/
def State.setQ (s : State) (n : Nat) (q : Bool) : State :=
  let c := s.cell n
  (s.setCell n { c with q := q }).when (q && !c.q) (fun s => s.emit (16 + n))

/-- G takes a value, and Q follows as MODE says; in mode 1, within 1 ns of a clock event, Q may take either value
(R496). -/
def State.setG (s : State) (n : Nat) (g : Bool) : State :=
  let c := s.cell n
  if c.g = g then s
  else
    let s := s.setCell n { c with g := g, gAt := s.now }
    match s.cellMode n with
    | 1 => if c.clkAt ≠ 0 ∧ s.now < c.clkAt + 1000 then s.useFree.setQ n (s.free % 2 == 1) else s
    | 2 => if g then s.setQ n (!c.q) else s
    | _ => s.setQ n g

/-- Cell n follows its inputs: F, and with FILT 0 the filter output at once (R495). -/
def State.cellStep (s : State) (n : Nat) : State :=
  let f := s.cellF n
  let c := s.cell n
  let s := if c.f = f then s else s.setCell n { c with f := f, since := s.now }
  if s.cellFilt n = 0 then s.setG n f else s

/-- Every cell follows its inputs, lower numbers first: a cell reads only lower-numbered cells (R494). -/
def State.lutPass (s : State) : State := forN 32 State.cellStep s

/-- LUT_FILTER_EXPIRY (R495): F of cell n has held its value for FILT ns. -/
def execLutFilterExpiry (n t : Nat) (s : State) : Host.Outcome State Fault Refusal :=
  let s := s.upto t
  let c := s.cell n
  if n < 32 ∧ c.f ≠ c.g ∧ c.since + s.cellFilt n * 1000 ≤ s.now then .next (s.setG n c.f).lutPass else .next s

/-- LUT_INPUT_CHANGE (R494): event pulses end (they last 2 ns to 5 ns, R490), and the cells follow. -/
def execLutInputChange (ended : List Nat) (t : Nat) (s : State) : Host.Outcome State Fault Refusal :=
  let s := s.upto t
  let passed (c : Nat) : Bool := ended.contains c && decide (tabGet 0 s.evf.lastPass c + 2000 ≤ s.now)
  .next (s.setEvf (fun e => { e with pulses := maskOf 64 (fun c => bit e.pulses c && !passed c) })).lutPass

/-- An event on the clock input of a cell in mode 1: Q takes G; when G changed within 1 ns, either value (R496). -/
def State.cellClock (s : State) (n : Nat) : State :=
  if s.cellMode n ≠ 1 then s
  else
    let s := s.setCell n { s.cell n with clkAt := s.now }
    let c := s.cell n
    if c.gAt + 1000 ≤ s.now ∨ c.gAt = 0 then (s.setQ n c.g).lutPass
    else (s.useFree.setQ n (s.free % 2 == 1)).lutPass

/-- A write of EVF_LCn_CFG's TT, FILT and MODE fields (R496): a change of MODE sets Q. -/
def State.cellCfg (s : State) (n : Nat) (w : Nat) : State :=
  let old := s.cellMode n
  let keep := (s.reg (R.EVF_LCn_CFG n)).toNat
  let v := putBits (putBits (putBits keep 31 16 (bits w 31 16)) 15 8 (bits w 15 8)) 5 4 (bits w 5 4)
  let s := s.setReg (R.EVF_LCn_CFG n) (BitVec.ofNat 32 v)
  let s := s.cellStep n
  let m := s.cellMode n
  let s := if m = old then s else s.setQ n (if m = 1 ∨ m = 2 then false else (s.cell n).g)
  s.lutPass

/-- A write of EVF_LCn_IN. -/
def State.cellInputs (s : State) (n : Nat) (w : Word) : State := (s.setReg (R.EVF_LCn_IN n) w).lutPass

/-! ## Input pins (R497) -/

/-- EVI_EDGE: pin k takes a level; a selected edge fires producer k. -/
def State.eviEdge (s : State) (k : Nat) (level : Bool) : State :=
  let was := bit s.evf.evi k
  let e := s.fld (R.EVF_EVIk k) F.EVF_EVIk.EDGE
  let hit := (level && !was && bit e 0) || (!level && was && bit e 1)
  ((s.setEvf (fun x => { x with evi := putBits x.evi k k level.toNat })).when hit (fun s => s.emit k)).lutPass

def execEviEdge (k : Nat) (level : Bool) (t : Nat) (s : State) : Host.Outcome State Fault Refusal :=
  .next (if k < 16 then (s.upto t).eviEdge k level else s.upto t)

/-! ## Output pins (R498) -/

def State.evoMode (s : State) (k : Nat) : Nat := s.fld (R.EVF_EVOk k) F.EVF_EVOk.MODE
def State.evo (s : State) (k : Nat) : Bool × Option Nat := tabGet (false, none) s.evf.evo k
def State.setEvo (s : State) (k : Nat) (v : Bool × Option Nat) : State :=
  s.setEvf (fun e => { e with evo := tabPut (false, none) e.evo k v })

/-- The pulse of an output in pulse mode still lasts (R491). -/
def State.evoBusy (s : State) (k : Nat) : Bool :=
  s.evoMode k == 1 && (match (s.evo k).2 with
    | some e => decide (s.now < e)
    | none => false)

/-- An event of task k. -/
def State.evoEvent (s : State) (k : Nat) : State :=
  match s.evoMode k with
  | 1 => s.setEvo k (true, some (s.now + max 1 (s.fld (R.EVF_EVOk k) F.EVF_EVOk.PW) * 8000))
  | 2 => s.setEvo k (!(s.evo k).1, none)
  | _ => s

/-- EVO_PULSE_END: PW × 8 ns have passed, within 2 ns (R610). -/
def execEvoPulseEnd (k t : Nat) (s : State) : Host.Outcome State Fault Refusal :=
  let s := s.upto t
  match (s.evo k).2 with
  | some e => .next (if k < 16 ∧ e ≤ s.now + 2000 then s.setEvo k (false, none) else s)
  | none => .next s

/-- A write of EVF_EVOk: V is 0 after a change of MODE. -/
def State.evoWrite (s : State) (k : Nat) (w : Word) : State :=
  let old := s.evoMode k
  let s := s.setReg (R.EVF_EVOk k) w
  if s.evoMode k = old then s else s.setEvo k (false, none)

/-- The level of pin EVOk. -/
def State.evoPin (s : State) (k : Nat) : Bool :=
  let v := match s.evoMode k with
    | 0 => false
    | 3 => (s.cell (s.fld (R.EVF_EVOk k) F.EVF_EVOk.CELL)).q
    | _ => (s.evo k).1
  v != s.flag (R.EVF_EVOk k) F.EVF_EVOk.POL

end Sys2Proof.Machine
end

