-- ==== Sys2Proof/Machine/Evf.lean ====
section
/-! DEFINITION. Event channels, task inputs, the runaway guard and the locks of the event fabric (spec/15 R483 to R493,
R499 to R508), and the wake it gives (spec/18 R568, R569). -/

namespace Sys2Proof.Machine

/-! ## Waking (R568, R569) -/

/-- A wake source: the device leaves a sleep state, or the entry into one, for Ready. -/
def State.wake (s : State) (src : Nat) : State :=
  if 3 ≤ s.pwr.st ∧ s.pwr.st ≤ 6 then { s with pwr := { s.pwr with st := 7, src := src, byD3 := false } } else s

/-- Standby or Deep sleep holds: the gated islands do not run. -/
def State.asleep (s : State) : Bool := s.pwr.st == 4 || s.pwr.st == 6

/-! ## Channels (R485, R499, R500) -/

def State.chFlag (s : State) (c : Nat) (f : Fld) : Bool := s.flag (R.EVF_CHc c) f
def State.masked (s : State) (c : Nat) : Bool := s.chFlag c F.EVF_CHc.RUNAWAY || s.chFlag c F.EVF_CHc.MASK

/-- RUNAWAY_N in force. -/
def State.runawayN (s : State) : Nat := min 1000 (max 1 (s.fld R.EVF_CTL F.EVF_CTL.RUNAWAY_N))

/-- The runaway guard masks channel c (R499). -/
def State.runaway (s : State) (c : Nat) : State :=
  ((s.setFlag (R.EVF_CHc c) F.EVF_CHc.RUNAWAY true).evt P.EVF 8).fault 0x1701 c

/-- Writing 1 to RUNAWAY (R500). -/
def State.unmask (s : State) (c : Nat) : State :=
  (s.setFlag (R.EVF_CHc c) F.EVF_CHc.RUNAWAY false).setEvf (fun e => { e with window := tabErase e.window c })

/-- RUNAWAY_WINDOW (R499): a window of 10 µs ends, and the next one begins. -/
def execRunawayWindow (t : Nat) (s : State) : Host.Outcome State Fault Refusal :=
  let s := s.upto t
  .next (if s.evf.winAt + 10000000 ≤ s.now then s.setEvf (fun e => { e with window := [], winAt := s.now / 10000000 * 10000000 })
    else s)

/-! ## Task inputs (R484, R487, R488, R491 to R493) -/

/-- Subscription of a task: its channel while it is enabled. -/
def State.subOf (s : State) (t : Nat) : Option Nat :=
  if t = 16 then
    if s.fld R.MER_LSRC F.MER_LSRC.SRC = 3 ∧ 2 ≤ s.ssc.st then some (s.fld R.MER_LSRC F.MER_LSRC.EVC) else none
  else if s.flag (R.EVF_SUBt t) F.EVF_SUBt.EN then some (s.fld (R.EVF_SUBt t) F.EVF_SUBt.CH)
  else none

/-- Clockless task inputs: EVO pins and LUT clocks. -/
def taskClockless (t : Nat) : Bool := decide (t < 16) || (decide (48 ≤ t) && decide (t < 80))

/-- Almanac index of the island of a task input. -/
def taskIsland (t : Nat) : Nat :=
  if t = 16 then 105
  else if t = 17 then 106
  else if t < 30 then 100 + (t - 18) % 4
  else if t < 46 then 109
  else if t = 46 then 110
  else 111

/-- A task input outside the clockless ones and the always-on island counts as busy while its island sleeps (R492). -/
def State.taskBusy (s : State) (t : Nat) : Bool :=
  if t < 16 then s.evoBusy t
  else if taskClockless t || taskIsland t == 111 then false
  else if s.asleep then true
  else if t = 17 then !s.eventRoom
  else if 30 ≤ t ∧ t < 46 then (match tabFind s.evf.capAt (t - 30) with
    | some a => decide (s.now < a + 20000)
    | none => false)
  else false

/-- Two events may fall in one capture interval: they lie closer than one clock period of the island. -/
def State.taskNear (s : State) (t : Nat) : Bool :=
  !taskClockless t && (match tabFind s.evf.ranAt t with
    | some a => decide ((s.now - a) * s.islandKhz (taskIsland t) < 1000000000)
    | none => false)

/-- What the task does. -/
def State.runTask (s : State) (t : Nat) : State :=
  if t < 16 then s.evoEvent t
  else if t = 16 then s.trigger (s.plainTrig false)
  else if t = 17 then s.urgentTask
  else if t < 22 then s.stopTask (t - 18) false
  else if t < 26 then s.stopTask (t - 22) true
  else if t < 30 then s.homeEvent (t - 26) true
  else if t < 46 then (s.capture (t - 30)).setEvf (fun e => { e with capAt := tabIns e.capAt (t - 30) s.now })
  else if t = 46 then s.endCmd
  else if t = 47 then s.wake 2
  else if t < 80 then s.cellClock (t - 48)
  else (s.bump (R.EVF_CNTi (t - 80)) 1).evt P.EVF 12

/-- The overrun of a busy task input (R491); a full urgent queue adds its own flag (R284). -/
def State.taskOverrun (s : State) (t : Nat) : State :=
  if t = 17 ∧ !s.asleep then s.urgentTask else (s.setFlag (R.EVF_SUBt t) F.EVF_SUBt.OVR true).evt P.EVF 9

/-- An event reaches task input t. Whether two near events fall in one capture interval is free (R493). -/
def State.taskEvent (s : State) (t : Nat) : State :=
  if s.taskBusy t then s.taskOverrun t
  else
    let run (s : State) : State := (s.setEvf (fun e => { e with ranAt := tabIns e.ranAt t s.now })).runTask t
    if s.taskNear t then
      if s.free % 2 = 1 then (s.useFree.setFlag (R.EVF_SUBt t) F.EVF_SUBt.COINC true).evt P.EVF 10 else run s.useFree
    else run s

/-- An event passes channel c: the fork to every subscribed task input (R484), the pulse the cells see, the guard. -/
def State.passEvent (s : State) (c : Nat) : State :=
  let s := if bit s.evf.pulses c then (s.setEvf (fun e => { e with pulses := putBits e.pulses c c 0 })).lutPass else s
  let n := tabGet 0 s.evf.window c + 1
  let s := s.setEvf (fun e => { e with
    lastPass := tabIns e.lastPass c s.now, window := tabIns e.window c n, pulses := putBits e.pulses c c 1 })
  let tasks := (List.range 96).filter (fun t => s.subOf t == some c)
  let s := (foldS State.taskEvent s tasks).lutPass
  if !s.chFlag c F.EVF_CHc.NOGUARD && decide (s.runawayN < n) then s.runaway c else s

/-- An event reaches channel c (R485, R500, R503). soft: a software pulse. -/
def State.chanEvent (s : State) (c : Nat) (soft : Bool) : State :=
  if s.masked c || (soft && s.flag R.EVF_CTL F.EVF_CTL.COMPAT && s.chFlag c F.EVF_CHc.SEC) then s
  else match tabFind s.evf.lastPass c with
    | some a => if s.now < a + 10000 then s.setFlag (R.EVF_CHc c) F.EVF_CHc.MERGED true else s.passEvent c
    | none => s.passEvent c

/-- A producer whose island is gated publishes nothing (R505). -/
def State.producerGated (s : State) (p : Nat) : Bool :=
  (s.asleep && ((decide (48 ≤ p) && decide (p ≤ 78) && p != 75) || (decide (88 ≤ p) && decide (p ≤ 151)))) ||
  (s.pwr.st == 6 && (p == 75 || p == 79))

/-- An event of producer p on its way reaches its channel (R483). -/
def State.publish (s : State) (p : Nat) : State :=
  if s.flight.contains p then
    let s := { s with flight := s.flight.erase p }
    if s.producerGated p || !s.flag (R.EVF_PUBp p) F.EVF_PUBp.EN then s
    else s.chanEvent (s.fld (R.EVF_PUBp p) F.EVF_PUBp.CH) (decide (80 ≤ p) && decide (p ≤ 87))
  else s

/-- EVENT_PUBLISH. -/
def execEventPublish (p t : Nat) (s : State) : Host.Outcome State Fault Refusal := .next ((s.upto t).publish p)

/-- A write of EVF_SWPUB fires producers 80 to 87 (R487). -/
def State.softPulse (s : State) (w : Nat) : State := forN 8 (fun s j => if bit w j then s.emit (80 + j) else s) s

/-- SOFTWARE_PULSE. -/
def execSoftwarePulse (w : Word) (s : State) : Host.Outcome State Fault Refusal := .next (s.hostWrite P.EVF (fun s => s.softPulse w.toNat))

/-! ## Locks and the YS5120 attributes (R501 to R504) -/

def State.chLocked (s : State) (c : Nat) : Bool := s.chFlag c F.EVF_CHc.LOCK
def State.cellLocked (s : State) (n : Nat) : Bool := s.flag (R.EVF_LCn_CFG n) F.EVF_LCn_CFG.LOCK

/-- The host's writes to channel c's fields and routes are ignored under COMPAT (R503). -/
def State.chNotHost (s : State) (c : Nat) : Bool :=
  s.flag R.EVF_CTL F.EVF_CTL.COMPAT && (s.chFlag c F.EVF_CHc.OWNER || s.chFlag c F.EVF_CHc.SEC)

def State.chClosed (s : State) (c : Nat) : Bool := s.chLocked c || s.chNotHost c

/-- Count an ignored write. -/
def State.lockIgnored (s : State) : State := (s.bump R.EVF_LOCKIGN 1).evt P.EVF 11

/-- The fields of a channel that its lock holds, as one number. -/
def chHeld (w : Nat) : Nat := bits w 30 30 * 8 + bits w 29 29 * 4 + bits w 2 2 * 2 + bits w 1 1

/-- A host write of EVF_CHc apart from LOCK. A write that would change a held field is ignored and counted. -/
def State.chWrite (s : State) (c : Nat) (w : Nat) : State :=
  let a := R.EVF_CHc c
  let cur := (s.reg a).toNat
  let bad := s.chClosed c && chHeld w != chHeld cur
  if s.chNotHost c && !s.chLocked c then
    s.when (bad || bit w 3 || bit w 0) State.lockIgnored
  else
    let s1 := if s.chLocked c then s
      else s.setReg a (BitVec.ofNat 32 (putBits (putBits cur 30 29 (bits w 30 29)) 2 1 (bits w 2 1)))
    let s2 := s1.when (bit w 3) (fun s => s.setFlag a F.EVF_CHc.MERGED false)
    (s2.when (bit w 0) (fun s => s.unmask c)).when bad State.lockIgnored

/-- RUNAWAY_UNMASK (R500, R503): 1 is written to RUNAWAY, and every other field keeps its value. -/
def execRunawayUnmask (c : Nat) (s : State) : Host.Outcome State Fault Refusal :=
  .next (if c < 64 then s.hostWrite P.EVF (fun s => s.chWrite c (putBits ((s.reg (R.EVF_CHc c)).toNat) 3 0 ((s.reg (R.EVF_CHc c)).toNat % 8 / 2 * 2 + 1))) else s)

/-- A write of a PUB or SUB register is ignored: its route is, or would be, that of a closed channel. -/
def State.routeHeld (s : State) (cur w : Nat) : Bool :=
  (bit cur 31 && s.chClosed (bits cur 5 0)) || (bit w 31 && s.chClosed (bits w 5 0))

def State.pubWrite (s : State) (p : Nat) (w : Nat) : State :=
  let a := R.EVF_PUBp p
  if s.routeHeld (s.reg a).toNat w then s.lockIgnored
  else s.setReg a (BitVec.ofNat 32 (bits w 31 31 * 2 ^ 31 + bits w 5 0))

/-- EVF_SUBt: OVR and COINC clear by writing 1; EN and CH of SUB16 are read-only (R488). -/
def State.subWrite (s : State) (t : Nat) (w : Nat) : State :=
  let a := R.EVF_SUBt t
  let cur := (s.reg a).toNat
  let flags := bits cur 10 9 &&& (3 - bits w 10 9)
  if t = 16 then s.setReg a (BitVec.ofNat 32 (flags * 512))
  else if s.routeHeld cur w then s.lockIgnored
  else s.setReg a (BitVec.ofNat 32 (bits w 31 31 * 2 ^ 31 + flags * 512 + bits w 5 0))

/-- A write of a cell's registers apart from LOCK (R502). -/
def State.cellCfgWrite (s : State) (n : Nat) (w : Nat) : State :=
  let cur := (s.reg (R.EVF_LCn_CFG n)).toNat
  let same := bits w 31 16 == bits cur 31 16 && bits w 15 8 == bits cur 15 8 && bits w 5 4 == bits cur 5 4
  if s.cellLocked n then s.when (!same) State.lockIgnored else s.cellCfg n w

def State.cellInWrite (s : State) (n : Nat) (w : Word) : State :=
  if s.cellLocked n then s.lockIgnored else s.cellInputs n w

/-- 1 is written to LOCK: a field of a channel that is not the host's ignores the write (R503). -/
def State.chLock (s : State) (c : Nat) : State :=
  if s.chNotHost c && !s.chLocked c then s.lockIgnored else s.setFlag (R.EVF_CHc c) F.EVF_CHc.LOCK true

/-- CHANNEL_LOCK (R501): a guarded write. -/
def execChannelLock (c : Nat) (s : State) : Host.Outcome State Fault Refusal :=
  .next (if c < 64 then s.hostWrite P.EVF (fun s => s.guarded P.EVF (fun s => s.chLock c)) else s)

/-- CELL_LOCK (R502): a guarded write. -/
def execCellLock (n : Nat) (s : State) : Host.Outcome State Fault Refusal :=
  .next (if n < 32 then s.hostWrite P.EVF (fun s => s.guarded P.EVF (fun s => s.setFlag (R.EVF_LCn_CFG n) F.EVF_LCn_CFG.LOCK true)) else s)

/-! ## Live registers and the page soft reset (R507, R508) -/

def State.evfStat (s : State) : Nat :=
  ((List.range 64).filter (fun c => s.chFlag c F.EVF_CHc.RUNAWAY)).length * 65536 + ((List.range 64).filter s.chLocked).length

def State.evfState (s : State) : Nat := ((List.range 64).any (fun c => s.chFlag c F.EVF_CHc.RUNAWAY)).toNat

/-- EVF_SUB16 shows task 16's subscription. -/
def State.sub16 (s : State) : Nat :=
  let flags := bits (s.reg (R.EVF_SUBt 16)).toNat 10 9 * 512
  match s.subOf 16 with
  | some c => 2 ^ 31 + flags + c
  | none => flags + (if s.fld R.MER_LSRC F.MER_LSRC.SRC = 3 then s.fld R.MER_LSRC F.MER_LSRC.EVC else 0)

/-- A page soft reset keeps LOCK, COMPAT, OWNER, SEC and every route that a lock holds (R508). -/
def State.evfKept (s : State) (a : Nat) (w : Nat) : Nat :=
  if R.EVF_CHc 0 ≤ a ∧ a < R.EVF_CHc 64 then bits w 31 29 * 2 ^ 29
  else if (R.EVF_PUBp 0 ≤ a ∧ a < R.EVF_PUBp 153) ∨ (R.EVF_SUBt 0 ≤ a ∧ a < R.EVF_SUBt 96) then
    if bit w 31 && s.chLocked (bits w 5 0) then bits w 31 31 * 2 ^ 31 + bits w 5 0 else 0
  else if R.EVF_LCn_IN 0 ≤ a ∧ a < R.EVF_LCn_IN 32 then (if a % 8 = 4 then bits w 1 1 * 2 else 0)
  else if a = R.EVF_CTL then bits w 31 31 * 2 ^ 31 + 128
  else (regDefault s.straps a).toNat

def State.evfSoftReset (s : State) : State :=
  let regs := s.regs.filter (fun (e : Nat × Word) => pageBase e.1 == P.EVF)
  let s1 := foldS (fun (s1 : State) (e : Nat × Word) =>
    s1.setReg e.1 (BitVec.ofNat 32 (s.evfKept e.1 e.2.toNat))) s regs
  let s2 := s1.setEvf (fun e => { e with evo := [], window := [] })
  (forN 32 (fun s2 n => if s.cellMode n = 1 ∨ s.cellMode n = 2 then s2.setQ n (s2.cell n).g else s2) s2).lutPass

end Sys2Proof.Machine
end

