-- ==== Sys2Proof/Machine/Sec.lean ====
section
/-! DEFINITION. The mailbox, debug access and attestation (spec/17 R536, R537, R550 to R556). -/

namespace Sys2Proof.Machine

/-! ## The mailbox (R536, R537, R555) -/

/-- A write of GLB_MBXCMD: served when no command is in progress, ignored otherwise. -/
def State.mbxWrite (s : State) (w : Word) : State :=
  if s.sec.mbx.isSome then s.evt P.GLB 9
  else
    let s := (s.setReg R.GLB_MBXCMD (w &&& 0xFF00FFFF#32)).setFlag R.GLB_MBXRSP F.GLB_MBXRSP.BUSY true
    s.setSec (fun c => { c with mbx := some (bits w.toNat 31 24, bits w.toNat 15 0) })

def mbxWord (seq cmd : Nat) : Word := BitVec.ofNat 32 (seq % 256 * 2 ^ 24 + cmd % 65536)

/-- MBX_VERSION. -/
def execMbxVersion (seq : Nat) (s : State) : Host.Outcome State Fault Refusal := .next (s.hostWrite P.GLB (fun s => s.mbxWrite (mbxWord seq 1)))
/-- MBX_PREADMIT. -/
def execMbxPreadmit (seq : Nat) (s : State) : Host.Outcome State Fault Refusal := .next (s.hostWrite P.GLB (fun s => s.mbxWrite (mbxWord seq 2)))
/-- MBX_CORESTAT. -/
def execMbxCorestat (seq : Nat) (s : State) : Host.Outcome State Fault Refusal := .next (s.hostWrite P.GLB (fun s => s.mbxWrite (mbxWord seq 3)))
/-- MBX_UNKNOWN: any other command. -/
def execMbxUnknown (seq cmd : Nat) (s : State) : Host.Outcome State Fault Refusal := .next (s.hostWrite P.GLB (fun s => s.mbxWrite (mbxWord seq cmd)))

/-- STATUS and data words of a command (R537). The count of deferred items is not stated (a free value). -/
def State.mbxReply (s : State) (cmd : Nat) : Nat × List Word :=
  let img := (s.slot s.sec.run).bytes
  match cmd with
  | 1 => (0, [BitVec.ofNat 32 (imgVersion img), BitVec.ofNat 32 (imgArc img), Config.bootRom])
  | 2 =>
    if s.ssc.st ≠ 0 then (2, [])
    else
      let c := s.admCopy
      (0, [c.admReason, c.fit 32 c.admD 0, c.fit 32 c.admS 1, c.admWrate].map (BitVec.ofNat 32))
  | 3 => (0, [BitVec.ofNat 32 s.sec.pauses, BitVec.ofNat 32 (s.sec.longest / 1000000), BitVec.ofNat 32 s.free])
  | _ => (1, [])

/-- MBX_REPLY: the command in service is done, while the services run. -/
def State.mbxDone (s : State) : State :=
  match s.sec.mbx with
  | none => s
  | some (seq, cmd) =>
    if s.sec.paused then s
    else
      let r := s.mbxReply cmd
      let s := foldS (fun (s : State) (e : Nat × Word) => s.setReg (R.GLB_MBXDATa e.1) e.2) s ((List.range 6).zip r.2)
      let s := s.setReg R.GLB_MBXRSP (BitVec.ofNat 32 (seq * 2 ^ 24 + r.1))
      ((s.setSec (fun c => { c with mbx := none })).skipFree 4).evt P.GLB 8

def execMbxReply (t : Nat) (s : State) : Host.Outcome State Fault Refusal := .next (s.upto t).mbxDone

/-- GLB_PSTAT.STATE (R555). -/
def State.glbState (s : State) : Nat := if s.sec.run = 3 then 2 else if s.sec.paused then 1 else 0

/-! ## Debug access (R550 to R553) -/

/-- FIELD_LOCK: the fuse is blown. -/
def State.fieldLock (s : State) : State := s.setSec (fun c => { c with field := true })
def execFieldLock (s : State) : Host.Outcome State Fault Refusal := .next (s.hostWrite P.SEC (fun s => s.guarded P.SEC State.fieldLock))

/-- SEC_DBGCTL.OPEN: before field lock, the scopes of SEC_DBGCTL.SCOPE open. -/
def State.debugOpen (s : State) : State :=
  if s.sec.field then s
  else s.setSec (fun c => { c with scopes := c.scopes ||| s.fld R.SEC_DBGCTL F.SEC_DBGCTL.SCOPE })

/-- DEBUG_OPEN: a write of SEC_DBGCTL with OPEN = 1; SCOPE is written under its own code (R622). -/
def execDebugOpen (w : Word) (s : State) : Host.Outcome State Fault Refusal :=
  .next (s.hostWrite P.SEC (fun s => (s.setFld R.SEC_DBGCTL F.SEC_DBGCTL.SCOPE (bits w.toNat 3 0)).guarded P.SEC State.debugOpen))

def State.debugClose (s : State) : State := s.setSec (fun c => { c with scopes := 0 })
/-- DEBUG_CLOSE. -/
def execDebugClose (s : State) : Host.Outcome State Fault Refusal := .next (s.hostWrite P.SEC (fun s => s.debugClose))

/-- SEC_OP NONCE: 32 bytes from the entropy source, unless the wait of R552 refuses it. -/
def State.debugNonce (s : State) (nonce : List Word) : State :=
  if s.now < s.sec.refused then s.opIgnored
  else
    let w (j : Nat) : Word := (nonce[j]?).getD 0
    (forN 8 (fun s j => s.setReg (R.SEC_NONCEj j) (w j)) s).setSec (fun c => { c with nonce := true, loose := [] })

def execDebugNonce (nonce : List Word) (t : Nat) (s : State) : Host.Outcome State Fault Refusal :=
  .next ((s.upto t).hostWrite P.SEC (fun s => s.debugNonce nonce))

/-- The nonce, the serial and the scope, as the response signs them. -/
def State.serialBytes : List Byte := wordsBytes ((List.range 4).map Config.serial)
def State.nonceBytes (s : State) : List Byte := wordsBytes ((List.range 8).map (fun j => s.reg (R.SEC_NONCEj j)))

/-- The response loaded opens debug access: key and signature check, and its scope is not 0 (R551). -/
def State.unlockHolds (s : State) : Bool :=
  let b := wordsBytes s.sec.loose
  let key := b.take 32
  let scope := (b.drop 32).take 4
  s.sec.nonce && b.length == 7892 && ofLe scope != 0 && Config.debugKeyHash == some (sha256 key) &&
  Config.slhVerify key (s.nonceBytes ++ State.serialBytes ++ scope) (b.drop 36)

/-- SEC_OP UNLOCK (R551, R552). -/
def State.debugUnlock (s : State) : State :=
  let ok := s.unlockHolds
  let scope := byteAt (wordsBytes s.sec.loose) 32 % 16
  let s := s.setSec (fun c => { c with nonce := false, loose := [] })
  if ok then
    ((s.setSec (fun c => { c with scopes := c.scopes ||| scope, wait := 1, refused := 0 })).evt P.SEC 11).setAttn 1
  else
    let s := s.setSec (fun c => { c with refused := s.now + c.wait * 1000000000000, wait := min 64 (2 * c.wait) })
    ((s.evt P.SEC 12).setAttn 1).fault 0x1902 0

def execDebugUnlock (t : Nat) (s : State) : Host.Outcome State Fault Refusal := .next ((s.upto t).hostWrite P.SEC State.debugUnlock)

/-! ## Attestation (R554) -/

/-- The challenge: the last 32 bytes loaded; bytes that were not loaded are free. -/
def State.challenge (s : State) : List Byte :=
  let b := (wordsBytes s.sec.loose).reverse.take 32
  (b ++ ((List.range (32 - b.length)).map (fun i => BitVec.ofNat 8 (Config.free (s.fv + i))))).reverse

/-- SEC_OP ATTEST: an unread report is discarded. -/
def State.attest (s : State) : State :=
  let c := s.challenge
  { s.setSec (fun x => { x with attest := some c, report := [], loose := [] }) with fv := s.fv + 32 }

def execAttest (s : State) : Host.Outcome State Fault Refusal := .next (s.hostWrite P.SEC (fun s => s.attest))

/-- SHA-256 of a slot's header, 0 for a slot that fails R542. -/
def State.slotHash (s : State) (i : Nat) : List Byte :=
  if s.imageReason (s.slot i) true = 0 then sha256 (imgHeader (s.slot i).bytes) else List.replicate 32 0

/-- SHA-256 of the running image's header; free while no image runs. -/
def State.runHash (s : State) : List Byte :=
  if s.sec.run = 3 then (List.range 32).map (fun i => BitVec.ofNat 8 (Config.free (s.fv + i)))
  else sha256 (imgHeader (s.slot s.sec.run).bytes)

def State.reportWord0 (s : State) : Nat :=
  s.sec.run + s.sec.otp * 4 + s.sec.field.toNat * 512 + s.sec.scopes * 1024 + (bit s.straps 7).toNat * 16384

def State.reportWord1 (s : State) : Nat :=
  (s.hdrs.filter (fun (h : Nat × Hdr) => h.2.locked)).length + ((List.range 64).filter s.chLocked).length * 2 ^ 8 +
  ((List.range 32).filter s.cellLocked).length * 2 ^ 15 + (s.fld R.EVF_CTL F.EVF_CTL.COMPAT) * 2 ^ 21 + s.chr.safe.toNat * 2 ^ 22

/-- The 256-byte report body. -/
def State.reportBody (s : State) (challenge : List Byte) : List Byte :=
  challenge ++ State.serialBytes ++ s.runHash ++ s.slotHash 0 ++ s.slotHash 1 ++ leBytes 4 s.reportWord0 ++
  leBytes 4 s.reportWord1 ++ leBytes 8 s.ts ++ List.replicate 96 0

/-- ATTEST_DONE: body and signature stand in SEC_OBUF. -/
def State.attestDone (s : State) : State :=
  match s.sec.attest with
  | none => s
  | some c =>
    let body := s.reportBody c
    let sig := (List.range 17088).map (Config.slhSign body)
    let word (i : Nat) : Word := BitVec.ofNat 32 (imgField (body ++ sig) (4 * i) 4)
    { s.setSec (fun x => { x with attest := none, report := (List.range 4336).map word }) with fv := s.fv + 32 }

def execAttestDone (t : Nat) (s : State) : Host.Outcome State Fault Refusal := .next (s.upto t).attestDone

/-- A read of SEC_OBUF: the next word, 0 where none is left. -/
def State.reportRead (s : State) : State × Word :=
  match s.sec.report with
  | [] => (s, 0)
  | w :: l => (s.setSec (fun c => { c with report := l }), w)

/-- REPORT_WORD_READ. -/
def execReportWordRead (s : State) : Host.Outcome State Fault Refusal :=
  let r := if s.accepts P.SEC then s.reportRead else (s, 0)
  .next (r.1.send (.completion [r.2]))

/-! ## The page's registers (R556) -/

def State.secBusy (s : State) : Bool := s.sec.erasing || !s.sec.buf.isEmpty || s.sec.verify.isSome

/-- Words of the computed registers of the SEC page, by page offset. SEC_OBUF reads its word by reportRead. -/
def State.secRead (s : State) (off : Nat) : Option Nat :=
  match off with
  | 0x040 => some (s.sec.scopes * 2 ^ 16 + s.sec.otp * 2 ^ 8 + s.preferred * 4 + s.sec.run)
  | 0x054 => some (s.secBusy.toNat * 2 ^ 31 + (1024 - s.sec.buf.length))
  | 0x060 => some s.sec.report.length
  | _ =>
    if 0x0A0 ≤ off ∧ off < 0x0B0 then some (Config.serial ((off - 0x0A0) / 4)).toNat
    else if 0x0C0 ≤ off ∧ off < 0x0E0 then some (Config.attestKey ((off - 0x0C0) / 4)).toNat
    else none

/-- A write of SEC_OP (R547, R551, R554). -/
def State.secOp (s : State) (w : Nat) (nonce : List Word) : State :=
  match bits w 3 0 with
  | 1 => s.imageVerify (bits w 5 4)
  | 2 => s.imageAbort
  | 5 => s.debugNonce nonce
  | 6 => s.debugUnlock
  | 7 => s.attest
  | _ => s.opIgnored

/-- What a guarded write of SEC_KOP does (R543, R546, R548, R550). -/
def State.secKop (s : State) (w : Nat) : State :=
  match bits w 3 0 with
  | 1 => s.imageBegin (bits w 5 4)
  | 2 => s.otpCommit
  | 3 => s.firmwareSwap (bits w 5 4) true
  | 4 => s.fieldLock
  | _ => s.opIgnored

/-- A page soft reset: registers, buffer and report return to reset; the scopes stay (R44, R553). -/
def State.secSoftReset (s : State) : State :=
  let s := s.loadEnd.setSec (fun c => { c with loose := [], report := [], attest := none, nonce := false })
  foldS (fun (s : State) a => s.setReg a 0) s
    ([R.SEC_LEN, R.SEC_RESULT, R.SEC_DBGCTL] ++ (List.range 8).map R.SEC_NONCEj)

end Sys2Proof.Machine
end

