-- ==== Sys2Proof/Machine/Pwr.lean ====
section
/-! DEFINITION. Resets, boot, power states, supplies and the reference (spec/18 R557 to R577; spec/17 R544, R545). -/

namespace Sys2Proof.Machine

def State.setPwr (s : State) (f : Pwr → Pwr) : State := { s with pwr := f s.pwr }

/-! ## PORST_N and the warm reset (R571, R572) -/

/-- What no reset changes: the queue of commands, what has left the device, levels of pins, fuses and flash. -/
def State.outside (s r : State) : State :=
  { r with
    pending := s.pending, fv := s.fv, straps := s.straps, out := s.out
    evf := { r.evf with evi := s.evf.evi }, hel := { r.hel with ilkPin := s.hel.ilkPin, ilkBack := s.hel.ilkBack }
    alm := { r.alm with saved := s.alm.saved, half := s.alm.half } }

/-- POWER_ON_RESET: PORST_N is low. -/
def State.powerOn (s : State) : State :=
  let r := s.outside {}
  { r with
    pwr := { r.pwr with porst := true }
    hlk := { r.hlk with perst := s.hlk.perst }
    sec := { r.sec with slots := s.sec.slots.filter (fun (x : Nat × Slot) => x.1 < 2), otp := s.sec.otp, field := s.sec.field,
                        half0 := s.sec.half0, half1 := s.sec.half1 } }

def execPowerOnReset (s : State) : Host.Outcome State Fault Refusal := .next s.powerOn

/-- Debug scopes that a reset leaves open (R550, R574). -/
def State.bootScopes (s : State) : Nat := if bit s.straps 7 && !s.sec.field then 15 else 0

/-- An axis after a warm reset: stopped, its bridges released, its position kept and untrusted. -/
def warmAxis (a : Axis) : Axis := { a with chopA := {}, chopB := {} }

/-- The control core, security and flash after a warm reset: the image in RAM is gone, a boot begins. -/
def State.warmSec (s : State) : Sec :=
  { slots := s.sec.slots.filter (fun (x : Nat × Slot) => x.1 < 2), otp := s.sec.otp, field := s.sec.field
    half0 := s.sec.half0, half1 := s.sec.half1, wait := s.sec.wait, refused := s.sec.refused, scopes := s.bootScopes }

/-- The host links after a warm reset: PERST_N resets PCIe; a global soft reset keeps it. -/
def State.warmHlk (s : State) (cause : Nat) : Hlk :=
  if cause = 1 then { perst := s.hlk.perst, perstAt := s.hlk.perstAt } else s.hlk

/-- PWR_CAUSE after one more warm reset. -/
def State.warmCause (s : State) (cause : Nat) : Word :=
  BitVec.ofNat 32 (min 255 (s.fld R.PWR_CAUSE F.PWR_CAUSE.WARMCNT + 1) * 256 + cause)

/-- Primaries whose EN, MODE, POL or RANGE a warm reset changes restart their tracker entries (R217). -/
def State.warmRestarts (s : State) : List (Nat × Nat) :=
  ((List.range 256).filter (fun c => (s.reg (cfgOf c)).toNat % 128 != (regDefault s.straps (cfgOf c)).toNat % 128)).foldl
    (fun l c => tabIns l c (s.fft.ord + 1)) s.fft.chLine

/-- The machine as a warm reset leaves it, apart from the registers that keep their values. -/
def State.warmBase (s : State) (cause : Nat) : State :=
  let r := s.outside {}
  { r with
    now := s.now, bar2 := s.bar2, chr := { s.chr with safe := false, first := 0 }
    fft := { r.fft with active := s.fft.active, bad := s.fft.bad, ord := s.fft.ord, clrLine := s.fft.clrLine,
                        chLine := s.warmRestarts, pixLine := s.fft.pixLine }
    plt := { r.plt with streak := s.plt.streak }, pho := { r.pho with wins := winIdle s.pho.wins, seen := s.pho.seen }
    cdr := { r.cdr with axes := s.cdr.axes.map (fun (a : Nat × Axis) => (a.1, warmAxis a.2)), fA := s.cdr.fA, fB := s.cdr.fB }
    hka := { startAt := s.now, passAt := s.now }
    sec := s.warmSec, hlk := s.warmHlk cause
    pwr := { r.pwr with bootAt := s.now, dark := true, dieHot := s.pwr.dieHot, supBad := s.pwr.supBad,
                        src := if cause = 1 ∧ 3 ≤ s.pwr.st ∧ s.pwr.st ≤ 6 then 4 else 0 } }

/-- The machine as a warm reset leaves it, from a machine whose job has been aborted and whose axes are stopped. -/
def State.warmed (s : State) (cause : Nat) : State :=
  (((((s.warmBase cause).setReg R.CHR_LOGOVF (s.reg R.CHR_LOGOVF)).setReg R.PWR_STAT (s.reg R.PWR_STAT)).setReg
    R.PWR_CAUSE (s.warmCause cause)).when (cause != 1) (fun r => r.setReg R.HLK_LINK (s.reg R.HLK_LINK))).showFft

/-- A warm reset (R571): cause 1 PERST_N, 2 the global soft reset. A second cause during one restarts nothing. -/
def State.warmReset (s : State) (cause : Nat) : State :=
  if s.busDark then s
  else ((foldS (fun (s : State) x => s.freeze x true) s.abortJob [0, 1, 2, 3]).ackCritical).warmed cause

/-- GLOBAL_SOFT_RESET: a guarded write of GLB_SRST.GO. -/
def execGlobalSoftReset (s : State) : Host.Outcome State Fault Refusal :=
  .next (s.hostWrite P.GLB (fun s => s.guarded P.GLB (fun s => s.warmReset 2)))

/-- PERST_N falls (R573): the PCIe islands are held in reset, and a warm reset starts. Ignored on a board without PCIe. -/
def State.perstFall (s : State) : State :=
  if s.pcieOn then
    let s := s.warmReset 1
    (s.cfgReset.showLink false 0 0).setHlk (fun h => { h with perst := false, st := 0, credits := none })
  else s

def execPerstFall (t : Nat) (s : State) : Host.Outcome State Fault Refusal := .next (s.upto t).perstFall

/-- PERST_N rises: link training starts. -/
def State.perstRise (s : State) : State :=
  if s.pcieOn then s.setHlk (fun h => { h with perst := true, perstAt := s.now, st := if s.pwr.st = 6 then 0 else 1 }) else s

def execPerstRise (t : Nat) (s : State) : Host.Outcome State Fault Refusal := .next (s.upto t).perstRise

/-- HOT_RESET: configuration space, MSI-X and the DMA pages are reset, and the link trains again. -/
def State.hotReset (s : State) : State :=
  if s.pcieOn && s.hlk.perst then s.dlDown.cfgReset.setHlk (fun h => { h with st := 1 }) else s

def execHotReset (t : Nat) (s : State) : Host.Outcome State Fault Refusal := .next (s.upto t).hotReset

/-! ## Boot (R574, R575) -/

/-- BOOT_START: PORST_N rises, or it has risen and the boot sequence has done nothing yet. -/
def State.bootStart (s : State) (straps : Nat) : State :=
  if s.pwr.porst || (s.pwr.st == 0 && !s.pwr.dark && !s.pwr.trained) then
    let s := { s with straps := straps % 256, now := 0, hka := {} }
    let s := (s.setPwr (fun p => { p with porst := false, bootAt := 0, dark := false })).setFlag R.PWR_STAT F.PWR_STAT.REFOK true
    let s := s.setSec (fun c => { c with scopes := s.bootScopes })
    s.setHlk (fun h => { h with st := (s.pcieOn && h.perst).toNat, perstAt := 0 })
  else s

def execBootStart (straps : Nat) (s : State) : Host.Outcome State Fault Refusal := .next (s.bootStart straps)

/-- Store ceiling in MB/s at a transfer rate in MT/s, for a board of gb GB (R403, R424). -/
def ceilOf (mts : Nat) : Nat := 230 * 8 * mts / 256

/-- STORE_TRAINED (R424, R575, R615): the size found in GB (0: no store) and the rate reached. -/
def State.storeTrained (s : State) (gb mts : Nat) : State :=
  if s.pwr.st ≠ 0 ∨ s.pwr.trained then s
  else
    let s := s.setPwr (fun p => { p with trained := true })
    if gb = 0 then s.fault 0x1302 0
    else ((s.setFld R.EST_CFG F.EST_CFG.GB gb).setFld R.EST_CFG F.EST_CFG.MTS mts).setFld R.EST_CEIL F.EST_CEIL.MBS (ceilOf mts)

def execStoreTrained (gb mts t : Nat) (s : State) : Host.Outcome State Fault Refusal := .next ((s.upto t).storeTrained gb mts)

/-- The boot ROM judges slot i: its version shows, and a rejection is raised (R542, R544). -/
def State.bootJudge (s : State) (i r : Nat) : State := if r = 0 then s else s.imageRejected i

/-- The boot ROM verifies the preferred slot, then the other one (R544), or waits for a host-loaded image (R545). -/
def State.bootImage (s : State) (okA okB ack : Bool) : State :=
  if s.pwr.st ≠ 0 ∨ !s.pwr.trained ∨ s.pwr.started ∨ s.sec.st ≠ 0 then s
  else if bit s.straps 2 then s.setSec (fun c => { c with st := 1 })
  else
    let p := s.preferred
    let q := 1 - p
    let why (i : Nat) : Nat := s.imageReason (s.slot i) (if i = 0 then okA else okB)
    let rp := why p
    let rq := why q
    let s := (s.showVersion p rp).showVersion q rq
    let s := s.setSec (fun c => { c with bootA := s.reg R.SEC_VERA, bootB := s.reg R.SEC_VERB })
    if rp = 0 then s.imageStart p ack
    else
      let s := s.bootJudge p rp
      if rq = 0 then s.imageStart q ack else (s.bootJudge q rq).setSec (fun c => { c with st := 1 })

def execBootImageVerified (okA okB ack : Bool) (t : Nat) (s : State) : Host.Outcome State Fault Refusal :=
  .next ((s.upto t).bootImage okA okB ack)

/-- READY: the boot is complete. -/
def State.ready (s : State) : State :=
  if s.pwr.st = 0 ∧ s.pwr.started ∧ s.pwr.trained then
    let us := min 0xFFFFFF ((s.now - s.pwr.bootAt) / 1000000)
    let woken := s.pwr.src
    let s := ((s.setPwr (fun p => { p with st := 1, dark := false, src := 0 })).setReg R.PWR_BOOTT (BitVec.ofNat 32 us)).coresReady
    let s := s.evt P.PWR 8
    s.when (woken != 0) (fun s => (s.setFld R.PWR_WAKE F.PWR_WAKE.SRC woken).evt P.PWR 9)
  else s

def execReady (t : Nat) (s : State) : Host.Outcome State Fault Refusal := .next (s.upto t).ready

/-! ## Requests (R565, R569, R570) -/

/-- PWR_CTL.REQ shows the request in force. -/
def State.showReq (s : State) (q : Nat) : State := s.setFld R.PWR_CTL F.PWR_CTL.REQ q

/-- The device may not leave Ready (R565). -/
def State.sleepRefused (s : State) : Bool := s.ssc.st != 0 || s.secBusy || s.pwr.st == 0

/-- A request for Standby (2) or Deep sleep (3). -/
def State.sleepRequest (s : State) (q : Nat) (d3 : Bool) : State :=
  if s.sleepRefused then (s.showReq 0).evt P.PWR 10
  else
    let goal := if q = 3 then 5 else 3
    match s.pwr.st with
    | 1 => (s.showReq q).setPwr (fun p => { p with st := goal, step := 0, byD3 := d3 })
    | 7 => (s.showReq q).setPwr (fun p => { p with st := goal, step := 0, byD3 := d3 })
    | 3 => (s.showReq q).setPwr (fun p => { p with st := goal, byD3 := d3 })
    | 5 => (s.showReq q).setPwr (fun p => { p with st := goal, byD3 := d3 })
    | 4 => if q = 3 then (s.showReq q).setPwr (fun p => { p with st := 5, step := 4, byD3 := d3 }) else s
    | _ => s

/-- A write of PWR_CTL.REQ. -/
def State.pwrRequest (s : State) (q : Nat) : State :=
  if 2 ≤ q then s.sleepRequest q false else (s.showReq 0).wake 1

def execStandbyRequest (s : State) : Host.Outcome State Fault Refusal := .next (s.hostWrite P.PWR (fun s => s.pwrRequest 2))
def execDeepSleepRequest (s : State) : Host.Outcome State Fault Refusal := .next (s.hostWrite P.PWR (fun s => s.pwrRequest 3))
def execReadyRequest (s : State) : Host.Outcome State Fault Refusal := .next (s.hostWrite P.PWR (fun s => s.pwrRequest 0))

/-- D3HOT_ENTRY (R570). -/
def State.d3Entry (s : State) : State :=
  let s := s.setHlk (fun h => { h with d3hot := true })
  if s.flag R.PWR_CFG F.PWR_CFG.D3SB then s.sleepRequest 2 true else s

def execD3hotEntry (s : State) : Host.Outcome State Fault Refusal := .next s.d3Entry

/-- D0_RETURN (R568, R570): a Standby that D3hot caused ends. -/
def State.d0Return (s : State) : State :=
  let s := s.setHlk (fun h => { h with d3hot := false })
  if s.pwr.byD3 then (s.showReq 0).wake 3 else s

def execD0Return (s : State) : Host.Outcome State Fault Refusal := .next s.d0Return

/-! ## Entry and wake (R566 to R568) -/

/-- ASPM L1 is enabled in Link Control (R566). -/
def State.aspmL1 (s : State) : Bool := bit (s.cfgRead 0x80).toNat 1

/-- The last step: the islands are gated. -/
def State.sleepNow (s : State) : State :=
  let s := s.setCores 0
  if s.pwr.st = 5 then
    let s := if s.linkUp then s.dlDown else s
    s.setPwr (fun p => { p with st := 6 })
  else
    let s := s.setPwr (fun p => { p with st := 4 })
    if s.linkUp && s.aspmL1 then s.setHlk (fun h => { h with st := 3 }) else s

def State.stepDone (s : State) : State := s.setPwr (fun p => { p with step := p.step + 1 })

/-- SLEEP_ENTRY_STEP (R566): the next step of an entry; a step that waits leaves the entry where it is. -/
def State.sleepStep (s : State) : State :=
  if s.pwr.st ≠ 3 ∧ s.pwr.st ≠ 5 then s
  else
    match s.pwr.step with
    | 0 => s.idleStop.stepDone
    | 1 => if s.hel.st == .off || s.hel.st == .safe then s.stepDone else s.lampDisable
    | 2 => (foldS (fun (s : State) x => s.freeze x false) s [0, 1, 2, 3]).stepDone
    | 3 => if (List.range 64).any (fun ch => (s.chan ch).st == 2 || (s.chan ch).st == 3) then s else s.stepDone
    | _ => s.sleepNow

def execSleepEntryStep (t : Nat) (s : State) : Host.Outcome State Fault Refusal := .next (s.upto t).sleepStep

/-- WAKE_DONE (R568): Ready is reached; after Deep sleep the link trains again. -/
def State.wakeDone (s : State) : State :=
  if s.pwr.st = 7 then
    let src := s.pwr.src
    let s := s.setPwr (fun p => { p with st := 1, step := 0, src := 0, byD3 := false })
    let s := ((s.setFld R.PWR_WAKE F.PWR_WAKE.SRC src).showReq 0).coresReady
    let s := s.setHlk (fun h => { h with st := if h.st = 3 then 2 else if h.st = 0 ∧ s.pcieOn ∧ h.perst then 1 else h.st })
    s.evt P.PWR 9
  else s

def execWakeDone (t : Nat) (s : State) : Host.Outcome State Fault Refusal := .next (s.upto t).wakeDone

/-! ## Supplies, temperature, reference (R559, R561, R520) -/

/-- A sensor bank crosses its threshold (R559); its primaries return WARM at the next line boundary. -/
def State.warmCh (s : State) (c : Nat) : State := s.setCh c { s.ch c with warmDue := true }

def State.vsens (s : State) (b : Nat) (up : Bool) : State :=
  if 4 ≤ b ∨ bit (s.fld R.PWR_STAT F.PWR_STAT.VSOK) b = up then s
  else
    let s := s.setFld R.PWR_STAT (b, b) up.toNat
    let s := s.when up (fun s => forN 68 (fun s i => s.warmCh (if i < 64 then 64 * b + i else 192 + 4 * b + i)) s)
    s.evt P.PWR 13

def execVsensChange (b : Nat) (up : Bool) (t : Nat) (s : State) : Host.Outcome State Fault Refusal :=
  .next ((s.upto t).vsens b up)

/-- REF_LOSS (R561): no XIN edge for 2 µs. -/
def State.refLoss (s : State) : State :=
  let s := (s.setFlag R.PWR_STAT F.PWR_STAT.REFOK false).evt P.PWR 11
  (s.pclkUnlock).setMer (fun m => { m with locking := false })

def execRefLoss (t : Nat) (s : State) : Host.Outcome State Fault Refusal := .next (s.upto t).refLoss

/-- REF_RETURN (R561): the loops have relocked. -/
def State.refReturn (s : State) : State :=
  ((s.setFlag R.PWR_STAT F.PWR_STAT.REFOK true).setMer (fun m => { m with locking := !m.lock })).evt P.PWR 12

def execRefReturn (t : Nat) (s : State) : Host.Outcome State Fault Refusal := .next (s.upto t).refReturn

/-- SUPPLY_OUT_OF_RANGE (R520): supervised supply i, housekeeping input 50 to 55, has been out of range for over 10 µs. -/
def State.supplyBad (s : State) (i : Nat) : State :=
  if 50 ≤ i ∧ i ≤ 55 then (s.setPwr (fun p => { p with supBad := p.supBad ||| 2 ^ (i - 50) })).critical 0x1A02 i else s

def execSupplyOutOfRange (i t : Nat) (s : State) : Host.Outcome State Fault Refusal := .next ((s.upto t).supplyBad i)

/-- DIE_OVERTEMP (R520): die sensor i, housekeeping input 56 to 59, is above 115 °C. -/
def State.dieHot (s : State) (i : Nat) : State :=
  if 56 ≤ i ∧ i ≤ 59 then (s.setPwr (fun p => { p with dieHot := p.dieHot ||| 2 ^ (i - 56) })).critical 0x1A01 i else s

def execDieOvertemp (i t : Nat) (s : State) : Host.Outcome State Fault Refusal := .next ((s.upto t).dieHot i)

end Sys2Proof.Machine
end

