-- ==== Sys2Proof/Machine/BusRead.lean ====
section
/-! DEFINITION. What the register bus answers (spec/02 R32 to R36, R42 to R51, R62, R65; the PSTAT.STATE rule of every
block chapter): page headers, block state, computed registers and the shadow view. -/

namespace Sys2Proof.Machine

/-! ## The header (R42) -/

/-- Block code of a page kind (R35). -/
def blockCode (k : PageKind) : Nat :=
  match pageTable.find? (fun (e : PageKind × Nat × Nat × Nat) => e.1 == k) with
  | some e => e.2.1
  | none => 0

/-- PID: block code, instance, layout version 1.0. -/
def pidWord (k : PageKind) (n : Nat) : Nat := blockCode k * 2 ^ 24 + n * 2 ^ 16 + 0x0100

/-- Code of the Heliostat's state (R240). -/
def helCode : HelSt → Nat
  | .off => 0 | .fadein => 1 | .hold => 2 | .scan => 3 | .fadeout => 4 | .safe => 5

/-- ACT_PSTAT.STATE (R291): strobes are measured while slots or hold cycles run with a measuring interval. -/
def State.actState (s : State) : Nat :=
  if !s.flag R.ACT_CFG F.ACT_CFG.EN then 0
  else if s.act.m != 0 && (s.mer.cycle || s.hel.holding) then 2 else 1

/-- ACT_STAT: the interval m from the arming of a job, or the start of hold cycles, on; 0 while nothing is measured
(R273). -/
def State.actStat (s : State) : Nat :=
  if s.flag R.ACT_CFG F.ACT_CFG.EN && (decide (2 ≤ s.ssc.st) || s.mer.cycle || s.hel.holding) then s.act.m * 65536 else 0

/-- FFT_PSTAT.STATE (R224). -/
def State.fftState (s : State) : Nat :=
  if s.fft.copyBusy then 3 else if s.fft.calBusy then 2 else if s.fft.blend then 1 else 0

/-- HKA_PSTAT.STATE (R293). -/
def State.hkaState (s : State) : Nat :=
  if s.hkTake.hka.cur.isSome then 2 else if s.hka.running then 1 else 0

/-- ALM_PSTAT.STATE (R335). -/
def State.almState (s : State) : Nat :=
  if !s.flag R.ALM_CTL F.ALM_CTL.EN then 0
  else if s.alm.islands.any (fun (i : Nat × Island) => i.2.khz != 0 && decide (i.2.khz < (islandFreq i.1).1 * 1000)) || s.vreq != 750
  then 2 else 1

/-- PHO_PSTAT.STATE (R357). -/
def State.phoState (s : State) : Nat :=
  if !s.flag R.PHO_CTL F.PHO_CTL.EN then 0
  else if !s.jobRuns then 1
  else if s.pho.scanning then 3 else 2

/-- PSTAT.STATE of a page. -/
def State.blockState (s : State) (k : PageKind) (n : Nat) : Nat :=
  match k with
  | .glb => s.glbState
  | .mer => s.merState
  | .acqg => s.acq.power
  | .pltg => s.jobRuns.toNat
  | .fft => s.fftState
  | .helg => helCode s.hel.st
  | .act => s.actState
  | .hka => s.hkaState
  | .col => s.fld R.COL_STAT F.COL_STAT.RUN
  | .alm => s.almState
  | .pho => s.phoState
  | .cdrg => ((List.range 4).any (fun x => (s.axis x).moving)).toNat
  | .cdr => s.axisState n
  | .ssc => s.ssc.st
  | .est => s.estState
  | .dmag => ((List.range 64).any (fun ch => (s.chan ch).st == 2 || (s.chan ch).st == 3)).toNat
  | .dma => (s.chan n).st
  | .hlk => s.hlk.st
  | .evf => s.evfState
  | .chr => s.chrState
  | .sec => s.sec.st
  | .pwr => s.pwr.st
  | .acq => 0
  | .spr => 0
  | .plt => 0
  | .hel => 0

/-- A fault of the block is unacknowledged (PSTAT.FLT). -/
def State.pageFault (s : State) (p : Nat) : Bool := s.chr.unack.any (fun u => faultPage u.1 u.2.1 == p)

/-- A pending value of the page awaits its boundary (PSTAT.PEND). -/
def State.pagePend (s : State) (p : Nat) : Bool := s.pend.any (fun (e : Nat × Word) => pageBase e.1 == p)

/-- PSTAT (R42, R67). -/
def State.pstat (s : State) (k : PageKind) (n p : Nat) : Nat :=
  let h := s.hdr p
  s.attn * 2 ^ 24 + h.xwign * 2 ^ 16 + (s.pagePend p).toNat * 128 + h.go.toNat * 64 + h.srstBsy.toNat * 32 +
  (s.pageFault p).toNat * 16 + s.blockState k n

/-- PLOCK (R60, R550). -/
def State.plock (s : State) (p : Nat) : Nat :=
  (s.hdr p).keyOpen.toNat * 8 + s.sec.field.toNat * 4 + (s.sec.scopes != 0).toNat * 2 + (s.hdr p).locked.toNat

/-- A header register. -/
def State.hdrRead (s : State) (k : PageKind) (n p off : Nat) : Nat :=
  let h := s.hdr p
  match off with
  | 0x00 => pidWord k n
  | 0x04 => h.expert.toNat * 4 + h.srstBsy.toNat * 2 + h.en.toNat
  | 0x08 => s.pstat k n p
  | 0x0C => h.pevt.toNat
  | 0x10 => h.peven.toNat
  | 0x14 => h.go.toNat
  | 0x1C => s.plock p
  | 0x20 => h.pfault.toNat
  | _ => 0

/-! ## Block registers -/

/-- PROC, SMG and SMO of k = 16 of a PLTn page are reserved (R199). -/
def rowReserved (k : PageKind) (r : RegRow) (i : Nat) : Bool :=
  k == .plt && i == 16 && (r.off == 0x040 || r.off == 0x048 || r.off == 0x04C)

/-- Row, index and word of a block register that exists. -/
def regRow (k : PageKind) (off : Nat) : Option (RegRow × Nat × Bool) :=
  match rowOf k off with
  | some (r, i, hi) => if rowReserved k r i then none else some (r, i, hi)
  | none => none

/-- A computed register of a page with one instance. -/
def State.liveOne (s : State) (k : PageKind) (off : Nat) : Option Nat :=
  match k, off with
  | .glb, 0x040 => some s.attn
  | .mer, 0x078 => some s.merStat
  | .helg, 0x074 => some (putBits (s.reg R.HELG_ILK).toNat 0 0 s.ilkHigh.toNat)
  | .helg, 0x06C => some (putBits (s.reg R.HELG_ROWSTAT).toNat 15 0 s.rowsUp)
  | .helg, 0x078 => some s.lamNow
  | .act, 0x060 => some s.actStat
  | .hka, 0x060 => some s.hkaStat
  | .col, 0x064 => some (putBits (s.reg R.COL_STAT).toNat 28 25 s.colPhase)
  | .ssc, 0x080 => some s.sscStat
  | .evf, 0x044 => some s.evfStat
  | .chr, 0x040 => some (s.ts % 2 ^ 32)
  | .chr, 0x044 => some (s.ts / 2 ^ 32)
  | .chr, 0x050 => some (s.chr.line % 2 ^ 32)
  | .chr, 0x054 => some (s.chr.line / 2 ^ 32)
  | .chr, 0x05C => some (s.chr.first * 2 ^ 16 + s.chr.safe.toNat * 2 ^ 8)
  | .chr, 0x064 => some (s.chr.wptr * 2 ^ 8 + s.logUsed)
  | .chr, 0x090 => some s.unackWord
  | .cdrg, _ => s.cdrgRead off
  | .dmag, _ => s.dmagRead off
  | .sec, 0x05C => some ((s.sec.report.head?).getD 0).toNat
  | .sec, _ => s.secRead off
  | _, _ => none

/-- A computed register of index i of a row, on a page of instance n. -/
def State.liveRow (s : State) (k : PageKind) (n i row off a : Nat) : Option Nat :=
  match k, row with
  | .hel, 0x044 => some (putBits (putBits (s.reg a).toNat 0 0 (s.colActive (8 * n + i)).toNat) 1 1 (s.colFades (8 * n + i)).toNat)
  | .cdr, _ => s.cdrRead n off
  | .dma, _ => s.dmaRead n off
  | .evf, 0x480 => if i = 16 then some s.sub16 else none
  | .evf, 0x604 => some (putBits (s.reg a).toNat 0 0 (s.cell i).q.toNat)
  | .evf, 0x700 => some (putBits (s.reg a).toNat 31 31 (bit s.evf.evi i).toNat)
  | _, _ => s.liveOne k off

/-- Active value of the block register at offset off of page p, as a read returns it (R6). -/
def State.regRead (s : State) (k : PageKind) (n p off : Nat) : Nat :=
  match regRow k off with
  | none => 0
  | some (r, i, _) => (s.liveRow k n i r.off off (p + off)).getD (s.reg (p + off)).toNat

/-- The shadow view of offset off (R48, R50). -/
def State.shadowRead (s : State) (k : PageKind) (n p off : Nat) : Nat :=
  match tabFind s.pend (p + off) with
  | some w => w.toNat
  | none => s.regRead k n p off

/-- The reset value of the block register at offset off and address a: that of its map, or what this boot found or the
fuses hold where the map says so (R45, R199, R424, R556). -/
def State.resetVal (s : State) (k : PageKind) (off a : Nat) : Word :=
  if (regRow k off).isNone then 0
  else if k == .sec then
    if a = R.SEC_VERA then s.sec.bootA else if a = R.SEC_VERB then s.sec.bootB
    else if a = R.SEC_STAT ∨ 0xA0 ≤ off then BitVec.ofNat 32 ((s.secRead off).getD 0)
    else regDefault s.straps a
  else if a = R.EST_CFG ∨ a = R.EST_CEIL then s.reg a
  else regDefault s.straps a

/-- A read of a page while its page soft reset runs (R45). -/
def State.resetRead (s : State) (k : PageKind) (n p off : Nat) : Nat :=
  if off = 0x00 then pidWord k n
  else if off = 0x04 ∨ off = 0x08 then s.hdrRead k n p off
  else if off = 0x1C then s.sec.field.toNat * 4
  else if 0x40 ≤ off ∧ off < 0x800 then (s.resetVal k off (p + off)).toNat
  else if 0x840 ≤ off then (s.resetVal k (off - 0x800) (p + off - 0x800)).toNat
  else 0

/-- What a page answers to a read at an offset. -/
def State.pageRead (s : State) (k : PageKind) (n p off : Nat) : Nat :=
  if (s.hdr p).srstBsy then s.resetRead k n p off
  else if off < 0x40 then s.hdrRead k n p off
  else if off < 0x800 then s.regRead k n p off
  else if 0x840 ≤ off then s.shadowRead k n p (off - 0x800)
  else 0

/-- What a read does beside answering: a read of SEC_OBUF takes the word (R554), one of CDRx_VEL uses up the free value
of its rounding (notes/assumptions 2). -/
def State.readEffect (s : State) (a : Nat) : State :=
  if a = R.SEC_OBUF ∧ !(s.hdr P.SEC).srstBsy then s.reportRead.1
  else if [0, 1, 2, 3].contains ((a - P.CDRx 0) / 0x1000) && a == R.CDRx_VEL ((a - P.CDRx 0) / 0x1000) then s.useFree
  else s

/-- A 32-bit read of BAR0 (R32, R36, R572). -/
def State.busRead (s : State) (a : Nat) : State × Word :=
  if s.busDark then (s, 0)
  else if msixAddr a then (s, s.msixRead a)
  else match pageOf a with
    | none => (s, 0)
    | some (k, n, off) => (s.readEffect a, BitVec.ofNat 32 (s.pageRead k n (pageBase a) off))

end Sys2Proof.Machine
end

