-- ==== Sys2Proof/Machine/BusReset.lean ====
section
/-! DEFINITION. The page soft reset, expert ownership, commits and boundaries that pass while nothing runs (spec/02 R44,
R45, R52, R53, R71, R72; spec/00 R8; spec/01 R27 to R29; spec/12 R623). -/

namespace Sys2Proof.Machine

/-! ## The page soft reset (R44) -/

/-- A register that shows machine state, or that a page soft reset keeps: KW fields, and what a block chapter names. -/
def keptReg (k : PageKind) (a : Nat) : Bool :=
  match k with
  | .acqg => a == R.ACQG_STAT
  | .acq => (List.range 4).any (fun j => a % 0x1000 == R.ACQn_CHk_STAT 0 j % 0x1000 || a % 0x1000 == R.ACQn_CHk_TRIMUSE 0 j % 0x1000)
  | .spr => (List.range 16).any (fun g => a == R.SPR_SPg_STAT g)
  | .fft => a == R.FFT_STAT || a == R.FFT_BLENDN
  | .helg => a == R.HELG_SAFE || a == R.HELG_UV || a == R.HELG_ILK || a == R.HELG_ROWSTAT || a == R.HELG_LAMBDA
  | .act => a == R.ACT_STAT
  | .hka => a == R.HKA_STAT
  | .col => a == R.COL_STAT
  | .alm => a == R.ALM_VLIM
  | .cdrg => a == R.CDRG_CTL
  | .est => a == R.EST_CFG || a == R.EST_CEIL || a == R.EST_HWM || a == R.EST_FILL
  | .dmag => a == R.DMAG_HALT0 || a == R.DMAG_HALT1
  | .hlk => a == R.HLK_LINK
  | .chr => a == R.CHR_LOGOVF
  | .pwr => a == R.PWR_STRAP || a == R.PWR_CAUSE || a == R.PWR_WAKE || a == R.PWR_BOOTT || a == R.PWR_PMB || a == R.PWR_STAT
  | .evf => true
  | _ => false

/-- Column c after a soft reset of its page: verdicts, masks and a fault are cleared, and what returns fades in (R248). -/
def State.colReset (s : State) (c : Nat) : State :=
  let back := s.flag (colStat c) F.HELn_COLk_STAT.FLT || !s.flag (colCtl c) F.HELn_COLk_CTL.EN
  let s := (s.verdictClear c 0xFFFFFFFF#32).hdrmClear c
  let s := (s.setFlag (colStat c) F.HELn_COLk_STAT.FLT false).setFlag (colCtl c) F.HELn_COLk_CTL.EN true
  s.when back (fun s => s.unitStart (colKey c))

/-- What a page soft reset does to the running functions of its block before the registers return to reset. -/
def State.resetBefore (s : State) (k : PageKind) (n : Nat) : State :=
  match k with
  | .fft => (s.when (s.fft.calBusy || s.fft.run != 0) State.runStop).fftSoftReset
  | .helg => s.rowenApply 0xFFFF#32
  | .hel => forN 8 (fun s j => s.colReset (8 * n + j)) s
  | .col => s.colCtlWrite (regDefault s.straps R.COL_CTL)
  | .pho => s.phoSoftReset
  | .cdr =>
    let s := s.when (!(s.hdr (P.CDRx n)).en) (fun s => s.cdrEnable n true)
    let z (c : Chop) : Chop := { c with ofs := 0, cycles := 0, err := 0 }
    s.setAxis n { s.axis n with chopA := z (s.axis n).chopA, chopB := z (s.axis n).chopB }
  | .ssc => s.abortJob
  | .dmag => { s with dma := { s.dma with cqs := [], cqOdd := 0 } }
  | .dma => s.dmaDisable n
  | .evf => s.evfSoftReset
  | .sec => s.secSoftReset
  | _ => s

/-- What follows the return of the registers to reset. -/
def State.resetAfter (s : State) (k : PageKind) (n : Nat) : State :=
  match k with
  | .chr => { s with chr := { s.chr with line := 0 } }
  | .glb => s.setFlag R.GLB_MBXRSP F.GLB_MBXRSP.BUSY s.sec.mbx.isSome
  | .acqg => s.setFld R.ACQG_STAT F.ACQG_STAT.WIRECNT 0
  | .acq => s.when (!s.mer.cycle) (forN 4 (fun s i => s.wireForget (4 * n + i)))
  | .helg => s.lampDisable
  | .est => s.estSoftReset (s.reg R.EST_HWM)
  | .dma => s.setChan n { st := 1 }
  | _ => s

/-- The registers of a page return to their reset values, apart from those that are kept (R44). -/
def State.resetRegs (s : State) (k : PageKind) (p : Nat) : State :=
  let l := s.regs.filter (fun (e : Nat × Word) => pageBase e.1 == p && !keptReg k e.1)
  foldS (fun (s : State) (e : Nat × Word) => s.activate e.1 (s.resetVal k (e.1 % 0x1000) e.1)) s l

/-- A write of PCTL.SRST to page p (R44): it stays busy until SOFT_RESET_DONE. -/
def State.pageSoftReset (s : State) (p : Nat) : State :=
  match pageOf p with
  | none => s
  | some (k, n, _) =>
    let s := s.resetBefore k n
    let s := { s with pend := tabKeep (fun a => pageBase a != p) s.pend, hold64 := tabKeep (fun a => pageBase a != p) s.hold64 }
    let s := (s.resetRegs k p).resetAfter k n
    s.setHdr p { locked := (s.hdr p).locked, srstBsy := true, due := true }

/-- PAGE_SOFT_RESET. -/
def execPageSoftReset (page : Nat) (s : State) : Host.Outcome State Fault Refusal :=
  .next (if (pageOf page).isSome ∧ page % 0x1000 = 0 then s.hostWrite page (fun s => s.pageSoftReset page) else s)

/-- SOFT_RESET_DONE (R45). -/
def execSoftResetDone (page : Nat) (s : State) : Host.Outcome State Fault Refusal :=
  .next (if (s.hdr page).srstBsy then s.setHdr page { s.hdr page with srstBsy := false } else s)

/-! ## Expert ownership (R27 to R29, R71, R72) -/

/-- Some field of a register is XW. -/
def rowXw (r : RegRow) : Bool := r.fields.any (fun f => f.acc == .xw)

/-- The host has asked for something in a W1S bit of a pending value, which waits for its boundary (R8). -/
def pendAsks (r : RegRow) (pending : Nat) : Bool := r.fields.any (fun f => f.acc == .w1s && bits pending f.hi f.lo != 0)

/-- The pending value of a register without the host's XW fields: they go back to their active values. -/
def dropXw (r : RegRow) (active pending : Nat) : Nat :=
  r.fields.foldl (fun v f => if f.acc = .xw then putBits v f.hi f.lo (bits active f.hi f.lo) else v) pending

/-- PCTL.EXPERT is set: the fields keep their values. -/
def State.expertSet (s : State) (p : Nat) : State := s.setHdr p { s.hdr p with expert := true }

/-- Pending XW values of page p are discarded (R72). -/
def State.discardXw (s : State) (p : Nat) : State :=
  let l := s.pend.filter (fun (e : Nat × Word) => pageBase e.1 == p)
  foldS (fun (s : State) (e : Nat × Word) =>
    match pageOf e.1 with
    | none => s
    | some (k, _, off) =>
      match rowOf k off with
      | none => s
      | some (r, _, _) =>
        if rowXw r then
          let v := dropXw r (s.reg e.1).toNat e.2.toNat
          if v = (s.reg e.1).toNat ∧ !pendAsks r v then { s with pend := tabErase s.pend e.1 }
          else { s with pend := tabIns s.pend e.1 (BitVec.ofNat 32 v) }
        else s) s l

/-- PCTL.EXPERT is cleared: the page returns to the control core, which owes it a rewrite. -/
def State.expertClear (s : State) (p : Nat) : State :=
  let s := s.discardXw p
  s.setHdr p { s.hdr p with expert := false, due := true }

/-- EXPERT_SET. -/
def execExpertSet (page : Nat) (s : State) : Host.Outcome State Fault Refusal :=
  .next (if (pageOf page).isSome ∧ page % 0x1000 = 0 then s.hostWrite page (fun s => s.expertSet page) else s)

/-- EXPERT_CLEAR: nothing changes for a page that is already in basic mode. -/
def execExpertClear (page : Nat) (s : State) : Host.Outcome State Fault Refusal :=
  .next (if (pageOf page).isSome ∧ page % 0x1000 = 0 then
      s.hostWrite page (fun s => if (s.hdr page).expert then s.expertClear page else s)
    else s)

/-- The control core rewrites page p (R29, R623). -/
def State.rewritePage (s : State) (p : Nat) : State :=
  let s := if (s.hdr p).expert then s else s.derivePage p
  s.setHdr p { s.hdr p with due := false }

/-- PROFILE_DERIVE: every rewrite owed is done, unless the services are paused; during ADMIT every page in basic mode
takes the profile (R393). -/
def State.profileDerive (s : State) : State :=
  if s.sec.paused then s
  else
    let l := (s.hdrs.filter (fun (e : Nat × Hdr) => e.2.due && !e.2.srstBsy)).map (fun (e : Nat × Hdr) => e.1)
    (foldS State.rewritePage s l).when (s.ssc.st == 1) State.deriveAll

def execProfileDerive (t : Nat) (s : State) : Host.Outcome State Fault Refusal := .next (s.upto t).profileDerive

/-! ## Commits (R52, R53) -/

def State.commitRequest (s : State) (p : Nat) : State := s.setHdr p { s.hdr p with go := true }

/-- PCOMMIT_GO: GO reads 1 until the commit is applied. -/
def execPcommitGo (page : Nat) (s : State) : Host.Outcome State Fault Refusal :=
  .next (if (pageOf page).isSome ∧ page % 0x1000 = 0 then s.hostWrite page (fun s => s.commitRequest page) else s)

/-! ## Boundaries that cannot come because nothing runs (R8) -/

/-- The boundary of the pending value at a cannot come: what it waits for does not run. A value of boundary J that the
control core rewrote, or that a refused job left, waits for the next arming instead (R29, R393). -/
def State.idleBnd (s : State) (k : PageKind) (n a : Nat) (b : Bnd) : Bool :=
  match b with
  | .i => true
  | .s => !s.mer.cycle
  | .l => !s.mer.cycle
  | .c => false
  | .m => k == .cdr && (s.axis n).cur.isNone && (s.axis n).queue.isEmpty
  | .d => k == .dma && (s.chan n).st == 0
  | .j => s.ssc.st == 0 && !s.ssc.jHold.contains a

/-- A pending value that is applied now. -/
def State.idleSel (s : State) (k : PageKind) (n p a : Nat) : Bool :=
  pageBase a == p && !s.lineHeld a && (match bndOf a with
    | some b => s.idleBnd k n a b
    | none => false)

/-- What goes with the values of boundary L that are more than values, while no line cycle runs (R143, R182, R206, R217,
R263). -/
def State.idleActs (s : State) (k : PageKind) (n : Nat) : State :=
  if s.mer.cycle then s
  else match k with
    | .acq => forN 4 (fun s i => s.wireForget (4 * n + i)) s
    | .helg => match tabFind s.pend R.HELG_ROWEN with
      | some w => ({ s with pend := tabErase s.pend R.HELG_ROWEN } : State).rowenApply w
      | none => s
    | .fft =>
      let go := s.pendBit R.FFT_SWITCH F.FFT_SWITCH.GO
      ({ s with pend := tabErase s.pend R.FFT_SWITCH } : State).when go State.switchIdle
    | _ => s

/-- PENDING_APPLY_IDLE: the values of page p whose boundary cannot come become active, and a commit asked for. -/
def State.pendingIdle (s : State) (p : Nat) : State :=
  match pageOf p with
  | none => s
  | some (k, n, _) =>
    let old := s
    let clrT := !s.mer.cycle && k == .fft && s.pendBit R.FFT_DARK F.FFT_DARK.CLR
    let clrS := !s.mer.cycle && k == .pltg && s.pendBit R.PLTG_STREAK F.PLTG_STREAK.CLR
    let s := (s.applyPend (fun a => old.idleSel k n p a)).when (k == .hel) (fun s => s.colFollow old)
    let s := ((s.idleActs k n).when clrT State.darkClear).when clrS State.streakClear
    let s := s.when ((s.hdr p).go && !s.mer.cycle) (fun s => s.commit p)
    s.when (k == .spr && !s.mer.cycle) (forN 16 State.spareFollow)

def execPendingApplyIdle (page : Nat) (s : State) : Host.Outcome State Fault Refusal :=
  .next (if page % 0x1000 = 0 then s.pendingIdle page else s)

end Sys2Proof.Machine
end

