-- ==== Sys2Proof/Machine/Bus.lean ====
section
/-! DEFINITION. Host writes over the register bus (spec/02 R32, R36, R49, R55 to R64, R70, R622): headers, fields under
their access codes, 64-bit pairs, and the registers whose write does more than store a value. -/

namespace Sys2Proof.Machine

/-! ## The guard and the lock (R55 to R61) -/

/-- PKEY: the key opens the guard for one KW write, any other value re-arms it. -/
def State.pkeyWrite (s : State) (p : Nat) (key : Word) : State :=
  s.setHdr p { s.hdr p with keyOpen := key == 0x0B5E2DA7#32 }

/-- PKEY_WRITE. -/
def execPkeyWrite (page : Nat) (key : Word) (s : State) : Host.Outcome State Fault Refusal :=
  .next (if (pageOf page).isSome ∧ page % 0x1000 = 0 then s.hostWrite page (fun s => s.pkeyWrite page key) else s)

/-- A write of 1 to PLOCK.LOCKED, a KW write. -/
def State.plockWrite (s : State) (p : Nat) : State :=
  s.guarded p (fun s => s.setHdr p { s.hdr p with locked := true })

/-- PLOCK_LOCK. -/
def execPlockLock (page : Nat) (s : State) : Host.Outcome State Fault Refusal :=
  .next (if (pageOf page).isSome ∧ page % 0x1000 = 0 then s.hostWrite page (fun s => s.plockWrite page) else s)

/-! ## The header (R42) -/

/-- What a write of PCTL.EN does beside its bit. -/
def State.pageEnable (s : State) (k : PageKind) (n p : Nat) (en : Bool) : State :=
  if (s.hdr p).en = en then s
  else
    match k with
    | .cdr => (s.setHdr p { s.hdr p with en := en }).cdrEnable n en
    | .dma => if en then s.dmaEnable n else s.dmaDisable n
    | _ => s.setHdr p { s.hdr p with en := en }

/-- PCTL: a soft reset overrides the rest of its write (R44). -/
def State.pctlWrite (s : State) (k : PageKind) (n p w : Nat) : State :=
  if bit w 1 then s.pageSoftReset p
  else
    let s := if bit w 2 then s.expertSet p else s.when (s.hdr p).expert (fun s => s.expertClear p)
    s.pageEnable k n p (bit w 0)

/-- PEVT, W1C; clearing XWI also clears PSTAT.XWIGN. -/
def State.pevtWrite (s : State) (p : Nat) (w : Word) : State :=
  let h := s.hdr p
  s.setHdr p { h with pevt := h.pevt &&& ~~~w, xwign := if bit w.toNat 1 then 0 else h.xwign }

/-- PEVEN: an event that a new enable lets through is a change of PEVT AND PEVEN (R473). -/
def State.pevenWrite (s : State) (p : Nat) (w : Word) : State :=
  let h := s.hdr p
  let s' := s.setHdr p { h with peven := w }
  if h.pevt &&& w &&& ~~~h.peven != 0 then s'.irq p else s'

/-- A write to a header register. -/
def State.hdrWrite (s : State) (k : PageKind) (n p off : Nat) (w : Word) : State :=
  match off with
  | 0x04 => s.pctlWrite k n p w.toNat
  | 0x0C => s.pevtWrite p w
  | 0x10 => s.pevenWrite p w
  | 0x14 => s.when (bit w.toNat 0) (fun s => s.commitRequest p)
  | 0x18 => s.pkeyWrite p w
  | 0x1C => s.when (bit w.toNat 0) (fun s => s.plockWrite p)
  | _ => s

/-- How many block bits a page's PEVT defines, from bit 8 on (the block rules: R109, R154, R198, R224, R266 and so on). -/
def evtCount (k : PageKind) : Nat :=
  match k with
  | .glb => 2 | .mer => 3 | .acqg => 3 | .acq => 0 | .spr => 0 | .pltg => 4 | .plt => 0 | .fft => 6 | .helg => 12
  | .hel => 0 | .act => 2 | .hka => 5 | .col => 4 | .alm => 4 | .pho => 6 | .cdrg => 2 | .cdr => 11 | .ssc => 8
  | .est => 6 | .dmag => 2 | .dma => 4 | .hlk => 6 | .evf => 5 | .chr => 6 | .sec => 6 | .pwr => 6

/-- Reserved bits of PEVT and PEVEN. -/
def evtReserved (k : PageKind) : Nat := 0xFFFFFFFF - (2 ^ (evtCount k + 8) - 256) - 0xF

/-- Reserved bits of a header register. -/
def hdrReserved (k : PageKind) (off : Nat) : Nat :=
  match off with
  | 0x00 => 0
  | 0x04 => 0xFFFFFFF8
  | 0x08 => 0
  | 0x0C => evtReserved k
  | 0x10 => evtReserved k
  | 0x14 => 0xFFFFFFFE
  | 0x18 => 0
  | 0x1C => 0xFFFFFFF0
  | 0x20 => 0
  | _ => 0xFFFFFFFF

/-! ## Fields (R6, R7, R70, R622) -/

/-- A register that the device only reads out: it ignores every write. -/
def rowRo (r : RegRow) : Bool := r.fields.all (fun f => f.acc == .ro) && !r.anyClr

/-- Bits of a register that belong to no field. -/
def rowReservedBits (r : RegRow) : Nat :=
  let m := r.fields.foldl (fun m f => m ||| maskBits f.hi f.lo) 0
  (if r.wide then 0xFFFFFFFFFFFFFFFF else 0xFFFFFFFF) - m

/-- The field after a write of w: xw and kw tell whether XW and KW fields are applied. -/
def mergeField (w : Nat) (xw kw : Bool) (v : Nat) (f : FieldRow) : Nat :=
  let x := bits w f.hi f.lo
  let old := bits v f.hi f.lo
  match f.acc with
  | .ro => v
  | .wo => v
  | .kwwo => v
  | .rw => putBits v f.hi f.lo x
  | .xw => if xw then putBits v f.hi f.lo x else v
  | .kwrw => if kw then putBits v f.hi f.lo x else v
  | .w1s => putBits v f.hi f.lo (old ||| x)
  | .kw1s => if kw then putBits v f.hi f.lo (old ||| x) else v
  | .w1c => putBits v f.hi f.lo (old - (old &&& x))
  | .kw1c => if kw then putBits v f.hi f.lo (old - (old &&& x)) else v

/-- A register after a write. -/
def mergeRow (r : RegRow) (w : Nat) (xw kw : Bool) (v : Nat) : Nat := r.fields.foldl (mergeField w xw kw) v

/-- The write would act on a KW field (R622). -/
def kwHit (r : RegRow) (active w : Nat) : Bool :=
  r.fields.any (fun f =>
    match f.acc with
    | .kw1s => bits w f.hi f.lo != 0
    | .kw1c => bits w f.hi f.lo != 0
    | .kwwo => true
    | .kwrw => bits w f.hi f.lo != bits active f.hi f.lo
    | _ => false)

/-- The write would change an XW field (R70). -/
def xwHit (r : RegRow) (active w : Nat) : Bool :=
  r.fields.any (fun f => f.acc == .xw && bits w f.hi f.lo != bits active f.hi f.lo)

/-- A write of page p left XW fields unchanged that it would have changed (R27, R70). -/
def State.xwIgnored (s : State) (p : Nat) : State :=
  (s.setHdr p { s.hdr p with xwign := min 255 ((s.hdr p).xwign + 1) }).evt p 1

/-- Store the new value of a register at its boundary: at once for boundary I, pending otherwise (R8, R9); a host's value
of boundary J no longer waits for an arming. -/
def State.putReg (s : State) (r : RegRow) (a v : Nat) : State :=
  let s := { s with ssc := { s.ssc with jHold := s.ssc.jHold.filter (· != a) } }
  if r.bnd = .i then if r.wide then s.setReg64 a v else s.setReg a (BitVec.ofNat 32 v)
  else if r.wide then
    { s with pend := tabIns (tabIns s.pend a (BitVec.ofNat 32 v)) (a + 4) (BitVec.ofNat 32 (v / 2 ^ 32)) }
  else { s with pend := tabIns s.pend a (BitVec.ofNat 32 v) }

/-- The active value of a buffered register without its W1S bits: a request in progress is none of the next write's. -/
def dropW1s (r : RegRow) (v : Nat) : Nat :=
  r.fields.foldl (fun v f => if f.acc = .w1s then putBits v f.hi f.lo 0 else v) v

/-- The value a write starts from: pending where one is held, else active. -/
def State.baseOf (s : State) (r : RegRow) (a : Nat) : Nat :=
  if r.bnd != .i && !r.wide && (tabFind s.pend a).isNone then dropW1s r (s.reg a).toNat
  else (s.regNext a).toNat + (if r.wide then (s.regNext (a + 4)).toNat * 2 ^ 32 else 0)

/-- A write that no field of the register takes: in basic mode every field is XW or RO, or it holds requests only and no
1 is written to them. A counter that any write clears takes every write. -/
def writeNone (r : RegRow) (xw : Bool) (w : Nat) : Bool :=
  !r.anyClr && ((!xw && r.fields.all (fun f => f.acc == .xw || f.acc == .ro)) ||
    (r.bnd != .i && r.fields.all (fun f => f.acc == .w1s && bits w f.hi f.lo == 0)))

/-- The fields of a register take a write under their access codes; the KW fields only where the guard and the lock let
them, the XW fields only in expert mode. Answers also whether KW fields were applied. -/
def State.fieldWrite (s : State) (p : Nat) (r : RegRow) (a w : Nat) : State × Bool :=
  let active := (s.reg a).toNat + (if r.wide then (s.reg (a + 4)).toNat * 2 ^ 32 else 0)
  let isKw := kwHit r active w
  let kw := isKw && s.kwAllowed p
  let xw := (s.hdr p).expert
  let s := s.when isKw (fun s => s.kwSpend p)
  let s := s.when (!xw && xwHit r active w) (fun s => s.xwIgnored p)
  let v := if r.anyClr then 0 else mergeRow r w xw kw (s.baseOf r a)
  if writeNone r xw w then (s, kw) else (s.putReg r a v, kw)

/-! ## Registers whose write acts -/

def State.glbWrite (s : State) (off w : Nat) : Option State :=
  match off with
  | 0x040 => some { s with attnL := s.attnL - (s.attnL &&& (w &&& 0x7E)) }
  | 0x048 => some (s.when (bit w 0) (fun s => s.guarded P.GLB (fun s => s.warmReset 2)))
  | 0x080 => some (s.mbxWrite (BitVec.ofNat 32 w))
  | _ => none

def State.helgWrite (s : State) (off w : Nat) : Option State :=
  match off with
  | 0x060 => some (s.when (w % 65536 != s.fld R.HELG_SAFE F.HELG_SAFE.SAFE) (fun s =>
      s.guarded P.HELG (fun s => s.safeWrite (w % 65536))))
  | 0x064 => some (s.when (w % 65536 != 0) (fun s => s.guarded P.HELG (fun s => s.uvWrite (w % 65536))))
  | 0x068 => some (s.rowenWrite (BitVec.ofNat 32 w))
  | 0x074 => some (s.when (bit w 1) (fun s => s.guarded P.HELG State.ilkClear))
  | _ => none

/-- Column c's registers. REEN acts at once (its boundary is I); EN is held. -/
def State.helWrite (s : State) (c row a w : Nat) : Option State :=
  match row with
  | 0x040 =>
    let s := { s with pend := tabIns s.pend a (BitVec.ofNat 32 (w % 2)) }
    some (s.when (bit w 1) (fun s => s.columnReen c))
  | 0x044 => some (s.when (bit w 3) (fun s => s.hdrmClear c))
  | 0x048 => some (s.verdictClear c (BitVec.ofNat 32 w))
  | _ => none

/-- COL_REQ: every bit written 1 is one request, from LAMP up. -/
def State.colReqWrite (s : State) (w : Nat) : State :=
  let s := foldS (fun (s : State) kind => if bit w (kind - 1) then s.colRequest kind else s) s [1, 2, 3, 4]
  s.when (bit w 4) State.rotRestart

def State.colWrite (s : State) (off w : Nat) : Option State :=
  match off with
  | 0x040 => some (s.colCtlWrite (BitVec.ofNat 32 w))
  | 0x044 => some (s.colPermWrite (BitVec.ofNat 32 w))
  | 0x060 => some (s.colReqWrite w)
  | 0x078 => some (s.sigmaSelect (BitVec.ofNat 32 w))
  | _ => none

def State.cdrWrite (s : State) (x off w : Nat) : Option State :=
  match off with
  | 0x078 => some (s.cdrCtl x w)
  | 0x098 => some (s.mctlWrite x (BitVec.ofNat 32 w))
  | _ => none

def State.dmaWrite (s : State) (ch off w : Nat) : Option State :=
  match off with
  | 0x048 => some (s.when (bit w 0) (fun s => s.dmaKick ch))
  | 0x050 => some (s.dmaNext ch (w % 2 ^ 64))
  | 0x060 => some (s.rrpWrite ch (BitVec.ofNat 32 w))
  | _ => none

/-- EVF_CHc: LOCK is a KW bit, the other fields follow their own codes (R622); a lock set by this write does not hold
the other fields of the same write, and a write that R503 ignores counts once. -/
def State.evfChannel (s : State) (c w : Nat) : State :=
  let once := s.chNotHost c && !s.chLocked c && bit w 31 && s.kwAllowed P.EVF
  let s := if once then s else s.chWrite c w
  s.when (bit w 31) (fun s => s.guarded P.EVF (fun s => s.chLock c))

def State.evfCell (s : State) (n w : Nat) : State :=
  let s := s.cellCfgWrite n w
  s.when (bit w 1) (fun s => s.guarded P.EVF (fun s => s.setFlag (R.EVF_LCn_CFG n) F.EVF_LCn_CFG.LOCK true))

def State.evfWrite (s : State) (row i w : Nat) : Option State :=
  match row with
  | 0x048 => some (s.softPulse w)
  | 0x100 => some (s.evfChannel i w)
  | 0x200 => some (s.pubWrite i w)
  | 0x480 => some (s.subWrite i w)
  | 0x600 => some (s.cellInWrite i (BitVec.ofNat 32 w))
  | 0x604 => some (s.evfCell i w)
  | 0x740 => some (s.evoWrite i (BitVec.ofNat 32 w))
  | _ => none

/-- CHR_SAFE: GO and CLR are KW bits of one write. -/
def State.chrSafeWrite (s : State) (w : Nat) : State :=
  s.when (bit w 0 || bit w 1) (fun s => s.guarded P.CHR (fun s =>
    (s.when (bit w 1) State.safeClear).when (bit w 0) (fun s => s.critical 0x1804 0)))

def State.chrWrite (s : State) (off w : Nat) : Option State :=
  match off with
  | 0x048 => some (s.tsLoad (w % 2 ^ 64))
  | 0x050 => some (s.lineLoad (w % 2 ^ 64))
  | 0x058 => some (s.faultAck w)
  | 0x05C => some (s.chrSafeWrite w)
  | 0x060 => some (s.when (bit w 0) State.logClear)
  | 0x06C => some (s.logSelect w)
  | _ => none

/-- The nonce that a write of SEC_OP draws: fresh free words. -/
def State.freshWords (s : State) (n : Nat) : List Word := (List.range n).map (fun i => BitVec.ofNat 32 (Config.free (s.fv + i)))

def State.secDebug (s : State) (w : Nat) : State :=
  let s := s.setFld R.SEC_DBGCTL F.SEC_DBGCTL.SCOPE (bits w 3 0)
  let s := s.when (bit w 5) State.debugClose
  s.when (bit w 4) (fun s => s.guarded P.SEC State.debugOpen)

def State.secWrite (s : State) (off w : Nat) : Option State :=
  match off with
  | 0x044 => some (({ s with fv := s.fv + 8 } : State).secOp w (s.freshWords 8))
  | 0x048 => some (s.guarded P.SEC (fun s => s.secKop w))
  | 0x050 => some (s.imageWord (BitVec.ofNat 32 w))
  | 0x064 => some (s.secDebug w)
  | _ => none

/-- The write of a register whose row starts at offset row and has index i, where it does more than store: the state
after it. -/
def State.specialWrite (s : State) (link : Nat) (k : PageKind) (n row i a w : Nat) : Option State :=
  match k with
  | .glb => s.glbWrite row w
  | .helg => s.helgWrite row w
  | .hel => s.helWrite (8 * n + i) row a w
  | .act => if row = 0x070 then some (s.lampSelect (BitVec.ofNat 32 w)) else none
  | .hka => if row = 0x054 then some (s.urgent (urgentOf (BitVec.ofNat 32 w) (bits w 31 24))) else none
  | .col => s.colWrite row w
  | .cdrg => if row = 0x04C then some (s.cdrGcmd w) else none
  | .cdr => s.cdrWrite n row w
  | .ssc => if row = 0x07C then some (s.sscCmd w) else none
  | .dmag => if row = 0x090 then some (s.cqRiWrite i (BitVec.ofNat 32 w)) else none
  | .dma => s.dmaWrite n row w
  | .hlk => if row = 0x044 then some (s.wlockWrite link w) else none
  | .evf => s.evfWrite row i w
  | .chr => s.chrWrite row w
  | .sec => s.secWrite row w
  | .pwr => if row = 0x040 then some (s.pwrRequest (bits w 1 0)) else none
  | _ => none

/-! ## What follows a stored value -/

/-- Vector 8 when a new mask lets a bit of ATTN through (R473). -/
def State.maskFollow (s old : State) : State :=
  let m := s.fld R.GLB_ATTNMASK F.GLB_ATTNMASK.MASK
  let m0 := old.fld R.GLB_ATTNMASK F.GLB_ATTNMASK.MASK
  if (List.range 8).any (fun b => bit m b && !bit m0 b && bit s.attn b) then s.sendVector 8 else s

/-- Effects of a stored value; old: the state before the write, kw: KW fields were applied. -/
def State.afterWrite (s old : State) (k : PageKind) (n row i w : Nat) (kw : Bool) : State :=
  match k, row with
  | .glb, 0x044 => s.maskFollow old
  | .pltg, 0x054 => s.when (bit w 0) (fun s => s.setFlag R.PLTG_STREAK F.PLTG_STREAK.CLR true)
  | .fft, 0x044 => s.when (bit w 0) (fun s => s.setFlag R.FFT_SWITCH F.FFT_SWITCH.GO true)
  | .fft, 0x050 => s.when (bit w 8) (fun s => s.setFlag R.FFT_DARK F.FFT_DARK.CLR true)
  | .helg, 0x040 =>
    if bit w 0 then s.lampEnable
    else s.when (old.flag R.HELG_CTL F.HELG_CTL.LAMPEN) State.lampDisable
  | .hka, 0x040 => s.when (bit w 0 && !s.hka.running && s.hka.cur.isNone && !old.flag R.HKA_CTL F.HKA_CTL.RUN) State.hkStart
  | .alm, 0x040 => { s with alm := { s.alm with stopped := false } }
  | .dmag, 0x088 => s.when (bit w 8 && !old.flag (R.DMAG_CQq_CFG i) F.DMAG_CQq_CFG.EN) (fun s => s.cqEnable i)
    |>.cqMoved old i
  | .dmag, 0x080 => s.cqMoved old i
  | .dma, 0x044 => s.setChan n { s.chan n with bucket := min (s.chan n).bucket (s.bucketCap n) }
  | .pwr, 0x058 => s.when kw (fun s => s.send (.pmbus 0x20 0))
  | _, _ => s

/-! ## One register write -/

/-- The whole value w of a register arrives: both words of a 64-bit register. -/
def State.rowWrite (s : State) (link : Nat) (k : PageKind) (n p : Nat) (r : RegRow) (i a w : Nat) : State :=
  if rowRo r then s
  else match s.specialWrite link k n r.off i a w with
    | some s' => s'
    | none =>
      let x := s.fieldWrite p r a w
      x.1.afterWrite s k n r.off i w x.2

/-- The low word that a high word completes: held, else pending, else active (R63). -/
def State.lowWord (s : State) (k : PageKind) (n p off : Nat) : Nat :=
  match tabFind s.hold64 (p + off) with
  | some w => w.toNat
  | none => s.shadowRead k n p off

/-- A write to a block register. -/
def State.blockWrite (s : State) (link : Nat) (k : PageKind) (n p off : Nat) (w : Word) : State :=
  match regRow k off with
  | none => s
  | some (r, i, hi) =>
    if rowRo r then s
    else if hi then
      let low := s.lowWord k n p (off - 4)
      let s := { s with hold64 := tabErase s.hold64 (p + off - 4) }
      s.rowWrite link k n p r i (p + off - 4) (low + w.toNat * 2 ^ 32)
    else if r.wide then { s with hold64 := tabIns s.hold64 (p + off) w }
    else s.rowWrite link k n p r i (p + off) w.toNat

/-- The bits of a write at an offset of a page that are reserved (R64, R65). -/
def reservedAt (k : PageKind) (off : Nat) : Nat :=
  if 0x800 ≤ off then 0
  else if off < 0x40 then hdrReserved k off
  else match regRow k off with
    | none => 0xFFFFFFFF
    | some (r, _, hi) =>
      if rowRo r || r.anyClr then 0
      else if hi then rowReservedBits r / 2 ^ 32 else rowReservedBits r % 2 ^ 32

/-- A write that a page takes: its reserved bits are ignored (R64 with R550, notes/assumptions 7). -/
def State.pageWrite (s : State) (link : Nat) (k : PageKind) (n off a : Nat) (w : Word) : State :=
  let p := pageBase a
  let w : Word := w &&& ~~~(BitVec.ofNat 32 (reservedAt k off))
  if !s.accepts p then s
  else if 0x800 ≤ off then s.ignored link 0 3 a
  else if off < 0x40 then s.hdrWrite k n p off w
  else s.blockWrite link k n p off w

/-- A 32-bit write to BAR0 with every byte enable, from a link: 0 PCIe, 1 the management SPI (R32, R36, R49, R480). -/
def State.busWrite (s : State) (link a : Nat) (w : Word) : State :=
  if s.busDark then s
  else if s.wlocked link a then s.ignored link 0 4 a
  else if msixAddr a then s.msixWrite a w
  else match pageOf a with
    | none => s.ignored link 0 1 a
    | some (k, n, off) => s.pageWrite link k n off a w

/-- A write that a page takes gives a reserved bit another value than the 0 it reads (R64), while debug scope 1 lets the
test controls among the reserved bits be written (R550). -/
def State.badWrite (s : State) (link a : Nat) (w : Word) : Bool :=
  bit s.sec.scopes 1 && !s.busDark && !s.wlocked link a && !msixAddr a && (match pageOf a with
    | none => false
    | some (k, _, off) => s.accepts (pageBase a) && (w.toNat &&& reservedAt k off) != 0)

/-- REGISTER_WRITE: a 32-bit write over PCIe to an address of BAR0; a misaligned address is no such write. -/
def execRegisterWrite (a : Nat) (w : Word) (s : State) : Host.Outcome State Fault Refusal :=
  if a % 4 ≠ 0 ∨ 0x1000000 ≤ a then .next s
  else if s.badWrite 0 a w then .fault .reservedBits
  else .next (s.busWrite 0 a w)

end Sys2Proof.Machine
end

