-- ==== Sys2Proof/Machine/Hlk.lean ====
section
/-! DEFINITION. Requests from the two host links (spec/14 R464, R467 to R470, R474 to R480; spec/18 R567, R573): PCIe
memory and configuration requests, and management SPI frames. -/

namespace Sys2Proof.Machine

/-! ## PCIe memory requests to BAR0 (R32, R467) -/

/-- One double word of a BAR0 write: applied only with all four byte enables. -/
def State.pcieDword (s : State) (a be : Nat) (w : Word) : Option State :=
  if be ≠ 15 then some (if s.busDark then s else s.ignored 0 0 0 a)
  else if s.badWrite 0 a w then none
  else some (s.busWrite 0 a w)

/-- The double words of a BAR0 write in turn; none where one of them gives a reserved bit another value. -/
def State.pcieDwords (s : State) (a : Nat) : List Nat → List Word → Option State
  | [], _ => some s
  | be :: l, ws =>
    match s.pcieDword a be (ws.headD 0) with
    | none => none
    | some s' => s'.pcieDwords (a + 4) l ws.tail

/-- Successive 32-bit reads. -/
def State.readDwords (s : State) (a : Nat) : Nat → State × List Word
  | 0 => (s, [])
  | n + 1 =>
    let x := s.busRead a
    let y := x.1.readDwords (a + 4) n
    (y.1, x.2 :: y.2)

/-- PCIE_BAR0_REQUEST: be holds the byte enables of each double word from offset a. A request that leaves BAR0 or that a
function in D3hot receives is unsupported (R470). -/
def execPcieBar0Request (write : Bool) (a : Nat) (be : List Nat) (data : List Word) (t : Nat) (s : State) :
    Host.Outcome State Fault Refusal :=
  let s := s.upto t
  let n := be.length
  if !s.linkUp ∨ a % 4 ≠ 0 ∨ n = 0 then .next s
  else if s.hlk.d3hot ∨ 0x1000000 < a + 4 * n then .next (s.rxError 1 write)
  else if 16 < n then
    .next (if write then (if s.busDark then s else s.ignored 0 0 5 a)
      else (s.partnerError R.HLK_PCNT1 F.HLK_PCNT1.CA).send (.completionError 2))
  else if write then
    match s.pcieDwords a be data with
    | none => .fault .reservedBits
    | some s' => .next s'
  else
    let x := s.readDwords a n
    .next (x.1.send (.completion x.2))

/-! ## PCIe memory requests to BAR2 (R33, R40, R468, R480) -/

/-- The write lock keeps a link's table writes out. -/
def State.tabLocked (s : State) (link : Nat) : Bool := s.wlockOwn != 0 && s.wlockOwn != link + 1

/-- A word with its byte enables: where they are partial the manual does not say what a table takes (a free value). -/
def State.tabValue (s : State) (be : Nat) (w : Word) : State × Nat :=
  if be = 15 then (s, w.toNat) else (s.useFree, s.free % 2 ^ 32)

/-- One table write of a link, unless the write lock keeps it out or the bus does not serve. -/
def State.linkTabWrite (s : State) (link a : Nat) (wide : Bool) (v : Nat) : State :=
  if s.busDark then s
  else if s.tabLocked link then s.ignored link 1 4 a
  else s.tabWrite link a wide v

/-- A BAR2 write as successive aligned 64-bit accesses, with a 32-bit access at an odd start or end. -/
def State.tabWrites (s : State) (a : Nat) : List (Nat × Word) → State
  | [] => s
  | [x] =>
    let v := s.tabValue x.1 x.2
    v.1.linkTabWrite 0 a false v.2
  | x :: y :: l =>
    let v := s.tabValue x.1 x.2
    if a % 8 = 4 then (v.1.linkTabWrite 0 a false v.2).tabWrites (a + 4) (y :: l)
    else
      let u := v.1.tabValue y.1 y.2
      (u.1.linkTabWrite 0 a true (v.2 + u.2 * 2 ^ 32)).tabWrites (a + 8) l

/-- A table read of a link. -/
def State.linkTabRead (s : State) (a : Nat) (wide : Bool) (u : List Upset) : State × List Word :=
  if s.busDark then (s, List.replicate (if wide then 2 else 1) 0) else s.tabRead a wide u

/-- A BAR2 read of n double words. -/
def State.tabReads (s : State) (u : List Upset) (a : Nat) : Nat → State × List Word
  | 0 => (s, [])
  | 1 => s.linkTabRead a false u
  | n + 2 =>
    if a % 8 = 4 then
      let x := s.linkTabRead a false u
      let y := x.1.tabReads u (a + 4) (n + 1)
      (y.1, x.2 ++ y.2)
    else
      let x := s.linkTabRead a true u
      let y := x.1.tabReads u (a + 8) n
      (y.1, x.2 ++ y.2)

/-- PCIE_BAR2_REQUEST: u lists the soft errors that struck protected entries before they are read (R213). -/
def execPcieBar2Request (write : Bool) (a : Nat) (be : List Nat) (data : List Word) (u : List Upset) (t : Nat) (s : State) :
    Host.Outcome State Fault Refusal :=
  let s := s.upto t
  let n := be.length
  if !s.linkUp ∨ a % 4 ≠ 0 ∨ n = 0 then .next s
  else if s.hlk.d3hot ∨ 0x4000000 < a + 4 * n then .next (s.rxError 1 write)
  else if write then .next (s.tabWrites a (be.zip (data ++ List.replicate n 0)))
  else
    let x := s.tabReads u a n
    .next (x.1.send (.completion x.2))

/-! ## Management SPI (R474 to R480) -/

/-- A big-endian number. -/
def beNat (l : List Byte) : Nat := l.foldl (fun v b => v * 256 + b.toNat) 0

/-- n bytes of v, most significant first. -/
def msbBytes (n v : Nat) : List Byte := (leBytes n v).reverse

/-- Words of a write frame. -/
def frameWords (f : List Byte) (n : Nat) : List Word := (List.range n).map (fun i => BitVec.ofNat 32 (beNat ((f.drop (5 + 4 * i)).take 4)))

/-- Bytes that a frame holds up to its RCRC. -/
def frameBody (f : List Byte) : Nat := if bits (f.headD 0).toNat 7 6 = 1 then 5 + 4 * (bits (f.headD 0).toNat 4 0 + 1) else 5

/-- The addresses of a frame, wrapping at the top of its space (R476). -/
def frameAddrs (a n size : Nat) : List Nat := (List.range n).map (fun i => (a + 4 * i) % size)

/-- An address that does not serve in Deep sleep (R475). -/
def sleepingAddr (bar2 : Bool) (a : Nat) : Bool := bar2 || !wakefulPage (pageBase a)

/-- The reason of a NAK, by the order of the table of R475; 0 for an ACK. -/
def State.frameNak (s : State) (f : List Byte) (late : Bool) : Nat :=
  let cmd := (f.headD 0).toNat
  let op := bits cmd 7 6
  let n := bits cmd 4 0 + 1
  let bar2 := bit cmd 5
  let addr := beNat ((f.drop 1).take 4)
  let a := if bar2 then addr % 0x4000000 else addr % 0x1000000
  let body := frameBody f
  if (crc32 (f.take body)).toNat ≠ beNat ((f.drop body).take 4) then 1
  else if op = 3 then 2
  else if op = 2 then 0
  else if a % 4 ≠ 0 then 3
  else if s.pwr.st = 6 ∧ (frameAddrs a n (if bar2 then 0x4000000 else 0x1000000)).any (sleepingAddr bar2) then 6
  else if op = 1 ∧ (frameAddrs a n (if bar2 then 0x4000000 else 0x1000000)).any
      (fun x => if bar2 then s.tabLocked 1 else s.wlocked 1 x) then 5
  else if late then 4
  else 0

/-- The writes of a frame; none where one of them gives a reserved bit another value. -/
def State.spiWrites (s : State) (bar2 : Bool) : List (Nat × Word) → Option State
  | [] => some s
  | x :: l =>
    if bar2 then (s.linkTabWrite 1 x.1 false x.2.toNat).spiWrites bar2 l
    else if s.badWrite 1 x.1 x.2 then none
    else (s.busWrite 1 x.1 x.2).spiWrites bar2 l

/-- The reads of a frame. -/
def State.spiReads (s : State) (bar2 : Bool) : List Nat → State × List Word
  | [] => (s, [])
  | a :: l =>
    let x := if bar2 then (let r := s.linkTabRead a false []; (r.1, r.2.headD 0)) else s.busRead a
    let y := x.1.spiReads bar2 l
    (y.1, x.2 :: y.2)

/-- Count an answered frame, and a NAK (R478, R481). -/
def State.countFrame (s : State) (nak : Nat) : State :=
  let s := s.setFld R.HLK_SPICNT1 F.HLK_SPICNT1.FRAMES ((s.fld R.HLK_SPICNT1 F.HLK_SPICNT1.FRAMES + 1) % 65536)
  if nak = 0 then s
  else (s.bumpFld R.HLK_SPICNT0 (if nak = 1 then F.HLK_SPICNT0.CRC else F.HLK_SPICNT0.OTHER) 1).evt P.HLK 11

/-- The response: ATTN at the start of the frame, STATUS, DATA and SCRC; the 0x00 bytes between are left out. -/
def spiReply (attn nak : Nat) (data : List Word) : List Byte :=
  let body := BitVec.ofNat 8 attn :: BitVec.ofNat 8 (if nak = 0 then 0x80 else 0xC0 + nak) ::
    (data.map (fun w => msbBytes 4 w.toNat)).flatten
  body ++ msbBytes 4 (crc32 body).toNat

/-- The accesses of a frame whose RCRC matched, and the data that a read answers. A write is carried out in full even
when it ends in TIMEOUT; a read that does answers nothing (R477). A write that the write lock blocks is counted word by
word (R480). -/
def State.frameAccess (s : State) (f : List Byte) (nak : Nat) : Option (State × List Word) :=
  let cmd := (f.headD 0).toNat
  let op := bits cmd 7 6
  let n := bits cmd 4 0 + 1
  let bar2 := bit cmd 5
  let size := if bar2 then 0x4000000 else 0x1000000
  let l := frameAddrs (beNat ((f.drop 1).take 4) % size) n size
  if op = 0 ∧ nak = 0 then some (s.spiReads bar2 l)
  else if op = 1 ∧ (nak = 0 ∨ nak = 4) then
    match s.spiWrites bar2 (l.zip (frameWords f n)) with
    | none => none
    | some s' => some (s', [])
  else if op = 1 ∧ nak = 5 then
    some (foldS (fun (s : State) a => if bar2 || s.wlocked 1 a then s.ignored 1 bar2.toNat 4 a else s) s l, [])
  else some (s, [])

/-- A frame that MCS_N ended before RCRC was complete: one byte is a poll of ATTN, any other length is counted. -/
def State.spiShort (s : State) (bytes : Nat) : State :=
  let s' := if bytes = 1 then s else s.bumpFld R.HLK_SPICNT1 F.HLK_SPICNT1.SHORT 1
  if bytes = 0 then s' else s'.send (.spi [BitVec.ofNat 8 s.attn])

/-- One SPI frame; late: the access had not completed at the 255th fill byte. -/
def State.spiFrame (s : State) (f : List Byte) (late : Bool) : Option State :=
  if !s.spiOn || s.pwr.porst then some s
  else if f.length < frameBody f + 4 then some (s.spiShort f.length)
  else
    let nak := s.frameNak f late
    match s.frameAccess f nak with
    | none => none
    | some (s', data) => some ((s'.countFrame nak).send (.spi (spiReply s.attn nak data)))

/-- The outcome of a frame. -/
def spiOutcome : Option State → Host.Outcome State Fault Refusal
  | none => .fault .reservedBits
  | some s => .next s

/-- SPI_READ. -/
def execSpiRead (frame : List Byte) (late : Bool) (t : Nat) (s : State) : Host.Outcome State Fault Refusal :=
  spiOutcome ((s.upto t).spiFrame frame late)

/-- SPI_WRITE. -/
def execSpiWrite (frame : List Byte) (late : Bool) (t : Nat) (s : State) : Host.Outcome State Fault Refusal :=
  spiOutcome ((s.upto t).spiFrame frame late)

/-- SPI_NO_ACCESS: OP 0b10 accesses nothing and is answered with ACK. -/
def execSpiNoAccess (frame : List Byte) (late : Bool) (t : Nat) (s : State) : Host.Outcome State Fault Refusal :=
  spiOutcome ((s.upto t).spiFrame frame late)

/-- SPI_SHORT_FRAME: a frame of so many whole bytes. -/
def execSpiShortFrame (bytes : Nat) (s : State) : Host.Outcome State Fault Refusal :=
  .next (if s.spiOn && !s.pwr.porst then s.spiShort bytes else s)

/-! ## Configuration requests (R573) -/

/-- Whether the configuration space is ready: 20 ms after PERST_N rose or the endpoint started it is; before, either
may be so (a free value). -/
def State.cfgIsReady (s : State) : Bool := decide (s.hlk.perstAt + 20000000000 ≤ s.now) || s.free % 2 == 1

/-- A write of the power management control register moves the function between D0 and D3hot (R465, R570). -/
def State.pmWrite (s : State) (w : Nat) : State :=
  if bits w 1 0 = 3 then s.when (!s.hlk.d3hot) State.d3Entry
  else if bits w 1 0 = 0 then s.when s.hlk.d3hot State.d0Return
  else s

/-- The access to configuration space of a ready endpoint. -/
def State.cfgAccess (s : State) (write : Bool) (off : Nat) (w : Word) : State :=
  if write then
    ((s.cfgWrite off w).when (off == 0x44) (fun s => s.pmWrite w.toNat)).send (.completion [])
  else s.send (.completion [s.cfgRead off])

/-- CONFIG_REQUEST: a Type 0 request over a trained link. -/
def execConfigRequest (write : Bool) (off : Nat) (w : Word) (t : Nat) (s : State) : Host.Outcome State Fault Refusal :=
  let s := s.upto t
  if !s.linkUp ∨ 0x1000 ≤ off ∨ off % 4 ≠ 0 then .next s
  else if s.cfgIsReady then .next (s.useFree.cfgAccess write off w)
  else .next (s.useFree.send (.completionError 3))

end Sys2Proof.Machine
end

