-- ==== Sys2Proof/Machine/Raise.lean ====
section
/-! DEFINITION. A fault of the code table raised by its block (spec/16 R518 to R525): its logging and its reaction. -/

namespace Sys2Proof.Machine

/-- The reactions of the axis faults (R375, R377, R379, R384). -/
def State.raiseAxis (s : State) (code x : Nat) : State :=
  if code = 0x1101 then ((s.freeze x true).evt (P.CDRx x) 16).fault code x
  else if code = 0x1102 then (((s.freeze x false).evt (P.CDRx x) 11).emit (56 + x)).fault code x
  else if code = 0x1103 then ((s.when (s.encEn x) (fun s => s.freeze x false)).evt (P.CDRx x) 17).fault code x
  else (s.evt (P.CDRx x) 15).fault code x

/-- The reactions of the Heliostat's faults (R256 to R261). -/
def State.raiseLamp (s : State) (code item : Nat) : State :=
  if code = 0x0901 then s.rowShutdown item
  else if code = 0x0902 then s.ilkFall none
  else if code = 0x0A04 then s.columnStop item
  else if code = 0x0A03 then (s.evt P.HELG 10).fault code item
  else s.lampVerdict (item / 64) (item % 64) (code == 0x0A02)

/-- The items a code can name (R520). -/
def faultItem (code item : Nat) : Bool :=
  if code = 0x0901 ∨ code = 0x0904 then item < 16
  else if code / 256 = 0x0A then item < (if code = 0x0A04 then 64 else 1024)
  else if code = 0x0903 ∨ code = 0x0B01 then item < 1024
  else if code / 256 = 0x11 then item < 4
  else if code / 256 = 0x15 ∨ code = 0x1701 then item < 64
  else item < 65536

/-- The block event bit that goes with a code: page and bit (R266, R291, R293, R335, and their like of the other pages). -/
def raiseEvents : List (Nat × Nat × Nat) :=
  [ (0x0801, P.FFT, 11), (0x0802, P.FFT, 11), (0x0903, P.HELG, 18), (0x0904, P.HELG, 17), (0x0B01, P.ACT, 8),
    (0x0C01, P.HKA, 11), (0x0C02, P.HKA, 8), (0x0E01, P.ALM, 10), (0x1001, P.CDRG, 8), (0x1301, P.EST, 13),
    (0x1801, P.MER, 8), (0x1802, P.SSC, 13), (0x1803, P.SSC, 13), (0x1902, P.SEC, 12) ]

/-- Set the block event bit of a code, where it has one. -/
def State.raiseEvt (s : State) (code : Nat) : State :=
  match tabFind raiseEvents code with
  | some e => s.evt e.1 e.2
  | none => s

/-- Raise a code of the table with its item (R519, R520). -/
def State.raise (s : State) (code item : Nat) : State :=
  if code = 0x0201 then s.pclkUnlock
  else if code / 256 = 0x11 then s.raiseAxis code item
  else if code = 0x0901 ∨ code = 0x0902 ∨ code / 256 = 0x0A then s.raiseLamp code item
  else if code / 256 = 0x15 then s.halt item (s.fld (R.DMAch_STAT item) F.DMAch_STAT.HSTAT) (s.nextAddr item) none
  else if code = 0x1601 then s.dlDown
  else if code = 0x1701 then s.runaway item
  else if code = 0x1901 then s.imageRejected item
  else if code = 0x0E02 then s.pmbusFault
  else if faultSev code = 3 then s.critical code item
  else (s.raiseEvt code).fault code item

/-- FAULT_RAISE: a code that the table does not give is never raised (R520). -/
def execFaultRaise (code item t : Nat) (s : State) : Host.Outcome State Fault Refusal :=
  let s := s.upto t
  .next (if (tabFind faultTable code).isSome && faultItem code item then s.raise code item else s)

end Sys2Proof.Machine
end

