-- ==== Sys2Proof/Machine/Dispatch.lean ====
section
/-! DEFINITION. One arm per command of the table. -/

namespace Sys2Proof.Machine

def exec (i : Instr) (s : State) : Host.Outcome State Fault Refusal :=
  match i with
  | .registerWrite a w => Sys2Proof.Machine.execRegisterWrite a w s
  | .pendingApplyIdle page => Sys2Proof.Machine.execPendingApplyIdle page s
  | .pcommitGo page => Sys2Proof.Machine.execPcommitGo page s
  | .pkeyWrite page key => Sys2Proof.Machine.execPkeyWrite page key s
  | .plockLock page => Sys2Proof.Machine.execPlockLock page s
  | .pageSoftReset page => Sys2Proof.Machine.execPageSoftReset page s
  | .softResetDone page => Sys2Proof.Machine.execSoftResetDone page s
  | .expertSet page => Sys2Proof.Machine.execExpertSet page s
  | .expertClear page => Sys2Proof.Machine.execExpertClear page s
  | .profileDerive t => Sys2Proof.Machine.execProfileDerive t s
  | .globalSoftReset => Sys2Proof.Machine.execGlobalSoftReset s
  | .tableWrite a wide v => Sys2Proof.Machine.execTableWrite a wide v s
  | .tableRead a wide u => Sys2Proof.Machine.execTableRead a wide u s
  | .lineTrigger t => Sys2Proof.Machine.execLineTrigger t s
  | .lineStart t => Sys2Proof.Machine.execLineStart t s
  | .slotBoundary => Sys2Proof.Machine.execSlotBoundary s
  | .lineTimerExpiry => Sys2Proof.Machine.execLineTimerExpiry s
  | .pclkLock t => Sys2Proof.Machine.execPclkLock t s
  | .pclkUnlock t => Sys2Proof.Machine.execPclkUnlock t s
  | .diagStrobeEnd => Sys2Proof.Machine.execDiagStrobeEnd s
  | .conversion c x => Sys2Proof.Machine.execConversion c x s
  | .wireCheck c x => Sys2Proof.Machine.execWireCheck c x s
  | .coresSettled t => Sys2Proof.Machine.execCoresSettled t s
  | .fabricWord c u => Sys2Proof.Machine.execFabricWord c u s
  | .readoutRelease g t => Sys2Proof.Machine.execReadoutRelease g t s
  | .recordPass stream t => Sys2Proof.Machine.execRecordPass stream t s
  | .scrubRead u => Sys2Proof.Machine.execScrubRead u s
  | .calCopyDone t => Sys2Proof.Machine.execCalCopyDone t s
  | .calRunDone t => Sys2Proof.Machine.execCalRunDone t s
  | .lampEnable => Sys2Proof.Machine.execLampEnable s
  | .lampDisable => Sys2Proof.Machine.execLampDisable s
  | .fadeTick t => Sys2Proof.Machine.execFadeTick t s
  | .strobeStart pulse col => Sys2Proof.Machine.execStrobeStart pulse col s
  | .strobeEnd c => Sys2Proof.Machine.execStrobeEnd c s
  | .holdCycle t offsets => Sys2Proof.Machine.execHoldCycle t offsets s
  | .regulatorVerdict k c short t => Sys2Proof.Machine.execRegulatorVerdict k c short t s
  | .columnFault c t => Sys2Proof.Machine.execColumnFault c t s
  | .lampVerdictClear c w => Sys2Proof.Machine.execLampVerdictClear c w s
  | .columnReen c => Sys2Proof.Machine.execColumnReen c s
  | .columnRecovered c => Sys2Proof.Machine.execColumnRecovered c s
  | .hdrmClear c => Sys2Proof.Machine.execHdrmClear c s
  | .ilkFall x => Sys2Proof.Machine.execIlkFall x s
  | .ilkLatchClear pin => Sys2Proof.Machine.execIlkLatchClear pin s
  | .rowEnable k => Sys2Proof.Machine.execRowEnable k s
  | .safeRowMark k uv => Sys2Proof.Machine.execSafeRowMark k uv s
  | .strobeMeasure x t => Sys2Proof.Machine.execStrobeMeasure x t s
  | .baselineInterval t => Sys2Proof.Machine.execBaselineInterval t s
  | .lampSelect w => Sys2Proof.Machine.execLampSelect w s
  | .hkEntryDone x t => Sys2Proof.Machine.execHkEntryDone x t s
  | .urgentRequest w task => Sys2Proof.Machine.execUrgentRequest w task s
  | .urgentDone x t => Sys2Proof.Machine.execUrgentDone x t s
  | .hkStale n t => Sys2Proof.Machine.execHkStale n t s
  | .rotationStepStart t => Sys2Proof.Machine.execRotationStepStart t s
  | .idleSweep t => Sys2Proof.Machine.execIdleSweep t s
  | .colReqLamp => Sys2Proof.Machine.execColReqLamp s
  | .colReqFlux => Sys2Proof.Machine.execColReqFlux s
  | .colReqDark => Sys2Proof.Machine.execColReqDark s
  | .colReqWhite => Sys2Proof.Machine.execColReqWhite s
  | .colReqRotrst => Sys2Proof.Machine.execColReqRotrst s
  | .colDisable reg w => Sys2Proof.Machine.execColDisable reg w s
  | .lampRunDone t => Sys2Proof.Machine.execLampRunDone t s
  | .calPeriodExpiry t => Sys2Proof.Machine.execCalPeriodExpiry t s
  | .whitePeriodExpiry t => Sys2Proof.Machine.execWhitePeriodExpiry t s
  | .sigmaSelect w => Sys2Proof.Machine.execSigmaSelect w s
  | .slackMeasure l t => Sys2Proof.Machine.execSlackMeasure l t s
  | .clockStep t => Sys2Proof.Machine.execClockStep t s
  | .voltageStep ack t => Sys2Proof.Machine.execVoltageStep ack t s
  | .marginProjection t => Sys2Proof.Machine.execMarginProjection t s
  | .historySave t => Sys2Proof.Machine.execHistorySave t s
  | .lineComplete line t => Sys2Proof.Machine.execLineComplete line t s
  | .streakScanStart t => Sys2Proof.Machine.execStreakScanStart t s
  | .streakScanDone t => Sys2Proof.Machine.execStreakScanDone t s
  | .movePush x w => Sys2Proof.Machine.execMovePush x w s
  | .profileTick t => Sys2Proof.Machine.execProfileTick t s
  | .controlledStop x => Sys2Proof.Machine.execControlledStop x s
  | .immediateStop x => Sys2Proof.Machine.execImmediateStop x s
  | .queueFlush x => Sys2Proof.Machine.execQueueFlush x s
  | .groupCstop g => Sys2Proof.Machine.execGroupCstop g s
  | .groupIstop g => Sys2Proof.Machine.execGroupIstop g s
  | .chopperSwitch x b sense mean t => Sys2Proof.Machine.execChopperSwitch x b sense mean t s
  | .chopperOffTimeEnd x b sense mean t => Sys2Proof.Machine.execChopperOffTimeEnd x b sense mean t s
  | .holdDelayExpiry x t => Sys2Proof.Machine.execHoldDelayExpiry x t s
  | .wakeDelayExpiry x t => Sys2Proof.Machine.execWakeDelayExpiry x t s
  | .overcurrent x t => Sys2Proof.Machine.execOvercurrent x t s
  | .encoderEdge src a b t => Sys2Proof.Machine.execEncoderEdge src a b t s
  | .stall x t => Sys2Proof.Machine.execStall x t s
  | .homeEvent x t => Sys2Proof.Machine.execHomeEvent x t s
  | .sscArm => Sys2Proof.Machine.execSscArm s
  | .admission t => Sys2Proof.Machine.execAdmission t s
  | .sscStart => Sys2Proof.Machine.execSscStart s
  | .sscEnd => Sys2Proof.Machine.execSscEnd s
  | .sscAbort => Sys2Proof.Machine.execSscAbort s
  | .sscResume => Sys2Proof.Machine.execSscResume s
  | .jobStopped t => Sys2Proof.Machine.execJobStopped t s
  | .trackingPause t => Sys2Proof.Machine.execTrackingPause t s
  | .backupDone t => Sys2Proof.Machine.execBackupDone t s
  | .restartBegin t => Sys2Proof.Machine.execRestartBegin t s
  | .jobIdle t => Sys2Proof.Machine.execJobIdle t s
  | .storeDrained t => Sys2Proof.Machine.execStoreDrained t s
  | .descriptorFetch ch b t => Sys2Proof.Machine.execDescriptorFetch ch b t s
  | .tokenRefill u t => Sys2Proof.Machine.execTokenRefill u t s
  | .descriptorDone ch t => Sys2Proof.Machine.execDescriptorDone ch t s
  | .readCompletion ch ok b t => Sys2Proof.Machine.execReadCompletion ch ok b t s
  | .readTimeout ch t => Sys2Proof.Machine.execReadTimeout ch t s
  | .dmaKick ch => Sys2Proof.Machine.execDmaKick ch s
  | .dmaNextWrite ch a => Sys2Proof.Machine.execDmaNextWrite ch a s
  | .dmaPoll ch t => Sys2Proof.Machine.execDmaPoll ch t s
  | .rrpWrite ch w => Sys2Proof.Machine.execRrpWrite ch w s
  | .cqRiWrite q w => Sys2Proof.Machine.execCqRiWrite q w s
  | .dmaDisable ch t => Sys2Proof.Machine.execDmaDisable ch t s
  | .dmaEnable ch t => Sys2Proof.Machine.execDmaEnable ch t s
  | .msixUnmask v => Sys2Proof.Machine.execMsixUnmask v s
  | .pcieBar0Request write a be data t => Sys2Proof.Machine.execPcieBar0Request write a be data t s
  | .pcieBar2Request write a be data u t => Sys2Proof.Machine.execPcieBar2Request write a be data u t s
  | .pcieRxError kind posted t => Sys2Proof.Machine.execPcieRxError kind posted t s
  | .dlDown t => Sys2Proof.Machine.execDlDown t s
  | .linkUp speed width t => Sys2Proof.Machine.execLinkUp speed width t s
  | .spiRead frame late t => Sys2Proof.Machine.execSpiRead frame late t s
  | .spiWrite frame late t => Sys2Proof.Machine.execSpiWrite frame late t s
  | .spiNoAccess frame late t => Sys2Proof.Machine.execSpiNoAccess frame late t s
  | .spiShortFrame bytes => Sys2Proof.Machine.execSpiShortFrame bytes s
  | .wlockWrite link w => Sys2Proof.Machine.execWlockWrite link w s
  | .eventPublish p t => Sys2Proof.Machine.execEventPublish p t s
  | .runawayWindow t => Sys2Proof.Machine.execRunawayWindow t s
  | .eviEdge k level t => Sys2Proof.Machine.execEviEdge k level t s
  | .lutInputChange ended t => Sys2Proof.Machine.execLutInputChange ended t s
  | .lutFilterExpiry n t => Sys2Proof.Machine.execLutFilterExpiry n t s
  | .evoPulseEnd k t => Sys2Proof.Machine.execEvoPulseEnd k t s
  | .softwarePulse w => Sys2Proof.Machine.execSoftwarePulse w s
  | .runawayUnmask c => Sys2Proof.Machine.execRunawayUnmask c s
  | .channelLock c => Sys2Proof.Machine.execChannelLock c s
  | .cellLock n => Sys2Proof.Machine.execCellLock n s
  | .tsloadWrite v => Sys2Proof.Machine.execTsloadWrite v s
  | .lineCounterWrite v => Sys2Proof.Machine.execLineCounterWrite v s
  | .deadlineExpiry line t => Sys2Proof.Machine.execDeadlineExpiry line t s
  | .faultRaise code item t => Sys2Proof.Machine.execFaultRaise code item t s
  | .faultAck w => Sys2Proof.Machine.execFaultAck w s
  | .logClear => Sys2Proof.Machine.execLogClear s
  | .logSelect w => Sys2Proof.Machine.execLogSelect w s
  | .safeRequest => Sys2Proof.Machine.execSafeRequest s
  | .safeClear hot bad => Sys2Proof.Machine.execSafeClear hot bad s
  | .mbxVersion seq => Sys2Proof.Machine.execMbxVersion seq s
  | .mbxPreadmit seq => Sys2Proof.Machine.execMbxPreadmit seq s
  | .mbxCorestat seq => Sys2Proof.Machine.execMbxCorestat seq s
  | .mbxUnknown seq cmd => Sys2Proof.Machine.execMbxUnknown seq cmd s
  | .mbxReply t => Sys2Proof.Machine.execMbxReply t s
  | .coreResume t => Sys2Proof.Machine.execCoreResume t s
  | .imageBegin w => Sys2Proof.Machine.execImageBegin w s
  | .flashEraseDone t => Sys2Proof.Machine.execFlashEraseDone t s
  | .imageWord w => Sys2Proof.Machine.execImageWord w s
  | .imageVerify w => Sys2Proof.Machine.execImageVerify w s
  | .verifyDone readOk ack t => Sys2Proof.Machine.execVerifyDone readOk ack t s
  | .imageAbort => Sys2Proof.Machine.execImageAbort s
  | .otpCommit => Sys2Proof.Machine.execOtpCommit s
  | .firmwareSwap w same => Sys2Proof.Machine.execFirmwareSwap w same s
  | .swapHandover t => Sys2Proof.Machine.execSwapHandover t s
  | .swapTimeout t => Sys2Proof.Machine.execSwapTimeout t s
  | .fieldLock => Sys2Proof.Machine.execFieldLock s
  | .debugOpen w => Sys2Proof.Machine.execDebugOpen w s
  | .debugClose => Sys2Proof.Machine.execDebugClose s
  | .debugNonce nonce t => Sys2Proof.Machine.execDebugNonce nonce t s
  | .debugUnlock t => Sys2Proof.Machine.execDebugUnlock t s
  | .attest => Sys2Proof.Machine.execAttest s
  | .attestDone t => Sys2Proof.Machine.execAttestDone t s
  | .reportWordRead => Sys2Proof.Machine.execReportWordRead s
  | .powerOnReset => Sys2Proof.Machine.execPowerOnReset s
  | .bootStart straps => Sys2Proof.Machine.execBootStart straps s
  | .storeTrained gb mts t => Sys2Proof.Machine.execStoreTrained gb mts t s
  | .bootImageVerified okA okB ack t => Sys2Proof.Machine.execBootImageVerified okA okB ack t s
  | .ready t => Sys2Proof.Machine.execReady t s
  | .perstFall t => Sys2Proof.Machine.execPerstFall t s
  | .perstRise t => Sys2Proof.Machine.execPerstRise t s
  | .hotReset t => Sys2Proof.Machine.execHotReset t s
  | .standbyRequest => Sys2Proof.Machine.execStandbyRequest s
  | .deepSleepRequest => Sys2Proof.Machine.execDeepSleepRequest s
  | .readyRequest => Sys2Proof.Machine.execReadyRequest s
  | .sleepEntryStep t => Sys2Proof.Machine.execSleepEntryStep t s
  | .wakeDone t => Sys2Proof.Machine.execWakeDone t s
  | .d3hotEntry => Sys2Proof.Machine.execD3hotEntry s
  | .d0Return => Sys2Proof.Machine.execD0Return s
  | .vsensChange b up t => Sys2Proof.Machine.execVsensChange b up t s
  | .refLoss t => Sys2Proof.Machine.execRefLoss t s
  | .refReturn t => Sys2Proof.Machine.execRefReturn t s
  | .supplyOutOfRange n t => Sys2Proof.Machine.execSupplyOutOfRange n t s
  | .dieOvertemp n t => Sys2Proof.Machine.execDieOvertemp n t s
  | .pmbusPoll x t => Sys2Proof.Machine.execPmbusPoll x t s
  | .voutCheck x t => Sys2Proof.Machine.execVoutCheck x t s
  | .holdWaitExpiry t => Sys2Proof.Machine.execHoldWaitExpiry t s
  | .postedWriteCredits n t => Sys2Proof.Machine.execPostedWriteCredits n t s
  | .linkRetrain speed width t => Sys2Proof.Machine.execLinkRetrain speed width t s
  | .configRequest write off w t => Sys2Proof.Machine.execConfigRequest write off w t s
  | .bufferDrain n t => Sys2Proof.Machine.execBufferDrain n t s

end Sys2Proof.Machine
end

