-- ==== Sys2Proof/Machine/Step.lean ====
section
/-! DEFINITION. One step: the command in front of the queue, or one tick of the internal count (R509). -/

namespace Sys2Proof.Machine

/-- A step on an empty queue: the internal count advances by 1 ns, in Deep sleep by 40 ns (notes/assumptions 3). -/
def State.tick (s : State) : State :=
  if s.pwr.porst then s else s.upto (s.now + (if s.pwr.st = 6 then 40000 else 1000))

/-- Take the command in front and run it with the queue's rest. -/
def step (s : State) : Host.Outcome State Fault Refusal :=
  match s.pending with
  | [] => .next s.tick
  | c :: l => exec c { s with pending := l }

/-- s with the command that a word spells put in front of its queue; s where it spells none. -/
def State.withFetchWord (s : State) (nbits w : Nat) : State :=
  match decodeTableWord nbits w with
  | some c => { s with pending := c :: s.pending }
  | none => s

end Sys2Proof.Machine
end

