-- ==== Sys2Proof/WellFormed.lean ====
section
/-! DEFINITION. The operands a command can have: register and table addresses, channel, lamp, axis and page numbers
within the ranges that spec/ gives them. A command that is not well formed leaves the state unchanged. -/

namespace Sys2Proof

open Sys2Proof.Machine

/-- A page base of BAR0 (R35). -/
def isPage (p : Nat) : Bool := p % 0x1000 == 0 && (pageOf p).isSome

/-- An aligned address of the table window (R33, R38). -/
def tableAddr (a : Nat) (wide : Bool) : Bool := decide (a < 0x4000000) && (if wide then a % 8 == 0 else a % 4 == 0)

/-- A link width (R464). -/
def laneWidth (w : Nat) : Bool := w == 1 || w == 2 || w == 4 || w == 8

/-- A soft error strikes a protected entry, in one bit or in more (R213). -/
def Upset.wf (u : Upset) : Bool := decide (u.entry < 0x4000000) && decide (0 < u.mask)

/-- A column and two codes of its monitor ADC (R269). -/
def MeasIn.wf (x : MeasIn) : Bool := decide (x.col < 64) && decide (x.h1 < 16384) && decide (x.h2 < 16384)

def PmbIn.wf (x : PmbIn) : Bool := decide (x.status < 65536) && decide (x.vout < 65536)

def StoreHit.wf (h : StoreHit) : Bool := decide (h.ch < 64) && decide (h.mask < 256)

def Instr.wf (i : Instr) : Bool :=
  match i with
  | .registerWrite a _ => decide (a < 0x1000000) && a % 4 == 0
  | .pendingApplyIdle page => isPage page
  | .pcommitGo page => isPage page
  | .pkeyWrite page _ => isPage page
  | .plockLock page => isPage page
  | .pageSoftReset page => isPage page
  | .softResetDone page => isPage page
  | .expertSet page => isPage page
  | .expertClear page => isPage page
  | .profileDerive _ => true
  | .globalSoftReset => true
  | .tableWrite a wide v => tableAddr a wide && decide (v < (if wide then 2 ^ 64 else 2 ^ 32))
  | .tableRead a wide u => tableAddr a wide && u.all Upset.wf
  | .lineTrigger _ => true
  | .lineStart _ => true
  | .slotBoundary => true
  | .lineTimerExpiry => true
  | .pclkLock _ => true
  | .pclkUnlock _ => true
  | .diagStrobeEnd => true
  | .conversion c x => decide (c < 272) && x.dev.length == 4 && x.clip.length == 4
  | .wireCheck c _ => decide (c < 272)
  | .coresSettled _ => true
  | .fabricWord c u => decide (c < 272) && u.all Upset.wf
  | .readoutRelease g _ => decide (g < 16)
  | .recordPass stream _ => decide (stream < 4)
  | .scrubRead u => u.all Upset.wf
  | .calCopyDone _ => true
  | .calRunDone _ => true
  | .lampEnable => true
  | .lampDisable => true
  | .fadeTick _ => true
  | .strobeStart pulse col => decide (pulse < 16) && col.all (fun c => decide (c < 64))
  | .strobeEnd c => decide (c < 64)
  | .holdCycle _ offsets => offsets.all (fun o => decide (o.1 < 64))
  | .regulatorVerdict k c _ _ => decide (k < 16) && decide (c < 64)
  | .columnFault c _ => decide (c < 64)
  | .lampVerdictClear c _ => decide (c < 64)
  | .columnReen c => decide (c < 64)
  | .columnRecovered c => decide (c < 64)
  | .hdrmClear c => decide (c < 64)
  | .ilkFall _ => true
  | .ilkLatchClear _ => true
  | .rowEnable k => decide (k < 16)
  | .safeRowMark k _ => decide (k < 16)
  | .strobeMeasure x _ => x.all MeasIn.wf
  | .baselineInterval _ => true
  | .lampSelect _ => true
  | .hkEntryDone _ _ => true
  | .urgentRequest _ _ => true
  | .urgentDone _ _ => true
  | .hkStale i _ => decide (i < 64)
  | .rotationStepStart _ => true
  | .idleSweep _ => true
  | .colReqLamp => true
  | .colReqFlux => true
  | .colReqDark => true
  | .colReqWhite => true
  | .colReqRotrst => true
  | .colDisable reg _ => decide (reg < 2)
  | .lampRunDone _ => true
  | .calPeriodExpiry _ => true
  | .whitePeriodExpiry _ => true
  | .sigmaSelect _ => true
  | .slackMeasure l _ => decide (l.length = 114)
  | .clockStep _ => true
  | .voltageStep _ _ => true
  | .marginProjection _ => true
  | .historySave _ => true
  | .lineComplete line _ => decide (line < 2 ^ 64)
  | .streakScanStart _ => true
  | .streakScanDone _ => true
  | .movePush x _ => decide (x < 4)
  | .profileTick _ => true
  | .controlledStop x => decide (x < 4)
  | .immediateStop x => decide (x < 4)
  | .queueFlush x => decide (x < 4)
  | .groupCstop g => decide (g < 4)
  | .groupIstop g => decide (g < 4)
  | .chopperSwitch x _ _ _ _ => decide (x < 4)
  | .chopperOffTimeEnd x _ _ _ _ => decide (x < 4)
  | .holdDelayExpiry x _ => decide (x < 4)
  | .wakeDelayExpiry x _ => decide (x < 4)
  | .overcurrent x _ => decide (x.x < 4)
  | .encoderEdge src _ _ _ => decide (src.src < 5)
  | .stall x _ => decide (x < 4)
  | .homeEvent x _ => decide (x.src < 4)
  | .sscArm => true
  | .admission _ => true
  | .sscStart => true
  | .sscEnd => true
  | .sscAbort => true
  | .sscResume => true
  | .jobStopped _ => true
  | .trackingPause _ => true
  | .backupDone _ => true
  | .restartBegin _ => true
  | .jobIdle _ => true
  | .storeDrained _ => true
  | .descriptorFetch ch b _ => decide (ch < 64) && b.length == 32
  | .tokenRefill u _ => u.all StoreHit.wf
  | .descriptorDone ch _ => decide (ch < 64)
  | .readCompletion ch _ _ _ => decide (ch < 64)
  | .readTimeout ch _ => decide (ch < 64)
  | .dmaKick ch => decide (ch < 64)
  | .dmaNextWrite ch a => decide (ch < 64) && decide (a < 2 ^ 64)
  | .dmaPoll ch _ => decide (ch < 64)
  | .rrpWrite ch _ => decide (ch < 64)
  | .cqRiWrite q _ => decide (q < 8)
  | .dmaDisable ch _ => decide (ch < 64)
  | .dmaEnable ch _ => decide (ch < 64)
  | .msixUnmask v => decide (v < 64)
  | .pcieBar0Request write a be data _ => a % 4 == 0 && be.all (fun e => decide (e < 16)) && (!write || data.length == be.length)
  | .pcieBar2Request write a be data u _ => a % 4 == 0 && be.all (fun e => decide (e < 16)) && (!write || data.length == be.length) && u.all Upset.wf
  | .pcieRxError _ _ _ => true
  | .dlDown _ => true
  | .linkUp speed width _ => decide (1 ≤ speed) && decide (speed ≤ 5) && laneWidth width
  | .spiRead frame _ _ => frame.length == 9 && bits (frame.headD 0).toNat 7 6 == 0
  | .spiWrite frame _ _ => bits (frame.headD 0).toNat 7 6 == 1 && frame.length == 9 + 4 * (bits (frame.headD 0).toNat 4 0 + 1)
  | .spiNoAccess frame _ _ => frame.length == 9 && bits (frame.headD 0).toNat 7 6 == 2
  | .spiShortFrame bytes => decide (bytes < 137)
  | .wlockWrite link _ => decide (link < 2)
  | .eventPublish p _ => decide (p < 153)
  | .runawayWindow _ => true
  | .eviEdge k _ _ => decide (k < 16)
  | .lutInputChange ended _ => ended.all (fun n => decide (n < 64))
  | .lutFilterExpiry n _ => decide (n < 32)
  | .evoPulseEnd k _ => decide (k < 16)
  | .softwarePulse _ => true
  | .runawayUnmask c => decide (c < 64)
  | .channelLock c => decide (c < 64)
  | .cellLock n => decide (n < 32)
  | .tsloadWrite v => decide (v < 2 ^ 64)
  | .lineCounterWrite v => decide (v < 2 ^ 64)
  | .deadlineExpiry line _ => decide (line < 2 ^ 64)
  | .faultRaise code item _ => decide (code < 2 ^ 16) && decide (item < 2 ^ 16)
  | .faultAck _ => true
  | .logClear => true
  | .logSelect _ => true
  | .safeRequest => true
  | .safeClear hot bad => decide (hot < 16) && decide (bad < 64)
  | .mbxVersion seq => decide (seq < 256)
  | .mbxPreadmit seq => decide (seq < 256)
  | .mbxCorestat seq => decide (seq < 256)
  | .mbxUnknown seq cmd => decide (seq < 256) && decide (cmd < 2 ^ 16)
  | .mbxReply _ => true
  | .coreResume _ => true
  | .imageBegin _ => true
  | .flashEraseDone _ => true
  | .imageWord _ => true
  | .imageVerify _ => true
  | .verifyDone _ _ _ => true
  | .imageAbort => true
  | .otpCommit => true
  | .firmwareSwap _ _ => true
  | .swapHandover _ => true
  | .swapTimeout _ => true
  | .fieldLock => true
  | .debugOpen _ => true
  | .debugClose => true
  | .debugNonce nonce _ => nonce.length == 8
  | .debugUnlock _ => true
  | .attest => true
  | .attestDone _ => true
  | .reportWordRead => true
  | .powerOnReset => true
  | .bootStart straps => decide (straps < 256)
  | .storeTrained _ _ _ => true
  | .bootImageVerified _ _ _ _ => true
  | .ready _ => true
  | .perstFall _ => true
  | .perstRise _ => true
  | .hotReset _ => true
  | .standbyRequest => true
  | .deepSleepRequest => true
  | .readyRequest => true
  | .sleepEntryStep _ => true
  | .wakeDone _ => true
  | .d3hotEntry => true
  | .d0Return => true
  | .vsensChange b _ _ => decide (b < 4)
  | .refLoss _ => true
  | .refReturn _ => true
  | .supplyOutOfRange i _ => decide (50 ≤ i) && decide (i ≤ 55)
  | .dieOvertemp i _ => decide (56 ≤ i) && decide (i ≤ 59)
  | .pmbusPoll x _ => x.wf
  | .voutCheck x _ => x.wf
  | .holdWaitExpiry _ => true
  | .postedWriteCredits _ _ => true
  | .linkRetrain speed width _ => decide (1 ≤ speed) && decide (speed ≤ 5) && laneWidth width
  | .configRequest _ _ _ _ => true
  | .bufferDrain n _ => decide (n ≤ 1024)

end Sys2Proof
end

