-- ==== Sys2Proof/Safety.lean ====
section
/-! DEFINITION. The terms in which claims speak of a run: a step that does not stop, states in canonical form, and what
no command undoes. -/

namespace Sys2Proof.Machine

/-- A step from s answers a next state. -/
def Runs (s : State) : Prop := ∃ t, step s = .next t

/-- Register file, pending values, page headers and table memory are in canonical form: keys strictly rising, and no
cell of table memory equal to its content at reset. -/
def State.Canonical (s : State) : Prop :=
  Memory.wf s.bar2 = true ∧ tabSorted s.regs = true ∧ tabSorted s.pend = true ∧ tabSorted s.hdrs = true

/-- The anti-rollback counter in OTP has not fallen and a blown field-lock fuse has stayed blown (R543, R550). -/
def FusesKept (s t : State) : Prop := s.sec.otp ≤ t.sec.otp ∧ (s.sec.field = true → t.sec.field = true)

/-- Every byte of table memory reads as before. -/
def SameTables (s t : State) : Prop := ∀ a, t.byte a = s.byte a

/-- Every block register but those at the addresses l reads as before. -/
def SameRegsBut (l : List Nat) (s t : State) : Prop := ∀ a, a ∉ l → t.reg a = s.reg a

/-- The command answers a next state, of which P holds. -/
def Answers (c : Instr) (s : State) (P : State → Prop) : Prop := ∃ t, exec c s = .next t ∧ P t

/-- Bit b of a page's PEVT (R42). -/
def State.raised (s : State) (p b : Nat) : Bool := bit (s.hdr p).pevt.toNat b

/-- The parts of State beside the register file, the page headers and the queue. -/
inductive Piece where
  | now | free | straps | held | waiting | tables | attn | flight | out | lines | mer | acq | plt | fft | hel | act | hka
  | col | alm | pho | cdr | ssc | est | dma | hlk | evf | chr | sec | pwr
  deriving DecidableEq, Repr

/-- A part of t is that of s. held: low words of 64-bit registers and table entries that wait for their high words;
waiting: pending values; tables: every byte of table memory. -/
def SamePart (p : Piece) (s t : State) : Prop :=
  match p with
  | .now => t.now = s.now
  | .free => t.fv = s.fv
  | .straps => t.straps = s.straps
  | .held => t.hold64 = s.hold64 ∧ t.holdTab = s.holdTab
  | .waiting => t.pend = s.pend
  | .tables => SameTables s t
  | .attn => t.attnL = s.attnL
  | .flight => t.flight = s.flight
  | .out => t.out = s.out
  | .lines => t.lines = s.lines
  | .mer => t.mer = s.mer
  | .acq => t.acq = s.acq
  | .plt => t.plt = s.plt
  | .fft => t.fft = s.fft
  | .hel => t.hel = s.hel
  | .act => t.act = s.act
  | .hka => t.hka = s.hka
  | .col => t.col = s.col
  | .alm => t.alm = s.alm
  | .pho => t.pho = s.pho
  | .cdr => t.cdr = s.cdr
  | .ssc => t.ssc = s.ssc
  | .est => t.est = s.est
  | .dma => t.dma = s.dma
  | .hlk => t.hlk = s.hlk
  | .evf => t.evf = s.evf
  | .chr => t.chr = s.chr
  | .sec => t.sec = s.sec
  | .pwr => t.pwr = s.pwr

/-- What a command leaves alone: the queue, every block register but those at regs, every page header but those of
pages, and every part but those listed. -/
structure Frame (regs pages : List Nat) (parts : List Piece) (s t : State) : Prop where
  queue : t.pending = s.pending
  regs  : SameRegsBut regs s t
  hdrs  : ∀ p, p ∉ pages → t.hdr p = s.hdr p
  parts : ∀ p, p ∉ parts → SamePart p s t


/-- Block registers that raising a fault may change beside those of the step that raises it: the overflow count of the
log, and the counts of lost lines and stops of a job that the fault pauses (R392, R415, R526). -/
def faultRegs : List Nat := [R.CHR_LOGOVF, R.SSC_LOST, R.SSC_LOST + 4, R.SSC_STOPS]

/-- Page headers that raising a fault may change: the raising page's, and those of the pages that log it and that pause
a job. -/
def faultPages (code item : Nat) : List Nat :=
  [faultPage code item, P.CHR, P.SSC, P.CDRx 0, P.CDRx 1, P.CDRx 2, P.CDRx 3]

/-- Parts that raising a fault may change: the log, the attention byte, the messages and events it sends, and the job it
pauses. -/
def faultParts : List Piece := [.chr, .attn, .flight, .out, .hlk, .ssc, .cdr, .mer, .lines, .plt]

/-! ## Terms of single statements -/

/-- The guarded commands (R55, R622): the page whose guard each stands behind, the registers that a refused one still
writes (SCOPE beside OPEN), and the parts that it still changes (the pin's level and the sensors' state, which the command
carries). -/
inductive Guarded : Instr → Nat → List Nat → List Piece → Prop where
  | globalSoftReset : Guarded .globalSoftReset P.GLB [] []
  | plockLock (page : Nat) (h : isPage page = true) : Guarded (.plockLock page) page [] []
  | ilkLatchClear (pin : Bool) : Guarded (.ilkLatchClear pin) P.HELG [] [.hel]
  | safeRowMark (k : Nat) (h : k < 16) : Guarded (.safeRowMark k true) P.HELG [] []
  | channelLock (c : Nat) (h : c < 64) : Guarded (.channelLock c) P.EVF [] []
  | cellLock (n : Nat) (h : n < 32) : Guarded (.cellLock n) P.EVF [] []
  | safeRequest : Guarded .safeRequest P.CHR [] []
  | safeClear (hot bad : Nat) : Guarded (.safeClear hot bad) P.CHR [] [.pwr]
  | imageBegin (w : Word) : Guarded (.imageBegin w) P.SEC [] []
  | otpCommit : Guarded .otpCommit P.SEC [] []
  | firmwareSwap (w : Word) (same : Bool) : Guarded (.firmwareSwap w same) P.SEC [] []
  | fieldLock : Guarded .fieldLock P.SEC [] []
  | debugOpen (w : Word) : Guarded (.debugOpen w) P.SEC [R.SEC_DBGCTL] []

/-- A host's value of the register at a no longer waits for an arming (R393); nothing else of the job changes. -/
def hostTakes (a : Nat) (s t : State) : Prop := t.ssc = { s.ssc with jHold := s.ssc.jHold.filter (· != a) }

/-- The entries that the host wrote during a copy or run lie in bank b (R210). -/
abbrev State.mixedIn (s : State) (b : Nat) : Prop := ∀ x ∈ s.fft.mixed, x.1 % 8 = 0 ∧ entrySpace x.1 = b

/-- Address a belongs to none of those entries. -/
abbrev unmixed (s : State) (a : Nat) : Prop := ∀ x ∈ s.fft.mixed, a / 8 * 8 ≠ x.1

/-- The instant at which n pclk have passed since the latest slot boundary (R81, R92). -/
def State.slotOverAt (s : State) (n : Nat) : Nat := (s.pclkAfter s.mer.slotAt s.mer.slotFr n).1

/-- The event count of over-ranges, and of wire-check failures, of an acquisition channel (R116, R133). -/
def orCount (c : Nat) : Nat := if c < 256 then R.ACQn_CHk_ORCNT (c / 4) (c % 4) else R.SPR_SPg_ORCNT (c - 256)

/-- The count of failed checks, and the status register with the latest check's result, of a channel (R133, R134). -/
def wckCount (c : Nat) : Nat := if c < 256 then R.ACQn_CHk_WCKCNT (c / 4) (c % 4) else R.SPR_SPg_WCKCNT (c - 256)

/-- The status register of a channel. -/
def wireStat (c : Nat) : Nat := if c < 256 then statOf c else R.SPR_SPg_STAT (c - 256)

/-- The WIRE bit that it shows. -/
def State.shownWire (s : State) (c : Nat) : Nat :=
  s.fld (wireStat c) (if c < 256 then F.ACQn_CHk_STAT.WIRE else F.SPR_SPg_STAT.WIRE)

/-- A conversion word in its place beside a sample's other words. -/
def wordPart (s : State) (c : Nat) (p : Part) (w : FabricWord) : Part :=
  partAdd p (bits w.toNat 23 22) (wordConv ((s.setOf (s.lineOfSeq (bits w.toNat 3 0)) c).mode == 1) w.toNat)

/-- The registers that show the latest strobe of the slot's columns. -/
def State.lastRegs (s : State) : List Nat := s.hel.cols.map (fun c => colLast c.1)

/-- A request as an event makes it, from HKA_UPRE (R284). -/
def State.eventAsk (s : State) : Urgent := { urgentOf (s.reg R.HKA_UPRE) 0xFF with at_ := s.now, task := true }

/-- A request as a write of HKA_URG makes it (R284). -/
def State.writeAsk (s : State) (w : Word) : Urgent := { urgentOf w (bits w.toNat 31 24) with at_ := s.now }

/-- The entry in hand has run its length by n, and no request waits (R283, R285). -/
def State.entryOver (s : State) (n : Nat) : Bool :=
  s.hka.running && s.hka.cur.isNone && s.hka.takeAt.isNone && s.hka.queue.isEmpty && decide (s.hkEntryEnd ≤ max s.now n)

/-- The four run requests of COL_REQ and the number of the run each asks for (R325). -/
def runRequests : List (Instr × Nat) := [(.colReqLamp, 1), (.colReqFlux, 2), (.colReqDark, 3), (.colReqWhite, 4)]

/-- The work of the Almanac and the Collimator that waits for the control core's services, and how it waits (R17). -/
def waitingWork (ack : Bool) (n : Nat) : List (Instr × Deferred) :=
  [(.lampRunDone n, .lampRun), (.calRunDone n, .calRun), (.idleSweep n, .idleSweep), (.clockStep n, .clockStep),
   (.voltageStep ack n, .voltageStep ack), (.marginProjection n, .marginHour)]

/-- The bytes of a request frame on the SPI port: command, address, data words and CRC (R474). -/
def requestFrame (cmd addr : Nat) (data : List Word) : List Byte :=
  let body := BitVec.ofNat 8 cmd :: (msbBytes 4 addr ++ (data.map (fun w => msbBytes 4 w.toNat)).flatten)
  body ++ msbBytes 4 (crc32 body).toNat

/-- An event of producer p that is on its way passes channel c at the instant n: its route is open, the channel is
neither masked nor held back by R485, and no cell is configured. -/
def passes (s : State) (p c n : Nat) : Bool :=
  s.flight.contains p && !s.producerGated p && s.flag (R.EVF_PUBp p) F.EVF_PUBp.EN && s.fld (R.EVF_PUBp p) F.EVF_PUBp.CH == c &&
  !s.masked c && !s.flag R.EVF_CTL F.EVF_CTL.COMPAT && (match tabFind s.evf.lastPass c with
    | some a => decide (a + 10000 ≤ max s.now n)
    | none => true) &&
  s.evf.cells.isEmpty && (List.range 32).all (fun k => s.reg (R.EVF_LCn_CFG k) == 0)

/-- Of all task inputs, k alone is subscribed to channel c (none for k = 96). -/
def onlyTask (s : State) (c k : Nat) : Bool := (List.range 96).all (fun t => (s.subOf t == some c) == (t == k))

/-- Codes whose faults do nothing beside their bookkeeping and, when they are Major, the pause of a job. -/
def plainCodes : List Nat :=
  [0x0801, 0x0802, 0x0903, 0x0904, 0x0B01, 0x0C01, 0x0C02, 0x0D01, 0x0D02, 0x0E01, 0x0E03, 0x1001, 0x1301, 0x1302,
   0x1801, 0x1802, 0x1803, 0x1902]

end Sys2Proof.Machine
end

