-- ==== Sys2Proof/Certificates/Slice0/Obligations.lean ====
section
/-! DEFINITION. The statements for the provers, drawn from the numbered rules of spec/ (OBLIGATIONS.json lists them). -/

open Sys2Proof Sys2Proof.Machine

/-- A step runs the command at the front of the queue on the state with the rest of the queue. The queue is the
model's own (log entry 1). -/
def Obligations.StepTakesFront : Prop :=
  ∀ c l s, s.pending = c :: l → step s = exec c { s with pending := l }

/-- On an empty queue a step is one tick of the internal count: 1 ns, 40 ns in Deep sleep, none while PORST_N is low.
The model's choice (log entry 3). -/
def Obligations.EmptyQueueTicks : Prop :=
  ∀ s, s.pending = [] → ∃ t, step s = .next t ∧ Frame [] [] [.now] s t ∧
    t.now = s.now + (if s.pwr.porst then 0 else if s.pwr.st = 6 then 40000 else 1000)

/-- No command adds, drops or reorders a waiting command (log entry 1). -/
def Obligations.QueueMoves : Prop :=
  ∀ s t, step s = .next t → t.pending = s.pending.tail

/-- The sparse stores keep their one canonical form, so that equal contents are equal data (R37, R38 lay the tables
out). -/
def Obligations.CanonicalStep : Prop := ∀ s t, s.Canonical → step s = .next t → t.Canonical

/-- The state after reset is in the canonical form that CanonicalStep keeps. -/
def Obligations.CanonicalReset : Prop := State.reset.Canonical

/-- Fuses only blow: the anti-rollback counter (R543) never falls and the field-lock fuse (R550) never clears, over
every command and every reset (R571). -/
def Obligations.FusesNeverFall : Prop := ∀ s t, step s = .next t → FusesKept s t

/-- Every command answers a next state from every state, but for the two stops on what R64 (with debug scope 1 open,
R550) and R75 call unpredictable (log entries 7 and 8). -/
def Obligations.OnlyTwoStops : Prop :=
  (∀ c s r, exec c s ≠ .refused r) ∧
  (∀ c s f, exec c s = .fault f →
    (f = .badSequence ∧ ∃ t, c = .lineStart t) ∨
    (f = .reservedBits ∧ bit s.sec.scopes 1 = true ∧ ((∃ a w, c = .registerWrite a w) ∨ (∃ a be d t, c = .pcieBar0Request true a be d t) ∨
      ∃ fr late t, c = .spiRead fr late t ∨ c = .spiWrite fr late t ∨ c = .spiNoAccess fr late t)))

/-- A KW write that the guard or the lock refuses leaves its KW fields, sets KEYERR and consumes an open guard (R55,
R59 to R61, R622). -/
def Obligations.GuardRefuses : Prop :=
  ∀ c p l ps s, Guarded c p l ps → s.accepts p = true → s.kwAllowed p = false → Answers c s fun t =>
    t.hdr p = { s.hdr p with keyOpen := false, pevt := (s.hdr p).pevt ||| 8#32 } ∧ Frame l [p] (.out :: .hlk :: ps) s t

/-- The header rows (R45, R53, R55 to R57, R60, R71, R72). That EXPERT_CLEAR leaves the page due for PROFILE_DERIVE is
log entry 13. -/
def Obligations.HeaderRows : Prop :=
  (∀ s page, isPage page = true → s.accepts page = true → Answers (.pcommitGo page) s fun t =>
    t.hdr page = { s.hdr page with go := true } ∧ Frame [] [page] [] s t) ∧
  (∀ s page key, isPage page = true → s.accepts page = true → Answers (.pkeyWrite page key) s fun t =>
    t.hdr page = { s.hdr page with keyOpen := decide (key = 0x0B5E2DA7) } ∧ Frame [] [page] [] s t) ∧
  (∀ s page, isPage page = true → s.accepts page = true → s.kwAllowed page = true → Answers (.plockLock page) s fun t =>
    t.hdr page = { s.hdr page with keyOpen := false, locked := true } ∧ Frame [] [page] [] s t) ∧
  (∀ s page, isPage page = true → s.accepts page = true → Answers (.expertSet page) s fun t =>
    t.hdr page = { s.hdr page with expert := true } ∧ Frame [] [page] [] s t) ∧
  (∀ s page, isPage page = true → s.accepts page = true → (s.hdr page).expert = true →
    Answers (.expertClear page) s fun t =>
      t.hdr page = { s.hdr page with expert := false, due := true } ∧ Frame [] [page] [.waiting] s t ∧
      ∀ a, pageBase a ≠ page → tabFind t.pend a = tabFind s.pend a) ∧
  (∀ s page, (s.hdr page).srstBsy = true → Answers (.softResetDone page) s fun t =>
    t.hdr page = { s.hdr page with srstBsy := false } ∧ Frame [] [page] [] s t)

/-- Writes to BAR0 registers (R8, R27, R36, R64, R70, R73, R480). The last two clauses are the model's (log entry 7),
the XW comparison is log entry 10. -/
def Obligations.RegisterWrites : Prop :=
  (∀ s x w, x < 4 → s.accepts (P.CDRx x) = true → s.wlockOwn = 0 → Answers (.registerWrite (R.CDRx_MVEL x) w) s fun t =>
    t.reg (R.CDRx_MVEL x) = w ∧ hostTakes (R.CDRx_MVEL x) s t ∧ Frame [R.CDRx_MVEL x] [] [.ssc] s t) ∧
  (∀ s w, s.accepts P.SSC = true → s.wlockOwn = 0 → Answers (.registerWrite R.SSC_NLINES w) s fun t =>
    t.reg R.SSC_NLINES = s.reg R.SSC_NLINES ∧ tabFind t.pend R.SSC_NLINES = some w ∧
    (∀ a, a ≠ R.SSC_NLINES → tabFind t.pend a = tabFind s.pend a) ∧ hostTakes R.SSC_NLINES s t ∧
    Frame [] [] [.waiting, .ssc] s t) ∧
  (∀ s v, s.accepts P.HELG = true → s.wlockOwn = 0 → (s.hdr P.HELG).expert = false → v < 2 ^ 24 →
    v ≠ s.fld R.HELG_HOLD F.HELG_HOLD.PER → Answers (.registerWrite R.HELG_HOLD (BitVec.ofNat 32 v)) s fun t =>
      (t.hdr P.HELG).xwign = min 255 ((s.hdr P.HELG).xwign + 1) ∧ t.raised P.HELG 1 = true ∧
      Frame [] [P.HELG] [.out, .hlk] s t) ∧
  (∀ s v, s.accepts P.HELG = true → s.wlockOwn = 0 → (s.hdr P.HELG).expert = true → v < 2 ^ 24 →
    Answers (.registerWrite R.HELG_HOLD (BitVec.ofNat 32 v)) s fun t =>
      t.fldNext R.HELG_HOLD F.HELG_HOLD.PER = v ∧ hostTakes R.HELG_HOLD s t ∧ Frame [] [] [.waiting, .ssc] s t) ∧
  (∀ s a w, a % 4 = 0 → a < 2 ^ 24 → pageOf a = none → msixAddr a = false → s.busDark = false → s.wlockOwn = 0 →
    Answers (.registerWrite a w) s fun t =>
      (t.reg R.HLK_IGNCNT).toNat = min ((s.reg R.HLK_IGNCNT).toNat + 1) 0xFFFFFFFF ∧
      (t.reg R.HLK_IGNLAST).toNat = 2 ^ 27 + a ∧ t.raised P.HLK 12 = true ∧
      Frame [R.HLK_IGNCNT, R.HLK_IGNLAST] [P.HLK] [.out, .hlk] s t) ∧
  (∀ s a w, a % 4 = 0 → a < 2 ^ 24 → a ≠ R.HLK_WLOCK → s.busDark = false → s.wlockOwn = 2 →
    Answers (.registerWrite a w) s fun t =>
      (t.reg R.HLK_IGNLAST).toNat = 2 ^ 29 + a ∧ t.raised P.HLK 12 = true ∧
      Frame [R.HLK_IGNCNT, R.HLK_IGNLAST] [P.HLK] [.out, .hlk] s t) ∧
  (∀ s a w, s.busDark = true → exec (.registerWrite a w) s = .next s) ∧
  (∀ s w, s.accepts P.FFT = true → s.wlockOwn = 0 → bit s.sec.scopes 1 = false → Answers (.registerWrite R.FFT_WREF w) s fun t =>
    (t.reg R.FFT_WREF).toNat = w.toNat % 2 ^ 16 ∧ hostTakes R.FFT_WREF s t ∧ Frame [R.FFT_WREF] [] [.ssc] s t) ∧
  (∀ s w, s.accepts P.FFT = true → s.wlockOwn = 0 → bit s.sec.scopes 1 = true → 2 ^ 16 ≤ w.toNat →
    exec (.registerWrite R.FFT_WREF w) s = .fault .reservedBits)

/-- Page soft reset (R44, R105) and boundaries at rest (R8, R29, R51, R53, R393). Which boundary is met at rest, and
that a reset page is due for derivation, are log entries 13 and 14. -/
def Obligations.ResetAndPending : Prop :=
  (∀ s p, p = P.MER ∨ p = P.PLTG ∨ (∃ n, n < 16 ∧ p = P.PLTn n) → s.accepts p = true → Answers (.pageSoftReset p) s fun t =>
    t.hdr p = { locked := (s.hdr p).locked, srstBsy := true, due := true } ∧
    (∀ a, pageBase a = p → tabFind t.pend a = none ∧ (match pageOf a with
      | some (k, _, off) => (regRow k off).isSome = true → t.reg a = regDefault s.straps a
      | none => True)) ∧
    (∀ a, pageBase a ≠ p → t.reg a = s.reg a ∧ tabFind t.pend a = tabFind s.pend a) ∧
    (∀ q, q ≠ p → t.hdr q = s.hdr q) ∧ t.pending = s.pending ∧
    t.mer = (if t.pclk = s.pclk then s.mer else { s.mer with lock := false, locking := true }) ∧
    ∀ x, x ∉ [Piece.held, .waiting, .mer] → SamePart x s t) ∧
  (∀ s a w, tabSorted s.pend = true → s.ssc.st = 0 → (s.hdr P.SSC).go = false → a ∈ [R.SSC_NLINES, R.SSC_PGEOM, R.SSC_MINSPC] →
    a ∉ s.ssc.jHold → tabFind s.pend a = some w → Answers (.pendingApplyIdle P.SSC) s fun t =>
      t.reg a = w ∧ tabFind t.pend a = none ∧ (∀ b, pageBase b ≠ P.SSC → t.reg b = s.reg b ∧ tabFind t.pend b = tabFind s.pend b) ∧
      (∀ p, t.hdr p = s.hdr p) ∧ ∀ x, x ∉ [Piece.waiting] → SamePart x s t) ∧
  (∀ s a w, s.ssc.st ≠ 0 ∨ a ∈ s.ssc.jHold → (s.hdr P.SSC).go = false → a ∈ [R.SSC_NLINES, R.SSC_PGEOM, R.SSC_MINSPC] →
    tabFind s.pend a = some w → Answers (.pendingApplyIdle P.SSC) s fun t =>
      tabFind t.pend a = some w ∧ t.reg a = s.reg a) ∧
  (∀ s, s.mer.cycle = false → (s.hdr P.CHR).go = true → s.pend = [] → Answers (.pendingApplyIdle P.CHR) s fun t =>
    (t.hdr P.CHR).go = false ∧ t.raised P.CHR 2 = true ∧ Frame [] [P.CHR] [.out, .hlk] s t)

/-- Derivation of XW fields from the profile (R17, R27 to R29, R623). That a due page is served by this row is log
entry 13. -/
def Obligations.Derivation : Prop :=
  (∀ s n k, s.sec.paused = false → s.ssc.st = 1 → s.mer.cycle = false → 
    s.hdrs.all (fun e => !e.2.due && !e.2.expert) = true → k = s.profileBands.length → 0 < k → Answers (.profileDerive n) s fun t =>
      t.fldNext R.MER_SEQCFG F.MER_SEQCFG.NSLOT = k ∧
      t.fldNext R.MER_LSRC F.MER_LSRC.SRC =
        (match s.profileMode with | 0 => 1 | 1 => 2 | 2 => 0 | _ => 3) ∧
      t.pending = s.pending ∧ (∀ p, t.hdr p = s.hdr p) ∧ t.ssc = { s.ssc with jHold := t.ssc.jHold } ∧
      ∀ x, x ∉ [Piece.now, .free, .waiting, .acq, .cdr, .fft, .ssc] → SamePart x s t) ∧
  (∀ s n a, s.sec.paused = false → s.ssc.st = 1 → s.mer.cycle = false → (s.hdr (pageBase a)).expert = true → s.hdrs.all (fun e => !e.2.due) = true →
    Answers (.profileDerive n) s fun t => t.regNext a = s.regNext a) ∧
  (∀ s n p, s.sec.paused = false → s.ssc.st ≠ 1 → tabSorted s.hdrs = true → (s.hdr p).due = true → (s.hdr p).srstBsy = false →
    Answers (.profileDerive n) s fun t => t.hdr p = { s.hdr p with due := false }) ∧
  (∀ s n, s.sec.paused = true → Answers (.profileDerive n) s fun t => Frame [] [] [.now] s t)

/-- BAR2 accesses (R33, R38 to R41, R202, R203, R212, R213, R221). Soft errors are operands of the reading row (log
entry 83). -/
def Obligations.TableAccess : Prop :=
  (∀ s a v, a < 0x2800000 → a % 8 = 0 → s.busDark = false → s.pwr.st ≠ 6 → Answers (.tableWrite a true v) s fun t =>
    t.load a 8 = v % 2 ^ 40 ∧ t.isBad a = false ∧ (∀ c, c < a ∨ a + 8 ≤ c → t.byte c = s.byte c) ∧
    Frame [] [] [.tables, .fft, .held] s t) ∧
  (∀ s a v, a < 0x2800000 → a % 8 = 0 → s.busDark = false → s.pwr.st ≠ 6 → Answers (.tableWrite a false v) s fun t =>
    tabFind t.holdTab a = some (BitVec.ofNat 32 v) ∧ Frame [] [] [.held] s t) ∧
  (∀ s a v lo, a < 0x2800000 → a % 8 = 0 → tabFind s.holdTab a = some lo → s.busDark = false → s.pwr.st ≠ 6 →
    Answers (.tableWrite (a + 4) false v) s fun t =>
      t.load a 8 = (lo.toNat + v * 2 ^ 32) % 2 ^ 40 ∧ tabFind t.holdTab a = none ∧ t.isBad a = false ∧
      (∀ c, c < a ∨ a + 8 ≤ c → t.byte c = s.byte c) ∧ Frame [] [] [.tables, .fft, .held] s t) ∧
  (∀ s a v, 0x2900000 ≤ a → a < 0x2904000 → a % 4 = 0 → s.busDark = false → s.pwr.st ≠ 6 →
    Answers (.tableWrite a false v) s fun t =>
      t.load a 4 = (v % 2 ^ 32) &&& tabMask a ∧ (∀ c, c < a ∨ a + 4 ≤ c → t.byte c = s.byte c) ∧ Frame [] [] [.tables] s t) ∧
  (∀ s p v, p < 163840 → s.busDark = false → s.pwr.st ≠ 6 → Answers (.tableWrite (darkAddr p) false v) s fun t =>
    t.load (darkAddr p) 4 = v % 2 ^ 20 ∧ tabFind t.fft.hold p = none ∧ t.isBad (darkAddr p) = false ∧
    (∀ c, c < darkAddr p ∨ darkAddr p + 4 ≤ c → t.byte c = s.byte c) ∧ Frame [] [] [.tables, .fft] s t) ∧
  (∀ s a v, tabReserved a = true → a < 0x4000000 → a % 4 = 0 → s.busDark = false → s.pwr.st ≠ 6 →
    Answers (.tableWrite a false v) s fun t =>
      (t.reg R.HLK_IGNCNT).toNat = min ((s.reg R.HLK_IGNCNT).toNat + 1) 0xFFFFFFFF ∧
      (t.reg R.HLK_IGNLAST).toNat = 2 ^ 30 + 2 ^ 28 + a ∧ t.raised P.HLK 12 = true ∧
      Frame [R.HLK_IGNCNT, R.HLK_IGNLAST] [P.HLK] [.out, .hlk] s t) ∧
  (∀ s a u, a < 0x4000000 → a % 4 = 0 → entryOf a = none → s.busDark = false → s.pwr.st ≠ 6 →
    Answers (.tableRead a false u) s fun t =>
      t.out = s.out ++ [.completion [BitVec.ofNat 32 (if tabReserved a then 0 else s.load a 4)]] ∧ Frame [] [] [.out] s t) ∧
  (∀ s a, a < 0x2800000 → a % 8 = 0 → s.isBad a = false → s.busDark = false → s.pwr.st ≠ 6 →
    Answers (.tableRead a true []) s fun t =>
      t.out = s.out ++ [.completion [BitVec.ofNat 32 (s.load a 4), BitVec.ofNat 32 (s.load (a + 4) 4)]] ∧ Frame [] [] [.out] s t) ∧
  (∀ s a m, a < 0x2800000 → a % 8 = 0 → s.isBad a = false → s.busDark = false → s.pwr.st ≠ 6 →
    Answers (.tableRead a true [⟨a, m, false⟩]) s fun t =>
      (t.reg R.FFT_ECCCNT).toNat = min ((s.reg R.FFT_ECCCNT).toNat + 1) 0xFFFFFFFF ∧ t.raised P.FFT 10 = true ∧
      Frame [R.FFT_ECCCNT] [P.FFT] [.out, .hlk] s t)

/-- Flat-field tables (R214 to R222, R318 to R320). -/
def Obligations.FlatField : Prop :=
  (∀ s, s.flag R.FFT_SCRUB F.FFT_SCRUB.EN = true → s.fft.scrubPos < 5406720 → s.isBad (scrubEntry s.fft.scrubPos) = false →
    Answers (.scrubRead []) s fun t =>
      t.fft = { s.fft with scrubPos := (s.fft.scrubPos + 1) % 5406720 } ∧ (t.fft.scrubPos = 0 → t.raised P.FFT 13 = true) ∧
      Frame [R.FFT_SCRUBPOS] [P.FFT] [.fft, .out, .hlk] s t) ∧
  (∀ s, s.flag R.FFT_SCRUB F.FFT_SCRUB.EN = true → s.isBad (scrubEntry s.fft.scrubPos) = true →
    Answers (.scrubRead []) s fun t =>
      (t.reg R.FFT_ECCUCNT).toNat = min ((s.reg R.FFT_ECCUCNT).toNat + 1) 0xFFFFFFFF ∧ t.raised P.FFT 11 = true ∧
      t.isUnack (if s.inUse (entrySpace (scrubEntry s.fft.scrubPos)) then 0x0801 else 0x0802)
        (entrySpace (scrubEntry s.fft.scrubPos)) = true) ∧
  (∀ s n, s.Canonical → s.fft.copyBusy = true → s.fft.active = 0 → s.flag R.COL_PERM F.COL_PERM.FLAT = true → s.badOf 0 = [] →
    s.mixedIn 1 → Answers (.calCopyDone n) s fun t =>
      t.fft.copyBusy = false ∧ t.fft.mixed = [] ∧ (∀ a, a < flatB → t.byte a = s.byte a ∧ (unmixed s (flatB + a) → t.byte (flatB + a) = s.byte a)) ∧
      (∀ a, 0x2800000 ≤ a → t.byte a = s.byte a) ∧ Frame [R.FFT_STAT, R.FFT_BLENDN] [] [.now, .tables, .fft, .free] s t) ∧
  (∀ s n, s.Canonical → s.fft.copyBusy = true → s.fft.active = 1 → s.flag R.COL_PERM F.COL_PERM.FLAT = true → s.badOf 1 = [] →
    s.mixedIn 0 → Answers (.calCopyDone n) s fun t =>
      t.fft.copyBusy = false ∧ t.fft.mixed = [] ∧ (∀ a, a < flatB → t.byte (flatB + a) = s.byte (flatB + a) ∧ (unmixed s a → t.byte a = s.byte (flatB + a))) ∧
      (∀ a, 0x2800000 ≤ a → t.byte a = s.byte a) ∧ Frame [R.FFT_STAT, R.FFT_BLENDN] [] [.now, .tables, .fft, .free] s t) ∧
  (∀ s n, s.fft.copyBusy = true → s.flag R.COL_PERM F.COL_PERM.FLAT = false → Answers (.calCopyDone n) s fun t =>
    t.fft = { s.fft with copyBusy := false } ∧ Frame [R.FFT_STAT, R.FFT_BLENDN] [] [.now, .fft] s t) ∧
  (∀ s n, s.sec.paused = false → s.col.run = 3 ∨ s.col.run = 4 → s.fft.copyBusy = false → s.fft.runLeft = 0 → s.calLinesOut = true →
    s.col.second = false → (∀ e, e ∈ s.fft.sums → e.1 < 2621440) → s.mixedIn (1 - s.fft.active) → Answers (.calRunDone n) s fun t =>
      t.col.second = true ∧ t.fft.calBusy = false ∧ t.fft.runLeft = s.fft.runLines ∧ t.fft.sums = [] ∧
      t.raised P.FFT 12 = true ∧ (∀ a, flatAddr s.fft.active 0 ≤ a → a < flatAddr s.fft.active 2621440 → t.byte a = s.byte a) ∧
      (∀ a, 0x2800000 ≤ a → t.byte a = s.byte a) ∧
      Frame [R.FFT_STAT, R.FFT_BLENDN] [P.FFT] [.now, .col, .fft, .tables, .free, .out, .hlk] s t) ∧
  (∀ s n, s.sec.paused = false → s.col.run = 2 → s.fft.mixed = [] → s.fft.copyBusy = false → s.fft.runLeft = 0 → s.calLinesOut = true → s.colRefuses = false →
    s.flag R.COL_PERM F.COL_PERM.FLAT = false → s.col.req = 0 → s.flag R.FFT_BANKCTL F.FFT_BANKCTL.AUTOSW = true →
    Answers (.calRunDone n) s fun t =>
      t.col.run = 0 ∧ t.col.need = [] ∧ t.fft.calBusy = false ∧ t.fft.run = 0 ∧
      (t.reg R.COL_RESULT).toNat = 2 ∧ t.raised P.COL 8 = true ∧ t.raised P.FFT 12 = true ∧
      bit (t.regNext R.FFT_SWITCH).toNat F.FFT_SWITCH.GO.2 = true ∧ t.flag R.FFT_SWITCH F.FFT_SWITCH.GO = true ∧ bit (t.reg R.COL_REQ).toNat 1 = false ∧
      Frame [R.FFT_SWITCH, R.FFT_STAT, R.FFT_BLENDN, R.COL_RESULT, R.COL_REQ, R.COL_STAT] [P.FFT, P.COL]
        [.now, .col, .fft, .waiting, .attn, .out, .hlk] s t)

/-- Triggers (R87, R91, R92). Line overrun is fault 0x1801, producer 51. -/
def Obligations.Triggers : Prop :=
  (∀ s n tr rest, s.mer.transit = tr :: rest → tr.preroll = false → 3 ≤ s.ssc.st → s.ssc.st ≤ 6 → s.numberLost tr = false →
    s.mer.latch = none → s.fld R.SSC_NLINES F.SSC_NLINES.N = 0 → Answers (.lineTrigger n) s fun t =>
      t.chr.line = (s.chr.line + 1) % 2 ^ 64 ∧ t.ssc.assigned = s.ssc.assigned + 1 ∧
      t.mer = { s.mer with transit := rest, latch := some { tr with line := (s.chr.line + 1) % 2 ^ 64 } } ∧
      Frame [] [] [.now, .mer, .chr, .ssc] s t) ∧
  (∀ s n tr rest x, s.mer.transit = tr :: rest → tr.preroll = false → 3 ≤ s.ssc.st → s.ssc.st ≤ 6 → s.numberLost tr = false →
    s.mer.latch = some x → s.fld R.SSC_NLINES F.SSC_NLINES.N = 0 → Answers (.lineTrigger n) s fun t =>
      t.chr.line = (s.chr.line + 1) % 2 ^ 64 ∧ t.mer.latch = some x ∧
      (t.reg R.MER_OVRCNT).toNat = min ((s.reg R.MER_OVRCNT).toNat + 1) 0xFFFFFFFF ∧
      t.raised P.MER 8 = true ∧ t.isUnack 0x1801 0 = true ∧ 51 ∈ t.flight ∧
      Frame (R.MER_OVRCNT :: faultRegs) (P.MER :: faultPages 0x1801 0) (.now :: faultParts) s t) ∧
  (∀ s n tr rest, s.mer.transit = tr :: rest → tr.preroll = true → s.ssc.st = 7 → s.mer.latch = none →
    Answers (.lineTrigger n) s fun t =>
      t.mer = { s.mer with transit := rest, latch := some { tr with line := s.ssc.lastKept } } ∧ Frame [] [] [.now, .mer] s t) ∧
  (∀ s n tr rest, s.mer.transit = tr :: rest → s.ssc.st < 3 ∨ 8 < s.ssc.st → Answers (.lineTrigger n) s fun t =>
    t.mer = { s.mer with transit := rest } ∧ Frame [] [] [.now, .mer] s t) ∧
  (∀ s, s.mer.timerOn = true → s.ssc.st = 3 → s.jobMode ≠ 0 → s.mer.latch = none → s.fld R.SSC_NLINES F.SSC_NLINES.N = 0 →
    Answers .lineTimerExpiry s fun t =>
      t.mer.timerAt = (s.pclkAfter s.mer.timerAt s.mer.timerFr s.timerCount).1 ∧ t.mer.timerPer = 0 ∧ t.chr.line = (s.chr.line + 1) % 2 ^ 64 ∧
      t.now = max s.now (s.pclkAfter s.mer.timerAt s.mer.timerFr (s.timerCount - 4)).1 ∧
      (∃ tr, t.mer.latch = some tr ∧ tr.timer = true ∧ tr.preroll = false ∧ tr.line = t.chr.line ∧ tr.tick = t.now) ∧
      Frame [] [] [.now, .mer, .chr, .ssc] s t)

/-- The line cycle (R74 to R80, R85, R89, R93, R105, R106). The stop of the second clause is log entry 8, R106's
details log entry 56. -/
def Obligations.LinesAndClock : Prop :=
  (∀ s n tr, s.mer.latch = some tr → s.lineReadyAt n tr = true → seqGood s.seq = true → tr.preroll = false →
    Answers (.lineStart n) s fun t =>
      t.mer.phase = .exposure ∧ t.mer.slot = 0 ∧ t.mer.latch = none ∧ t.mer.line = tr.line ∧ t.mer.readout = s.mer.prev ∧
      t.mer.expose.map (·.line) = some tr.line ∧ t.pending = s.pending ∧
      (∀ x, x ∈ [Piece.straps, .sec, .pwr] → SamePart x s t)) ∧
  (∀ s n tr, s.mer.latch = some tr → s.lineReadyAt n tr = true → seqGood s.seq = false →
    exec (.lineStart n) s = .fault .badSequence) ∧
  (∀ s n tr, s.mer.latch = some tr → s.lineReadyAt n tr = false → exec (.lineStart n) s = .next s) ∧
  (∀ s, s.mer.phase = .exposure → 1 ≤ s.mer.slot → s.mer.slot + 1 < s.nslot → s.pend = [] → s.col.ch = none →
    Answers .slotBoundary s fun t =>
    t.mer.phase = .exposure ∧ t.mer.slot = s.mer.slot + 1 ∧ t.mer.readout = s.mer.expose ∧ t.mer.boundary = s.mer.boundary + 1 ∧
    t.mer.slotAt = t.now ∧ t.now = max s.now (s.slotOverAt s.slotLen) ∧ t.mer.line = s.mer.line ∧
    Frame [R.HELG_TRUNC] [P.HELG] [.now, .free, .flight, .mer, .plt, .hel, .act, .out, .hlk] s t) ∧
  (∀ s e, s.mer.phase = .exposure → 1 ≤ s.mer.slot → s.nslot ≤ s.mer.slot + 1 → s.mer.expose = some e → s.mer.latch = none →
    s.pend = [] → s.col.ch = none → Answers .slotBoundary s fun t =>
      t.mer.phase = .tail ∧ t.mer.readout = some e ∧ t.mer.expose = none ∧ t.mer.lastLine = some e.line ∧
      Frame [R.HELG_TRUNC] [P.HELG] [.now, .free, .mer, .plt, .hel, .act, .out, .hlk] s t) ∧
  (∀ s l i, s.mer.phase = .tail → s.mer.lastLine = some l → tabFind s.lines l = some i → i.preroll = false → s.mer.latch = none →
    s.pend = [] → s.strobesAllowed = false → Answers .slotBoundary s fun t =>
      t.mer.phase = .idle ∧ t.mer.lastLine = none ∧ t.mer.capEnd = some t.now ∧ 50 ∈ t.flight ∧
      tabFind t.lines l = some { i with capDone := true, capAt := t.now, capTs := t.ts } ∧ 
      Frame [] [] [.now, .free, .flight, .lines, .mer, .hel, .ssc] s t) ∧
  (∀ s, s.mer.phase = .flush → s.mer.latch = none → s.pend = [] → Answers .slotBoundary s fun t =>
    t.mer.phase = .idle ∧ t.mer.overAt = t.now ∧ t.now = max s.now (s.slotOverAt s.slotLen) ∧ Frame [] [] [.now, .mer, .hel, .free] s t) ∧
  (∀ s, s.mer.phase = .diag → Answers .diagStrobeEnd s fun t =>
    t.mer.phase = .flush ∧ t.now = max s.now (s.slotOverAt s.diagLen) ∧ t.mer.slotAt = t.now ∧ t.mer.boundary = s.mer.boundary + 1 ∧
    t.mer.slotType = s.fld R.MER_XTYPE F.MER_XTYPE.FLUSHT ∧ Frame [] [] [.now, .mer, .hel] s t) ∧
  (∀ s n, s.mer.lock = false → s.flag R.PWR_STAT F.PWR_STAT.REFOK = true → Answers (.pclkLock n) s fun t =>
    t.mer = { s.mer with lock := true, locking := false } ∧ Frame [] [] [.now, .mer] s t) ∧
  (∀ s n, s.mer.lock = true → s.mer.cycle = false → Answers (.pclkUnlock n) s fun t =>
    t.mer = { s.mer with lock := false, locking := true } ∧ Frame [] [] [.now, .mer] s t) ∧
  (∀ s n, s.mer.lock = true → s.mer.cycle = true → Answers (.pclkUnlock n) s fun t =>
    t.mer.lock = false ∧ t.mer.locking = true ∧ t.mer.phase = .idle ∧ t.raised P.MER 10 = true ∧ t.isUnack 0x0201 0 = true ∧
    (∀ o, o < 24 → bit t.mer.stg.toNat o = bit (s.fld R.MER_STGIDLE F.MER_STGIDLE.IDLE) o) ∧ t.mer.late = [] ∧
    t.pending = s.pending ∧ (∀ x, x ∈ [Piece.straps, .sec] → SamePart x s t))

/-- Acquisition channels (R111, R115, R116, R118, R120, R128 to R134). The analogue inputs are operands (log entry
82). -/
def Obligations.Conversions : Prop :=
  (∀ s c x e, s.mer.readout = some e → c < 272 → (s.ch c).cur.on = true → s.periodOk c x.period = true →
    Answers (.conversion c x) s fun t =>
      t.ch c = { s.ch c with fabric := (s.ch c).fabric ++ (convWords (s.ch c).cur x (s.ch c).wire (decide (256 ≤ c)) e).map (·.2) } ∧
      (∀ d, d ≠ c → t.ch d = s.ch d) ∧
      (t.reg (orCount c)).toNat = min ((s.reg (orCount c)).toNat +
        (if (convert (s.ch c).cur false x.sp x.sn ((x.dev[3]?).getD 0) ((x.clip[3]?).getD false) (s.ch c).wire).ovr then 1 else 0))
        0xFFFFFFFF ∧
      Frame [orCount c] [] [.acq] s t) ∧
  (∀ s c x, s.mer.readout = none ∨ (s.ch c).cur.on = false → exec (.conversion c x) s = .next s) ∧
  (∀ s c x, s.checkDue c = true → s.checkFails c x = true → (s.ch c).wire = false → Answers (.wireCheck c x) s fun t =>
    (t.ch c).wire = true ∧ (t.ch c).checked = s.mer.boundary ∧ (t.ch c).fabric.length = (s.ch c).fabric.length + 1 ∧
    (∀ d, d ≠ c → t.ch d = s.ch d) ∧ t.now = s.checkAt ∧ t.shownWire c = 1 ∧
    (t.reg (wckCount c)).toNat = min ((s.reg (wckCount c)).toNat + 1) 0xFFFFFFFF ∧ t.raised P.ACQG 8 = true ∧
    Frame [wireStat c, R.ACQG_WIREMAPi (c / 32), R.ACQG_STAT, wckCount c] [P.ACQG] [.now, .acq, .out, .hlk] s t) ∧
  (∀ s c x, s.checkDue c = true → s.checkFails c x = false → (s.ch c).wire = true → Answers (.wireCheck c x) s fun t =>
    (t.ch c).wire = false ∧ (t.ch c).checked = s.mer.boundary ∧ (t.ch c).fabric.length = (s.ch c).fabric.length + 1 ∧
    (∀ d, d ≠ c → t.ch d = s.ch d) ∧ t.now = s.checkAt ∧ t.shownWire c = 0 ∧ t.raised P.ACQG 9 = true ∧
    Frame [wireStat c, R.ACQG_WIREMAPi (c / 32), R.ACQG_STAT] [P.ACQG] [.now, .acq, .out, .hlk] s t) ∧
  (∀ s c x, s.checkDue c = false → exec (.wireCheck c x) s = .next s) ∧
  (∀ s n, s.acq.power = 2 → Answers (.coresSettled n) s fun t =>
    t.acq = { s.acq with power := 3 } ∧ t.flag R.ACQG_STAT F.ACQG_STAT.FULL = true ∧ t.flag R.ACQG_STAT F.ACQG_STAT.LP = false ∧
    Frame [R.ACQG_STAT] [] [.now, .acq] s t)

/-- The pixel pipeline (R157 to R170, R174 to R176, R180, R213). -/
def Obligations.Pixels : Prop :=
  (∀ s c u w ws, (s.ch c).fabric = w :: ws → bits w.toNat 21 17 = 31 → s.checkFor c (bits w.toNat 3 0) = true → Answers (.fabricWord c u) s fun t =>
    (t.ch c).fabric = ws ∧ t.plt = { s.plt with check := tabIns s.plt.check c (bit w.toNat 6) } ∧ Frame [] [] [.acq, .plt] s t) ∧
  (∀ s c u w ws, (s.ch c).fabric = w :: ws → bits w.toNat 21 17 < 31 → tabGet {} s.plt.part c = {} →
    bits w.toNat 3 0 ≠ 0 → Answers (.fabricWord c u) s fun t =>
      (t.ch c).fabric = ws ∧
      tabGet {} t.plt.part c = wordPart s c { slot := bits w.toNat 21 17, pix := bits w.toNat 16 7, seq := bits w.toNat 3 0,
                                              spare := bit w.toNat 4 } w ∧
      (∀ d, d ≠ c → tabGet {} t.plt.part d = tabGet {} s.plt.part d) ∧ t.plt.held = s.plt.held ∧ Frame [] [] [.acq, .plt] s t) ∧
  (∀ s c w ws p0 p line o px tr d, c < 256 → (s.ch c).fabric = w :: ws → bits w.toNat 21 17 < 16 → bits w.toNat 16 7 < 768 →
    s.fld R.MER_OVH F.MER_OVH.OB ≤ 256 → tabGet {} s.plt.part c = p0 →
    p0.slot = bits w.toNat 21 17 → p0.pix = bits w.toNat 16 7 → p0.seq = bits w.toNat 3 0 → p = wordPart s c p0 w →
    line = s.lineOfSeq p.seq → partFull (s.cdsOff line c) p = true → o = s.obSum c p.slot p.seq → o.done = true →
    s.useOf line c = .output c false → px = s.pixelOf line c p.pix → px < npix → s.mapBroken line c px = false →
    (tabFind s.fft.tRead px).all (fun r => r.1 != (s.lineInfo line).ord) = true → (s.lineInfo line).blend = false →
    s.isBad (flatAddr (s.lineInfo line).newBank (p.slot * npix + px)) = false → s.isBad (darkAddr px) = false →
    (s.mergeSample line c p o).forced = false →
    tr = s.darkFor (s.pfld line R.FFT_DARK F.FFT_DARK.MODE) line px →
    d = toDn ((s.mergeSample line c p o).m - (tr +
        entDark (s.flatEntry (s.lineInfo line).newBank (p.slot * npix + px))))
      (entGain (s.flatEntry (s.lineInfo line).newBank (p.slot * npix + px))) (s.pfld line R.PLTG_OUT F.PLTG_OUT.OFFDN) →
    Answers (.fabricWord c []) s fun t =>
      (∃ x, t.plt.held = s.plt.held ++ [x] ∧ x.dn = d.1 ∧ x.prim = c ∧ x.pixel = px ∧ x.band = p.slot ∧ x.line = line ∧
        x.satd = d.2 ∧ x.flag = entFlag (s.flatEntry (s.lineInfo line).newBank (p.slot * npix + px))) ∧
      (d.2 = true → (t.reg R.PLTG_SATCNT).toNat = min ((s.reg R.PLTG_SATCNT).toNat + 1) 0xFFFFFFFF ∧ t.raised P.PLTG 8 = true) ∧
      t.fft = { s.fft with tRead := tabIns s.fft.tRead px ((s.lineInfo line).ord, tr, false) } ∧
      Frame [R.PLTG_SATCNT] [P.PLTG] [.acq, .plt, .fft, .lines, .out, .hlk] s t)

/-- Release after the check words (R162, R178, R179). -/
def Obligations.Readouts : Prop :=
  (∀ s g n e, s.readHead g = some e → s.checksIn g e = true → (s.lineInfo e.line).preroll = false → s.col.ch = none →
    Answers (.readoutRelease g n) s fun t =>
      tabGet [] t.plt.reads g = (tabGet [] s.plt.reads g).tail ∧
      t.plt.held = s.plt.held.filter (fun x => !(groupOf x.prim == g && x.line == e.line && x.band == e.band)) ∧
      (∀ x, x ∈ s.plt.held → groupOf x.prim = g → x.line = e.line → x.band = e.band →
        ∃ y, y ∈ t.plt.rel ∧ y.prim = x.prim ∧ y.pixel = x.pixel ∧ y.line = x.line ∧ y.band = x.band) ∧
      Frame (R.PLTG_WPCNT :: (List.range 16).map R.COL_DNOISEb) [P.PLTG] [.now, .free, .plt, .lines, .fft, .col, .pho, .out, .hlk] s t) ∧
  (∀ s g n e, s.readHead g = some e → s.checksIn g e = false → exec (.readoutRelease g n) s = .next s)

/-- Record delivery (R14, R184, R192, R399 to R404). The route per line is log entry 50. -/
def Obligations.Records : Prop :=
  (∀ s k n p, 3 ≤ s.ssc.st → s.osEn k = true → s.osLines k = 1 → s.ssc.job.lost = [] → s.nextNum k = p → s.ssc.job.first ≤ p →
    p ≤ s.ssc.lastNum → s.lineReady p = true → tabFind s.ssc.job.route p = some 1 → (s.chan (s.osCh k)).desc = none →
    Answers (.recordPass k n) s fun t =>
      t.nextNum k = p + 1 ∧
      (t.chan (s.osCh k)).q = (s.chan (s.osCh k)).q ++
        [{ stream := k, ch := s.osCh k, line := p, gap := false, bytes := (s.upto n).lineRecord k p [p], viaStore := false }] ∧
      t.est = s.est ∧ Frame [] [] [.now, .free, .lines, .plt, .ssc, .dma] s t) ∧
  (∀ s k n p, 3 ≤ s.ssc.st → s.osEn k = true → s.osLines k = 1 → s.ssc.job.lost = [] → s.nextNum k = p → s.ssc.job.first ≤ p →
    p ≤ s.ssc.lastNum → s.lineReady p = true → tabFind s.ssc.job.route p = some 2 → (s.chan (s.osCh k)).desc = none →
    s.jobMode ≠ 0 → s.est.gapFill ≤ 65536 → Answers (.recordPass k n) s fun t =>
      t.nextNum k = p + 1 ∧
      t.est.recs = s.est.recs ++
        [{ stream := k, ch := s.osCh k, line := p, gap := false, bytes := (s.upto n).lineRecord k p [p], viaStore := true }] ∧
      t.est.fill = s.est.fill + ((s.upto n).lineRecord k p [p]).length ∧
      (t.reg R.EST_FILL).toNat = blocksOf t.est.fill % 2 ^ 32 ∧
      Frame [R.EST_FILL, R.EST_PEAK] [] [.now, .free, .lines, .plt, .ssc, .est] s t) ∧
  (∀ s k n p, 3 ≤ s.ssc.st → s.osEn k = true → s.osLines k = 1 → s.ssc.job.lost = [] → s.nextNum k = p → s.ssc.job.first ≤ p →
    p ≤ s.ssc.lastNum → s.lineReady p = false → Answers (.recordPass k n) s fun t => Frame [] [] [.now] s t) ∧
  (∀ s n, s.est.divert = true → s.est.recs = [] → Answers (.storeDrained n) s fun t =>
    t.est = { s.est with divert := false, dropping := false } ∧ t.raised P.EST 12 = true ∧
    Frame [] [P.EST] [.now, .est, .out, .hlk] s t)

/-- The Heliostat's states, fades and strobes (R228, R234, R240 to R247). -/
def Obligations.LampsAndStrobes : Prop :=
  (∀ s, s.accepts P.HELG = true → s.chr.safe = false → s.pwr.st ≠ 0 → s.hel.st = .off ∨ s.hel.st = .fadeout →
    Answers .lampEnable s fun t => t.flag R.HELG_CTL F.HELG_CTL.LAMPEN = true ∧
      t.hel = { s.hel with st := .fadein, base := s.hel.lam, t := 0, fadeMs := s.tin } ∧
      Frame [R.HELG_CTL] [] [.hel] s t) ∧
  (∀ s, s.accepts P.HELG = true → s.chr.safe = true → Answers .lampEnable s fun t =>
    t.flag R.HELG_CTL F.HELG_CTL.LAMPEN = false ∧ Frame [R.HELG_CTL] [] [] s t) ∧
  (∀ s, s.accepts P.HELG = true → s.hel.st = .fadein ∨ s.hel.st = .hold ∨ s.hel.st = .scan →
    Answers .lampDisable s fun t => t.flag R.HELG_CTL F.HELG_CTL.LAMPEN = false ∧
      t.hel = { s.hel with st := .fadeout, base := s.hel.lam, t := 0, fadeMs := s.tout } ∧
      Frame [R.HELG_CTL] [] [.hel] s t) ∧
  (∀ s n v, s.hel.st = .fadein → v = min 65536 (s.hel.base + 65536 * (s.hel.t + 1) / s.hel.fadeMs) →
    Answers (.fadeTick n) s fun t => t.hel.lam = v ∧ t.hel.t = s.hel.t + 1 ∧
      t.hel.st = (if v = 65536 then .hold else .fadein) ∧ t.fld R.HELG_LAMBDA F.HELG_LAMBDA.LAMBDA = v ∧
      (v = 65536 → t.raised P.HELG 14 = true) ∧
      Frame [R.HELG_LAMBDA] [P.HELG] [.now, .hel, .out, .hlk] s t) ∧
  (∀ s n v, s.hel.st = .fadeout → v = s.hel.base - min s.hel.base (65536 * (s.hel.t + 1) / s.hel.fadeMs) → v ≤ 65536 →
    Answers (.fadeTick n) s fun t => t.hel.lam = v ∧ t.hel.t = s.hel.t + 1 ∧
      t.hel.st = (if v = 0 then .off else .fadeout) ∧ t.fld R.HELG_LAMBDA F.HELG_LAMBDA.LAMBDA = v ∧
      (v = 0 → t.raised P.HELG 14 = true ∧ t.hel.lrow = none ∧ t.hel.sets = [] ∧ t.hel.holdSlot = none ∧ t.hel.holding = false) ∧
      Frame (R.HELG_LAMBDA :: s.lastRegs) [P.HELG] [.now, .hel, .out, .hlk] s t) ∧
  (∀ s n e, s.mer.cycle = true → s.mer.phase = .idle → s.mer.capEnd = some e →
    s.fld R.HELG_HOLD F.HELG_HOLD.PER * 1000000 < max s.now n - e → Answers (.holdWaitExpiry n) s fun t =>
    t.hel = { s.hel with waited := true, st := if s.hel.st = .scan then .hold else s.hel.st } ∧
    Frame [] [] [.now, .hel] s t) ∧
  (∀ s n e, s.mer.capEnd = some e → max s.now n - e ≤ s.fld R.HELG_HOLD F.HELG_HOLD.PER * 1000000 →
    Answers (.holdWaitExpiry n) s fun t => Frame [] [] [.now] s t) ∧
  (∀ s c n x, tabFind s.hel.cols c = some x → x.lit = true → x.on = false → x.dead = false → n < x.n → s.hel.lrow = some x.row →
    Answers (.strobeStart n (some c)) s fun t =>
      t.now = (s.uptoTap (s.pulseTap x n)).now ∧ t.hel.lrow = some x.row ∧ t.reg (colLast c) = BitVec.ofNat 32 (x.width * 65536 + x.row * 1024 + x.code) ∧
      (∃ y, tabFind t.hel.cols c = some y ∧ y.on = true ∧ y.ran = true ∧ y.pulse = n ∧ y.row = x.row ∧ y.w = x.w ∧ y.n = x.n) ∧
      (∀ d, d ≠ c → tabFind t.hel.cols d = tabFind s.hel.cols d) ∧ Frame [colLast c] [] [.now, .hel] s t) ∧
  (∀ s c x, tabFind s.hel.cols c = some x → x.on = true → Answers (.strobeEnd c) s fun t =>
    t.now = (s.uptoTap (min (s.slotLen * 64) (s.pulseTap x x.pulse + pulseLen x x.pulse))).now ∧
    tabFind t.hel.cols c = some { x with on := false } ∧ (∀ d, d ≠ c → tabFind t.hel.cols d = tabFind s.hel.cols d) ∧
    Frame [] [] [.now, .hel] s t) ∧
  (∀ s c x, tabFind s.hel.cols c = some x → x.on = false → exec (.strobeEnd c) s = .next s) ∧
  (∀ s n, Answers (.strobeStart n none) s fun t => Frame ((List.range 64).map colLast) [] [.now, .hel] s t ∧
    ∀ c x, c < 64 → tabFind s.hel.cols c = some x → x.lit = true → x.dead = false → n < x.n → s.hel.lrow = some x.row →
      ∃ y, tabFind t.hel.cols c = some y ∧ y.on = true)

/-- Lamp and column errors (R250, R251, R257, R258, R260). Column faults in safety-critical rows are log entry 19. -/
def Obligations.LampDiagnosis : Prop :=
  (∀ s k c sh n, k < 16 → c < 64 → bit s.critRows k = false → (s.upto n).judged k c s.tdiag = true →
    Answers (.regulatorVerdict k c sh n) s fun t =>
    bit (t.fld (colLflt c) (if sh then F.HELn_COLk_LFLT.SHORT else F.HELn_COLk_LFLT.OPEN)) k = true ∧
    t.lampOn k c = false ∧ t.isUnack (if sh then 0x0A02 else 0x0A01) (k * 64 + c) = true ∧
    t.raised P.HELG (if sh then 9 else 8) = true ∧
    (t.reg (colCnt c)).toNat = min ((s.reg (colCnt c)).toNat + 1) 0xFFFFFFFF ∧
    Frame ([colLflt c, colCnt c, colStat c] ++ faultRegs) (P.HELG :: faultPages (if sh then 0x0A02 else 0x0A01) (k * 64 + c))
      (.now :: .hel :: faultParts) s t) ∧
  (∀ s k c sh n, k < 16 → c < 64 → bit s.critRows k = true → (s.upto n).judged k c s.tdiag = true →
    Answers (.regulatorVerdict k c sh n) s fun t =>
    bit (t.fld R.HELG_ROWEN F.HELG_ROWEN.EN) k = false ∧ t.isUnack 0x0901 k = true ∧ t.raised P.HELG 12 = true ∧
    t.raised P.HELG (if sh then 9 else 8) = true ∧ t.ssc = s.ssc ∧
    Frame ([colLflt c, colCnt c, R.HELG_ROWEN] ++ s.lastRegs ++ faultRegs) (P.HELG :: faultPages 0x0901 k)
      (.now :: .hel :: .waiting :: faultParts) s t) ∧
  (∀ s k c sh n, (s.upto n).judged k c s.tdiag = false → exec (.regulatorVerdict k c sh n) s = .next (s.upto n)) ∧
  (∀ s c n, c < 64 → s.critRows = 0 → Answers (.columnFault c n) s fun t =>
    t.colOn c = false ∧ t.isUnack 0x0A04 c = true ∧ t.raised P.HELG 11 = true ∧
    Frame (colStat c :: colLast c :: faultRegs) (P.HELG :: faultPages 0x0A04 c) (.now :: .hel :: faultParts) s t) ∧
  (∀ s c w, c < 64 → s.accepts (P.HELn (c / 8)) = true → Answers (.lampVerdictClear c w) s fun t =>
    t.reg (colLflt c) = s.reg (colLflt c) &&& ~~~w ∧ Frame [colLflt c, colStat c] [] [.hel, .act] s t ∧
    ∀ k, k < 16 → bit (s.reg (colLflt c)).toNat k = true → bit w.toNat k = true → bit (s.reg (colLflt c)).toNat (16 + k) = false →
      t.lampOn k c = true ∧ t.unitV (lampKey k c) = 0) ∧
  (∀ s c, c < 64 → s.accepts (P.HELn (c / 8)) = true → Answers (.columnReen c) s fun t =>
    t.flag (colStat c) F.HELn_COLk_STAT.FLT = false ∧ (tabFind t.hel.restart c).isSome = true ∧
    Frame [colStat c] [] [.hel] s t) ∧
  (∀ s c x, tabFind s.hel.restart c = some x → s.mer.cycle = true → Answers (.columnRecovered c) s fun t =>
    t.hel = { s.hel with restart := tabErase s.hel.restart c, recover := tabIns s.hel.recover c true } ∧
    Frame [] [] [.hel] s t) ∧
  (∀ s c x, tabFind s.hel.restart c = some x → s.mer.cycle = false → Answers (.columnRecovered c) s fun t =>
    tabFind t.hel.restart c = none ∧ t.unitV (colKey c) = 0 ∧ Frame [] [] [.hel] s t) ∧
  (∀ s c, c < 64 → s.accepts (P.HELn (c / 8)) = true → Answers (.hdrmClear c) s fun t =>
    t.flag (colStat c) F.HELn_COLk_STAT.HDRM = false ∧
    t.hel = { s.hel with limited := s.hel.limited.filter (fun l => l.1 % 64 != c) } ∧ Frame [colStat c] [] [.hel] s t)

/-- Safety-critical rows and ILK_N (R259 to R263, R506). -/
def Obligations.RowsAndInterlock : Prop :=
  (∀ s n back, Answers (.ilkFall ⟨n, back⟩) s fun t =>
    t.hel.ilkPin = false ∧ t.hel.ilkBack = back ∧ t.flag R.HELG_ILK F.HELG_ILK.LATCH = true ∧
    (∀ k, k < 16 → bit s.critRows k = true → t.rowOn k = false ∧ bit t.rowsUp k = false) ∧
    t.isUnack 0x0902 0 = true ∧ t.raised P.HELG 13 = true ∧ 152 ∈ t.flight ∧
    Frame (R.HELG_ILK :: s.lastRegs ++ faultRegs) (P.HELG :: faultPages 0x0902 0) (.now :: .hel :: faultParts) s t) ∧
  (∀ s pin, s.accepts P.HELG = true → s.kwAllowed P.HELG = true → s.flag R.HELG_ILK F.HELG_ILK.LATCH = true →
    s.ilkHigh = true ∨ pin = true → Answers (.ilkLatchClear pin) s fun t =>
      t.reg R.HELG_ILK = 0 ∧ t.hel.ilkPin = true ∧ t.hdr P.HELG = { s.hdr P.HELG with keyOpen := false } ∧
      (∀ k, k < 16 → bit (s.fld R.HELG_ILK F.HELG_ILK.FORCED) k = true → bit (s.fld R.HELG_ROWEN F.HELG_ROWEN.EN) k = true →
        t.rowOn k = true ∧ tabFind t.hel.units (rowKey k) = some { tin := s.tin, running := true }) ∧
      Frame [R.HELG_ILK] [P.HELG] [.hel] s t) ∧
  (∀ s, s.accepts P.HELG = true → s.kwAllowed P.HELG = true → s.ilkHigh = false → Answers (.ilkLatchClear false) s fun t =>
    Frame [] [P.HELG] [] s t) ∧
  (∀ s k, k < 16 → s.accepts P.HELG = true →
    (∀ j, j < 16 → j = k ∨ bit (s.fldNext R.HELG_ROWEN F.HELG_ROWEN.EN) j = true → s.rowHeld j = false) → Answers (.rowEnable k) s fun t =>
    bit (t.fldNext R.HELG_ROWEN F.HELG_ROWEN.EN) k = true ∧
    (∀ a, a ≠ R.HELG_ROWEN → tabFind t.pend a = tabFind s.pend a) ∧ Frame [] [] [.waiting] s t) ∧
  (∀ s k, k < 16 → s.accepts P.HELG = true → s.rowHeld k = true → Answers (.rowEnable k) s fun t =>
      bit (t.fldNext R.HELG_ROWEN F.HELG_ROWEN.EN) k = bit (s.fldNext R.HELG_ROWEN F.HELG_ROWEN.EN) k ∧ t.raised P.HELG 19 = true ∧
      Frame [] [P.HELG] [.waiting, .out, .hlk] s t) ∧
  (∀ s k uv, k < 16 → s.accepts P.HELG = true → s.kwAllowed P.HELG = true → s.ssc.st = 0 →
    Answers (.safeRowMark k uv) s fun t =>
      t.fld R.HELG_SAFE F.HELG_SAFE.SAFE = s.fld R.HELG_SAFE F.HELG_SAFE.SAFE ||| (if uv then 0 else 2 ^ k) ∧
      t.fld R.HELG_UV F.HELG_UV.UV = s.fld R.HELG_UV F.HELG_UV.UV ||| (if uv then 2 ^ k else 0) ∧
      (s.ilkHigh = true → Frame [R.HELG_SAFE, R.HELG_UV] [P.HELG] [] s t) ∧
      (s.ilkHigh = false → bit s.critRows k = false → t.hel.lrow ≠ some k) ∧
      Frame (R.HELG_SAFE :: R.HELG_UV :: s.lastRegs) [P.HELG] [.hel] s t)

/-- The Actinometer (R268 to R272, R276 to R280). The charges are operands (log entry 82). -/
def Obligations.Measurements : Prop :=
  (∀ s ms l y r n, s.act.due = ms :: l → y.col < 64 → tabFind ms.cols y.col = some r → r.lit = true → r.got ≠ 0 →
    longEnough ms.a ms.khz 100 = true → y.h1 < 16383 → y.h2 < 16383 → s.col.run = 0 →
    s.flag R.ALM_CTL F.ALM_CTL.EN = false → (s.lampRes (r.row * 64 + y.col)).low < 3 →
    (s.lampRes (r.row * 64 + y.col)).weak < 3 → Answers (.strobeMeasure [y] n) s fun t =>
      t.act.due = l ∧ (t.lampRes (r.row * 64 + y.col)).sat = false ∧ (t.lampRes (r.row * 64 + y.col)).valid = true ∧
      (t.lampRes (r.row * 64 + y.col)).flux =
        fluxOf (quOf y.h1 r.range - tabGet 0 s.act.offset y.col) (quOf y.h2 r.range - tabGet 0 s.act.offset y.col) r.bhat
          ms.b r.got ms.khz ∧
      (t.lampRes (r.row * 64 + y.col)).nmeas = min 65535 ((s.lampRes (r.row * 64 + y.col)).nmeas + 1) ∧
      (∀ k, k ≠ r.row * 64 + y.col → t.lampRes k = s.lampRes k) ∧ Frame [] [] [.now, .act] s t) ∧
  (∀ s ms l y r n, s.act.due = ms :: l → y.col < 64 → tabFind ms.cols y.col = some r → r.lit = true → r.got ≠ 0 →
    longEnough ms.a ms.khz 100 = true → y.h1 = 16383 ∨ y.h2 = 16383 → r.row < 16 →
    Answers (.strobeMeasure [y] n) s fun t =>
      (t.lampRes (r.row * 64 + y.col)).sat = true ∧
      (t.lampRes (r.row * 64 + y.col)).flux = (s.lampRes (r.row * 64 + y.col)).flux ∧
      (t.reg R.ACT_SATCNT).toNat = min ((s.reg R.ACT_SATCNT).toNat + 1) 0xFFFFFFFF ∧ t.raised P.ACT 8 = true ∧
      t.isUnack 0x0B01 (r.row * 64 + y.col) = true ∧
      Frame (R.ACT_SATCNT :: faultRegs) (P.ACT :: faultPages 0x0B01 0) (.now :: .act :: faultParts) s t) ∧
  (∀ s n, s.act.restart = false → s.act.settle ≠ 0 → Answers (.baselineInterval n) s fun t =>
    (∀ c v, c < 64 → v = (if (tabGet (0, 0) s.act.base c).2 = 0 then tabGet 0 s.act.lastVal c
        else roundHe (tabGet (0, 0) s.act.base c).1 (tabGet (0, 0) s.act.base c).2) →
      -8388608 ≤ v → v ≤ 8388607 → toSigned 24 (t.fld (R.ACT_BASEc c) F.ACT_BASEc.BASE) = v) ∧
    t.act.settle = s.act.settle - 1 ∧ t.act.base = [] ∧
    Frame ((List.range 64).map R.ACT_BASEc) [] [.now, .act] s t) ∧
  (∀ s w r, s.accepts P.ACT = true → r = s.lampRes (w.toNat % 1024) → Answers (.lampSelect w) s fun t =>
    (t.reg R.ACT_LSEL).toNat = w.toNat % 1024 ∧ t.reg R.ACT_LFLUX = BitVec.ofNat 32 r.flux ∧
    t.reg R.ACT_LMEAN = BitVec.ofNat 32 r.mean ∧
    t.reg R.ACT_LINFO = BitVec.ofNat 32 (r.nmeas * 65536 + r.low * 4096 + r.weak * 256 + r.sat.toNat * 2 + r.valid.toNat) ∧
    Frame [R.ACT_LSEL, R.ACT_LFLUX, R.ACT_LMEAN, R.ACT_LINFO] [] [] s t)

/-- Thermal hold (R244, R245). The Actinometer's share is log entry 20. -/
def Obligations.HoldCycles : Prop :=
  (∀ s n offs, s.holdRuns = true → s.hel.holdSlot = none → s.hel.holding = true → s.nextCycle ≤ max s.now n →
    Answers (.holdCycle n offs) s fun t =>
    t.hel.holdSlot = some 0 ∧ t.hel.holdAt = max s.now s.nextCycle ∧ t.hel.cycleAt = t.hel.holdAt ∧ t.now = t.hel.holdAt ∧
    (s.seqBand 0 < 16 → ∀ c, c < 64 → ∃ x, tabFind t.hel.cols c = some x ∧ x.row = s.seqBand 0 ∧ x.hold = true) ∧
    Frame ((List.range 64).map colStat ++ faultRegs) (faultPages 0x0903 0) (.now :: .hel :: .act :: faultParts) s t) ∧
  (∀ s n offs j, s.holdRuns = true → s.hel.holdSlot = some j → s.holdSlotOver ≤ max s.now n → j + 1 < s.nslot →
    Answers (.holdCycle n offs) s fun t =>
    t.hel.holdSlot = some (j + 1) ∧ t.hel.holdAt = max s.now s.holdSlotOver ∧ t.now = t.hel.holdAt ∧ t.act.hslots = s.act.hslots + 1 ∧
    Frame [R.HELG_TRUNC] [P.HELG] [.now, .hel, .act, .out, .hlk] s t) ∧
  (∀ s n offs j, s.holdRuns = true → s.hel.holdSlot = some j → s.holdSlotOver ≤ max s.now n → s.nslot ≤ j + 1 →
    Answers (.holdCycle n offs) s fun t =>
    t.hel.holdSlot = none ∧ t.hel.cols = [] ∧ t.act.hslots = s.act.hslots + 1 ∧
    Frame [R.HELG_TRUNC] [P.HELG] [.now, .hel, .act, .out, .hlk] s t) ∧
  (∀ s n offs j, s.holdRuns = false → s.hel.holdSlot = some j → Answers (.holdCycle n offs) s fun t =>
    t.hel = { s.hel with holdSlot := none, lrow := none, cols := [] } ∧ Frame [] [] [.now, .hel] s t) ∧
  (∀ s n offs j, s.holdRuns = true → s.hel.holdSlot = some j → max s.now n < s.holdSlotOver →
    Answers (.holdCycle n offs) s fun t => Frame [] [] [.now] s t) ∧
  (∀ s n offs, s.holdRuns = true → s.hel.holdSlot = none → s.hel.holding = true → max s.now n < s.nextCycle →
    Answers (.holdCycle n offs) s fun t => Frame [] [] [.now] s t)

/-- Housekeeping (R281, R283 to R289). The codes are operands (log entry 82). -/
def Obligations.Housekeeping : Prop :=
  (∀ s codes n i, s.entryOver n = true → entKind s.hka.entryW = 0 → entInput s.hka.entryW = i →
    8 ≤ i → i < 48 → codes.length = entConv s.hka.entryW → s.flag (R.HKA_RESi i) F.HKA_RESi.OPEN = false →
    s.hka.entry < s.fld R.HKA_CTL F.HKA_CTL.NENT → s.flag R.HKA_CTL F.HKA_CTL.RUN = true →
    Answers (.hkEntryDone ⟨codes⟩ n) s fun t =>
      t.fld (R.HKA_RESi i) F.HKA_RESi.VALUE = ofSigned 24 (hkMicro i (hkMean codes)) ∧
      t.flag (R.HKA_RESi i) F.HKA_RESi.STALE = false ∧
      t.flag (R.HKA_RESi i) F.HKA_RESi.OVR = codes.any hkOver ∧
      t.hka.entry = s.hka.entry + 1 ∧ t.hka.running = true ∧ t.hka.startAt = t.now ∧ t.hka.entryW = s.reg (R.HKA_SEQe (s.hka.entry + 1)) ∧
      Frame [R.HKA_RESi i] [] [.now, .hka] s t) ∧
  (∀ s codes n i, s.entryOver n = true → entKind s.hka.entryW = 3 → entInput s.hka.entryW = i →
    codes.length = entConv s.hka.entryW → max 1 (s.fld R.HKA_OW F.HKA_OW.OWTHR : Int) ≤ hkMean codes →
    s.hka.entry < s.fld R.HKA_CTL F.HKA_CTL.NENT → s.flag R.HKA_CTL F.HKA_CTL.RUN = true →
    Answers (.hkEntryDone ⟨codes⟩ n) s fun t =>
      t.flag (R.HKA_RESi i) F.HKA_RESi.OPEN = true ∧ bit (t.reg (openReg i)).toNat (i % 32) = true ∧
      t.fld (R.HKA_RESi i) F.HKA_RESi.VALUE = s.fld (R.HKA_RESi i) F.HKA_RESi.VALUE ∧
      t.raised P.HKA 8 = true ∧ t.isUnack 0x0C02 i = true ∧ t.hka.entry = s.hka.entry + 1 ∧
      Frame ([R.HKA_RESi i, R.HKA_OPEN0, R.HKA_OPEN1] ++ faultRegs) (P.HKA :: faultPages 0x0C02 i)
        (.now :: .hka :: faultParts) s t) ∧
  (∀ s w, s.accepts P.HKA = true → s.hka.cur = none → s.hka.takeAt = none → s.hka.queue = [] → s.urgentFrom = some s.now →
    Answers (.urgentRequest w false) s fun t =>
      t.hka = { s.hka with cur := some (s.writeAsk w), urgAt := s.now } ∧ Frame [] [] [.hka] s t) ∧
  (∀ s w u, s.accepts P.HKA = true → s.hka.cur = some u → s.hka.queue.length < 4 → Answers (.urgentRequest w false) s fun t =>
    t.hka = { s.hka with queue := s.hka.queue ++ [s.writeAsk w] } ∧
    bits t.hkaStat F.HKA_STAT.UQ.1 F.HKA_STAT.UQ.2 = s.hka.queue.length + 1 ∧ Frame [] [] [.hka] s t) ∧
  (∀ s w u, s.accepts P.HKA = true → s.hka.cur = some u → s.hka.queue.length = 4 → Answers (.urgentRequest w false) s fun t =>
    t.raised P.HKA 9 = true ∧ Frame [] [P.HKA] [.out, .hlk] s t) ∧
  (∀ s w u q l, s.hka.cur = some u → s.sameWrite u = false → s.hka.queue = q ++ l → q.length + l.length < 4 →
    (∀ x ∈ q, s.sameWrite x = false) → (∀ x ∈ l, s.sameWrite x = true) → Answers (.urgentRequest w true) s fun t =>
      t.hka = { s.hka with queue := q ++ [s.eventAsk] ++ l } ∧ Frame [] [] [.hka] s t) ∧
  (∀ s w u, s.hka.cur = some u → s.hka.queue.length = 4 → (∀ x ∈ s.hka.queue, s.sameWrite x = false) →
    Answers (.urgentRequest w true) s fun t =>
      t.raised P.HKA 9 = true ∧ t.flag (R.EVF_SUBt 17) F.EVF_SUBt.OVR = true ∧ t.raised P.EVF 9 = true ∧
      Frame [R.EVF_SUBt 17] [P.HKA, P.EVF] [.out, .hlk] s t) ∧
  (∀ s x n u, s.hka.cur = some u → s.urgentEnd ≤ max s.now n → u.dac = none → u.kind = 0 → 8 ≤ u.input → u.input < 48 → 9 ≤ s.col.dacStep →
    s.flag (R.HKA_RESi u.input) F.HKA_RESi.OPEN = false → Answers (.urgentDone ⟨[x]⟩ n) s fun t =>
      t.reg R.HKA_ULAST = BitVec.ofNat 32 (u.tag % 256 * 2 ^ 24 + u.input * 65536) ∧
      t.fld (R.HKA_RESi u.input) F.HKA_RESi.VALUE = ofSigned 24 (hkMicro u.input (hkMean [x])) ∧
      t.hka.cur = s.hka.queue.head? ∧ t.hka.queue = s.hka.queue.tail ∧ t.raised P.HKA 10 = true ∧ 75 ∈ t.flight ∧
      Frame [R.HKA_RESi u.input, R.HKA_ULAST] [P.HKA] [.now, .hka, .flight, .out, .hlk] s t) ∧
  (∀ s i n a, i < 64 → tabFind s.hka.lastAt i = some a → 10000000000 ≤ max s.now n - a → Answers (.hkStale i n) s fun t =>
    t.flag (R.HKA_RESi i) F.HKA_RESi.STALE = true ∧ Frame [R.HKA_RESi i] [] [.now] s t)

/-- Calibration triggers (R317 to R321, R325). -/
def Obligations.RunRequests : Prop :=
  (∀ s, s.accepts P.COL = true → s.col.run = 0 → s.col.req = 0 → s.flag R.COL_CTL F.COL_CTL.EN = true → s.sec.paused = false →
    Answers .colReqLamp s fun t => t.col.run = 1 ∧ t.col.req = 0 ∧ t.fld R.COL_STAT F.COL_STAT.RUN = 1 ∧
      bit (t.reg R.COL_REQ).toNat 0 = true ∧ Frame [R.COL_REQ, R.COL_STAT] [] [.col] s t) ∧
  (∀ s, s.accepts P.COL = true → s.col.run = 0 → s.col.req = 0 → s.flag R.COL_CTL F.COL_CTL.EN = true → s.sec.paused = false →
    s.fft.blend = false → s.fft.calBusy = false →
    Answers .colReqFlux s fun t => t.col.run = 2 ∧ t.fft.run = 3 ∧ t.fft.calBusy = true ∧ t.fft.copyBusy = true ∧
      t.fld R.COL_STAT F.COL_STAT.RUN = 2 ∧ bit (t.reg R.COL_REQ).toNat 1 = true ∧
      Frame [R.COL_REQ, R.COL_STAT, R.FFT_STAT, R.FFT_BLENDN] [] [.col, .fft] s t) ∧
  (∀ s c k, (c, k) ∈ [(Instr.colReqDark, 3), (.colReqWhite, 4)] → s.accepts P.COL = true → s.col.run = 0 → s.col.req = 0 →
    s.flag R.COL_CTL F.COL_CTL.EN = true → s.sec.paused = false → s.fft.blend = false → s.fft.calBusy = false →
    2 ≤ s.ssc.st → s.ssc.st ≠ 9 →
    Answers c s fun t => t.col.run = k ∧ t.fft.run = k - 2 ∧ t.fft.runLeft = 64 ∧ t.fft.calBusy = true ∧
      t.fld R.FFT_CALCFG F.FFT_CALCFG.NAVG = 6 ∧ t.fld R.COL_STAT F.COL_STAT.RUN = k ∧
      bit (t.reg R.COL_REQ).toNat (k - 1) = true ∧
      Frame [R.COL_REQ, R.COL_STAT, R.FFT_STAT, R.FFT_BLENDN, R.FFT_CALCFG] [] [.col, .fft] s t) ∧
  (∀ s c k, (c, k) ∈ runRequests → s.accepts P.COL = true → s.col.run ≠ 0 → s.col.run ≠ k → Answers c s fun t =>
    t.col = { s.col with req := s.col.req ||| 2 ^ (k - 1) } ∧ bit (t.reg R.COL_REQ).toNat (k - 1) = true ∧
    Frame [R.COL_REQ] [] [.col] s t) ∧
  (∀ s, s.accepts P.COL = true → Answers .colReqRotrst s fun t =>
    t.col = { s.col with back := s.col.back ||| s.col.stopped, stopped := 0, next := 0, started := false, dieTrig := false } ∧
    Frame [] [] [.col] s t) ∧
  (∀ s w, s.accepts P.COL = true → s.flag R.COL_CTL F.COL_CTL.EN = true → bit w.toNat 0 = false → s.col.run = 0 ∨ s.col.wrote = true →
    s.col.idle = none → Answers (.colDisable 0 w) s fun t => t.reg R.COL_CTL = w &&& 3#32 ∧ Frame [R.COL_CTL] [] [] s t) ∧
  (∀ s w, s.accepts P.COL = true → s.flag R.COL_CTL F.COL_CTL.EN = true → bit w.toNat 0 = false → s.col.run = 1 →
    s.col.wrote = false → (∀ w ∈ s.col.windows, w.2.ok = false) → s.col.idle = none → Answers (.colDisable 0 w) s fun t =>
      t.reg R.COL_CTL = w &&& 3#32 ∧ t.col.run = 0 ∧ bits (t.reg R.COL_RESULT).toNat 5 4 = 2 ∧
      bits (t.reg R.COL_RESULT).toNat 2 0 = 1 ∧ bit (t.reg R.COL_REQ).toNat 0 = false ∧ t.fft.calBusy = false ∧
      Frame [R.COL_CTL, R.COL_RESULT, R.COL_REQ, R.COL_STAT, R.FFT_STAT, R.FFT_BLENDN] [] [.col, .fft, .attn, .out, .hlk] s t) ∧
  (∀ s r w, r ≠ 0 → s.accepts P.COL = true → Answers (.colDisable r w) s fun t =>
    t.reg R.COL_PERM = w &&& 127#32 ∧ Frame [R.COL_PERM] [] [] s t) ∧
  (∀ s n, s.flag R.COL_TRIG F.COL_TRIG.PEN = true → s.col.run ≠ 0 → s.col.run ≠ 1 →
    max 1 (s.fld R.COL_TRIG F.COL_TRIG.PERIOD) * 60000000000000 ≤ max s.now n - s.col.lampAt →
    Answers (.calPeriodExpiry n) s fun t => t.col = { s.col with req := s.col.req ||| 1 } ∧ Frame [] [] [.now, .col] s t) ∧
  (∀ s n, s.fld R.COL_FLAT F.COL_FLAT.WPERIOD ≠ 0 →
    s.fld R.COL_FLAT F.COL_FLAT.WPERIOD * 3600000000000000 ≤ max s.now n - s.col.whiteAt →
    Answers (.whitePeriodExpiry n) s fun t => bit (t.fld R.COL_STAT F.COL_STAT.NEED) 0 = true ∧ t.raised P.COL 10 = true ∧
      bit t.attnL 5 = true ∧ Frame [R.COL_STAT] [P.COL] [.now, .attn, .out, .hlk] s t) ∧
  (∀ s w, s.accepts P.COL = true → Answers (.sigmaSelect w) s fun t =>
    (t.reg R.COL_SSEL).toNat = w.toNat % 1024 ∧ t.reg R.COL_SIGMA = BitVec.ofNat 32 (s.sigma (w.toNat % 1024)) ∧
    Frame [R.COL_SSEL, R.COL_SIGMA] [] [] s t)

/-- Lamp runs (R315, R316, R322). What a run keeps in corner cases is log entry 22. -/
def Obligations.LampRuns : Prop :=
  (∀ s n lamp w, s.sec.paused = false → s.col.run = 1 → s.litLamps = [lamp] → s.col.windows = [(lamp, w)] → winFull w = true → w.done = false →
    winAgree w s.ltol = false → w.tries < 3 → s.colRefuses = false → Answers (.lampRunDone n) s fun t =>
      t.col = { s.col with windows := [(lamp, { tries := w.tries + 1 })], retry := w.tries + 1 } ∧
      Frame [R.COL_STAT] [] [.now, .col] s t) ∧
  (∀ s n lamp w, s.sec.paused = false → s.col.run = 1 → s.litLamps = [lamp] → s.col.windows = [(lamp, w)] → winFull w = true → w.done = false →
    winAgree w s.ltol = false → w.tries = 3 → w.ok = false → s.colRefuses = false → s.col.req = 0 → s.col.need = [] →
    Answers (.lampRunDone n) s fun t =>
      t.col.run = 0 ∧ t.isUnack 0x0D01 lamp = true ∧ t.raised P.COL 9 = true ∧ bits (t.reg R.COL_RESULT).toNat 5 4 = 1 ∧
      (t.reg R.COL_REJCNT).toNat = min ((s.reg R.COL_REJCNT).toNat + 1) 0xFFFFFFFF ∧ t.col.lampAt = s.col.lampAt ∧
      bit (t.reg R.COL_REQ).toNat 0 = false) ∧
  (∀ s n lamp w, s.sec.paused = false → s.col.run = 1 → s.litLamps = [lamp] → s.col.windows = [(lamp, w)] → winFull w = true → w.done = false →
    winAgree w s.ltol = true → s.colRefuses = false → s.col.req = 0 → s.flag R.COL_PERM F.COL_PERM.FLAT = false →
    Answers (.lampRunDone n) s fun t =>
      t.col.run = 0 ∧ t.col.lampAt = max s.now n ∧ t.raised P.COL 8 = true ∧ bits (t.reg R.COL_RESULT).toNat 5 4 = 0 ∧
      bits (t.reg R.COL_RESULT).toNat 25 16 = lamp % 1024 ∧ t.reg R.COL_DTMAX = 0 ∧ bit (t.reg R.COL_REQ).toNat 0 = false ∧
      (s.flag R.COL_PERM F.COL_PERM.LCODE = false → t.chr = s.chr))

/-- Spare rotation and idle sweeps (R297 to R300, R323), and what waits for the services (R17, log entry 87). -/
def Obligations.Rotation : Prop :=
  (∀ s n c, s.rotOn = true → s.col.ch = none → s.acq.switchDue = true → s.mer.cycle = true → s.sec.paused = false →
    s.col.started = true → (s.upto n).stepDue = true →
    s.codeUnack 0x0D02 = false → c < 256 → s.col.next ≤ c → s.rotates c = true →
    (∀ d, d < c → s.col.next ≤ d → s.rotates d = false) → Answers (.rotationStepStart n) s fun t =>
      t.col.ch = some c ∧ t.col.phase = 1 ∧ t.col.next = c + 1 ∧ t.col.stepAt = some (max s.now n) ∧
      (t.spare (c / 16)).nextPos = 2 ∧ (t.spare (c / 16)).nextTgt = c % 16 ∧ t.fld R.COL_STAT F.COL_STAT.ROTCH = c ∧
      Frame [R.COL_STAT] [] [.now, .col, .acq] s t) ∧
  (∀ s n, s.sec.paused = true ∨ s.codeUnack 0x0D02 = true → Answers (.rotationStepStart n) s fun t =>
    Frame [] [] [.now] s t) ∧
  (∀ s n, s.mer.cycle = false → s.pwr.st = 1 → s.ssc.st = 0 → s.flag R.COL_CTL F.COL_CTL.EN = true → s.sec.paused = false →
    s.col.idle = none → s.col.dacStep < 9 → Answers (.idleSweep n) s fun t =>
      t.col.idle = some 0 ∧ (∀ k, k < 16 → t.flag (statOf k) F.ACQn_CHk_STAT.INCAL = true) ∧
      t.fld (R.SPR_SPg_STAT 0) F.SPR_SPg_STAT.POS = 1 ∧
      Frame (R.COL_STAT :: R.SPR_SPg_STAT 0 :: (List.range 16).map statOf) [] [.now, .col] s t) ∧
  (∀ s n g, s.sec.paused = false → s.ssc.st ≠ 0 → s.col.idle = some g → g < 16 → Answers (.idleSweep n) s fun t =>
    t.col.idle = none ∧ (∀ k, k < 16 → t.flag (statOf (16 * g + k)) F.ACQn_CHk_STAT.INCAL = false) ∧
    t.fld (R.SPR_SPg_STAT g) F.SPR_SPg_STAT.POS = (s.spare g).pos % 8 ∧
    Frame (R.COL_STAT :: R.SPR_SPg_STAT g :: (List.range 256).map statOf) [] [.now, .col] s t) ∧
  (∀ s n ack c d, (c, d) ∈ waitingWork ack n → s.sec.paused = true → Answers c s fun t =>
    t.sec = { s.sec with deferred := t.sec.deferred } ∧ d ∈ t.sec.deferred ∧ (∀ x, x ∈ s.sec.deferred → x ∈ t.sec.deferred) ∧
    Frame [] [] [.now, .sec] s t)

/-- The Almanac's clock plan (R326, R327). The size of a step is log entry 29. -/
def Obligations.Islands : Prop :=
  (∀ s l n, Answers (.slackMeasure l n) s fun t =>
    (∀ i, i < 114 → (t.island i).slack = min 1023 ((l[i]?).getD 0) ∧ (t.island i).khz = (s.island i).khz ∧
      (t.island i).hourMin = min (s.island i).hourMin (min 1023 ((l[i]?).getD 0)) ∧
      (t.reg (R.ALM_ISLi i)).toNat % 65536 = min 1023 ((l[i]?).getD 0)) ∧
    t.alm.good = (if (List.range 114).all (fun i => decide (s.fld R.ALM_MARG F.ALM_MARG.TARGET ≤ min 1023 ((l[i]?).getD 0)))
      then s.alm.good + 1 else 0) ∧
    Frame ((List.range 114).map R.ALM_ISLi) [] [.now, .alm] s t) ∧
  (∀ s n, s.sec.paused = false → s.flag R.ALM_CTL F.ALM_CTL.EN = true → s.flag R.ALM_CTL F.ALM_CTL.CLK = true →
    (List.range 114).any (fun i => s.lowIsland i && !s.atFloor i) = true → Answers (.clockStep n) s fun t =>
      (∀ i, i < 114 → t.islandKhz i = if s.lowIsland i && !s.atFloor i
        then max ((islandFreq i).2 * 1000) (s.islandKhz i - (islandFreq i).1 * 10) else s.islandKhz i) ∧
      (∀ i, i < 114 → (t.island i).slack = (s.island i).slack) ∧ t.raised P.ALM 9 = true ∧
      Frame ((List.range 114).map R.ALM_ISLi) [P.ALM] [.now, .alm, .out, .hlk] s t) ∧
  (∀ s n, s.sec.paused = false → s.flag R.ALM_CTL F.ALM_CTL.EN = true → s.flag R.ALM_CTL F.ALM_CTL.CLK = true →
    (List.range 114).any (fun i => s.lowIsland i && !s.atFloor i) = false → 60 ≤ s.alm.good →
    s.fld R.ALM_VNOW F.ALM_VNOW.VREQ = 750 → (List.range 114).any (fun i => (s.island i).khz != 0) = true →
    Answers (.clockStep n) s fun t =>
      (∀ i, i < 114 → t.islandKhz i = min ((islandFreq i).1 * 1000) (s.islandKhz i + (if (s.island i).khz = 0 then 0 else (islandFreq i).1 * 10))) ∧
      t.raised P.ALM 9 = true ∧ Frame ((List.range 114).map R.ALM_ISLi) [P.ALM] [.now, .alm, .out, .hlk] s t) ∧
  (∀ s n, s.sec.paused = false → s.flag R.ALM_CTL F.ALM_CTL.EN = false → Answers (.clockStep n) s fun t => Frame [] [] [.now] s t)

/-- Voltage planning and the regulator (R327 to R329, R562, R563). -/
def Obligations.Voltage : Prop :=
  (∀ s n, s.sec.paused = false → s.flag R.ALM_CTL F.ALM_CTL.EN = true → s.pwr.st ≠ 6 → s.flag R.ALM_CTL F.ALM_CTL.VOLT = true → s.alm.stopped = false →
    s.vreq < s.vmax → (List.range 114).any (fun i => s.lowIsland i && s.atFloor i) = true →
    Answers (.voltageStep true n) s fun t =>
      t.vreq = min s.vmax (s.vreq + s.vstep) ∧ t.alm = { s.alm with vcheck := true } ∧
      Msg.pmbus 0x21 (s.linear (min s.vmax (s.vreq + s.vstep))) ∈ t.out ∧ t.raised P.ALM 9 = true ∧
      Frame [R.ALM_VNOW] [P.ALM] [.now, .alm, .out, .hlk] s t) ∧
  (∀ s n, s.sec.paused = false → s.flag R.ALM_CTL F.ALM_CTL.EN = true → s.pwr.st ≠ 6 → s.flag R.ALM_CTL F.ALM_CTL.VOLT = true → s.alm.stopped = false →
    s.vreq < s.vmax → (List.range 114).any (fun i => s.lowIsland i && s.atFloor i) = true →
    Answers (.voltageStep false n) s fun t =>
      t.vreq = s.vreq ∧ t.alm = { s.alm with stopped := true } ∧ t.isUnack 0x0E02 0 = true ∧ t.raised P.ALM 11 = true) ∧
  (∀ s ack n i, s.sec.paused = false → s.flag R.ALM_CTL F.ALM_CTL.EN = true → s.pwr.st ≠ 6 → s.vmax ≤ s.vreq → i < 114 → s.lowIsland i = true →
    (∀ j, j < i → s.lowIsland j = false) → Answers (.voltageStep ack n) s fun t =>
      t.isUnack 0x0E01 i = true ∧ t.raised P.ALM 10 = true ∧
      Frame faultRegs (P.ALM :: faultPages 0x0E01 i) (.now :: faultParts) s t) ∧
  (∀ s x n, s.pwr.st ≠ 6 → x.ack = true → x.mode = none → x.status % 65536 < 2 → Answers (.pmbusPoll x n) s fun t =>
    (t.reg R.PWR_PMBSTAT).toNat = min 65535 (s.unlinear (x.vout % 65536)) * 65536 + x.status % 65536 ∧
    t.out = s.out ++ [.pmbus 0x79 0, .pmbus 0x8B 0] ∧ Frame [R.PWR_PMBSTAT] [] [.now, .out] s t) ∧
  (∀ s x n, s.pwr.st ≠ 6 → x.ack = false → Answers (.pmbusPoll x n) s fun t =>
    t.alm = { s.alm with stopped := true } ∧ t.isUnack 0x0E02 0 = true ∧ t.raised P.ALM 11 = true ∧
    t.reg R.PWR_PMBSTAT = s.reg R.PWR_PMBSTAT ∧
    Frame faultRegs (P.ALM :: faultPages 0x0E02 0) (.now :: .alm :: faultParts) s t) ∧
  (∀ s x n, s.alm.vcheck = true → s.pwr.st ≠ 6 → x.ack = true →
    ((min 65535 (s.unlinear (x.vout % 65536)) : Int) - s.vreq).natAbs ≤ 10 → Answers (.voutCheck x n) s fun t =>
      t.fld R.PWR_PMBSTAT F.PWR_PMBSTAT.VOUT = min 65535 (s.unlinear (x.vout % 65536)) ∧ t.alm = { s.alm with vcheck := false } ∧
      t.out = s.out ++ [.pmbus 0x8B 0] ∧ Frame [R.PWR_PMBSTAT] [] [.now, .alm, .out] s t) ∧
  (∀ s x n, s.alm.vcheck = true → s.pwr.st ≠ 6 → x.ack = true →
    10 < ((min 65535 (s.unlinear (x.vout % 65536)) : Int) - s.vreq).natAbs → Answers (.voutCheck x n) s fun t =>
      t.alm = { s.alm with vcheck := false, stopped := true } ∧ t.isUnack 0x0E02 0 = true ∧ t.raised P.ALM 11 = true)

/-- The Almanac's history (R331, R335, R538). -/
def Obligations.History : Prop :=
  (∀ s n, s.sec.paused = false → Answers (.marginProjection n) s fun t =>
    (∀ kind i, 1 ≤ kind → kind ≤ 4 → i < marginItems kind →
      tabGet [] t.alm.hist (kind * 4096 + i) = (s.hourly kind i :: tabGet [] s.alm.hist (kind * 4096 + i)).take 4320) ∧
    (t.reg R.ALM_HIST).toNat = min 4320 ((s.reg R.ALM_HIST).toNat + 1) ∧
    (∀ i, (t.island i).hourMin = (if (tabFind s.alm.islands i).isSome then (s.island i).slack else 1023)) ∧
    Frame ([R.ALM_CAT0, R.ALM_CAT1, R.ALM_HIST, R.ALM_REPORT] ++ faultRegs) (P.ALM :: faultPages 0x0E03 0) (.now :: .alm :: faultParts) s t) ∧
  (∀ s n, s.sec.load = none → s.sec.paused = false → Answers (.historySave n) s fun t =>
    t.alm = { s.alm with saved := s.alm.hist, half := 1 - s.alm.half, saveDue := false } ∧ Frame [] [] [.now, .alm] s t) ∧
  (∀ s n, s.sec.load ≠ none ∨ s.sec.paused = true → Answers (.historySave n) s fun t =>
    t.alm = { s.alm with saveDue := true } ∧ Frame [] [] [.now, .alm] s t)

/-- The Photometer (R338, R342 to R350). -/
def Obligations.WindowsAndStreaks : Prop :=
  (∀ s n line i, tabFind s.lines line = some i → i.phoDone = false → i.sent &&& i.owed ≠ i.owed → s.lineOut line = true →
    s.lines.any (fun l => l.1 < line && !l.2.phoDone && !l.2.preroll) = false → s.flag R.PHO_CTL F.PHO_CTL.EN = false →
    Answers (.lineComplete line n) s fun t =>
      tabFind t.lines line = some { i with phoDone := true } ∧ (∀ l, l ≠ line → tabFind t.lines l = tabFind s.lines l) ∧
      t.pho = { s.pho with snaps := tabErase s.pho.snaps line, moved := s.pho.moved.filter (fun x => line < x.1) } ∧ Frame [] [] [.now, .lines, .pho] s t) ∧
  (∀ s n line i w c r0 r, tabFind s.lines line = some i → i.phoDone = false → i.preroll = false → s.lineOut line = true →
    s.lines.any (fun l => l.1 < line && !l.2.phoDone && !l.2.preroll) = false → s.flag R.PHO_CTL F.PHO_CTL.EN = true →
    s.pfld line R.PHO_BANDCFG F.PHO_BANDCFG.SEN = 0 → tabGet [] s.pho.snaps line = [(w, c)] → s.pho.wins = [(w, r0)] → r0.cfg = c → r0.broken = false → w ∉ s.movedBy line →
    winLines c ≤ r0.lines + 1 → winBroken [(w, c)] w c = false → winRec c = false →
    r = ((s.plt.rel.filter (fun x => x.line == line)).filter (winTakes c)).foldl (fun r x => winSample r x.dn)
      { r0 with lines := r0.lines + 1, first := if r0.lines = 0 then line else r0.first, last := line } →
    Answers (.lineComplete line n) s fun t =>
      t.load (winAddr w + 0x10) 8 = r.first % 2 ^ 64 ∧ t.load (winAddr w + 0x18) 8 = r.n % 2 ^ 64 ∧
      t.load (winAddr w + 0x20) 4 = (if r.n = 0 then 0 else winMean r) % 2 ^ 32 ∧
      t.load (winAddr w + 0x28) 8 = (if r.n = 0 then 0 else winVar r) % 2 ^ 64 ∧
      t.load (winAddr w + 0x30) 4 = (s.load (winAddr w + 0x30) 4 + 1) % 2 ^ 32 ∧
      (∀ a, a < winAddr w + 0x10 ∨ winAddr w + 0x38 ≤ a → t.byte a = s.byte a) ∧
      (r.n ≠ 0 → winAlarm (winAlmCond c) (winThr c) (winMean r) r.mn r.mx (winVar r) = true →
        t.raised P.PHO 8 = true ∧ 64 + winAlmSel c ∈ t.flight) ∧
      tabFind t.pho.wins w = some { cfg := c } ∧
      Frame [R.PHO_ALMMAPi (w / 32), R.PHO_ALMCNT, R.PHO_RECQ, R.PHO_RECLOST] [P.PHO] [.now, .tables, .flight, .out, .lines, .plt, .pho, .hlk] s t) ∧
  (∀ s n, s.flag R.PHO_CTL F.PHO_CTL.EN = true → s.fld R.PHO_STRK F.PHO_STRK.SEN ≠ 0 → s.pho.scanning = false →
    max 1 (s.fld R.PHO_STRK F.PHO_STRK.PERIOD) ≤ s.pho.scanLines → Answers (.streakScanStart n) s fun t =>
      t.pho = { s.pho with scanning := true, scanFrom := s.lineNow, scanLines := 0, scanRead := [] } ∧ Frame [] [] [.now, .pho] s t) ∧
  (∀ s n, s.pho.scanning = true → s.fld R.PLTG_STREAK F.PLTG_STREAK.BEN = 0 → Answers (.streakScanDone n) s fun t =>
    t.pho = { s.pho with scanning := false } ∧ t.raised P.PHO 13 = true ∧ Frame [] [P.PHO] [.now, .pho, .out, .hlk] s t) ∧
  (∀ s n runs, s.pho.scanning = true → s.fld R.PHO_STRK F.PHO_STRK.SEN = 1 → bit (s.fld R.PLTG_STREAK F.PLTG_STREAK.BEN) 0 = true →
    s.flag R.PHO_STRKTHR F.PHO_STRKTHR.RECEN = false →
    runs = streakRuns ((devList (s.scanAcc 0)
      (min 32 (max 1 (s.fld R.PHO_STRK F.PHO_STRK.HALF)))).filter (fun x => devOver x.2 (s.fld R.PHO_STRKTHR F.PHO_STRKTHR.THR))) none →
    runs ≠ [] → Answers (.streakScanDone n) s fun t =>
      t.pho = { s.pho with scanning := false } ∧ t.raised P.PHO 13 = true ∧ t.raised P.PHO 9 = true ∧ 72 ∈ t.flight ∧
      (t.reg (R.PHO_STRKLASTs 0)).toNat / 65536 = min 65535 runs.length ∧
      Frame [R.PHO_STRKLASTs 0, R.PHO_STRKPIXs 0] [P.PHO] [.now, .free, .flight, .out, .pho, .hlk] s t)

/-- The move queue (R360, R361). -/
def Obligations.MoveQueue : Prop :=
  (∀ s x w, x < 4 → s.accepts (P.CDRx x) = true → s.pushRejected x = false → (s.axis x).queue.length < 8 →
    Answers (.movePush x w) s fun t =>
      t.axis x = { s.axis x with queue := (s.axis x).queue ++ [s.stagedMove x (w ||| 1#32)] } ∧
      (∀ y, y ≠ x → t.axis y = s.axis y) ∧ t.reg (R.CDRx_MCTL x) = (w ||| 1#32) &&& 0xFF1E#32 ∧
      Frame [R.CDRx_MCTL x] [] [.cdr] s t) ∧
  (∀ s x w, x < 4 → s.accepts (P.CDRx x) = true → s.pushRejected x = false → 8 ≤ (s.axis x).queue.length →
    Answers (.movePush x w) s fun t => t.raised (P.CDRx x) 12 = true ∧ Frame [R.CDRx_MCTL x] [P.CDRx x] [.out, .hlk] s t) ∧
  (∀ s x w, x < 4 → s.accepts (P.CDRx x) = true → s.pushRejected x = true → Answers (.movePush x w) s fun t =>
    t.raised (P.CDRx x) 13 = true ∧ Frame [R.CDRx_MCTL x] [P.CDRx x] [.out, .hlk] s t) ∧
  (∀ s x, x < 4 → s.accepts (P.CDRx x) = true → Answers (.queueFlush x) s fun t =>
    t.axis x = { s.axis x with queue := [] } ∧ (∀ y, y ≠ x → t.axis y = s.axis y) ∧ Frame [] [] [.cdr] s t)

/-- Motion (R359, R362, R368, R374). The path between end points is log entry 42, SCALE log entry 36. -/
def Obligations.Motion : Prop :=
  (∀ s x n p d, x < 4 → s.cdr.groups = [] → s.cdr.gstop = 0 → (s.axis x).plan = some p → (s.axis x).cur.isSome = true →
    (s.axis x).waking = false → d = secs (max s.now n) - p.t0 →
    p.tgt = none ∨ (s.axis x).decided = true ∨ (s.axis x).st = 3 ∨ d < p.decideAt → p.scan = true ∨ d < p.time →
    (∀ y, y < 4 → y ≠ x → (s.axis y).plan = none ∧ (s.axis y).st ≠ 3 ∧ (s.axis y).queue = []) → Answers (.profileTick n) s fun t =>
      (t.axis x).pos = holdPos (p.x0 + p.dir * (p.after d).1) ∧ (t.axis x).v = p.dir * (p.after d).2.1 ∧
      (t.axis x).plan = some p ∧ (t.axis x).cur = (s.axis x).cur ∧ (t.axis x).queue = (s.axis x).queue ∧
      (∀ y, y < 4 → y ≠ x → (t.axis y).pos = (s.axis y).pos) ∧
      Frame [] [P.CDRx 0, P.CDRx 1, P.CDRx 2, P.CDRx 3] [.now, .cdr, .mer, .ssc, .flight, .out, .hlk] s t) ∧
  (∀ s x n p m, x < 4 → s.cdr.groups = [] → s.cdr.gstop = 0 → (s.axis x).plan = some p → (s.axis x).cur = some m → m.own = false →
    m.home = false → (s.axis x).waking = false → (s.axis x).st = 2 → (s.axis x).decided = true → (s.axis x).joint = false →
    (s.axis x).queue = [] → p.scan = false → p.time ≤ secs (max s.now n) - p.t0 →
    (∀ y, y < 4 → y ≠ x → (s.axis y).plan = none ∧ (s.axis y).st ≠ 3 ∧ (s.axis y).queue = []) → Answers (.profileTick n) s fun t =>
      (t.axis x).pos = m.tgt * 2 ^ 32 ∧ (t.axis x).v = 0 ∧ (t.axis x).cur = none ∧ (t.axis x).st = 1 ∧ (t.axis x).tag = m.tag ∧
      t.raised (P.CDRx x) 8 = true ∧ 52 + x ∈ t.flight ∧
      Frame [] [P.CDRx 0, P.CDRx 1, P.CDRx 2, P.CDRx 3] [.now, .cdr, .mer, .ssc, .flight, .out, .hlk] s t) ∧
  (∀ s x n m, x < 4 → s.cdr.groups = [] → s.cdr.gstop = 0 → s.pend = [] → s.axisEn x = true → (s.axis x).queue = [m] →
    (s.axis x).plan = none → (s.axis x).cur = none → (s.axis x).st = 1 → m.home = false → m.group = false →
    (s.axis x).scale < 256 → m.tgt * 2 ^ 32 ≠ (s.axis x).pos →
    s.fld (R.CDRx_CUR x) F.CDRx_CUR.TWAKE ≠ 0 →
    (∀ y, y < 4 → y ≠ x → (s.axis y).plan = none ∧ (s.axis y).st ≠ 3 ∧ (s.axis y).queue = []) → Answers (.profileTick n) s fun t =>
      (t.axis x).cur = some m ∧ (t.axis x).queue = [] ∧ (t.axis x).st = 2 ∧ (t.axis x).waking = true ∧ (t.axis x).scale = 256 ∧
      (t.axis x).wakeAt = t.now + s.fld (R.CDRx_CUR x) F.CDRx_CUR.TWAKE * 100000000 ∧ (t.axis x).pos = (s.axis x).pos ∧
      Frame [] [P.CDRx 0, P.CDRx 1, P.CDRx 2, P.CDRx 3] [.now, .cdr, .mer, .ssc, .flight, .out, .hlk] s t) ∧
  (∀ s x n p, x < 4 → s.cdr.groups = [] → (s.axis x).waking = true → (s.axis x).wakeAt ≤ max s.now n → (s.axis x).plan = some p →
    Answers (.wakeDelayExpiry x n) s fun t =>
      t.axis x = { s.axis x with waking := false, plan := some { p with t0 := secs (max s.now n) } } ∧
      (∀ y, y ≠ x → t.axis y = s.axis y) ∧ Frame [] [] [.now, .cdr] s t) ∧
  (∀ s x n, x < 4 → (s.axis x).cur = none → (s.axis x).queue = [] → (s.axis x).st ≠ 3 → (s.axis x).fallAt = none →
    (s.axis x).scale = 256 → (s.axis x).restAt + s.holdDelay x ≤ max s.now n → Answers (.holdDelayExpiry x n) s fun t =>
      t.axis x = { s.axis x with fallAt := some (max s.now n) } ∧ (∀ y, y ≠ x → t.axis y = s.axis y) ∧
      Frame [] [] [.now, .cdr] s t)

/-- Stops, faults and homing (R366, R375, R379 to R384). A controlled stop at rest is log entry 39. -/
def Obligations.AxisStops : Prop :=
  (∀ s x, x < 4 → s.cdr.groups = [] → (s.axis x).cur = none → (s.axis x).st ≠ 3 → Answers (.controlledStop x) s fun t =>
    t.axis x = { s.axis x with queue := [] } ∧ (∀ y, y ≠ x → t.axis y = s.axis y) ∧ t.raised (P.CDRx x) 9 = true ∧
    Frame [] [P.CDRx x] [.cdr, .out, .hlk] s t) ∧
  (∀ s x p c, x < 4 → s.cdr.groups = [] → (s.axis x).plan = some p → (s.axis x).cur = some c → (s.axis x).st ≠ 3 →
    (s.axis x).waking = false → Answers (.controlledStop x) s fun t =>
      t.axis x = { s.axis x with queue := [], st := 3, joint := false, plan := some (planStop p (secs s.now - p.t0) c) } ∧
      (∀ y, y ≠ x → t.axis y = s.axis y) ∧ Frame [] [] [.cdr] s t) ∧
  (∀ s x, x < 4 → s.cdr.groups = [] → Answers (.immediateStop x) s fun t =>
    (t.axis x).st = 4 ∧ (t.axis x).cur = none ∧ (t.axis x).plan = none ∧ (t.axis x).queue = [] ∧ (t.axis x).v = 0 ∧
    (t.axis x).unt = true ∧ (t.axis x).pos = (s.axis x).pos ∧ (t.axis x).scale = 256 ∧ (∀ y, y ≠ x → t.axis y = s.axis y) ∧
    t.raised (P.CDRx x) 10 = true ∧ bit t.attnL 3 = true ∧ Frame [] [P.CDRx x] [.cdr, .ssc, .attn, .out, .hlk] s t) ∧
  (∀ s g, g < 4 → s.accepts P.CDRG = true → s.cdr.groups = [] → s.groupMembers g ≠ [] →
    (∀ x, x ∈ s.groupMembers g → (s.axis x).cur = none ∧ (s.axis x).st ≠ 3) → Answers (.groupCstop g) s fun t =>
      (∀ x, x ∈ s.groupMembers g → (t.axis x).queue = [] ∧ t.raised (P.CDRx x) 9 = true) ∧ t.raised P.CDRG 9 = true ∧
      (∀ y, y ∉ s.groupMembers g → t.axis y = s.axis y) ∧
      Frame [] [P.CDRG, P.CDRx 0, P.CDRx 1, P.CDRx 2, P.CDRx 3] [.cdr, .out, .hlk] s t) ∧
  (∀ s g, g < 4 → s.accepts P.CDRG = true → s.cdr.groups = [] → s.groupMembers g ≠ [] → Answers (.groupIstop g) s fun t =>
    (∀ x, x ∈ s.groupMembers g → (t.axis x).st = 4 ∧ (t.axis x).cur = none ∧ (t.axis x).queue = [] ∧ (t.axis x).unt = true ∧
      (t.axis x).pos = (s.axis x).pos ∧ t.raised (P.CDRx x) 10 = true) ∧ t.raised P.CDRG 9 = true ∧
    (∀ y, y ∉ s.groupMembers g → t.axis y = s.axis y) ∧
    Frame [] [P.CDRG, P.CDRx 0, P.CDRx 1, P.CDRx 2, P.CDRx 3] [.cdr, .ssc, .attn, .out, .hlk] s t) ∧
  (∀ s x b v n, x < 4 → s.cdr.groups = [] → 8 * max 1 (s.fld (R.CDRx_CFG x) F.CDRx_CFG.OCLIM) < v →
    ((s.axis x).chop b).stepAt + s.chopBlank x ≤ max s.now n → Answers (.overcurrent { x := x, b := b, v := v } n) s fun t =>
    (t.axis x).st = 4 ∧ (t.axis x).released = true ∧ (t.axis x).unt = true ∧ t.isUnack 0x1101 x = true ∧
    t.raised (P.CDRx x) 16 = true ∧ Frame faultRegs (P.CDRx x :: faultPages 0x1101 x) (.now :: faultParts) s t) ∧
  (∀ s x n a, x < 4 → s.cdr.groups = [] → (s.axis x).outSince = some a → a + s.stallTime x ≤ max s.now n →
    Answers (.stall x n) s fun t =>
      (t.axis x).st = 4 ∧ (t.axis x).unt = true ∧ t.isUnack 0x1102 x = true ∧ t.raised (P.CDRx x) 11 = true ∧ 56 + x ∈ t.flight ∧
      Frame faultRegs (P.CDRx x :: faultPages 0x1102 x) (.now :: faultParts) s t) ∧
  (∀ s x h n, x < 4 → s.cdr.groups = [] → (s.axis x).st = 5 → (s.axis x).cur.isSome = true → s.encEn x = true →
    s.fld (R.CDRx_HOME x) F.CDRx_HOME.SRC ≠ 1 → s.fld R.CDRG_ENCF F.CDRG_ENCF.FILT * 1000 ≤ h →
    Answers (.homeEvent { src := x, held := h } n) s fun t =>
      (t.axis x).pos = s.zpos x * 2 ^ 32 ∧ (t.axis x).unt = false ∧ (t.axis x).st = 3 ∧ t.epos x = s.zpos x ∧
      t.raised (P.CDRx x) 14 = true ∧ (∀ y, y ≠ x → t.axis y = s.axis y) ∧
      (s.scanAxis ≠ some x → t.ssc = s.ssc) ∧ Frame [] [P.CDRx x] [.now, .free, .cdr, .ssc, .out, .hlk] s t)

/-- Coil current and encoders (R370 to R372, R376 to R378). Sensed voltages are operands (log entry 82), A leading B
counts up (log entry 39). -/
def Obligations.CoilsAndEncoders : Prop :=
  (∀ s x b v mean n c, x < 4 → (s.axis x).chop b = c → c.drv = 2 → c.stepAt + s.chopBlank x ≤ max s.now n → s.aboveHigh x b v c = true →
    Answers (.chopperSwitch x b v mean n) s fun t =>
      (t.axis x).chop b = { c with drv := if s.fld (R.CDRx_CHOP x) F.CDRx_CHOP.DECAY = 0 then 5 else 3, offAt := max s.now n,
                                   stepAt := max s.now n, done := false } ∧
      (t.axis x).chop (!b) = (s.axis x).chop (!b) ∧ (∀ y, y ≠ x → t.axis y = s.axis y) ∧ Frame [] [] [.now, .cdr] s t) ∧
  (∀ s x b v mean n c, x < 4 → (s.axis x).chop b = c → c.drv = 6 → c.stepAt + 100000 ≤ max s.now n →
    Answers (.chopperOffTimeEnd x b v mean n) s fun t =>
      (t.axis x).chop b = { c with drv := 2, stepAt := max s.now n, cycAt := max s.now n, vtAt := max s.now n, vtSum := 0 } ∧ (t.axis x).chop (!b) = (s.axis x).chop (!b) ∧
      (∀ y, y ≠ x → t.axis y = s.axis y) ∧ Frame [] [] [.now, .cdr] s t) ∧
  (∀ s x b v mean n c, x < 4 → (s.axis x).chop b = c → c.drv = 5 → c.offAt + s.chopToff x ≤ max s.now n →
    s.belowLow x b v c = false ∨ max s.now n < c.stepAt + s.chopBlank x →
    Answers (.chopperOffTimeEnd x b v mean n) s fun t =>
      (t.axis x).chop b = { c with done := true } ∧ (t.axis x).chop (!b) = (s.axis x).chop (!b) ∧
      (∀ y, y ≠ x → t.axis y = s.axis y) ∧ Frame [] [] [.now, .cdr] s t) ∧
  (∀ s x a b h n d, x < 4 → s.fld R.CDRG_ENCF F.CDRG_ENCF.FILT * 1000 ≤ h → quad (s.axis x).encA (s.axis x).encB a b = some d → s.flag (R.CDRx_GRID x) F.CDRx_GRID.SRC = false →
    Answers (.encoderEdge { src := x, held := h } a b n) s fun t =>
      t.axis x = { s.axis x with encA := a, encB := b,
                                 count := pos48 ((s.axis x).count + (if s.flag (R.CDRx_CFG x) F.CDRx_CFG.ENCDIR then -d else d)) } ∧
      (∀ y, y ≠ x → t.axis y = s.axis y) ∧ Frame [] [] [.now, .cdr] s t) ∧
  (∀ s a b h n d, s.fld R.CDRG_ENCF F.CDRG_ENCF.FILT * 1000 ≤ h → quad s.cdr.fA s.cdr.fB a b = some d → s.flag R.CDRG_FCFG F.CDRG_FCFG.EN = true → s.mer.fgridOn = false →
    Answers (.encoderEdge { src := 4, held := h } a b n) s fun t =>
      t.cdr = { s.cdr with fA := a, fB := b, fcount := pos48 (s.cdr.fcount + (if s.flag R.CDRG_FCFG F.CDRG_FCFG.FDIR then -d else d)) } ∧
      Frame [] [] [.now, .cdr] s t) ∧
  (∀ s x a b h n, x < 4 → s.fld R.CDRG_ENCF F.CDRG_ENCF.FILT * 1000 ≤ h → quad (s.axis x).encA (s.axis x).encB a b = none →
    s.fld R.CDRG_ENCF F.CDRG_ENCF.BADLIM ≠ 0 → (s.axis x).badSec ≠ max s.now n / 10 ^ 12 →
    Answers (.encoderEdge { src := x, held := h } a b n) s fun t =>
      (t.reg (R.CDRx_ENCBAD x)).toNat = min ((s.reg (R.CDRx_ENCBAD x)).toNat + 1) 0xFFFFFFFF ∧
      (t.axis x).count = (s.axis x).count ∧ (∀ y, y ≠ x → t.axis y = s.axis y) ∧ Frame [R.CDRx_ENCBAD x] [] [.now, .cdr] s t)

/-- Job commands (R391, R395 to R397, R416). Their order within one write is log entry 51. -/
def Obligations.JobCommands : Prop :=
  (∀ s, s.accepts P.SSC = true → s.ssc.st = 0 → Answers .sscArm s fun t =>
    t.ssc = { s.ssc with st := 1 } ∧ Frame [] [] [.ssc] s t) ∧
  (∀ s c, c = Instr.sscArm ∧ s.ssc.st ≠ 0 ∨ c = .sscStart ∧ s.ssc.st ≠ 2 ∨ c = .sscEnd ∧ (s.ssc.st < 2 ∨ s.ssc.st = 9) ∨
      c = .sscResume ∧ s.ssc.st ≠ 8 → s.accepts P.SSC = true → Answers c s fun t =>
    t.raised P.SSC 15 = true ∧ Frame [] [P.SSC] [.out, .hlk] s t) ∧
  (∀ s, s.accepts P.SSC = true → s.ssc.st = 2 → s.jobMode = 3 → Answers .sscStart s fun t =>
    t.ssc.st = 3 ∧ t.ssc.assigned = 0 ∧ t.ssc.job = { first := s.chr.line + 1 } ∧ t.mer.cycle = true ∧ t.mer.latch = none ∧
    t.reg64 R.SSC_LOST = 0 ∧ t.plt = { s.plt with level := [] } ∧
    Frame [R.SSC_LOST, R.SSC_LOST + 4] [] [.ssc, .mer, .plt] s t) ∧
  (∀ s, s.accepts P.SSC = true → s.ssc.st = 2 → s.jobMode = 2 → s.fld R.SSC_NLINES F.SSC_NLINES.N = 0 → Answers .sscStart s fun t =>
    t.ssc.st = 3 ∧ t.ssc.assigned = 1 ∧ t.mer.cycle = true ∧ t.mer.timerOn = true ∧ t.mer.timerAt = s.now + s.pclkPs 4 ∧
    t.chr.line = (s.chr.line + 1) % 2 ^ 64 ∧ (∃ tr, t.mer.latch = some tr ∧ tr.line = t.chr.line ∧ tr.timer = true) ∧
    t.plt = { s.plt with level := [] } ∧ Frame [R.SSC_LOST, R.SSC_LOST + 4] [] [.ssc, .mer, .chr, .plt] s t) ∧
  (∀ s, s.accepts P.SSC = true → s.ssc.st = 3 → Answers .sscEnd s fun t =>
    t.ssc = { s.ssc with ending := true } ∧ Frame [] [] [.ssc] s t) ∧
  (∀ s, s.accepts P.SSC = true → 4 ≤ s.ssc.st → s.ssc.st ≤ 8 → s.jobMode ≠ 0 → Answers .sscEnd s fun t =>
    t.ssc.st = 9 ∧ t.mer = { s.mer with timerOn := false, fgridOn := false } ∧ Frame [] [] [.ssc, .mer] s t) ∧
  (∀ s, s.accepts P.SSC = true → s.ssc.st = 1 → Answers .sscAbort s fun t =>
    t.ssc = { s.ssc with st := 0 } ∧ t.raised P.SSC 14 = true ∧ Frame [] [P.SSC] [.ssc, .out, .hlk] s t) ∧
  (∀ s, s.accepts P.SSC = true → 2 ≤ s.ssc.st → Answers .sscAbort s fun t =>
    t.ssc.st = 0 ∧ t.mer.cycle = false ∧ t.mer.phase = .idle ∧ t.mer.latch = none ∧ t.mer.transit = [] ∧ t.lines = [] ∧
    t.est.recs = [] ∧ t.est.fill = 0 ∧ t.plt.held = [] ∧ t.raised P.SSC 14 = true ∧ t.pending = s.pending ∧
    (∀ x, x ∈ [Piece.straps, .sec, .dma, .evf] → SamePart x s t)) ∧
  (∀ s, s.ssc.st = 0 → exec .sscAbort s = .next s) ∧
  (∀ s, s.accepts P.SSC = true → s.ssc.st = 8 → s.ssc.pausers.any (fun p => s.isUnack p.1 p.2) = false → s.jobMode ≠ 0 →
    Answers .sscResume s fun t => t.ssc = { s.ssc with pausers := [], pauseF := false, st := 3 } ∧ Frame [] [] [.ssc] s t) ∧
  (∀ s, s.accepts P.SSC = true → s.ssc.st = 8 → s.ssc.pausers.any (fun p => s.isUnack p.1 p.2) = false → s.jobMode = 0 →
    s.ssc.istopped = false → Answers .sscResume s fun t =>
      t.ssc = { s.ssc with pausers := [], pauseF := false, st := 6, flowFrom := s.now } ∧ Frame [] [] [.ssc] s t) ∧
  (∀ s, s.accepts P.SSC = true → s.ssc.st = 8 → s.ssc.pausers.any (fun p => s.isUnack p.1 p.2) = true →
    Answers .sscResume s fun t => t.raised P.SSC 15 = true ∧ Frame [] [P.SSC] [.out, .hlk] s t)

/-- Admission (R31, R392 to R394, R564). -/
def Obligations.AdmissionVerdict : Prop :=
  (∀ s n, s.ssc.st = 1 → s.sec.paused = false → (s.upto n).admCopy.admReason ≠ 0 → Answers (.admission n) s fun t =>
    t.ssc = { s.ssc with st := 0, jHold := t.ssc.jHold } ∧
    (∀ e, e ∈ t.pend → bndOf e.1 = some .j → e.1 ∈ t.ssc.jHold) ∧ t.raised P.SSC 9 = true ∧
    t.fld R.SSC_STAT F.SSC_STAT.REASON = (s.upto n).admCopy.admReason ∧
    (t.reg R.SSC_ADMFAIL).toNat = (s.upto n).admCopy.admMask ∧ t.pending = s.pending ∧
    ∀ x, x ∉ [Piece.now, .free, .waiting, .acq, .fft, .cdr, .ssc, .out, .hlk] → SamePart x s t) ∧
  (∀ s n, s.ssc.st = 1 → s.sec.paused = false → (s.upto n).admCopy.admReason = 0 → Answers (.admission n) s fun t =>
    t.ssc.st = 2 ∧ t.ssc.job = {} ∧ t.pwr.st = 2 ∧ t.raised P.SSC 8 = true ∧
    t.fld R.SSC_STAT F.SSC_STAT.REASON = 0 ∧ (t.reg R.SSC_ADMFAIL).toNat = (s.upto n).admCopy.admMask ∧ t.pending = s.pending ∧
    ∀ x, x ∈ [Piece.straps, .sec, .dma, .est, .tables, .evf] → SamePart x s t) ∧
  (∀ s n, s.ssc.st ≠ 1 ∨ s.sec.paused = true → Answers (.admission n) s fun t => Frame [] [] [.now] s t)

/-- Seamless scanning (R391, R405 to R412). Immediate stops in Tracking are log entry 49. -/
def Obligations.TrackingJob : Prop :=
  (∀ s n x g, s.ssc.st = 4 → s.scanRest = true → s.captureOver = true → s.mer.transit = [] → s.ssc.istopDue = false →
    s.scanAxis = some x → s.ssc.grid = some g → s.pend = [] → Answers (.jobStopped n) s fun t =>
      t.ssc.st = 5 ∧ t.ssc.lastKept = s.keptNum ∧ t.reg64 R.SSC_LASTKEPT = s.keptNum % 2 ^ 64 ∧
      t.reg R.SSC_BACKUP = BitVec.ofNat 32 (s.backLines x) ∧ (s.hel.st = .scan → t.hel.st = .hold) ∧
      (s.scanMoves = true → (t.axis x).cur.isSome = true) ∧ (∀ y, y ≠ x → t.axis y = s.axis y) ∧
      Frame [R.SSC_LASTKEPT, R.SSC_LASTKEPT + 4, R.SSC_BACKUP] [] [.now, .free, .ssc, .hel, .cdr] s t) ∧
  (∀ s n, s.ssc.istopDue = true → 3 ≤ s.ssc.st → s.ssc.st ≤ 7 → s.captureOver = true → s.mer.transit = [] →
    Answers (.trackingPause n) s fun t =>
      t.ssc.st = 8 ∧ t.ssc.istopDue = false ∧ t.ssc.istopped = true ∧ t.ssc.lastKept = s.keptNum ∧
      t.reg64 R.SSC_LASTKEPT = s.keptNum % 2 ^ 64 ∧ (s.hel.st = .scan → t.hel.st = .hold) ∧
      Frame [R.SSC_LASTKEPT, R.SSC_LASTKEPT + 4] [] [.now, .ssc, .hel] s t) ∧
  (∀ s n, s.ssc.st = 5 → s.scanRest = true → s.ssc.istopDue = false → s.ssc.pauseDue = false → Answers (.backupDone n) s fun t =>
    t.ssc = { s.ssc with st := 6, flowFrom := max s.now n } ∧ Frame [] [] [.now, .ssc] s t) ∧
  (∀ s n, s.ssc.st = 5 → s.scanRest = true → s.ssc.istopDue = false → s.ssc.pauseDue = true → Answers (.backupDone n) s fun t =>
    t.ssc = { s.ssc with st := 8, pauseDue := false, istopped := false } ∧ Frame [] [] [.now, .ssc] s t) ∧
  (∀ s n x, s.ssc.st = 6 → s.ssc.istopDue = false → blocksOf s.est.fill ≤ s.estLwm → s.hostFlows = true →
    s.ssc.flowFrom + max 1 (s.fld R.SSC_TSET F.SSC_TSET.FLOWT) * 1000000 ≤ max s.now n → s.scanRest = true →
    s.scanAxis = some x → (s.axis x).unt = s.ssc.stopUnt → s.pend = [] → Answers (.restartBegin n) s fun t =>
      t.ssc.st = 7 ∧ t.ssc.preArm = true ∧ t.ssc.istopped = false ∧ t.reg R.SSC_PRECNT = 0 ∧
      (s.scanMoves = true → (t.axis x).cur = some (s.scanMove 0)) ∧ (∀ y, y ≠ x → t.axis y = s.axis y) ∧
      Frame [R.SSC_PRECNT] [] [.now, .ssc, .cdr] s t) ∧
  (∀ s n, s.ssc.st = 9 → s.captureOver = true → s.lines = [] → s.allLeft = true → s.scanRest = true →
    Answers (.jobIdle n) s fun t =>
      t.ssc.st = 0 ∧ t.ssc.job = {} ∧ t.mer.cycle = false ∧ t.mer.timerOn = false ∧ t.raised P.SSC 14 = true ∧
      (t.pwr.st = if s.pwr.st = 2 then 1 else s.pwr.st) ∧ t.reg R.HELG_DIAGM = 0 ∧ (s.hel.st = .scan → t.hel.st = .hold) ∧
      t.pending = s.pending ∧ ∀ x, x ∈ [Piece.straps, .sec, .dma, .cdr, .chr, .evf] → SamePart x s t)

/-- Descriptor chains and completion queues (R67, R430 to R432, R446 to R450). The last clause is R450 whole. SEQ
counts from 0 (log entry 33). -/
def Obligations.Descriptors : Prop :=
  (∀ s ch b n a l i d, ch < 64 → (s.chan ch).rd = some (a, l, i) → (s.chan ch).st = 2 → b.length = 32 → d = descOf a b →
    d.valid = false → Answers (.descriptorFetch ch b n) s fun t =>
      (t.chan ch).st = 4 ∧ (t.chan ch).rd = none ∧ (t.chan ch).pollAt = t.now ∧ t.raised (P.DMAch ch) 10 = true ∧
      (∀ c, c ≠ ch → t.chan c = s.chan c) ∧ Frame [] [P.DMAch ch] [.now, .dma, .ssc, .out, .hlk] s t) ∧
  (∀ s ch b n a l i d, ch < 64 → (s.chan ch).rd = some (a, l, i) → (s.chan ch).st = 2 → b.length = 32 → d = descOf a b →
    d.valid = true → d.zero = false → d.typ = 2 ∨ (d.typ = 0 ∧ s.ringOf ch d = none ∧ (s.chan ch).q ≠ []) →
    Answers (.descriptorFetch ch b n) s fun t =>
      (t.chan ch).st = 3 ∧ (t.chan ch).desc = some d ∧ (t.chan ch).rd = none ∧ (t.chan ch).moved = 0 ∧ (t.chan ch).recs = 0 ∧
      (t.chan ch).q = (s.chan ch).q ∧ t.reg64 (R.DMAch_CUR ch) = d.addr % 2 ^ 64 ∧ t.nextAddr ch = d.next % 2 ^ 64 ∧
      t.fld (R.DMAch_STAT ch) F.DMAch_STAT.IDLECNT = 0 ∧ (∀ c, c ≠ ch → t.chan c = s.chan c) ∧
      Frame [R.DMAch_CUR ch, R.DMAch_CUR ch + 4, R.DMAch_NEXT ch, R.DMAch_NEXT ch + 4, R.DMAch_STAT ch] [] [.now, .dma] s t) ∧
  (∀ s ch n d, ch < 64 → (s.chan ch).st = 3 → (s.chan ch).complete = true → (s.chan ch).desc = some d → d.evt = true →
    d.cqe = false → (s.chan ch).cqWait = none → s.nextAddr ch = 0 → Answers (.descriptorDone ch n) s fun t =>
      t.chan ch = { s.chan ch with st := 1, desc := none } ∧ t.reg (R.DMAch_NDESC ch) = s.reg (R.DMAch_NDESC ch) + 1 ∧
      88 + ch ∈ t.flight ∧ t.raised (P.DMAch ch) 8 = true ∧ (∀ c, c ≠ ch → t.chan c = s.chan c) ∧
      Frame [R.DMAch_NDESC ch] [P.DMAch ch] [.now, .dma, .flight, .out, .hlk] s t) ∧
  (∀ s ch n d, ch < 64 → (s.chan ch).st = 3 → (s.chan ch).complete = true → (s.chan ch).desc = some d → d.evt = false →
    d.cqe = true → (s.chan ch).cqWait = none → s.nextAddr ch = 0 → s.flag (R.DMAG_CQq_CFG d.cq) F.DMAG_CQq_CFG.EN = true →
    s.flag (R.DMAG_CQq_CFG d.cq) F.DMAG_CQq_CFG.IEN = false → s.cqFull d.cq = false →
    bit s.dma.cqOdd d.cq = false → Answers (.descriptorDone ch n) s fun t =>
      (t.chan ch).st = 1 ∧ (t.chan ch).cqWait = none ∧
      (∃ body, body.length = 28 ∧ Msg.memWrite ch (s.reg64 (R.DMAG_CQq_BASE d.cq) / (s.cqSize d.cq * 32) * (s.cqSize d.cq * 32) +
        (s.cq d.cq).1 * 32) (body ++ leBytes 4 ((s.cq d.cq).2.1.toNat * 2 ^ 31 + (s.cq d.cq).2.2)) ∈ t.out) ∧
      t.cq d.cq = (((s.cq d.cq).1 + 1) % s.cqSize d.cq,
        (if ((s.cq d.cq).1 + 1) % s.cqSize d.cq = 0 then !(s.cq d.cq).2.1 else (s.cq d.cq).2.1), ((s.cq d.cq).2.2 + 1) % 2 ^ 31) ∧
      Frame [R.DMAch_NDESC ch, R.DMAG_CQq_WI d.cq] [P.DMAch ch] [.now, .dma, .out, .hlk] s t) ∧
  (∀ s ch n d, ch < 64 → (s.chan ch).st = 3 → (s.chan ch).complete = true → (s.chan ch).desc = some d → d.cqe = true →
    s.flag (R.DMAG_CQq_CFG d.cq) F.DMAG_CQq_CFG.EN = true → s.cqFull d.cq = true → Answers (.descriptorDone ch n) s fun t =>
      (t.chan ch).st = 6 ∧ (t.chan ch).cqWait.isSome = true ∧ t.raised P.DMAG 9 = true ∧ t.raised (P.DMAch ch) 10 = true ∧
      (t.reg (R.DMAG_CQq_FULLCNT d.cq)).toNat = min ((s.reg (R.DMAG_CQq_FULLCNT d.cq)).toNat + 1) 0xFFFFFFFF ∧
      Frame [R.DMAch_NDESC ch, R.DMAG_CQq_FULLCNT d.cq] [P.DMAch ch, P.DMAG] [.now, .dma, .flight, .ssc, .out, .hlk] s t) ∧
  (∀ s q w, q < 8 → s.accepts P.DMAG = true → (∀ ch, ch < 64 → (s.chan ch).cqWait = none) → Answers (.cqRiWrite q w) s fun t =>
    t.reg (R.DMAG_CQq_RI q) = w &&& 0xFFFF ∧ Frame [R.DMAG_CQq_RI q] [] [] s t) ∧
  (∀ s q w ch b, q < 8 → ch < 64 → s.accepts P.DMAG = true → (s.chan ch).cqWait = some (q, b) → b.length = 28 → (s.chan ch).st = 6 →
    (∀ c, c < 64 → c ≠ ch → (s.chan c).cqWait = none) → ((s.cq q).1 + 1) % s.cqSize q ≠ w.toNat % 65536 → s.nextAddr ch = 0 →
    s.flag (R.DMAG_CQq_CFG q) F.DMAG_CQq_CFG.IEN = false → bit s.dma.cqOdd q = false → Answers (.cqRiWrite q w) s fun t =>
      (t.chan ch).st = 1 ∧ (t.chan ch).cqWait = none ∧
      t.out = s.out ++ [.memWrite ch (s.reg64 (R.DMAG_CQq_BASE q) / (s.cqSize q * 32) * (s.cqSize q * 32) + (s.cq q).1 * 32)
        (b.take 20 ++ BitVec.ofNat 8 s.attn :: b.drop 21 ++ leBytes 4 ((s.cq q).2.1.toNat * 2 ^ 31 + (s.cq q).2.2))] ∧
      (t.cq q).1 = ((s.cq q).1 + 1) % s.cqSize q ∧
      Frame [R.DMAG_CQq_RI q, R.DMAG_CQq_WI q] [] [.dma, .ssc, .out] s t) ∧
  (∀ s ch n d, ch < 64 → (s.chan ch).st = 3 → (s.chan ch).complete = true → (s.chan ch).desc = some d → d.cqe = true →
    (s.chan ch).cqWait = none → s.flag (R.DMAG_CQq_CFG d.cq) F.DMAG_CQq_CFG.EN = false → s.pend = [] →
    Answers (.descriptorDone ch n) s fun t =>
      (t.chan ch).st = (if s.nextAddr ch = 0 then 1 else 2) ∧ (t.chan ch).cqWait = none ∧ t.cq d.cq = s.cq d.cq ∧
      (s.nextAddr ch ≠ 0 → Msg.memRead ch (s.nextAddr ch) 32 ∈ t.out) ∧
      (∀ c a b, Msg.memWrite c a b ∈ t.out → Msg.memWrite c a b ∈ s.out) ∧ t.raised P.DMAG 8 = true ∧
      Frame [R.DMAch_NDESC ch] [P.DMAch ch, P.DMAG] [.now, .dma, .flight, .ssc, .out, .hlk] s t)

/-- Transfers (R439 to R445, R452, R453, R466). One outstanding read per channel and credits per write are log entry
35. -/
def Obligations.Transfers : Prop :=
  (∀ s n, s.dma.tokAt + 1000000 ≤ max s.now n → (∀ ch, ch < 64 → (s.chan ch).desc = none) → Answers (.tokenRefill [] n) s fun t =>
    (∀ ch, ch < 64 → (t.chan ch).bucket = min ((s.chan ch).bucket + s.shareQ ch * s.capacity) (s.bucketCap ch) ∧
      (t.chan ch).st = (s.chan ch).st ∧ (t.chan ch).q = (s.chan ch).q) ∧
    t.dma.link = min (s.dma.link + (s.capacity : Int)) (s.capacity : Int) ∧ Frame [] [] [.now, .dma, .ssc] s t) ∧
  (∀ s n ch d w, ch < 64 → (s.chan ch).desc = some d → d.typ = 2 → d.swap = 0 → (s.chan ch).st = 3 → (s.chan ch).moved = 0 →
    (∀ i, i < d.len → (entryOf ((d.src + i) % 2 ^ 26)).all (fun e => !s.isBad e) = true) →
    (∀ c, c < 64 → c ≠ ch → (s.chan c).desc = none) → s.nextWrite ch = some w → w.2.2 = d.len → s.hlk.credits = none →
    0 < s.dma.link + (s.capacity : Int) → 0 < s.capacity → s.dma.tokAt + 1000000 ≤ max s.now n →
    d.len * 32768 ≤ min ((s.chan ch).bucket + s.shareQ ch * s.capacity) (s.bucketCap ch) → Answers (.tokenRefill [] n) s fun t =>
      t.out = s.out ++ [.memWrite ch w.1 ((List.range d.len).map (fun i => s.tabByteAt ((d.src + i) % 2 ^ 26)))] ∧
      (t.chan ch).moved = d.len ∧ t.reg64 (R.DMAch_BYTES ch) = (s.reg64 (R.DMAch_BYTES ch) + d.len) % 2 ^ 64 ∧
      (t.chan ch).bucket = min ((s.chan ch).bucket + s.shareQ ch * s.capacity) (s.bucketCap ch) - d.len * 32768 ∧
      Frame [R.DMAch_BYTES ch, R.DMAch_BYTES ch + 4] [] [.now, .dma, .ssc, .out, .hlk] s t) ∧
  (∀ s n k m, s.hlk.credits = some k → (∀ ch, ch < 64 → (s.chan ch).desc = none) → Answers (.postedWriteCredits m n) s fun t =>
    t.hlk = { s.hlk with credits := some (k + m) } ∧
    (0 < k + m → ∀ ch, ch < 64 → (t.chan ch).wcred = false) ∧ Frame [] [] [.now, .dma, .ssc, .hlk] s t) ∧
  (∀ s ch b n a l i d, ch < 64 → (s.chan ch).rd = some (a, l, i) → (s.chan ch).st = 3 → b.length = l →
    (s.chan ch).desc = some d → d.typ = 3 → d.len ≤ (s.chan ch).asked → Answers (.readCompletion ch true b n) s fun t =>
      t.chan ch = { s.chan ch with rd := none, buf := (s.chan ch).buf ++ b } ∧ (∀ c, c ≠ ch → t.chan c = s.chan c) ∧
      Frame [] [] [.now, .dma] s t) ∧
  (∀ s ch b n a l i, ch < 64 → (s.chan ch).rd = some (a, l, i) → (s.chan ch).tries < s.fld (R.DMAch_CFG ch) F.DMAch_CFG.RETRY →
    Answers (.readCompletion ch false b n) s fun t =>
      t.chan ch = { s.chan ch with rd := some (a, l, t.now), tries := (s.chan ch).tries + 1 } ∧
      t.out = s.out ++ [.memRead ch a l] ∧
      (t.reg (R.DMAch_RETRYCNT ch)).toNat = min ((s.reg (R.DMAch_RETRYCNT ch)).toNat + 1) 0xFFFFFFFF ∧
      Frame [R.DMAch_RETRYCNT ch] [] [.now, .dma, .out] s t) ∧
  (∀ s ch b n a l i, ch < 64 → (s.chan ch).rd = some (a, l, i) → (s.chan ch).desc = none →
    s.fld (R.DMAch_CFG ch) F.DMAch_CFG.RETRY ≤ (s.chan ch).tries → Answers (.readCompletion ch false b n) s fun t =>
      (t.chan ch).st = 7 ∧ (t.chan ch).rd = none ∧ t.fld (R.DMAch_STAT ch) F.DMAch_STAT.HSTAT = 2 ∧
      bit (t.reg (haltReg ch)).toNat (ch % 32) = true ∧ t.raised (P.DMAch ch) 9 = true ∧
      t.isUnack (if s.jobChannel ch then 0x1501 else 0x1502) ch = true ∧ t.reg64 (R.DMAch_NEXT ch) = a % 2 ^ 64 ∧
      Frame ([R.DMAch_NEXT ch, R.DMAch_NEXT ch + 4, R.DMAch_STAT ch, haltReg ch] ++ faultRegs)
        (P.DMAch ch :: faultPages (if s.jobChannel ch then 0x1501 else 0x1502) ch) (.now :: .dma :: faultParts) s t) ∧
  (∀ s ch n a l i, ch < 64 → (s.chan ch).rd = some (a, l, i) → i + s.cplTimeout ≤ max s.now n →
    (s.chan ch).tries < s.fld (R.DMAch_CFG ch) F.DMAch_CFG.RETRY → Answers (.readTimeout ch n) s fun t =>
      t.chan ch = { s.chan ch with rd := some (a, l, t.now), tries := (s.chan ch).tries + 1 } ∧
      Msg.memRead ch a l ∈ t.out ∧ t.raised P.HLK 10 = true ∧
      (t.reg (R.DMAch_RETRYCNT ch)).toNat = min ((s.reg (R.DMAch_RETRYCNT ch)).toNat + 1) 0xFFFFFFFF ∧
      Frame [R.DMAch_RETRYCNT ch, R.HLK_PCNT2] [P.HLK] [.now, .dma, .out, .hlk] s t)

/-- Channel control (R429, R431, R432, R436, R437, R454 to R456). -/
def Obligations.ChannelCommands : Prop :=
  (∀ s ch, ch < 64 → s.accepts (P.DMAch ch) = true → s.chr.safe = false → (s.chan ch).st = 4 → s.pend = [] →
    Answers (.dmaKick ch) s fun t =>
      (t.chan ch).st = 2 ∧ (t.chan ch).rd = some (s.nextAddr ch, 32, s.now) ∧ t.out = s.out ++ [.memRead ch (s.nextAddr ch) 32] ∧
      (∀ c, c ≠ ch → t.chan c = s.chan c) ∧ Frame [] [] [.dma, .ssc, .out] s t) ∧
  (∀ s ch, ch < 64 → s.accepts (P.DMAch ch) = true → s.chr.safe = false → (s.chan ch).st = 7 → s.nextAddr ch ≠ 0 → s.pend = [] →
    Answers (.dmaKick ch) s fun t =>
      (t.chan ch).st = 2 ∧ t.out = s.out ++ [.memRead ch (s.nextAddr ch) 32] ∧
      t.fld (R.DMAch_STAT ch) F.DMAch_STAT.HSTAT = 0 ∧ t.fld (R.DMAch_STAT ch) F.DMAch_STAT.IDLECNT = 0 ∧
      bit (t.reg (haltReg ch)).toNat (ch % 32) = false ∧ Frame [R.DMAch_STAT ch, haltReg ch] [] [.dma, .ssc, .out] s t) ∧
  (∀ s ch a, ch < 64 → s.accepts (P.DMAch ch) = true → (s.chan ch).st = 1 → 32 ≤ a → a < 2 ^ 64 → s.pend = [] →
    Answers (.dmaNextWrite ch a) s fun t =>
      (t.chan ch).st = 2 ∧ t.nextAddr ch = a / 32 * 32 ∧ t.out = s.out ++ [.memRead ch (a / 32 * 32) 32] ∧
      Frame [R.DMAch_NEXT ch, R.DMAch_NEXT ch + 4] [] [.dma, .ssc, .out] s t) ∧
  (∀ s ch a, ch < 64 → s.accepts (P.DMAch ch) = true → (s.chan ch).st = 2 ∨ (s.chan ch).st = 3 ∨ (s.chan ch).st = 6 →
    Answers (.dmaNextWrite ch a) s fun t => t.raised (P.DMAch ch) 11 = true ∧ Frame [] [P.DMAch ch] [.out, .hlk] s t) ∧
  (∀ s ch n, ch < 64 → (s.chan ch).st = 4 → s.fld (R.DMAch_CFG ch) F.DMAch_CFG.POLL ≠ 0 →
    (s.chan ch).pollAt + s.fld (R.DMAch_CFG ch) F.DMAch_CFG.POLL * 1000000 ≤ max s.now n → s.pend = [] →
    Answers (.dmaPoll ch n) s fun t =>
      (t.chan ch).st = 2 ∧ t.out = s.out ++ [.memRead ch (s.nextAddr ch) 32] ∧ Frame [] [] [.now, .dma, .ssc, .out] s t) ∧
  (∀ s ch w, ch < 64 → s.accepts (P.DMAch ch) = true → (s.chan ch).desc = none → Answers (.rrpWrite ch w) s fun t =>
    t.reg (R.DMAch_RRP ch) = w &&& 0x3FFFFFC0#32 ∧ (t.chan ch).rrpBad = ((s.chan ch).rrpBad || !s.rrpOk ch w.toNat) ∧
    (∀ c, c ≠ ch → t.chan c = s.chan c) ∧ (s.rrpOk ch w.toNat = true → t.dma = s.dma) ∧ Frame [R.DMAch_RRP ch] [] [.dma] s t) ∧
  (∀ s ch w d r l z, ch < 64 → s.accepts (P.DMAch ch) = true → (s.chan ch).st = 5 → (s.chan ch).desc = some d → d.typ = 0 →
    d.zero = false → (s.chan ch).q = r :: l → s.ringOf ch d = some z → (s.chan ch).rrpBad = false → s.rrpOk ch w.toNat = true →
    (r.bytes.length : Int) ≤ (((w &&& 0x3FFFFFC0#32).toNat : Int) - (s.rwp ch : Nat) - 64) % (z.2 : Nat) →
    Answers (.rrpWrite ch w) s fun t =>
      t.chan ch = { s.chan ch with st := 3 } ∧ t.reg (R.DMAch_RRP ch) = w &&& 0x3FFFFFC0#32 ∧
      Frame [R.DMAch_RRP ch] [] [.dma, .ssc] s t) ∧
  (∀ s ch n, ch < 64 → (s.upto n).accepts (P.DMAch ch) = true → Answers (.dmaDisable ch n) s fun t =>
    t.chan ch = { bucket := (s.chan ch).bucket, st := 0 } ∧ (∀ c, c ≠ ch → t.chan c = s.chan c) ∧
    t.hdr (P.DMAch ch) = { s.hdr (P.DMAch ch) with en := false } ∧
    t.fld (R.DMAch_STAT ch) F.DMAch_STAT.HSTAT = 0 ∧ bit (t.reg (haltReg ch)).toNat (ch % 32) = false ∧
    Frame [R.DMAch_NEXT ch, R.DMAch_NEXT ch + 4, R.DMAch_STAT ch, haltReg ch, R.DMAch_BYTES ch, R.DMAch_BYTES ch + 4,
      R.DMAch_NDESC ch, R.DMAch_RWP ch, R.DMAch_RRP ch, R.DMAch_CUR ch, R.DMAch_CUR ch + 4] [P.DMAch ch]
      [.now, .free, .dma, .ssc] s t) ∧
  (∀ s ch n, ch < 64 → (s.upto n).accepts (P.DMAch ch) = true → (s.chan ch).st = 0 → s.nextAddr ch = 0 →
    Answers (.dmaEnable ch n) s fun t =>
      t.chan ch = { s.chan ch with st := 1, ring := none, desc := none } ∧ t.hdr (P.DMAch ch) = { s.hdr (P.DMAch ch) with en := true } ∧
      t.reg64 (R.DMAch_BYTES ch) = 0 ∧ t.reg (R.DMAch_NDESC ch) = 0 ∧ t.reg (R.DMAch_RETRYCNT ch) = 0 ∧ t.reg (R.DMAch_SHORT ch) = 0 ∧
      Frame [R.DMAch_BYTES ch, R.DMAch_BYTES ch + 4, R.DMAch_NDESC ch, R.DMAch_RETRYCNT ch, R.DMAch_SHORT ch] [P.DMAch ch]
        [.now, .dma] s t)

/-- The PCIe link (R465, R470 to R473, R479). Hot reset in detail is log entry 67. -/
def Obligations.PcieLink : Prop :=
  (∀ s n, s.linkUp = true → Answers (.dlDown n) s fun t =>
    t.linkUp = false ∧ t.fld R.HLK_LINK F.HLK_LINK.SPEED = 0 ∧ t.fld R.HLK_LINK F.HLK_LINK.WIDTH = 0 ∧ t.hlk.st = 0 ∧
    (∀ ch, ch < 64 → (t.chan ch).st = 0 ∧ (t.hdr (P.DMAch ch)).en = false) ∧
    t.wlockOwn = (if s.wlockOwn = 1 then 0 else s.wlockOwn) ∧ t.isUnack 0x1601 0 = true ∧ t.raised P.HLK 9 = true ∧
    (∀ a, (∀ ch, ch < 64 → pageBase a ≠ P.DMAch ch) →
      a ∉ [R.HLK_LINK, R.HLK_WLOCK, R.DMAG_HALT0, R.DMAG_HALT1] ++ faultRegs → t.reg a = s.reg a) ∧
    t.pending = s.pending ∧ ∀ p, p ∉ Piece.now :: .free :: .dma :: faultParts → SamePart p s t) ∧
  (∀ s v w n, s.pcieOn = true → s.hlk.perst = true → s.linkUp = false → s.pwr.st ≠ 6 → v < 8 → w < 16 →
    Answers (.linkUp v w n) s fun t =>
      t.linkUp = true ∧ t.fld R.HLK_LINK F.HLK_LINK.SPEED = v ∧ t.fld R.HLK_LINK F.HLK_LINK.WIDTH = w ∧ t.hlk.st = 2 ∧
      t.raised P.HLK 8 = true ∧ Frame [R.HLK_LINK] [P.HLK] [.now, .out, .hlk] s t) ∧
  (∀ s n, s.linkUp = true → Answers (.linkRetrain (s.fld R.HLK_LINK F.HLK_LINK.SPEED) (s.fld R.HLK_LINK F.HLK_LINK.WIDTH) n) s fun t =>
    t.fld R.HLK_PCNT3 F.HLK_PCNT3.RECOV = min (s.fld R.HLK_PCNT3 F.HLK_PCNT3.RECOV + 1) 65535 ∧ t.raised P.HLK 10 = true ∧
    Frame [R.HLK_PCNT3] [P.HLK] [.now, .out, .hlk] s t) ∧
  (∀ s v w n, s.linkUp = true → v < 8 → w < 16 →
    v ≠ s.fld R.HLK_LINK F.HLK_LINK.SPEED ∨ w ≠ s.fld R.HLK_LINK F.HLK_LINK.WIDTH → Answers (.linkRetrain v w n) s fun t =>
      t.linkUp = true ∧ t.fld R.HLK_LINK F.HLK_LINK.SPEED = v ∧ t.fld R.HLK_LINK F.HLK_LINK.WIDTH = w ∧
      t.fld R.HLK_PCNT3 F.HLK_PCNT3.RECOV = min (s.fld R.HLK_PCNT3 F.HLK_PCNT3.RECOV + 1) 65535 ∧
      t.raised P.HLK 10 = true ∧ t.raised P.HLK 13 = true ∧ Frame [R.HLK_PCNT3, R.HLK_LINK] [P.HLK] [.now, .out, .hlk] s t) ∧
  (∀ s n, s.pcieOn = true → s.hlk.perst = true → Answers (.hotReset n) s fun t =>
    t.linkUp = false ∧ t.hlk = { perst := true, perstAt := s.hlk.perstAt, st := 1 } ∧
    (∀ ch, ch < 64 → (t.chan ch).st = 0) ∧ t.wlockOwn = (if s.wlockOwn = 1 then 0 else s.wlockOwn)) ∧
  (∀ s k a f p n, (k, a, f) ∈ [(0, R.HLK_PCNT0, F.HLK_PCNT0.MAL), (1, R.HLK_PCNT0, F.HLK_PCNT0.UR), (2, R.HLK_PCNT1, F.HLK_PCNT1.POIS),
      (3, R.HLK_PCNT2, F.HLK_PCNT2.UNX), (4, R.HLK_PCNT3, F.HLK_PCNT3.LCRC)] → s.linkUp = true →
    Answers (.pcieRxError k p n) s fun t =>
      t.fld a f = min (s.fld a f + 1) 65535 ∧ t.raised P.HLK 10 = true ∧
      (k = 1 → p = false → Msg.completionError 1 ∈ t.out) ∧ Frame [a] [P.HLK] [.now, .out, .hlk] s t) ∧
  (∀ s v, v < 64 → s.busDark = false → s.hlk.msixEn = true → s.hlk.funcMask = false → s.hlk.pba.getLsbD v = true →
    Answers (.msixUnmask v) s fun t =>
      t.vecMasked v = false ∧ t.hlk.pba.getLsbD v = false ∧ (∀ u, u ≠ v → t.hlk.pba.getLsbD u = s.hlk.pba.getLsbD u) ∧
      t.out = s.out ++ [.msix v] ∧ Frame [] [] [.out, .hlk] s t) ∧
  (∀ s l w, l < 2 → s.accepts P.HLK = true → s.wlockOwn = 0 → w.toNat % 4 ≠ 0 → Answers (.wlockWrite l w) s fun t =>
    t.wlockOwn = l + 1 ∧ Frame [R.HLK_WLOCK] [] [] s t) ∧
  (∀ s l w, l < 2 → s.accepts P.HLK = true → s.wlockOwn = l + 1 → w.toNat % 4 = 0 → Answers (.wlockWrite l w) s fun t =>
    t.wlockOwn = 0 ∧ Frame [R.HLK_WLOCK] [] [] s t) ∧
  (∀ s l w, l < 2 → s.wlockOwn ≠ 0 → s.wlockOwn ≠ l + 1 ∨ w.toNat % 4 ≠ 0 → exec (.wlockWrite l w) s = .next s)

/-- Requests from the host (R32, R33, R39, R467 to R470, R480). The configuration layout is presumed from PCIe (log
entry 62), the order of the checks is log entry 66. -/
def Obligations.HostRequests : Prop :=
  (∀ s a be d n, s.linkUp = true → s.hlk.d3hot = false → a % 4 = 0 → 0 < be.length → be.length ≤ 16 → a + 4 * be.length ≤ 2 ^ 24 →
    (∀ i, i < be.length → (s.upto n).readEffect (a + 4 * i) = s.upto n) → Answers (.pcieBar0Request false a be d n) s fun t =>
      t.out = s.out ++ [.completion ((List.range be.length).map (fun i => ((s.upto n).busRead (a + 4 * i)).2))] ∧
      Frame [] [] [.now, .out] s t) ∧
  (∀ s a v w n, s.linkUp = true → s.hlk.d3hot = false → a % 4 = 0 → a + 8 ≤ 2 ^ 24 → (s.upto n).badWrite 0 a v = false →
    ((s.upto n).busWrite 0 a v).badWrite 0 (a + 4) w = false → Answers (.pcieBar0Request true a [15, 15] [v, w] n) s fun t =>
      ∃ u, exec (.registerWrite a v) (s.upto n) = .next u ∧ exec (.registerWrite (a + 4) w) u = .next t) ∧
  (∀ s a b w n, s.linkUp = true → s.hlk.d3hot = false → a % 4 = 0 → a < 2 ^ 24 → b ≠ 15 → (s.upto n).busDark = false →
    Answers (.pcieBar0Request true a [b] [w] n) s fun t =>
      (t.reg R.HLK_IGNCNT).toNat = min ((s.reg R.HLK_IGNCNT).toNat + 1) 0xFFFFFFFF ∧ (t.reg R.HLK_IGNLAST).toNat = a ∧
      t.raised P.HLK 12 = true ∧ Frame [R.HLK_IGNCNT, R.HLK_IGNLAST] [P.HLK] [.now, .out, .hlk] s t) ∧
  (∀ s a be d n, s.linkUp = true → s.hlk.d3hot = false → a % 4 = 0 → 16 < be.length → a + 4 * be.length ≤ 2 ^ 24 →
    (s.upto n).busDark = false → Answers (.pcieBar0Request true a be d n) s fun t =>
      (t.reg R.HLK_IGNCNT).toNat = min ((s.reg R.HLK_IGNCNT).toNat + 1) 0xFFFFFFFF ∧ (t.reg R.HLK_IGNLAST).toNat = 5 * 2 ^ 27 + a ∧
      t.raised P.HLK 12 = true ∧ Frame [R.HLK_IGNCNT, R.HLK_IGNLAST] [P.HLK] [.now, .out, .hlk] s t) ∧
  (∀ s a be d n, s.linkUp = true → s.hlk.d3hot = false → a % 4 = 0 → 16 < be.length → a + 4 * be.length ≤ 2 ^ 24 →
    Answers (.pcieBar0Request false a be d n) s fun t =>
      t.fld R.HLK_PCNT1 F.HLK_PCNT1.CA = min (s.fld R.HLK_PCNT1 F.HLK_PCNT1.CA + 1) 65535 ∧ Msg.completionError 2 ∈ t.out ∧
      t.raised P.HLK 10 = true ∧ Frame [R.HLK_PCNT1] [P.HLK] [.now, .out, .hlk] s t) ∧
  (∀ s x a be d n, s.linkUp = true → a % 4 = 0 → be ≠ [] → s.hlk.d3hot = true ∨ 2 ^ 24 < a + 4 * be.length →
    Answers (.pcieBar0Request x a be d n) s fun t =>
      t.fld R.HLK_PCNT0 F.HLK_PCNT0.UR = min (s.fld R.HLK_PCNT0 F.HLK_PCNT0.UR + 1) 65535 ∧
      (x = false → Msg.completionError 1 ∈ t.out) ∧ t.raised P.HLK 10 = true ∧
      Frame [R.HLK_PCNT0] [P.HLK] [.now, .out, .hlk] s t) ∧
  (∀ s a n, s.linkUp = true → s.hlk.d3hot = false → a < 0x2800000 → a % 8 = 0 → s.isBad a = false → (s.upto n).busDark = false →
    s.pwr.st ≠ 6 → Answers (.pcieBar2Request false a [15, 15] [] [] n) s fun t =>
      t.out = s.out ++ [.completion [BitVec.ofNat 32 (s.load a 4), BitVec.ofNat 32 (s.load (a + 4) 4)]] ∧
      Frame [] [] [.now, .out] s t) ∧
  (∀ s a v w n, s.linkUp = true → s.hlk.d3hot = false → a < 0x2800000 → a % 8 = 0 → (s.upto n).busDark = false →
    s.pwr.st ≠ 6 → s.wlockOwn = 0 ∨ s.wlockOwn = 1 → Answers (.pcieBar2Request true a [15, 15] [v, w] [] n) s fun t =>
      t.load a 8 = (v.toNat + w.toNat * 2 ^ 32) % 2 ^ 40 ∧ (∀ c, c < a ∨ a + 8 ≤ c → t.byte c = s.byte c) ∧
      Frame [] [] [.now, .tables, .fft, .held] s t) ∧
  (∀ s a w n, s.linkUp = true → s.hlk.d3hot = false → a < 2 ^ 26 → a % 4 = 0 → (s.upto n).busDark = false → s.wlockOwn = 2 →
    Answers (.pcieBar2Request true a [15] [w] [] n) s fun t =>
      (t.reg R.HLK_IGNCNT).toNat = min ((s.reg R.HLK_IGNCNT).toNat + 1) 0xFFFFFFFF ∧
      (t.reg R.HLK_IGNLAST).toNat = 2 ^ 30 + 4 * 2 ^ 27 + a ∧ t.raised P.HLK 12 = true ∧
      Frame [R.HLK_IGNCNT, R.HLK_IGNLAST] [P.HLK] [.now, .out, .hlk] s t) ∧
  (∀ s a w n, s.linkUp = true → a < 0x1000 → a % 4 = 0 → s.hlk.perstAt + 20000000000 ≤ max s.now n →
    Answers (.configRequest false a w n) s fun t =>
      t.out = s.out ++ [.completion [s.cfgRead a]] ∧ (a = 0 → (s.cfgRead a).toNat / 65536 = 0x9640) ∧
      Frame [] [] [.now, .free, .out] s t) ∧
  (∀ s w n, s.linkUp = true → s.hlk.perstAt + 20000000000 ≤ max s.now n → Answers (.configRequest true 0x1C w n) s fun t =>
    t.cfgRead 0x1C = w ∧ t.out = s.out ++ [.completion []] ∧ Frame [] [] [.now, .free, .out, .hlk] s t)

/-- The management SPI (R474 to R478, R480). What the port sends beside the answer is log entry 65. -/
def Obligations.SpiFrames : Prop :=
  (∀ s a k n, s.spiOn = true → s.pwr.porst = false → s.pwr.st ≠ 6 → a < 2 ^ 24 → a % 4 = 0 → k < 32 →
    (∀ x, x ∈ frameAddrs a (k + 1) (2 ^ 24) → (s.upto n).readEffect x = s.upto n) →
    Answers (.spiRead (requestFrame k a []) false n) s fun t =>
      t.out = s.out ++ [.spi (spiReply s.attn 0 ((frameAddrs a (k + 1) (2 ^ 24)).map (fun x => ((s.upto n).busRead x).2)))] ∧
      t.fld R.HLK_SPICNT1 F.HLK_SPICNT1.FRAMES = (s.fld R.HLK_SPICNT1 F.HLK_SPICNT1.FRAMES + 1) % 65536 ∧
      Frame [R.HLK_SPICNT1] [] [.now, .out] s t) ∧
  (∀ s c f l n, c ∈ [Instr.spiRead f l n, .spiWrite f l n, .spiNoAccess f l n] → s.spiOn = true → s.pwr.porst = false →
    frameBody f + 4 ≤ f.length → (crc32 (f.take (frameBody f))).toNat ≠ beNat ((f.drop (frameBody f)).take 4) → Answers c s fun t =>
      Msg.spi (spiReply s.attn 1 []) ∈ t.out ∧
      t.fld R.HLK_SPICNT0 F.HLK_SPICNT0.CRC = min (s.fld R.HLK_SPICNT0 F.HLK_SPICNT0.CRC + 1) 65535 ∧
      t.raised P.HLK 11 = true ∧ Frame [R.HLK_SPICNT0, R.HLK_SPICNT1] [P.HLK] [.now, .out, .hlk] s t) ∧
  (∀ s x w n, s.spiOn = true → s.pwr.porst = false → x < 4 → (s.upto n).accepts (P.CDRx x) = true →
    s.wlockOwn = 0 ∨ s.wlockOwn = 2 →
    Answers (.spiWrite (requestFrame 64 (R.CDRx_MVEL x) [w]) false n) s fun t =>
      t.reg (R.CDRx_MVEL x) = w ∧ t.out = s.out ++ [.spi (spiReply s.attn 0 [])] ∧
      Frame [R.CDRx_MVEL x, R.HLK_SPICNT1] [] [.now, .out] s t) ∧
  (∀ s a w l n, s.spiOn = true → s.pwr.porst = false → s.pwr.st ≠ 6 → a < 2 ^ 24 → a % 4 = 0 → a ≠ R.HLK_WLOCK → s.wlockOwn = 1 →
    Answers (.spiWrite (requestFrame 64 a [w]) l n) s fun t =>
      Msg.spi (spiReply s.attn 5 []) ∈ t.out ∧ (t.reg R.HLK_IGNLAST).toNat = 2 ^ 31 + 4 * 2 ^ 27 + a ∧
      t.fld R.HLK_SPICNT0 F.HLK_SPICNT0.OTHER = min (s.fld R.HLK_SPICNT0 F.HLK_SPICNT0.OTHER + 1) 65535 ∧
      t.raised P.HLK 11 = true ∧ t.raised P.HLK 12 = true ∧
      Frame [R.HLK_IGNCNT, R.HLK_IGNLAST, R.HLK_SPICNT0, R.HLK_SPICNT1] [P.HLK] [.now, .out, .hlk] s t) ∧
  (∀ s a k l n, s.spiOn = true → s.pwr.porst = false → a < 2 ^ 32 → k < 64 → Answers (.spiNoAccess (requestFrame (128 + k) a []) l n) s fun t =>
    t.out = s.out ++ [.spi (spiReply s.attn 0 [])] ∧ Frame [R.HLK_SPICNT1] [] [.now, .out] s t) ∧
  (∀ s, s.spiOn = true → s.pwr.porst = false → Answers (.spiShortFrame 1) s fun t =>
    t.out = s.out ++ [.spi [BitVec.ofNat 8 s.attn]] ∧ Frame [] [] [.out] s t) ∧
  (∀ s k, s.spiOn = true → s.pwr.porst = false → 2 ≤ k → Answers (.spiShortFrame k) s fun t =>
    t.out = s.out ++ [.spi [BitVec.ofNat 8 s.attn]] ∧
    t.fld R.HLK_SPICNT1 F.HLK_SPICNT1.SHORT = min (s.fld R.HLK_SPICNT1 F.HLK_SPICNT1.SHORT + 1) 65535 ∧
    Frame [R.HLK_SPICNT1] [] [.out] s t) ∧
  (∀ s c f l n k, c ∈ [Instr.spiRead f l n, .spiWrite f l n, .spiNoAccess f l n, .spiShortFrame k] →
    s.spiOn = false → Answers c s fun t => Frame [] [] [.now] s t)

/-- The event fabric (R483 to R485, R489, R491, R498 to R500). The third clause, with the fourth's record of the
latest passed event, is R485. -/
def Obligations.EventRoutes : Prop :=
  (∀ s w, s.accepts P.EVF = true → Answers (.softwarePulse w) s fun t =>
    t.flight = s.flight ++ ((List.range 8).filter (fun j => bit w.toNat j)).map (fun j => 80 + j) ∧ Frame [] [] [.flight] s t) ∧
  (∀ s p n, p ∈ s.flight → s.producerGated p = true ∨ s.flag (R.EVF_PUBp p) F.EVF_PUBp.EN = false ∨
    s.masked (s.fld (R.EVF_PUBp p) F.EVF_PUBp.CH) = true → Answers (.eventPublish p n) s fun t =>
      t.flight = s.flight.erase p ∧ Frame [] [] [.now, .flight] s t) ∧
  (∀ s p c a n, p ∈ s.flight → s.producerGated p = false → s.flag (R.EVF_PUBp p) F.EVF_PUBp.EN = true →
    s.fld (R.EVF_PUBp p) F.EVF_PUBp.CH = c → s.masked c = false →
    s.flag R.EVF_CTL F.EVF_CTL.COMPAT = false ∨ s.chFlag c F.EVF_CHc.SEC = false ∨ p < 80 ∨ 87 < p →
    tabFind s.evf.lastPass c = some a → max s.now n < a + 10000 → Answers (.eventPublish p n) s fun t =>
      t.flag (R.EVF_CHc c) F.EVF_CHc.MERGED = true ∧ t.flight = s.flight.erase p ∧ Frame [R.EVF_CHc c] [] [.now, .flight] s t) ∧
  (∀ s p c n, passes s p c n = true → onlyTask s c 96 = true → tabGet 0 s.evf.window c < s.runawayN →
    Answers (.eventPublish p n) s fun t =>
      t.flight = s.flight.erase p ∧ tabFind t.evf.lastPass c = some t.now ∧
      tabGet 0 t.evf.window c = tabGet 0 s.evf.window c + 1 ∧ bit t.evf.pulses c = true ∧ Frame [] [] [.now, .flight, .evf] s t) ∧
  (∀ s p c n, passes s p c n = true → onlyTask s c 96 = true → s.runawayN ≤ tabGet 0 s.evf.window c →
    s.chFlag c F.EVF_CHc.NOGUARD = false → Answers (.eventPublish p n) s fun t =>
      t.chFlag c F.EVF_CHc.RUNAWAY = true ∧ t.raised P.EVF 8 = true ∧ t.isUnack 0x1701 c = true ∧
      Frame (R.EVF_CHc c :: faultRegs) (faultPages 0x1701 c) (.now :: .evf :: faultParts) s t) ∧
  (∀ s p c i n, passes s p c n = true → i < 16 → onlyTask s c (80 + i) = true → tabGet 0 s.evf.window c < s.runawayN →
    tabFind s.evf.ranAt (80 + i) = none → Answers (.eventPublish p n) s fun t =>
      (t.reg (R.EVF_CNTi i)).toNat = min ((s.reg (R.EVF_CNTi i)).toNat + 1) 0xFFFFFFFF ∧ t.raised P.EVF 12 = true ∧
      Frame [R.EVF_CNTi i] [P.EVF] [.now, .flight, .evf, .out, .hlk] s t) ∧
  (∀ s p c k n, passes s p c n = true → k < 16 → onlyTask s c k = true → tabGet 0 s.evf.window c < s.runawayN →
    s.evoMode k = 1 → (s.upto n).evoBusy k = false → Answers (.eventPublish p n) s fun t =>
      t.evo k = (true, some (t.now + max 1 (s.fld (R.EVF_EVOk k) F.EVF_EVOk.PW) * 8000)) ∧ (∀ j, j ≠ k → t.evo j = s.evo j) ∧
      Frame [] [] [.now, .flight, .evf] s t) ∧
  (∀ s p c k n, passes s p c n = true → k < 16 → onlyTask s c k = true → tabGet 0 s.evf.window c < s.runawayN →
    (s.upto n).evoBusy k = true → Answers (.eventPublish p n) s fun t =>
      t.flag (R.EVF_SUBt k) F.EVF_SUBt.OVR = true ∧ t.raised P.EVF 9 = true ∧ (∀ j, t.evo j = s.evo j) ∧
      Frame [R.EVF_SUBt k] [P.EVF] [.now, .flight, .evf, .out, .hlk] s t) ∧
  (∀ s p c i n, passes s p c n = true → i < 16 → onlyTask s c (30 + i) = true → tabGet 0 s.evf.window c < s.runawayN →
    s.asleep = false → tabFind s.evf.ranAt (30 + i) = none → tabFind s.evf.capAt i = none → Answers (.eventPublish p n) s fun t =>
      t.reg64 (R.CHR_CAPi_LINE i) = s.chr.line % 2 ^ 64 ∧ t.reg (R.CHR_CAPi_CNT i) = s.reg (R.CHR_CAPi_CNT i) + 1 ∧
      (∃ d, d ≤ 5 ∧ t.reg64 (R.CHR_CAPi_TS i) = (t.ts + d) % 2 ^ 64) ∧
      Frame [R.CHR_CAPi_TS i, R.CHR_CAPi_TS i + 4, R.CHR_CAPi_LINE i, R.CHR_CAPi_LINE i + 4, R.CHR_CAPi_CNT i] []
        [.now, .free, .flight, .evf] s t) ∧
  (∀ s p c n, passes s p c n = true → onlyTask s c 47 = true → tabGet 0 s.evf.window c < s.runawayN →
    tabFind s.evf.ranAt 47 = none → s.pwr.st = 4 ∨ s.pwr.st = 6 → Answers (.eventPublish p n) s fun t =>
      t.pwr = { s.pwr with st := 7, src := 2, byD3 := false } ∧ Frame [] [] [.now, .flight, .evf, .pwr] s t) ∧
  (∀ s n, s.evf.winAt + 10000000 ≤ max s.now n → Answers (.runawayWindow n) s fun t =>
    t.evf = { s.evf with window := [], winAt := max s.now n / 10000000 * 10000000 } ∧ Frame [] [] [.now, .evf] s t)

/-- Cells, pins and locks (R486, R494 to R498, R500 to R503). -/
def Obligations.CellsAndLocks : Prop :=
  (∀ s k l n, k < 16 → s.evf.cells = [] → (∀ j, j < 32 → s.reg (R.EVF_LCn_CFG j) = 0) → Answers (.eviEdge k l n) s fun t =>
    bit t.evf.evi k = l ∧ (∀ j, j ≠ k → bit t.evf.evi j = bit s.evf.evi j) ∧
    t.flight = s.flight ++ (if (l = true ∧ bit s.evf.evi k = false ∧ bit (s.fld (R.EVF_EVIk k) F.EVF_EVIk.EDGE) 0 = true) ∨
      (l = false ∧ bit s.evf.evi k = true ∧ bit (s.fld (R.EVF_EVIk k) F.EVF_EVIk.EDGE) 1 = true) then [k] else []) ∧
    Frame [] [] [.now, .flight, .evf] s t) ∧
  (∀ s k l n, k < 16 → Answers (.eviEdge k l n) s fun t =>
    (∀ j, j < 32 → (t.cell j).f = t.cellF j ∧ (t.cellFilt j = 0 → (t.cell j).g = t.cellF j)) ∧
    Frame [] [] [.now, .flight, .evf] s t) ∧
  (∀ s l n, Answers (.lutInputChange l n) s fun t =>
    (∀ c, c < 64 → bit t.evf.pulses c = (bit s.evf.pulses c && !(l.contains c && decide (tabGet 0 s.evf.lastPass c + 2000 ≤ t.now)))) ∧
    (∀ j, j < 32 → (t.cell j).f = t.cellF j ∧ (t.cellFilt j = 0 → (t.cell j).g = t.cellF j)) ∧
    Frame [] [] [.now, .flight, .evf] s t) ∧
  (∀ s j n, j < 32 → (s.cell j).f ≠ (s.cell j).g → s.cellFilt j ≠ 0 → (s.cell j).since + s.cellFilt j * 1000 ≤ max s.now n →
    Answers (.lutFilterExpiry j n) s fun t =>
      (t.cell j).g = (s.cell j).f ∧ (s.cellMode j = 0 ∨ s.cellMode j = 3 → (t.cell j).q = (s.cell j).f) ∧
      (s.cellMode j = 2 → (t.cell j).q = (if (s.cell j).f then !(s.cell j).q else (s.cell j).q)) ∧
      (s.cellMode j = 1 → (t.cell j).q = (s.cell j).q) ∧
      ((t.cell j).q = true → (s.cell j).q = false → 16 + j ∈ t.flight) ∧ Frame [] [] [.now, .flight, .evf] s t) ∧
  (∀ s k e n, k < 16 → (s.evo k).2 = some e → e ≤ max s.now n + 2000 → Answers (.evoPulseEnd k n) s fun t =>
    t.evo k = (false, none) ∧ (∀ j, j ≠ k → t.evo j = s.evo j) ∧ Frame [] [] [.now, .evf] s t) ∧
  (∀ s c, c < 64 → s.accepts P.EVF = true → s.chNotHost c = false → Answers (.runawayUnmask c) s fun t =>
    (t.reg (R.EVF_CHc c)).toNat = putBits (s.reg (R.EVF_CHc c)).toNat 0 0 0 ∧
    t.evf = { s.evf with window := tabErase s.evf.window c } ∧ Frame [R.EVF_CHc c] [] [.evf] s t) ∧
  (∀ s c, c < 64 → s.accepts P.EVF = true → s.chNotHost c = true → s.chLocked c = false → Answers (.runawayUnmask c) s fun t =>
    (t.reg R.EVF_LOCKIGN).toNat = min ((s.reg R.EVF_LOCKIGN).toNat + 1) 0xFFFFFFFF ∧ t.raised P.EVF 11 = true ∧
    Frame [R.EVF_LOCKIGN] [P.EVF] [.out, .hlk] s t) ∧
  (∀ s c, c < 64 → s.accepts P.EVF = true → s.kwAllowed P.EVF = true → s.chNotHost c = false → Answers (.channelLock c) s fun t =>
    t.chLocked c = true ∧ t.hdr P.EVF = { s.hdr P.EVF with keyOpen := false } ∧ Frame [R.EVF_CHc c] [P.EVF] [] s t) ∧
  (∀ s j, j < 32 → s.accepts P.EVF = true → s.kwAllowed P.EVF = true → Answers (.cellLock j) s fun t =>
    t.cellLocked j = true ∧ t.hdr P.EVF = { s.hdr P.EVF with keyOpen := false } ∧ Frame [R.EVF_LCn_CFG j] [P.EVF] [] s t) ∧
  (∀ s p c, p < 153 → c < 64 → s.accepts P.EVF = true → s.wlockOwn = 0 → s.chLocked c = true →
    Answers (.registerWrite (R.EVF_PUBp p) (BitVec.ofNat 32 (2 ^ 31 + c))) s fun t =>
      (t.reg R.EVF_LOCKIGN).toNat = min ((s.reg R.EVF_LOCKIGN).toNat + 1) 0xFFFFFFFF ∧ t.raised P.EVF 11 = true ∧
      Frame [R.EVF_LOCKIGN] [P.EVF] [.out, .hlk] s t) ∧
  (∀ s j w, j < 32 → s.accepts P.EVF = true → s.wlockOwn = 0 → s.cellLocked j = true →
    Answers (.registerWrite (R.EVF_LCn_IN j) w) s fun t =>
      (t.reg R.EVF_LOCKIGN).toNat = min ((s.reg R.EVF_LOCKIGN).toNat + 1) 0xFFFFFFFF ∧ t.raised P.EVF 11 = true ∧
      Frame [R.EVF_LOCKIGN] [P.EVF] [.out, .hlk] s t)

/-- The fault log (R518 to R529). -/
def Obligations.FaultLog : Prop :=
  (∀ s code item n, code ∈ plainCodes → item < 16 → Answers (.faultRaise code item n) s fun t =>
    t.isUnack code item = true ∧ (t.hdr (faultPage code item)).pfault.toNat = faultSev code * 65536 + code ∧
    t.raised (faultPage code item) 0 = true ∧ (faultSev code = 2 → 79 ∈ t.flight) ∧
    (∀ b, faultAttn code = some b → bit t.attn b = true) ∧ (∀ e, tabFind raiseEvents code = some e → t.raised e.1 e.2 = true) ∧
    Frame faultRegs (((tabFind raiseEvents code).map (·.1)).toList ++ faultPages code item) (.now :: faultParts) s t) ∧
  (∀ s code item n i, code ∈ plainCodes → faultSev code ≠ 2 → item < 16 → openEntry s.chr.log code item = none →
    freeEntry s.chr.log = some i → Answers (.faultRaise code item n) s fun t =>
      tabFind t.chr.log i = some ⟨t.ts, t.ts, s.chr.line, code, faultSev code, false, 0, 1, item⟩ ∧
      (∀ j, j ≠ i → tabFind t.chr.log j = tabFind s.chr.log j) ∧ t.raised P.CHR 8 = true ∧ t.chr.line = s.chr.line) ∧
  (∀ s code item n i e, code ∈ plainCodes → faultSev code ≠ 2 → item < 16 → openEntry s.chr.log code item = some (i, e) →
    Answers (.faultRaise code item n) s fun t =>
      tabFind t.chr.log i = some { e with count := min (e.count + 1) 65535, tlast := t.ts } ∧
      (∀ j, j ≠ i → tabFind t.chr.log j = tabFind s.chr.log j)) ∧
  (∀ s code item n, code ∈ plainCodes → faultSev code ≠ 2 → item < 16 → openEntry s.chr.log code item = none →
    freeEntry s.chr.log = none → (tabFind s.chr.log s.chr.wptr).isSome = true → Answers (.faultRaise code item n) s fun t =>
      (tabFind t.chr.log s.chr.wptr).map (·.code) = some code ∧ t.chr.wptr = (if s.chr.wptr = 63 then 48 else s.chr.wptr + 1) ∧
      (t.reg R.CHR_LOGOVF).toNat = min ((s.reg R.CHR_LOGOVF).toNat + 1) 0xFFFFFFFF ∧ t.raised P.CHR 13 = true) ∧
  (∀ s w, s.accepts P.CHR = true → Answers (.faultAck w) s fun t =>
    (∀ u, u ∈ t.chr.unack ↔ u ∈ s.chr.unack ∧ (u.2.2 = 3 ∨ (bit w.toNat 31 = false ∧ u.1 ≠ w.toNat % 65536) ∨ s.justRose u.1 u.2.1 = true)) ∧
    (∀ i e, tabFind s.chr.log i = some e → tabFind t.chr.log i =
      some { e with ack := e.ack || (e.sev != 3 && (bit w.toNat 31 || e.code == w.toNat % 65536) && !s.justRose e.code e.item) }) ∧ Frame [] [] [.chr] s t) ∧
  (∀ s i, s.accepts P.CHR = true → tabSorted s.chr.log = true → Answers .logClear s fun t =>
    tabFind t.chr.log i = (tabFind s.chr.log i).filter (fun e => !e.ack) ∧ t.chr.unack = s.chr.unack ∧ Frame [] [] [.chr] s t) ∧
  (∀ s w e, s.accepts P.CHR = true → tabFind s.chr.log (w.toNat % 64) = some e → e.code < 2 ^ 16 → e.sev < 4 → e.inst < 256 →
    e.count < 2 ^ 16 → e.item < 2 ^ 16 → Answers (.logSelect w) s fun t =>
      (t.reg R.CHR_LOGSEL).toNat = w.toNat % 64 ∧ t.reg64 (R.CHR_LOGEj 0) = e.tfirst % 2 ^ 64 ∧
      t.reg64 (R.CHR_LOGEj 2) = e.tlast % 2 ^ 64 ∧ t.reg64 (R.CHR_LOGEj 4) = e.line % 2 ^ 64 ∧
      (t.reg (R.CHR_LOGEj 6)).toNat = e.code + e.sev * 2 ^ 16 + e.ack.toNat * 2 ^ 18 + 2 ^ 19 + e.inst * 2 ^ 24 ∧
      (t.reg (R.CHR_LOGEj 7)).toNat = e.count + e.item * 2 ^ 16 ∧
      Frame (R.CHR_LOGSEL :: (List.range 8).map R.CHR_LOGEj) [] [] s t) ∧
  (∀ s w, s.accepts P.CHR = true → tabFind s.chr.log (w.toNat % 64) = none → Answers (.logSelect w) s fun t =>
    (t.reg R.CHR_LOGSEL).toNat = w.toNat % 64 ∧ (∀ j, j < 8 → t.reg (R.CHR_LOGEj j) = 0) ∧
    Frame (R.CHR_LOGSEL :: (List.range 8).map R.CHR_LOGEj) [] [] s t)

/-- Time and deadlines (R510, R512, R419, R420). The second, third and last clauses are R512 (the row carries both
words of R63). -/
def Obligations.TimeAndDeadlines : Prop :=
  (∀ s v, s.accepts P.CHR = true → s.ssc.st = 0 → s.pwr.st ≠ 6 → Answers (.tsloadWrite v) s fun t =>
    t.ts = v % 2 ^ 64 ∧ t.reg64 R.CHR_TSLOAD = v % 2 ^ 64 ∧ t.chr.line = s.chr.line ∧
    Frame [R.CHR_TSLOAD, R.CHR_TSLOAD + 4] [] [.chr] s t) ∧
  (∀ s v, s.accepts P.CHR = true → s.ssc.st = 0 → Answers (.lineCounterWrite v) s fun t =>
    t.chr = { s.chr with line := v % 2 ^ 64 } ∧ Frame [] [] [.chr] s t) ∧
  (∀ s c v, c ∈ [Instr.tsloadWrite v, .lineCounterWrite v] → s.accepts P.CHR = true → s.ssc.st ≠ 0 → Answers c s fun t =>
    t.raised P.CHR 12 = true ∧ Frame [] [P.CHR] [.out, .hlk] s t) ∧
  (∀ s line n v, tabFind s.ssc.job.dlv line = some v → v.missed = false → (s.upto n).lateLine line = true →
    (s.upto n).lateHost line v = true → Answers (.deadlineExpiry line n) s fun t =>
      t.fld R.SSC_DMISS F.SSC_DMISS.HOST = min (s.fld R.SSC_DMISS F.SSC_DMISS.HOST + 1) 65535 ∧
      t.isUnack 0x1802 0 = true ∧ t.raised P.SSC 13 = true ∧ 78 ∈ t.flight ∧
      tabFind t.ssc.job.dlv line = some { v with missed := true, host := true } ∧
      Frame (R.SSC_DMISS :: faultRegs) (P.SSC :: faultPages 0x1802 0) (.now :: faultParts) s t) ∧
  (∀ s line n v, tabFind s.ssc.job.dlv line = some v → v.missed = false → (s.upto n).lateLine line = true →
    (s.upto n).lateHost line v = false → Answers (.deadlineExpiry line n) s fun t =>
      t.fld R.SSC_DMISS F.SSC_DMISS.INTERNAL = min (s.fld R.SSC_DMISS F.SSC_DMISS.INTERNAL + 1) 65535 ∧
      t.isUnack 0x1803 0 = true ∧ t.raised P.SSC 13 = true ∧ 78 ∈ t.flight ∧
      tabFind t.ssc.job.dlv line = some { v with missed := true, host := false } ∧
      Frame (R.SSC_DMISS :: faultRegs) (P.SSC :: faultPages 0x1803 0) (.now :: faultParts) s t) ∧
  (∀ s line n, (s.upto n).lateLine line = false → Answers (.deadlineExpiry line n) s fun t => Frame [] [] [.now] s t) ∧
  (∀ s n tr rest, s.mer.transit = tr :: rest → tr.preroll = false → 3 ≤ s.ssc.st → s.ssc.st ≤ 6 → s.numberLost tr = false →
    s.mer.latch = none → s.fld R.SSC_NLINES F.SSC_NLINES.N = 0 → s.chr.line = 2 ^ 64 - 1 → Answers (.lineTrigger n) s fun t =>
      t.chr.line = 0 ∧ Frame [] [] [.now, .mer, .chr, .ssc] s t)

/-- Power-on reset (R571, R236, R340). What the first contents of flash and fuses are is log entry 5. -/
def Obligations.PowerOnResets : Prop :=
  ∀ s, Answers .powerOnReset s fun t =>
    t.pwr.porst = true ∧ (∀ a, t.reg a = regDefault s.straps a) ∧ t.pend = [] ∧ (∀ p, t.hdr p = {}) ∧
    (∀ a, t.byte a = tabByte a) ∧ t.sec.otp = s.sec.otp ∧ t.sec.field = s.sec.field ∧ t.pending = s.pending

/-- Warm resets (R571 to R573). How long the bus is dark is log entry 84. -/
def Obligations.WarmResets : Prop :=
  (∀ s, s.accepts P.GLB = true → s.kwAllowed P.GLB = true → Answers .globalSoftReset s fun t =>
    t.pwr.dark = true ∧ t.pwr.st = 0 ∧ t.pwr.bootAt = t.now ∧ t.fld R.PWR_CAUSE F.PWR_CAUSE.CAUSE = 2 ∧ t.pend = [] ∧
    (∀ p, t.hdr p = {}) ∧ t.chr.safe = false ∧ t.sec.otp = s.sec.otp ∧ t.sec.field = s.sec.field ∧
    ∀ a, a ∉ [R.CHR_LOGOVF, R.PWR_STAT, R.PWR_CAUSE, R.HLK_LINK, R.FFT_STAT, R.FFT_BLENDN] →
      t.reg a = regDefault s.straps a) ∧
  (∀ s n, s.pcieOn = true → s.pwr.porst = false → s.pwr.dark = false → Answers (.perstFall n) s fun t =>
    t.pwr.dark = true ∧ t.pwr.st = 0 ∧ t.pwr.bootAt = t.now ∧ t.fld R.PWR_CAUSE F.PWR_CAUSE.CAUSE = 1 ∧ t.pend = [] ∧
    t.hlk.perst = false ∧ t.hlk.st = 0 ∧ t.hlk.msixEn = false ∧ t.flag R.HLK_LINK F.HLK_LINK.UP = false ∧
    ∀ a, a ∉ [R.CHR_LOGOVF, R.PWR_STAT, R.PWR_CAUSE, R.HLK_LINK, R.FFT_STAT, R.FFT_BLENDN] →
      t.reg a = regDefault s.straps a)

/-- Power states (R565 to R570, R573). -/
def Obligations.PowerStates : Prop :=
  (∀ s, s.accepts P.PWR = true → s.sleepRefused = false → s.pwr.st = 1 → Answers .standbyRequest s fun t =>
    t.pwr = { s.pwr with st := 3, step := 0, byD3 := false } ∧ t.fld R.PWR_CTL F.PWR_CTL.REQ = 2 ∧
    Frame [R.PWR_CTL] [] [.pwr] s t) ∧
  (∀ s, s.accepts P.PWR = true → s.sleepRefused = true → Answers .standbyRequest s fun t =>
    t.fld R.PWR_CTL F.PWR_CTL.REQ = 0 ∧ t.raised P.PWR 10 = true ∧
    Frame [R.PWR_CTL] [P.PWR] [.out, .hlk] s t) ∧
  (∀ s, s.accepts P.PWR = true → s.sleepRefused = false → s.pwr.st = 1 → Answers .deepSleepRequest s fun t =>
    t.pwr = { s.pwr with st := 5, step := 0, byD3 := false } ∧ t.fld R.PWR_CTL F.PWR_CTL.REQ = 3 ∧
    Frame [R.PWR_CTL] [] [.pwr] s t) ∧
  (∀ s, s.accepts P.PWR = true → 3 ≤ s.pwr.st → s.pwr.st ≤ 6 → Answers .readyRequest s fun t =>
    t.pwr = { s.pwr with st := 7, src := 1, byD3 := false } ∧ t.fld R.PWR_CTL F.PWR_CTL.REQ = 0 ∧
    Frame [R.PWR_CTL] [] [.pwr] s t) ∧
  (∀ s n, s.pwr.st = 3 → s.pwr.step = 3 → (∀ ch, ch < 64 → (s.chan ch).st ≠ 2 ∧ (s.chan ch).st ≠ 3) →
    Answers (.sleepEntryStep n) s fun t => t.pwr = { s.pwr with step := 4 } ∧ Frame [] [] [.now, .pwr] s t) ∧
  (∀ s n, s.pwr.st = 3 → s.pwr.step = 4 → Answers (.sleepEntryStep n) s fun t =>
    t.pwr = { s.pwr with st := 4 } ∧ t.acq.power = 0 ∧ Frame [R.ACQG_STAT] [] [.now, .pwr, .acq, .hlk] s t) ∧
  (∀ s n, s.pwr.st = 7 → Answers (.wakeDone n) s fun t =>
    t.pwr.st = 1 ∧ t.fld R.PWR_WAKE F.PWR_WAKE.SRC = s.pwr.src % 8 ∧ t.raised P.PWR 9 = true ∧
    Frame [R.PWR_WAKE, R.PWR_CTL, R.ACQG_STAT] [P.PWR] [.now, .pwr, .acq, .hlk, .out] s t) ∧
  (∀ s, s.flag R.PWR_CFG F.PWR_CFG.D3SB = true → s.sleepRefused = false → s.pwr.st = 1 → Answers .d3hotEntry s fun t =>
    t.hlk.d3hot = true ∧ t.pwr = { s.pwr with st := 3, step := 0, byD3 := true } ∧
    Frame [R.PWR_CTL] [] [.pwr, .hlk] s t) ∧
  (∀ s, s.pwr.byD3 = true → s.pwr.st = 4 → Answers .d0Return s fun t =>
    t.hlk.d3hot = false ∧ t.pwr = { s.pwr with st := 7, src := 3, byD3 := false } ∧
    Frame [R.PWR_CTL] [] [.pwr, .hlk] s t) ∧
  (∀ s n, s.pcieOn = true → s.pwr.st ≠ 6 → Answers (.perstRise n) s fun t =>
    t.hlk = { s.hlk with perst := true, perstAt := max s.now n, st := 1 } ∧ Frame [] [] [.now, .hlk] s t)

/-- Supervision (R559, R561, R531). -/
def Obligations.SuppliesAndReference : Prop :=
  (∀ s b up n, b < 4 → bit (s.fld R.PWR_STAT F.PWR_STAT.VSOK) b = !up → Answers (.vsensChange b up n) s fun t =>
    t.fld R.PWR_STAT (b, b) = up.toNat ∧ t.raised P.PWR 13 = true ∧
    Frame [R.PWR_STAT] [P.PWR] [.now, .acq, .out, .hlk] s t) ∧
  (∀ s n, s.mer.lock = false → Answers (.refLoss n) s fun t =>
    t.flag R.PWR_STAT F.PWR_STAT.REFOK = false ∧ t.raised P.PWR 11 = true ∧ t.mer = { s.mer with locking := false } ∧
    Frame [R.PWR_STAT] [P.PWR] [.now, .mer, .out, .hlk] s t) ∧
  (∀ s n, Answers (.refReturn n) s fun t =>
    t.flag R.PWR_STAT F.PWR_STAT.REFOK = true ∧ t.raised P.PWR 12 = true ∧ t.mer = { s.mer with locking := !s.mer.lock } ∧
    Frame [R.PWR_STAT] [P.PWR] [.now, .mer, .out, .hlk] s t) ∧
  (∀ s i n, 50 ≤ i → i ≤ 55 → Answers (.supplyOutOfRange i n) s fun t =>
    t.chr.safe = true ∧ t.isUnack 0x1A02 i = true ∧ bit t.pwr.supBad (i - 50) = true ∧ t.sec = s.sec) ∧
  (∀ s i n, 56 ≤ i → i ≤ 59 → Answers (.dieOvertemp i n) s fun t =>
    t.chr.safe = true ∧ t.isUnack 0x1A01 i = true ∧ bit t.pwr.dieHot (i - 56) = true ∧ t.sec = s.sec)

/-- Safe state (R531 to R533). -/
def Obligations.SafeState : Prop :=
  (∀ s, s.accepts P.CHR = true → s.kwAllowed P.CHR = true → Answers .safeRequest s fun t =>
    t.chr.safe = true ∧ t.isUnack 0x1804 0 = true ∧ t.sec = s.sec) ∧
  (∀ s, s.accepts P.CHR = true → s.kwAllowed P.CHR = true → s.chr.safe = true → s.hel.st = .safe →
    Answers (.safeClear 0 0) s fun t =>
      t.chr.safe = false ∧ t.hel.st = .off ∧ t.raised P.CHR 10 = true ∧ (∀ u ∈ t.chr.unack, u.2.2 ≠ 3) ∧
      Frame [] [P.CHR] [.chr, .hel, .pwr, .out, .hlk] s t) ∧
  (∀ s hot bad, s.accepts P.CHR = true → s.kwAllowed P.CHR = true → s.chr.safe = true → hot % 16 ≠ 0 ∨ bad % 64 ≠ 0 →
    Answers (.safeClear hot bad) s fun t =>
      t.chr = s.chr ∧ t.raised P.CHR 11 = true ∧ Frame [] [P.CHR] [.pwr, .out, .hlk] s t)

/-- The boot (R544, R545, R574, R575). State before boot is log entries 5 and 69. -/
def Obligations.BootSteps : Prop :=
  (∀ s v, s.pwr.porst = true → Answers (.bootStart v) s fun t =>
    t.pwr.porst = false ∧ t.straps = v % 256 ∧ t.now = 0 ∧ t.flag R.PWR_STAT F.PWR_STAT.REFOK = true ∧
    (∀ p, t.hdr p = s.hdr p) ∧ SameTables s t) ∧
  (∀ s gb mts n, s.pwr.st = 0 → s.pwr.trained = false → gb ≠ 0 → Answers (.storeTrained gb mts n) s fun t =>
    t.pwr.trained = true ∧ t.fld R.EST_CFG F.EST_CFG.GB = gb % 32 ∧ t.fld R.EST_CFG F.EST_CFG.MTS = mts % 65536 ∧
    Frame [R.EST_CFG, R.EST_CEIL] [] [.now, .pwr] s t) ∧
  (∀ s mts n, s.pwr.st = 0 → s.pwr.trained = false → Answers (.storeTrained 0 mts n) s fun t =>
    t.pwr.trained = true ∧ t.isUnack 0x1302 0 = true ∧
    Frame faultRegs (faultPages 0x1302 0) (.now :: .pwr :: faultParts) s t) ∧
  (∀ s okA okB ack n, s.pwr.st = 0 → s.pwr.trained = true → s.pwr.started = false → s.sec.st = 0 → bit s.straps 2 = true →
    Answers (.bootImageVerified okA okB ack n) s fun t =>
      t.sec = { s.sec with st := 1 } ∧ Frame [] [] [.now, .sec] s t) ∧
  (∀ s okA okB ack n, s.pwr.st = 0 → s.pwr.trained = true → s.pwr.started = false → s.sec.st = 0 → bit s.straps 2 = false →
    Answers (.bootImageVerified okA okB ack n) s fun t => t.sec.otp = s.sec.otp ∧
      (s.imageReason (s.slot s.preferred) (if s.preferred = 0 then okA else okB) = 0 →
        t.sec.run = s.preferred ∧ t.sec.st = 2 ∧ t.sec.paused = false ∧ t.pwr.started = true) ∧
      (s.imageReason (s.slot s.preferred) (if s.preferred = 0 then okA else okB) ≠ 0 → t.isUnack 0x1901 s.preferred = true)) ∧
  (∀ s n, s.pwr.st = 0 → s.pwr.started = true → s.pwr.trained = true → s.pwr.src = 0 → Answers (.ready n) s fun t =>
    t.pwr.st = 1 ∧ t.pwr.dark = false ∧ t.raised P.PWR 8 = true ∧
    (t.reg R.PWR_BOOTT).toNat = min 0xFFFFFF ((max s.now n - s.pwr.bootAt) / 1000000) ∧
    Frame [R.PWR_BOOTT, R.ACQG_STAT] [P.PWR] [.now, .pwr, .acq, .out, .hlk] s t)

/-- The mailbox (R536, R555). -/
def Obligations.Mailbox : Prop :=
  (∀ s q, s.accepts P.GLB = true → s.sec.mbx = none → Answers (.mbxVersion q) s fun t =>
    t.sec.mbx = some (q % 256, 1) ∧ t.flag R.GLB_MBXRSP F.GLB_MBXRSP.BUSY = true ∧
    Frame [R.GLB_MBXCMD, R.GLB_MBXRSP] [] [.sec] s t) ∧
  (∀ s q, s.accepts P.GLB = true → s.sec.mbx = none → Answers (.mbxPreadmit q) s fun t =>
    t.sec.mbx = some (q % 256, 2) ∧ t.flag R.GLB_MBXRSP F.GLB_MBXRSP.BUSY = true ∧
    Frame [R.GLB_MBXCMD, R.GLB_MBXRSP] [] [.sec] s t) ∧
  (∀ s q, s.accepts P.GLB = true → s.sec.mbx = none → Answers (.mbxCorestat q) s fun t =>
    t.sec.mbx = some (q % 256, 3) ∧ t.flag R.GLB_MBXRSP F.GLB_MBXRSP.BUSY = true ∧
    Frame [R.GLB_MBXCMD, R.GLB_MBXRSP] [] [.sec] s t) ∧
  (∀ s q c, s.accepts P.GLB = true → s.sec.mbx = none → Answers (.mbxUnknown q c) s fun t =>
    t.sec.mbx = some (q % 256, c % 65536) ∧ t.flag R.GLB_MBXRSP F.GLB_MBXRSP.BUSY = true ∧
    Frame [R.GLB_MBXCMD, R.GLB_MBXRSP] [] [.sec] s t) ∧
  (∀ s q w, s.accepts P.GLB = true → s.sec.mbx = some w → Answers (.mbxVersion q) s fun t =>
    t.sec = s.sec ∧ t.raised P.GLB 9 = true ∧ Frame [] [P.GLB] [.out, .hlk] s t) ∧
  (∀ s n q c, s.sec.mbx = some (q, c) → s.sec.paused = false → 4 ≤ c → q < 256 → Answers (.mbxReply n) s fun t =>
    t.sec.mbx = none ∧ (t.reg R.GLB_MBXRSP).toNat = q * 2 ^ 24 + 1 ∧ t.raised P.GLB 8 = true ∧
    Frame [R.GLB_MBXRSP] [P.GLB] [.now, .free, .sec, .out, .hlk] s t) ∧
  (∀ s n q, s.sec.mbx = some (q, 1) → s.sec.paused = false → q < 256 → Answers (.mbxReply n) s fun t =>
    t.sec.mbx = none ∧ (t.reg R.GLB_MBXRSP).toNat = q * 2 ^ 24 ∧ t.raised P.GLB 8 = true ∧
    t.reg (R.GLB_MBXDATa 0) = BitVec.ofNat 32 (imgVersion (s.slot s.sec.run).bytes) ∧
    t.reg (R.GLB_MBXDATa 1) = BitVec.ofNat 32 (imgArc (s.slot s.sec.run).bytes) ∧
    Frame [R.GLB_MBXRSP, R.GLB_MBXDATa 0, R.GLB_MBXDATa 1, R.GLB_MBXDATa 2] [P.GLB] [.now, .free, .sec, .out, .hlk] s t)

/-- Debug access and attestation (R550 to R554). The challenge's and nonce's byte order is log entry 77, the words
collected without a load log entry 61. -/
def Obligations.DebugAndAttestation : Prop :=
  (∀ s, s.accepts P.SEC = true → s.kwAllowed P.SEC = true → Answers .fieldLock s fun t =>
    t.sec = { s.sec with field := true } ∧ (t.hdr P.SEC).keyOpen = false ∧ Frame [] [P.SEC] [.sec] s t) ∧
  (∀ s w, s.accepts P.SEC = true → s.kwAllowed P.SEC = true → s.sec.field = false → Answers (.debugOpen w) s fun t =>
    t.sec.scopes = s.sec.scopes ||| bits w.toNat 3 0 ∧ Frame [R.SEC_DBGCTL] [P.SEC] [.sec] s t) ∧
  (∀ s w, s.accepts P.SEC = true → s.kwAllowed P.SEC = true → s.sec.field = true → Answers (.debugOpen w) s fun t =>
    t.sec = s.sec ∧ Frame [R.SEC_DBGCTL] [P.SEC] [] s t) ∧
  (∀ s, s.accepts P.SEC = true → Answers .debugClose s fun t =>
    t.sec = { s.sec with scopes := 0 } ∧ Frame [] [] [.sec] s t) ∧
  (∀ s l n, s.accepts P.SEC = true → l.length = 8 → s.sec.refused ≤ max s.now n → Answers (.debugNonce l n) s fun t =>
    t.sec.nonce = true ∧ t.sec.loose = [] ∧ (∀ j, j < 8 → some (t.reg (R.SEC_NONCEj j)) = l[j]?) ∧
    Frame ((List.range 8).map R.SEC_NONCEj) [] [.now, .sec] s t) ∧
  (∀ s l n, s.accepts P.SEC = true → max s.now n < s.sec.refused → Answers (.debugNonce l n) s fun t =>
    t.raised P.SEC 9 = true ∧ Frame [] [P.SEC] [.now, .out, .hlk] s t) ∧
  (∀ s n, s.accepts P.SEC = true → Answers (.debugUnlock n) s fun t =>
    t.sec.nonce = false ∧ t.sec.loose = [] ∧
    if s.unlockHolds = true then
      t.sec.scopes = s.sec.scopes ||| byteAt (wordsBytes s.sec.loose) 32 % 16 ∧ t.sec.wait = 1 ∧
      t.raised P.SEC 11 = true ∧ bit t.attnL 1 = true ∧ Frame [] [P.SEC] [.now, .sec, .attn, .out, .hlk] s t
    else
      t.sec = { s.sec with nonce := false, loose := [], refused := max s.now n + s.sec.wait * 1000000000000,
                           wait := min 64 (2 * s.sec.wait) } ∧ t.isUnack 0x1902 0 = true) ∧
  (∀ s, s.accepts P.SEC = true → 8 ≤ s.sec.loose.length → Answers .attest s fun t =>
    t.sec.attest = some ((wordsBytes s.sec.loose).drop ((wordsBytes s.sec.loose).length - 32)) ∧ t.sec.report = [] ∧
    Frame [] [] [.free, .sec] s t) ∧
  (∀ s n c, s.sec.attest = some c → Answers (.attestDone n) s fun t =>
    t.sec.attest = none ∧ t.sec.report.length = 4336 ∧ Frame [] [] [.now, .free, .sec] s t) ∧
  (∀ s w l, s.accepts P.SEC = true → s.sec.report = w :: l → Answers .reportWordRead s fun t =>
    t.sec = { s.sec with report := l } ∧ t.out = s.out ++ [.completion [w]] ∧ Frame [] [] [.sec, .out] s t)

/-- Image loads (R546, R547). A load in detail is log entry 61. -/
def Obligations.ImageLoading : Prop :=
  (∀ s w, s.accepts P.SEC = true → s.kwAllowed P.SEC = true → s.sec.load = none → s.sec.verify = none →
    bits w.toNat 5 4 ≠ s.sec.run → bits w.toNat 5 4 ≠ 3 → s.fld R.SEC_LEN F.SEC_LEN.BYTES % 4 = 0 →
    s.fld R.SEC_LEN F.SEC_LEN.BYTES ≤ 8388608 → Answers (.imageBegin w) s fun t =>
      t.sec.load = some (bits w.toNat 5 4, 0) ∧ t.sec.erasing = decide (bits w.toNat 5 4 < 2) ∧ t.sec.buf = [] ∧
      t.slot (bits w.toNat 5 4) = { len := s.fld R.SEC_LEN F.SEC_LEN.BYTES } ∧
      (∀ i, i ≠ bits w.toNat 5 4 → t.slot i = s.slot i) ∧ Frame [] [P.SEC] [.sec] s t) ∧
  (∀ s w, s.accepts P.SEC = true → s.kwAllowed P.SEC = true → bits w.toNat 5 4 = s.sec.run → Answers (.imageBegin w) s fun t =>
    t.sec = s.sec ∧ t.raised P.SEC 9 = true ∧ Frame [] [P.SEC] [.out, .hlk] s t) ∧
  (∀ s n, Answers (.flashEraseDone n) s fun t =>
    t.sec = { s.sec with erasing := false } ∧ Frame [] [] [.now, .sec] s t) ∧
  (∀ s w i k, s.accepts P.SEC = true → s.sec.load = some (i, k) → 4 * k < (s.slot i).len → s.sec.buf.length < 1024 →
    Answers (.imageWord w) s fun t =>
      t.sec = { s.sec with load := some (i, k + 1), buf := s.sec.buf ++ [w] } ∧ Frame [] [] [.sec] s t) ∧
  (∀ s w i k, s.accepts P.SEC = true → s.sec.load = some (i, k) → (s.slot i).len ≤ 4 * k ∨ 1024 ≤ s.sec.buf.length →
    Answers (.imageWord w) s fun t =>
      t.slot i = { s.slot i with lost := true } ∧ t.sec.buf = s.sec.buf ∧ t.raised P.SEC 9 = true ∧
      Frame [] [P.SEC] [.sec, .out, .hlk] s t) ∧
  (∀ s k n i j, s.sec.load = some (i, j) → s.sec.erasing = false → Answers (.bufferDrain k n) s fun t =>
    t.sec.buf = s.sec.buf.drop k ∧ (t.slot i).bytes = (s.slot i).bytes ++ wordsBytes (s.sec.buf.take k) ∧
    (∀ m, m ≠ i → t.slot m = s.slot m) ∧ Frame [] [] [.now, .sec] s t) ∧
  (∀ s w, s.accepts P.SEC = true → bits w.toNat 5 4 ≠ 3 → s.sec.verify = none → Answers (.imageVerify w) s fun t =>
    t.sec = { s.sec with verify := some (bits w.toNat 5 4) } ∧ Frame [] [] [.sec] s t) ∧
  (∀ s x, s.accepts P.SEC = true → s.sec.load = some x → s.alm.saveDue = false → Answers .imageAbort s fun t =>
    t.sec = { s.sec with load := none, erasing := false, buf := [] } ∧ Frame [] [] [.sec] s t)

/-- Verification, anti-rollback and live swap (R542, R543, R547 to R549). SEC_RESULT in detail is log entry 63, the
boot record log entry 64. -/
def Obligations.ImageOutcomes : Prop :=
  (∀ s i ok ack n, s.sec.verify = some i → s.sec.buf = [] → s.sec.erasing = false → s.sec.load = none → i < 4 →
    s.sec.st ≠ 1 → Answers (.verifyDone ok ack n) s fun t => t.sec.verify = none ∧
      if s.imageReason (s.slot i) ok = 0 then
        (t.slot i).passed = true ∧ (t.reg R.SEC_RESULT).toNat = 2 ^ 24 + i * 2 ^ 16 + 16 ∧
        t.raised P.SEC 8 = true ∧ Frame [R.SEC_RESULT, R.SEC_VERA, R.SEC_VERB] [P.SEC] [.now, .sec, .out, .hlk] s t
      else (t.slot i).passed = false ∧ t.isUnack 0x1901 i = true) ∧
  (∀ s, s.accepts P.SEC = true → s.kwAllowed P.SEC = true → s.sec.run ≠ 3 → Answers .otpCommit s fun t =>
    t.sec = { s.sec with otp := max s.sec.otp (min 127 (imgArc (s.slot s.sec.run).bytes)) } ∧
    Frame [] [P.SEC] [.sec] s t) ∧
  (∀ s w, s.accepts P.SEC = true → s.kwAllowed P.SEC = true → (s.slot (bits w.toNat 5 4)).passed = true →
    bits w.toNat 5 4 ≠ 3 → s.sec.swap = none → Answers (.firmwareSwap w true) s fun t =>
      t.sec = { s.sec with swap := some (bits w.toNat 5 4), st := 3 } ∧ Frame [] [P.SEC] [.sec] s t) ∧
  (∀ s w same, s.accepts P.SEC = true → s.kwAllowed P.SEC = true → (s.slot (bits w.toNat 5 4)).passed = false →
    Answers (.firmwareSwap w same) s fun t =>
      t.sec = s.sec ∧ t.raised P.SEC 9 = true ∧ Frame [] [P.SEC] [.out, .hlk] s t) ∧
  (∀ s n i, s.sec.swap = some i → s.sec.stopped = false → s.mer.cycle = false → Answers (.swapHandover n) s fun t =>
    t.sec = { s.sec with stopped := true, paused := true, stopAt := max s.now n } ∧ Frame [] [] [.now, .sec] s t) ∧
  (∀ s n i, s.sec.swap = some i → s.sec.stopped = true → s.sec.stopAt + 5000000000 ≤ max s.now n → s.sec.run ≠ 3 →
    Answers (.swapTimeout n) s fun t => t.sec = { s.sec with swap := none, st := 2 } ∧ t.isUnack 0x1901 i = true) ∧
  (∀ s n i, s.sec.stopped = true → s.sec.swap = some i → i < 2 → s.pwr.started = true → s.col.req = 0 → s.alm.saveDue = false → s.sec.deferred = [] →
    Answers (.coreResume n) s fun t =>
    t.sec.run = i ∧ t.sec.st = 2 ∧ t.sec.paused = false ∧ t.sec.swap = none ∧ t.sec.pauses = s.sec.pauses + 1 ∧
    t.preferred = i ∧ t.sec.half0 = t.sec.half1 ∧ t.raised P.SEC 13 = true ∧
    Frame [] [P.SEC] [.now, .sec, .attn, .out, .hlk] s t)
end

