-- ==== Sys2Proof/Laws/Tab.lean ====
section
/-! SUPPORT. Laws of the sparse tables: what a lookup gives after a write, and that every operation keeps the keys
rising. -/

namespace Sys2Proof.Laws

open Sys2Proof.Machine

variable {α : Type}

@[simp] theorem find_ins_same (l : List (Nat × α)) (a : Nat) (x : α) : tabFind (tabIns l a x) a = some x := by
  induction l with
  | nil => simp [tabIns, tabFind]
  | cons e l ih =>
    obtain ⟨k, v⟩ := e
    unfold tabIns
    split
    · simp [tabFind]
    · split
      · simp [tabFind]
      · rename_i h1 h2
        simp [tabFind, ih, Ne.symm h2]

theorem find_ins_other (l : List (Nat × α)) (a b : Nat) (x : α) (h : b ≠ a) :
    tabFind (tabIns l a x) b = tabFind l b := by
  induction l with
  | nil => simp [tabIns, tabFind, Ne.symm h]
  | cons e l ih =>
    obtain ⟨k, v⟩ := e
    unfold tabIns
    split
    · simp [tabFind, Ne.symm h]
    · split
      · rename_i h1 h2
        subst h2
        simp [tabFind, Ne.symm h]
      · simp only [tabFind, ih]

@[simp] theorem find_erase_same (l : List (Nat × α)) (a : Nat) : tabFind (tabErase l a) a = none := by
  induction l with
  | nil => simp [tabErase, tabFind]
  | cons e l ih =>
    obtain ⟨k, v⟩ := e
    unfold tabErase
    split
    · exact ih
    · rename_i h
      simp [tabFind, h, ih]

theorem find_erase_other (l : List (Nat × α)) (a b : Nat) (h : b ≠ a) : tabFind (tabErase l a) b = tabFind l b := by
  induction l with
  | nil => simp [tabErase]
  | cons e l ih =>
    obtain ⟨k, v⟩ := e
    unfold tabErase
    split
    · rename_i hk
      subst hk
      simp [tabFind, Ne.symm h, ih]
    · simp only [tabFind, ih]

/-- A lookup after a write gives the value written. -/
@[simp] theorem get_put_same [DecidableEq α] (d : α) (l : List (Nat × α)) (a : Nat) (x : α) :
    tabGet d (tabPut d l a x) a = x := by
  by_cases h : x = d <;> simp [tabPut, tabGet, h]

/-- Whatever the default used at the write, the value of a key that is not the default's is the value written. -/
theorem get_put_other [DecidableEq α] (d d' : α) (l : List (Nat × α)) (a b : Nat) (x : α) (h : b ≠ a) :
    tabGet d' (tabPut d l a x) b = tabGet d' l b := by
  by_cases hx : x = d <;> simp [tabPut, tabGet, hx, find_ins_other, find_erase_other, h]

@[simp] theorem get_ins_same (d : α) (l : List (Nat × α)) (a : Nat) (x : α) : tabGet d (tabIns l a x) a = x := by
  simp [tabGet]

theorem get_ins_other (d : α) (l : List (Nat × α)) (a b : Nat) (x : α) (h : b ≠ a) :
    tabGet d (tabIns l a x) b = tabGet d l b := by
  simp [tabGet, find_ins_other, h]

/-! ## The keys rise -/

theorem sorted_cons (k : Nat) (v : α) (l : List (Nat × α)) :
    tabSorted ((k, v) :: l) = true ↔ (∀ e ∈ l, k < e.1) ∧ tabSorted l = true := by
  induction l generalizing k v with
  | nil => simp [tabSorted]
  | cons e l ih =>
    obtain ⟨k', v'⟩ := e
    simp only [tabSorted, Bool.and_eq_true, decide_eq_true_eq, ih, List.mem_cons, forall_eq_or_imp]
    constructor
    · rintro ⟨h, h1, h2⟩
      exact ⟨⟨h, fun e he => Nat.lt_trans h (h1 e he)⟩, h1, h2⟩
    · rintro ⟨⟨h, h1⟩, h2, h3⟩
      exact ⟨h, h2, h3⟩

theorem mem_ins (l : List (Nat × α)) (a : Nat) (x : α) (e : Nat × α) (h : e ∈ tabIns l a x) : e = (a, x) ∨ e ∈ l := by
  induction l with
  | nil => simpa [tabIns] using h
  | cons f l ih =>
    obtain ⟨k, v⟩ := f
    unfold tabIns at h
    split at h
    · rcases List.mem_cons.1 h with h | h
      · exact .inl h
      · exact .inr h
    · split at h
      · rcases List.mem_cons.1 h with h | h
        · exact .inl h
        · exact .inr (List.mem_cons_of_mem _ h)
      · rcases List.mem_cons.1 h with h | h
        · exact .inr (by simp [h])
        · rcases ih h with h | h
          · exact .inl h
          · exact .inr (List.mem_cons_of_mem _ h)

theorem mem_erase (l : List (Nat × α)) (a : Nat) (e : Nat × α) (h : e ∈ tabErase l a) : e ∈ l := by
  induction l with
  | nil => simp [tabErase] at h
  | cons f l ih =>
    obtain ⟨k, v⟩ := f
    unfold tabErase at h
    split at h
    · exact List.mem_cons_of_mem _ (ih h)
    · rcases List.mem_cons.1 h with h | h
      · simp [h]
      · exact List.mem_cons_of_mem _ (ih h)

theorem sorted_ins (l : List (Nat × α)) (a : Nat) (x : α) (h : tabSorted l = true) : tabSorted (tabIns l a x) = true := by
  induction l with
  | nil => simp [tabIns, tabSorted]
  | cons e l ih =>
    obtain ⟨k, v⟩ := e
    have hs := (sorted_cons k v l).1 h
    unfold tabIns
    split
    · rename_i hk
      refine (sorted_cons _ _ _).2 ⟨?_, h⟩
      intro e he
      rcases List.mem_cons.1 he with he | he
      · simp [he, hk]
      · exact Nat.lt_trans hk (hs.1 e he)
    · split
      · rename_i h1 h2
        exact (sorted_cons _ _ _).2 ⟨by simpa [h2] using hs.1, hs.2⟩
      · rename_i h1 h2
        refine (sorted_cons _ _ _).2 ⟨?_, ih hs.2⟩
        intro e he
        rcases mem_ins l a x e he with he | he
        · subst he
          exact Nat.lt_of_le_of_ne (Nat.le_of_not_lt h1) (Ne.symm h2)
        · exact hs.1 e he

theorem sorted_erase (l : List (Nat × α)) (a : Nat) (h : tabSorted l = true) : tabSorted (tabErase l a) = true := by
  induction l with
  | nil => simp [tabErase, tabSorted]
  | cons e l ih =>
    obtain ⟨k, v⟩ := e
    have hs := (sorted_cons k v l).1 h
    unfold tabErase
    split
    · exact ih hs.2
    · exact (sorted_cons _ _ _).2 ⟨fun e he => hs.1 e (mem_erase l a e he), ih hs.2⟩

theorem sorted_put [DecidableEq α] (d : α) (l : List (Nat × α)) (a : Nat) (x : α) (h : tabSorted l = true) :
    tabSorted (tabPut d l a x) = true := by
  unfold tabPut
  split
  · exact sorted_erase l a h
  · exact sorted_ins l a x h

theorem mem_keep (p : Nat → Bool) (l : List (Nat × α)) (e : Nat × α) (h : e ∈ tabKeep p l) : e ∈ l := by
  induction l with
  | nil => simp [tabKeep] at h
  | cons f l ih =>
    obtain ⟨k, v⟩ := f
    unfold tabKeep at h
    split at h
    · rcases List.mem_cons.1 h with h | h
      · simp [h]
      · exact List.mem_cons_of_mem _ (ih h)
    · exact List.mem_cons_of_mem _ (ih h)

theorem sorted_keep (p : Nat → Bool) (l : List (Nat × α)) (h : tabSorted l = true) : tabSorted (tabKeep p l) = true := by
  induction l with
  | nil => simp [tabKeep, tabSorted]
  | cons e l ih =>
    obtain ⟨k, v⟩ := e
    have hs := (sorted_cons k v l).1 h
    unfold tabKeep
    split
    · exact (sorted_cons _ _ _).2 ⟨fun e he => hs.1 e (mem_keep p l e he), ih hs.2⟩
    · exact ih hs.2

end Sys2Proof.Laws
end

