-- ==== Sys2Proof/Laws/CopyBank.lean ====
section
/-! SUPPORT. The copy of one flat bank into the other (R219) keeps the table memory in canonical form. -/

namespace Sys2Proof.Laws

open Sys2Proof.Machine

variable {α : Type}

theorem sorted_filter (p : Nat × α → Bool) (l : List (Nat × α)) (h : tabSorted l = true) : tabSorted (l.filter p) = true := by
  induction l with
  | nil => exact h
  | cons e l ih =>
    obtain ⟨k, v⟩ := e
    have hs := (sorted_cons k v l).1 h
    rw [List.filter_cons]
    split
    · exact (sorted_cons _ _ _).2 ⟨fun e he => hs.1 e (List.mem_filter.1 he).1, ih hs.2⟩
    · exact ih hs.2

theorem sorted_append (l m : List (Nat × α)) (hl : tabSorted l = true) (hm : tabSorted m = true)
    (h : ∀ x ∈ l, ∀ y ∈ m, x.1 < y.1) : tabSorted (l ++ m) = true := by
  induction l with
  | nil => exact hm
  | cons e l ih =>
    obtain ⟨k, v⟩ := e
    have hs := (sorted_cons k v l).1 hl
    refine (sorted_cons _ _ _).2 ⟨?_, ih hs.2 (fun x hx => h x (List.mem_cons_of_mem _ hx))⟩
    intro e he
    rcases List.mem_append.1 he with he | he
    · exact hs.1 e he
    · exact h (k, v) (by simp) e he

theorem sorted_shift (f : Nat → Nat) (l : List (Nat × α)) (hl : tabSorted l = true)
    (hf : ∀ x ∈ l, ∀ y ∈ l, x.1 < y.1 → f x.1 < f y.1) : tabSorted (l.map (fun c => (f c.1, c.2))) = true := by
  induction l with
  | nil => exact hl
  | cons e l ih =>
    obtain ⟨k, v⟩ := e
    have hs := (sorted_cons k v l).1 hl
    refine (sorted_cons _ _ _).2 ⟨?_, ih hs.2 (fun x hx y hy => hf x (List.mem_cons_of_mem _ hx) y (List.mem_cons_of_mem _ hy))⟩
    intro e he
    obtain ⟨c, hc, rfl⟩ := List.mem_map.1 he
    exact hf (k, v) (by simp) c (List.mem_cons_of_mem _ hc) (hs.1 c hc)

theorem tabByte_bank (a : Nat) (h : a < flatB) : tabByte (a + flatB) = tabByte a := by
  unfold flatB at h ⊢
  unfold tabByte
  have h1 : a + 0x1400000 < 0x2800000 := by omega
  have h2 : a < 0x2800000 := by omega
  have e : (a + 0x1400000) % 8 = a % 8 := by omega
  simp only [h1, h2, if_true, e]

theorem copyBank_wf (m : List Host.Cell) (k : Nat) (h : Memory.wf m = true) : Memory.wf (copyBank m k) = true := by
  simp only [Memory.wf, Bool.and_eq_true, List.all_eq_true] at h ⊢
  obtain ⟨hs, hd⟩ := h
  have lo : ∀ c ∈ m.filter (fun c => c.1 < flatB), c.1 < flatB := fun c hc => by
    simpa using (List.mem_filter.1 hc).2
  have mi : ∀ c ∈ m.filter (fun c => flatB ≤ c.1 && c.1 < 0x2800000), flatB ≤ c.1 ∧ c.1 < 0x2800000 := fun c hc => by
    simpa using (List.mem_filter.1 hc).2
  have hi : ∀ c ∈ m.filter (fun c => 0x2800000 ≤ c.1), 0x2800000 ≤ c.1 := fun c hc => by
    simpa using (List.mem_filter.1 hc).2
  have fb : flatB = 0x1400000 := rfl
  unfold copyBank
  dsimp only
  split
  · refine ⟨sorted_append _ _ (sorted_append _ _ (sorted_filter _ _ hs) (sorted_shift (· + flatB) _ (sorted_filter _ _ hs) ?_) ?_)
      (sorted_filter _ _ hs) ?_, ?_⟩
    · intro x _ y _ hxy
      show x.1 + flatB < y.1 + flatB
      omega
    · intro x hx y hy
      obtain ⟨c, hc, rfl⟩ := List.mem_map.1 hy
      have := lo x hx
      show x.1 < c.1 + flatB
      omega
    · intro x hx y hy
      have := hi y hy
      rcases List.mem_append.1 hx with hx | hx
      · have := lo x hx
        omega
      · obtain ⟨c, hc, rfl⟩ := List.mem_map.1 hx
        have := lo c hc
        show c.1 + flatB < y.1
        omega
    · intro c hc
      rcases List.mem_append.1 hc with hc | hc
      · rcases List.mem_append.1 hc with hc | hc
        · exact hd c (List.mem_filter.1 hc).1
        · obtain ⟨e, he, rfl⟩ := List.mem_map.1 hc
          show (e.2 != tabByte (e.1 + flatB)) = true
          rw [tabByte_bank _ (lo e he)]
          exact hd e (List.mem_filter.1 he).1
      · exact hd c (List.mem_filter.1 hc).1
  · refine ⟨sorted_append _ _ (sorted_append _ _ (sorted_shift (· - flatB) _ (sorted_filter _ _ hs) ?_) (sorted_filter _ _ hs) ?_)
      (sorted_filter _ _ hs) ?_, ?_⟩
    · intro x hx y hy hxy
      have := mi x hx
      have := mi y hy
      show x.1 - flatB < y.1 - flatB
      omega
    · intro x hx y hy
      obtain ⟨c, hc, rfl⟩ := List.mem_map.1 hx
      have := mi c hc
      have := mi y hy
      show c.1 - flatB < y.1
      omega
    · intro x hx y hy
      have := hi y hy
      rcases List.mem_append.1 hx with hx | hx
      · obtain ⟨c, hc, rfl⟩ := List.mem_map.1 hx
        have := mi c hc
        show c.1 - flatB < y.1
        omega
      · have := mi x hx
        omega
    · intro c hc
      rcases List.mem_append.1 hc with hc | hc
      · rcases List.mem_append.1 hc with hc | hc
        · obtain ⟨e, he, rfl⟩ := List.mem_map.1 hc
          have h1 := mi e he
          have h2 := tabByte_bank (e.1 - flatB) (by omega)
          rw [Nat.sub_add_cancel h1.1] at h2
          show (e.2 != tabByte (e.1 - flatB)) = true
          rw [← h2]
          exact hd e (List.mem_filter.1 he).1
        · exact hd c (List.mem_filter.1 hc).1
      · exact hd c (List.mem_filter.1 hc).1

end Sys2Proof.Laws
end

