-- ==== Sys2Proof/Laws/Exec.lean ====
section
/-! SUPPORT. What each arm of exec calls, one lemma per command. -/

namespace Sys2Proof.Laws

open Sys2Proof.Machine

variable {s : State}

@[simp] theorem exec_registerWrite (a : Nat) (w : Word) : exec (.registerWrite a w) s = execRegisterWrite a w s := rfl
@[simp] theorem exec_pendingApplyIdle (page : Nat) : exec (.pendingApplyIdle page) s = execPendingApplyIdle page s := rfl
@[simp] theorem exec_pcommitGo (page : Nat) : exec (.pcommitGo page) s = execPcommitGo page s := rfl
@[simp] theorem exec_pkeyWrite (page : Nat) (key : Word) : exec (.pkeyWrite page key) s = execPkeyWrite page key s := rfl
@[simp] theorem exec_plockLock (page : Nat) : exec (.plockLock page) s = execPlockLock page s := rfl
@[simp] theorem exec_pageSoftReset (page : Nat) : exec (.pageSoftReset page) s = execPageSoftReset page s := rfl
@[simp] theorem exec_softResetDone (page : Nat) : exec (.softResetDone page) s = execSoftResetDone page s := rfl
@[simp] theorem exec_expertSet (page : Nat) : exec (.expertSet page) s = execExpertSet page s := rfl
@[simp] theorem exec_expertClear (page : Nat) : exec (.expertClear page) s = execExpertClear page s := rfl
@[simp] theorem exec_profileDerive (t : Nat) : exec (.profileDerive t) s = execProfileDerive t s := rfl
@[simp] theorem exec_globalSoftReset : exec .globalSoftReset s = execGlobalSoftReset s := rfl
@[simp] theorem exec_tableWrite (a : Nat) (wide : Bool) (v : Nat) : exec (.tableWrite a wide v) s = execTableWrite a wide v s := rfl
@[simp] theorem exec_tableRead (a : Nat) (wide : Bool) (u : List Upset) : exec (.tableRead a wide u) s = execTableRead a wide u s := rfl
@[simp] theorem exec_lineTrigger (t : Nat) : exec (.lineTrigger t) s = execLineTrigger t s := rfl
@[simp] theorem exec_lineStart (t : Nat) : exec (.lineStart t) s = execLineStart t s := rfl
@[simp] theorem exec_slotBoundary : exec .slotBoundary s = execSlotBoundary s := rfl
@[simp] theorem exec_lineTimerExpiry : exec .lineTimerExpiry s = execLineTimerExpiry s := rfl
@[simp] theorem exec_pclkLock (t : Nat) : exec (.pclkLock t) s = execPclkLock t s := rfl
@[simp] theorem exec_pclkUnlock (t : Nat) : exec (.pclkUnlock t) s = execPclkUnlock t s := rfl
@[simp] theorem exec_diagStrobeEnd : exec .diagStrobeEnd s = execDiagStrobeEnd s := rfl
@[simp] theorem exec_conversion (c : Nat) (x : ConvIn) : exec (.conversion c x) s = execConversion c x s := rfl
@[simp] theorem exec_wireCheck (c : Nat) (x : WireIn) : exec (.wireCheck c x) s = execWireCheck c x s := rfl
@[simp] theorem exec_coresSettled (t : Nat) : exec (.coresSettled t) s = execCoresSettled t s := rfl
@[simp] theorem exec_fabricWord (c : Nat) (u : List Upset) : exec (.fabricWord c u) s = execFabricWord c u s := rfl
@[simp] theorem exec_readoutRelease (g : Nat) (t : Nat) : exec (.readoutRelease g t) s = execReadoutRelease g t s := rfl
@[simp] theorem exec_recordPass (stream : Nat) (t : Nat) : exec (.recordPass stream t) s = execRecordPass stream t s := rfl
@[simp] theorem exec_scrubRead (u : List Upset) : exec (.scrubRead u) s = execScrubRead u s := rfl
@[simp] theorem exec_calCopyDone (t : Nat) : exec (.calCopyDone t) s = execCalCopyDone t s := rfl
@[simp] theorem exec_calRunDone (t : Nat) : exec (.calRunDone t) s = execCalRunDone t s := rfl
@[simp] theorem exec_lampEnable : exec .lampEnable s = execLampEnable s := rfl
@[simp] theorem exec_lampDisable : exec .lampDisable s = execLampDisable s := rfl
@[simp] theorem exec_fadeTick (t : Nat) : exec (.fadeTick t) s = execFadeTick t s := rfl
@[simp] theorem exec_strobeStart (pulse : Nat) (col : Option Nat) : exec (.strobeStart pulse col) s = execStrobeStart pulse col s := rfl
@[simp] theorem exec_strobeEnd (c : Nat) : exec (.strobeEnd c) s = execStrobeEnd c s := rfl
@[simp] theorem exec_holdCycle (t : Nat) (offsets : List (Nat × Int)) : exec (.holdCycle t offsets) s = execHoldCycle t offsets s := rfl
@[simp] theorem exec_regulatorVerdict (k : Nat) (c : Nat) (short : Bool) (t : Nat) : exec (.regulatorVerdict k c short t) s = execRegulatorVerdict k c short t s := rfl
@[simp] theorem exec_columnFault (c : Nat) (t : Nat) : exec (.columnFault c t) s = execColumnFault c t s := rfl
@[simp] theorem exec_lampVerdictClear (c : Nat) (w : Word) : exec (.lampVerdictClear c w) s = execLampVerdictClear c w s := rfl
@[simp] theorem exec_columnReen (c : Nat) : exec (.columnReen c) s = execColumnReen c s := rfl
@[simp] theorem exec_columnRecovered (c : Nat) : exec (.columnRecovered c) s = execColumnRecovered c s := rfl
@[simp] theorem exec_hdrmClear (c : Nat) : exec (.hdrmClear c) s = execHdrmClear c s := rfl
@[simp] theorem exec_ilkFall (x : IlkIn) : exec (.ilkFall x) s = execIlkFall x s := rfl
@[simp] theorem exec_ilkLatchClear (pin : Bool) : exec (.ilkLatchClear pin) s = execIlkLatchClear pin s := rfl
@[simp] theorem exec_rowEnable (k : Nat) : exec (.rowEnable k) s = execRowEnable k s := rfl
@[simp] theorem exec_safeRowMark (k : Nat) (uv : Bool) : exec (.safeRowMark k uv) s = execSafeRowMark k uv s := rfl
@[simp] theorem exec_strobeMeasure (x : List MeasIn) (t : Nat) : exec (.strobeMeasure x t) s = execStrobeMeasure x t s := rfl
@[simp] theorem exec_baselineInterval (t : Nat) : exec (.baselineInterval t) s = execBaselineInterval t s := rfl
@[simp] theorem exec_lampSelect (w : Word) : exec (.lampSelect w) s = execLampSelect w s := rfl
@[simp] theorem exec_hkEntryDone (x : HkIn) (t : Nat) : exec (.hkEntryDone x t) s = execHkEntryDone x t s := rfl
@[simp] theorem exec_urgentRequest (w : Word) (task : Bool) : exec (.urgentRequest w task) s = execUrgentRequest w task s := rfl
@[simp] theorem exec_urgentDone (x : HkIn) (t : Nat) : exec (.urgentDone x t) s = execUrgentDone x t s := rfl
@[simp] theorem exec_hkStale (n : Nat) (t : Nat) : exec (.hkStale n t) s = execHkStale n t s := rfl
@[simp] theorem exec_rotationStepStart (t : Nat) : exec (.rotationStepStart t) s = execRotationStepStart t s := rfl
@[simp] theorem exec_idleSweep (t : Nat) : exec (.idleSweep t) s = execIdleSweep t s := rfl
@[simp] theorem exec_colReqLamp : exec .colReqLamp s = execColReqLamp s := rfl
@[simp] theorem exec_colReqFlux : exec .colReqFlux s = execColReqFlux s := rfl
@[simp] theorem exec_colReqDark : exec .colReqDark s = execColReqDark s := rfl
@[simp] theorem exec_colReqWhite : exec .colReqWhite s = execColReqWhite s := rfl
@[simp] theorem exec_colReqRotrst : exec .colReqRotrst s = execColReqRotrst s := rfl
@[simp] theorem exec_colDisable (reg : Nat) (w : Word) : exec (.colDisable reg w) s = execColDisable reg w s := rfl
@[simp] theorem exec_lampRunDone (t : Nat) : exec (.lampRunDone t) s = execLampRunDone t s := rfl
@[simp] theorem exec_calPeriodExpiry (t : Nat) : exec (.calPeriodExpiry t) s = execCalPeriodExpiry t s := rfl
@[simp] theorem exec_whitePeriodExpiry (t : Nat) : exec (.whitePeriodExpiry t) s = execWhitePeriodExpiry t s := rfl
@[simp] theorem exec_sigmaSelect (w : Word) : exec (.sigmaSelect w) s = execSigmaSelect w s := rfl
@[simp] theorem exec_slackMeasure (l : List Nat) (t : Nat) : exec (.slackMeasure l t) s = execSlackMeasure l t s := rfl
@[simp] theorem exec_clockStep (t : Nat) : exec (.clockStep t) s = execClockStep t s := rfl
@[simp] theorem exec_voltageStep (ack : Bool) (t : Nat) : exec (.voltageStep ack t) s = execVoltageStep ack t s := rfl
@[simp] theorem exec_marginProjection (t : Nat) : exec (.marginProjection t) s = execMarginProjection t s := rfl
@[simp] theorem exec_historySave (t : Nat) : exec (.historySave t) s = execHistorySave t s := rfl
@[simp] theorem exec_lineComplete (line : Nat) (t : Nat) : exec (.lineComplete line t) s = execLineComplete line t s := rfl
@[simp] theorem exec_streakScanStart (t : Nat) : exec (.streakScanStart t) s = execStreakScanStart t s := rfl
@[simp] theorem exec_streakScanDone (t : Nat) : exec (.streakScanDone t) s = execStreakScanDone t s := rfl
@[simp] theorem exec_movePush (x : Nat) (w : Word) : exec (.movePush x w) s = execMovePush x w s := rfl
@[simp] theorem exec_profileTick (t : Nat) : exec (.profileTick t) s = execProfileTick t s := rfl
@[simp] theorem exec_controlledStop (x : Nat) : exec (.controlledStop x) s = execControlledStop x s := rfl
@[simp] theorem exec_immediateStop (x : Nat) : exec (.immediateStop x) s = execImmediateStop x s := rfl
@[simp] theorem exec_queueFlush (x : Nat) : exec (.queueFlush x) s = execQueueFlush x s := rfl
@[simp] theorem exec_groupCstop (g : Nat) : exec (.groupCstop g) s = execGroupCstop g s := rfl
@[simp] theorem exec_groupIstop (g : Nat) : exec (.groupIstop g) s = execGroupIstop g s := rfl
@[simp] theorem exec_chopperSwitch (x : Nat) (b : Bool) (sense : Nat) (mean : Int) (t : Nat) : exec (.chopperSwitch x b sense mean t) s = execChopperSwitch x b sense mean t s := rfl
@[simp] theorem exec_chopperOffTimeEnd (x : Nat) (b : Bool) (sense : Nat) (mean : Int) (t : Nat) : exec (.chopperOffTimeEnd x b sense mean t) s = execChopperOffTimeEnd x b sense mean t s := rfl
@[simp] theorem exec_holdDelayExpiry (x : Nat) (t : Nat) : exec (.holdDelayExpiry x t) s = execHoldDelayExpiry x t s := rfl
@[simp] theorem exec_wakeDelayExpiry (x : Nat) (t : Nat) : exec (.wakeDelayExpiry x t) s = execWakeDelayExpiry x t s := rfl
@[simp] theorem exec_overcurrent (x : OcIn) (t : Nat) : exec (.overcurrent x t) s = execOvercurrent x t s := rfl
@[simp] theorem exec_encoderEdge (src : EncIn) (a : Bool) (b : Bool) (t : Nat) : exec (.encoderEdge src a b t) s = execEncoderEdge src a b t s := rfl
@[simp] theorem exec_stall (x : Nat) (t : Nat) : exec (.stall x t) s = execStall x t s := rfl
@[simp] theorem exec_homeEvent (x : EncIn) (t : Nat) : exec (.homeEvent x t) s = execHomeEvent x t s := rfl
@[simp] theorem exec_sscArm : exec .sscArm s = execSscArm s := rfl
@[simp] theorem exec_admission (t : Nat) : exec (.admission t) s = execAdmission t s := rfl
@[simp] theorem exec_sscStart : exec .sscStart s = execSscStart s := rfl
@[simp] theorem exec_sscEnd : exec .sscEnd s = execSscEnd s := rfl
@[simp] theorem exec_sscAbort : exec .sscAbort s = execSscAbort s := rfl
@[simp] theorem exec_sscResume : exec .sscResume s = execSscResume s := rfl
@[simp] theorem exec_jobStopped (t : Nat) : exec (.jobStopped t) s = execJobStopped t s := rfl
@[simp] theorem exec_trackingPause (t : Nat) : exec (.trackingPause t) s = execTrackingPause t s := rfl
@[simp] theorem exec_backupDone (t : Nat) : exec (.backupDone t) s = execBackupDone t s := rfl
@[simp] theorem exec_restartBegin (t : Nat) : exec (.restartBegin t) s = execRestartBegin t s := rfl
@[simp] theorem exec_jobIdle (t : Nat) : exec (.jobIdle t) s = execJobIdle t s := rfl
@[simp] theorem exec_storeDrained (t : Nat) : exec (.storeDrained t) s = execStoreDrained t s := rfl
@[simp] theorem exec_descriptorFetch (ch : Nat) (b : List Byte) (t : Nat) : exec (.descriptorFetch ch b t) s = execDescriptorFetch ch b t s := rfl
@[simp] theorem exec_tokenRefill (u : List StoreHit) (t : Nat) : exec (.tokenRefill u t) s = execTokenRefill u t s := rfl
@[simp] theorem exec_descriptorDone (ch : Nat) (t : Nat) : exec (.descriptorDone ch t) s = execDescriptorDone ch t s := rfl
@[simp] theorem exec_readCompletion (ch : Nat) (ok : Bool) (b : List Byte) (t : Nat) : exec (.readCompletion ch ok b t) s = execReadCompletion ch ok b t s := rfl
@[simp] theorem exec_readTimeout (ch : Nat) (t : Nat) : exec (.readTimeout ch t) s = execReadTimeout ch t s := rfl
@[simp] theorem exec_dmaKick (ch : Nat) : exec (.dmaKick ch) s = execDmaKick ch s := rfl
@[simp] theorem exec_dmaNextWrite (ch : Nat) (a : Nat) : exec (.dmaNextWrite ch a) s = execDmaNextWrite ch a s := rfl
@[simp] theorem exec_dmaPoll (ch : Nat) (t : Nat) : exec (.dmaPoll ch t) s = execDmaPoll ch t s := rfl
@[simp] theorem exec_rrpWrite (ch : Nat) (w : Word) : exec (.rrpWrite ch w) s = execRrpWrite ch w s := rfl
@[simp] theorem exec_cqRiWrite (q : Nat) (w : Word) : exec (.cqRiWrite q w) s = execCqRiWrite q w s := rfl
@[simp] theorem exec_dmaDisable (ch : Nat) (t : Nat) : exec (.dmaDisable ch t) s = execDmaDisable ch t s := rfl
@[simp] theorem exec_dmaEnable (ch : Nat) (t : Nat) : exec (.dmaEnable ch t) s = execDmaEnable ch t s := rfl
@[simp] theorem exec_msixUnmask (v : Nat) : exec (.msixUnmask v) s = execMsixUnmask v s := rfl
@[simp] theorem exec_pcieBar0Request (write : Bool) (a : Nat) (be : List Nat) (data : List Word) (t : Nat) : exec (.pcieBar0Request write a be data t) s = execPcieBar0Request write a be data t s := rfl
@[simp] theorem exec_pcieBar2Request (write : Bool) (a : Nat) (be : List Nat) (data : List Word) (u : List Upset) (t : Nat) : exec (.pcieBar2Request write a be data u t) s = execPcieBar2Request write a be data u t s := rfl
@[simp] theorem exec_pcieRxError (kind : Nat) (posted : Bool) (t : Nat) : exec (.pcieRxError kind posted t) s = execPcieRxError kind posted t s := rfl
@[simp] theorem exec_dlDown (t : Nat) : exec (.dlDown t) s = execDlDown t s := rfl
@[simp] theorem exec_linkUp (speed : Nat) (width : Nat) (t : Nat) : exec (.linkUp speed width t) s = execLinkUp speed width t s := rfl
@[simp] theorem exec_spiRead (frame : List Byte) (late : Bool) (t : Nat) : exec (.spiRead frame late t) s = execSpiRead frame late t s := rfl
@[simp] theorem exec_spiWrite (frame : List Byte) (late : Bool) (t : Nat) : exec (.spiWrite frame late t) s = execSpiWrite frame late t s := rfl
@[simp] theorem exec_spiNoAccess (frame : List Byte) (late : Bool) (t : Nat) : exec (.spiNoAccess frame late t) s = execSpiNoAccess frame late t s := rfl
@[simp] theorem exec_spiShortFrame (bytes : Nat) : exec (.spiShortFrame bytes) s = execSpiShortFrame bytes s := rfl
@[simp] theorem exec_wlockWrite (link : Nat) (w : Word) : exec (.wlockWrite link w) s = execWlockWrite link w s := rfl
@[simp] theorem exec_eventPublish (p : Nat) (t : Nat) : exec (.eventPublish p t) s = execEventPublish p t s := rfl
@[simp] theorem exec_runawayWindow (t : Nat) : exec (.runawayWindow t) s = execRunawayWindow t s := rfl
@[simp] theorem exec_eviEdge (k : Nat) (level : Bool) (t : Nat) : exec (.eviEdge k level t) s = execEviEdge k level t s := rfl
@[simp] theorem exec_lutInputChange (ended : List Nat) (t : Nat) : exec (.lutInputChange ended t) s = execLutInputChange ended t s := rfl
@[simp] theorem exec_lutFilterExpiry (n : Nat) (t : Nat) : exec (.lutFilterExpiry n t) s = execLutFilterExpiry n t s := rfl
@[simp] theorem exec_evoPulseEnd (k : Nat) (t : Nat) : exec (.evoPulseEnd k t) s = execEvoPulseEnd k t s := rfl
@[simp] theorem exec_softwarePulse (w : Word) : exec (.softwarePulse w) s = execSoftwarePulse w s := rfl
@[simp] theorem exec_runawayUnmask (c : Nat) : exec (.runawayUnmask c) s = execRunawayUnmask c s := rfl
@[simp] theorem exec_channelLock (c : Nat) : exec (.channelLock c) s = execChannelLock c s := rfl
@[simp] theorem exec_cellLock (n : Nat) : exec (.cellLock n) s = execCellLock n s := rfl
@[simp] theorem exec_tsloadWrite (v : Nat) : exec (.tsloadWrite v) s = execTsloadWrite v s := rfl
@[simp] theorem exec_lineCounterWrite (v : Nat) : exec (.lineCounterWrite v) s = execLineCounterWrite v s := rfl
@[simp] theorem exec_deadlineExpiry (line : Nat) (t : Nat) : exec (.deadlineExpiry line t) s = execDeadlineExpiry line t s := rfl
@[simp] theorem exec_faultRaise (code : Nat) (item : Nat) (t : Nat) : exec (.faultRaise code item t) s = execFaultRaise code item t s := rfl
@[simp] theorem exec_faultAck (w : Word) : exec (.faultAck w) s = execFaultAck w s := rfl
@[simp] theorem exec_logClear : exec .logClear s = execLogClear s := rfl
@[simp] theorem exec_logSelect (w : Word) : exec (.logSelect w) s = execLogSelect w s := rfl
@[simp] theorem exec_safeRequest : exec .safeRequest s = execSafeRequest s := rfl
@[simp] theorem exec_safeClear (hot : Nat) (bad : Nat) : exec (.safeClear hot bad) s = execSafeClear hot bad s := rfl
@[simp] theorem exec_mbxVersion (seq : Nat) : exec (.mbxVersion seq) s = execMbxVersion seq s := rfl
@[simp] theorem exec_mbxPreadmit (seq : Nat) : exec (.mbxPreadmit seq) s = execMbxPreadmit seq s := rfl
@[simp] theorem exec_mbxCorestat (seq : Nat) : exec (.mbxCorestat seq) s = execMbxCorestat seq s := rfl
@[simp] theorem exec_mbxUnknown (seq : Nat) (cmd : Nat) : exec (.mbxUnknown seq cmd) s = execMbxUnknown seq cmd s := rfl
@[simp] theorem exec_mbxReply (t : Nat) : exec (.mbxReply t) s = execMbxReply t s := rfl
@[simp] theorem exec_coreResume (t : Nat) : exec (.coreResume t) s = execCoreResume t s := rfl
@[simp] theorem exec_imageBegin (w : Word) : exec (.imageBegin w) s = execImageBegin w s := rfl
@[simp] theorem exec_flashEraseDone (t : Nat) : exec (.flashEraseDone t) s = execFlashEraseDone t s := rfl
@[simp] theorem exec_imageWord (w : Word) : exec (.imageWord w) s = execImageWord w s := rfl
@[simp] theorem exec_imageVerify (w : Word) : exec (.imageVerify w) s = execImageVerify w s := rfl
@[simp] theorem exec_verifyDone (readOk : Bool) (ack : Bool) (t : Nat) : exec (.verifyDone readOk ack t) s = execVerifyDone readOk ack t s := rfl
@[simp] theorem exec_imageAbort : exec .imageAbort s = execImageAbort s := rfl
@[simp] theorem exec_otpCommit : exec .otpCommit s = execOtpCommit s := rfl
@[simp] theorem exec_firmwareSwap (w : Word) (same : Bool) : exec (.firmwareSwap w same) s = execFirmwareSwap w same s := rfl
@[simp] theorem exec_swapHandover (t : Nat) : exec (.swapHandover t) s = execSwapHandover t s := rfl
@[simp] theorem exec_swapTimeout (t : Nat) : exec (.swapTimeout t) s = execSwapTimeout t s := rfl
@[simp] theorem exec_fieldLock : exec .fieldLock s = execFieldLock s := rfl
@[simp] theorem exec_debugOpen (w : Word) : exec (.debugOpen w) s = execDebugOpen w s := rfl
@[simp] theorem exec_debugClose : exec .debugClose s = execDebugClose s := rfl
@[simp] theorem exec_debugNonce (nonce : List Word) (t : Nat) : exec (.debugNonce nonce t) s = execDebugNonce nonce t s := rfl
@[simp] theorem exec_debugUnlock (t : Nat) : exec (.debugUnlock t) s = execDebugUnlock t s := rfl
@[simp] theorem exec_attest : exec .attest s = execAttest s := rfl
@[simp] theorem exec_attestDone (t : Nat) : exec (.attestDone t) s = execAttestDone t s := rfl
@[simp] theorem exec_reportWordRead : exec .reportWordRead s = execReportWordRead s := rfl
@[simp] theorem exec_powerOnReset : exec .powerOnReset s = execPowerOnReset s := rfl
@[simp] theorem exec_bootStart (straps : Nat) : exec (.bootStart straps) s = execBootStart straps s := rfl
@[simp] theorem exec_storeTrained (gb : Nat) (mts : Nat) (t : Nat) : exec (.storeTrained gb mts t) s = execStoreTrained gb mts t s := rfl
@[simp] theorem exec_bootImageVerified (okA : Bool) (okB : Bool) (ack : Bool) (t : Nat) : exec (.bootImageVerified okA okB ack t) s = execBootImageVerified okA okB ack t s := rfl
@[simp] theorem exec_ready (t : Nat) : exec (.ready t) s = execReady t s := rfl
@[simp] theorem exec_perstFall (t : Nat) : exec (.perstFall t) s = execPerstFall t s := rfl
@[simp] theorem exec_perstRise (t : Nat) : exec (.perstRise t) s = execPerstRise t s := rfl
@[simp] theorem exec_hotReset (t : Nat) : exec (.hotReset t) s = execHotReset t s := rfl
@[simp] theorem exec_standbyRequest : exec .standbyRequest s = execStandbyRequest s := rfl
@[simp] theorem exec_deepSleepRequest : exec .deepSleepRequest s = execDeepSleepRequest s := rfl
@[simp] theorem exec_readyRequest : exec .readyRequest s = execReadyRequest s := rfl
@[simp] theorem exec_sleepEntryStep (t : Nat) : exec (.sleepEntryStep t) s = execSleepEntryStep t s := rfl
@[simp] theorem exec_wakeDone (t : Nat) : exec (.wakeDone t) s = execWakeDone t s := rfl
@[simp] theorem exec_d3hotEntry : exec .d3hotEntry s = execD3hotEntry s := rfl
@[simp] theorem exec_d0Return : exec .d0Return s = execD0Return s := rfl
@[simp] theorem exec_vsensChange (b : Nat) (up : Bool) (t : Nat) : exec (.vsensChange b up t) s = execVsensChange b up t s := rfl
@[simp] theorem exec_refLoss (t : Nat) : exec (.refLoss t) s = execRefLoss t s := rfl
@[simp] theorem exec_refReturn (t : Nat) : exec (.refReturn t) s = execRefReturn t s := rfl
@[simp] theorem exec_supplyOutOfRange (n : Nat) (t : Nat) : exec (.supplyOutOfRange n t) s = execSupplyOutOfRange n t s := rfl
@[simp] theorem exec_dieOvertemp (n : Nat) (t : Nat) : exec (.dieOvertemp n t) s = execDieOvertemp n t s := rfl
@[simp] theorem exec_pmbusPoll (x : PmbIn) (t : Nat) : exec (.pmbusPoll x t) s = execPmbusPoll x t s := rfl
@[simp] theorem exec_voutCheck (x : PmbIn) (t : Nat) : exec (.voutCheck x t) s = execVoutCheck x t s := rfl
@[simp] theorem exec_holdWaitExpiry (t : Nat) : exec (.holdWaitExpiry t) s = execHoldWaitExpiry t s := rfl
@[simp] theorem exec_postedWriteCredits (n : Nat) (t : Nat) : exec (.postedWriteCredits n t) s = execPostedWriteCredits n t s := rfl
@[simp] theorem exec_linkRetrain (speed : Nat) (width : Nat) (t : Nat) : exec (.linkRetrain speed width t) s = execLinkRetrain speed width t s := rfl
@[simp] theorem exec_configRequest (write : Bool) (off : Nat) (w : Word) (t : Nat) : exec (.configRequest write off w t) s = execConfigRequest write off w t s := rfl
@[simp] theorem exec_bufferDrain (n : Nat) (t : Nat) : exec (.bufferDrain n t) s = execBufferDrain n t s := rfl

end Sys2Proof.Laws
end

