-- ==== Sys2Proof/Laws/State.lean ====
section
/-! SUPPORT. One lemma per field per update of State, each true by rfl, so that no proof unfolds a record update. -/

namespace Sys2Proof.Laws

open Sys2Proof.Machine

variable (s : State)

/-! ## State.setReg -/

@[simp] theorem setReg_pending (a : Nat) (w : Word) : (s.setReg a w).pending = s.pending := rfl
@[simp] theorem setReg_now (a : Nat) (w : Word) : (s.setReg a w).now = s.now := rfl
@[simp] theorem setReg_fv (a : Nat) (w : Word) : (s.setReg a w).fv = s.fv := rfl
@[simp] theorem setReg_straps (a : Nat) (w : Word) : (s.setReg a w).straps = s.straps := rfl
@[simp] theorem setReg_regs (a : Nat) (w : Word) : (s.setReg a w).regs = tabPut (regDefault s.straps a) s.regs a w := rfl
@[simp] theorem setReg_pend (a : Nat) (w : Word) : (s.setReg a w).pend = s.pend := rfl
@[simp] theorem setReg_hold64 (a : Nat) (w : Word) : (s.setReg a w).hold64 = s.hold64 := rfl
@[simp] theorem setReg_hdrs (a : Nat) (w : Word) : (s.setReg a w).hdrs = s.hdrs := rfl
@[simp] theorem setReg_bar2 (a : Nat) (w : Word) : (s.setReg a w).bar2 = s.bar2 := rfl
@[simp] theorem setReg_holdTab (a : Nat) (w : Word) : (s.setReg a w).holdTab = s.holdTab := rfl
@[simp] theorem setReg_attnL (a : Nat) (w : Word) : (s.setReg a w).attnL = s.attnL := rfl
@[simp] theorem setReg_flight (a : Nat) (w : Word) : (s.setReg a w).flight = s.flight := rfl
@[simp] theorem setReg_out (a : Nat) (w : Word) : (s.setReg a w).out = s.out := rfl
@[simp] theorem setReg_mer (a : Nat) (w : Word) : (s.setReg a w).mer = s.mer := rfl
@[simp] theorem setReg_lines (a : Nat) (w : Word) : (s.setReg a w).lines = s.lines := rfl
@[simp] theorem setReg_acq (a : Nat) (w : Word) : (s.setReg a w).acq = s.acq := rfl
@[simp] theorem setReg_plt (a : Nat) (w : Word) : (s.setReg a w).plt = s.plt := rfl
@[simp] theorem setReg_fft (a : Nat) (w : Word) : (s.setReg a w).fft = s.fft := rfl
@[simp] theorem setReg_hel (a : Nat) (w : Word) : (s.setReg a w).hel = s.hel := rfl
@[simp] theorem setReg_act (a : Nat) (w : Word) : (s.setReg a w).act = s.act := rfl
@[simp] theorem setReg_hka (a : Nat) (w : Word) : (s.setReg a w).hka = s.hka := rfl
@[simp] theorem setReg_col (a : Nat) (w : Word) : (s.setReg a w).col = s.col := rfl
@[simp] theorem setReg_alm (a : Nat) (w : Word) : (s.setReg a w).alm = s.alm := rfl
@[simp] theorem setReg_pho (a : Nat) (w : Word) : (s.setReg a w).pho = s.pho := rfl
@[simp] theorem setReg_cdr (a : Nat) (w : Word) : (s.setReg a w).cdr = s.cdr := rfl
@[simp] theorem setReg_ssc (a : Nat) (w : Word) : (s.setReg a w).ssc = s.ssc := rfl
@[simp] theorem setReg_est (a : Nat) (w : Word) : (s.setReg a w).est = s.est := rfl
@[simp] theorem setReg_dma (a : Nat) (w : Word) : (s.setReg a w).dma = s.dma := rfl
@[simp] theorem setReg_hlk (a : Nat) (w : Word) : (s.setReg a w).hlk = s.hlk := rfl
@[simp] theorem setReg_evf (a : Nat) (w : Word) : (s.setReg a w).evf = s.evf := rfl
@[simp] theorem setReg_chr (a : Nat) (w : Word) : (s.setReg a w).chr = s.chr := rfl
@[simp] theorem setReg_sec (a : Nat) (w : Word) : (s.setReg a w).sec = s.sec := rfl
@[simp] theorem setReg_pwr (a : Nat) (w : Word) : (s.setReg a w).pwr = s.pwr := rfl

/-! ## State.setFld -/

@[simp] theorem setFld_pending (a : Nat) (f : Fld) (v : Nat) : (s.setFld a f v).pending = s.pending := rfl
@[simp] theorem setFld_now (a : Nat) (f : Fld) (v : Nat) : (s.setFld a f v).now = s.now := rfl
@[simp] theorem setFld_fv (a : Nat) (f : Fld) (v : Nat) : (s.setFld a f v).fv = s.fv := rfl
@[simp] theorem setFld_straps (a : Nat) (f : Fld) (v : Nat) : (s.setFld a f v).straps = s.straps := rfl
@[simp] theorem setFld_pend (a : Nat) (f : Fld) (v : Nat) : (s.setFld a f v).pend = s.pend := rfl
@[simp] theorem setFld_hold64 (a : Nat) (f : Fld) (v : Nat) : (s.setFld a f v).hold64 = s.hold64 := rfl
@[simp] theorem setFld_hdrs (a : Nat) (f : Fld) (v : Nat) : (s.setFld a f v).hdrs = s.hdrs := rfl
@[simp] theorem setFld_bar2 (a : Nat) (f : Fld) (v : Nat) : (s.setFld a f v).bar2 = s.bar2 := rfl
@[simp] theorem setFld_holdTab (a : Nat) (f : Fld) (v : Nat) : (s.setFld a f v).holdTab = s.holdTab := rfl
@[simp] theorem setFld_attnL (a : Nat) (f : Fld) (v : Nat) : (s.setFld a f v).attnL = s.attnL := rfl
@[simp] theorem setFld_flight (a : Nat) (f : Fld) (v : Nat) : (s.setFld a f v).flight = s.flight := rfl
@[simp] theorem setFld_out (a : Nat) (f : Fld) (v : Nat) : (s.setFld a f v).out = s.out := rfl
@[simp] theorem setFld_mer (a : Nat) (f : Fld) (v : Nat) : (s.setFld a f v).mer = s.mer := rfl
@[simp] theorem setFld_lines (a : Nat) (f : Fld) (v : Nat) : (s.setFld a f v).lines = s.lines := rfl
@[simp] theorem setFld_acq (a : Nat) (f : Fld) (v : Nat) : (s.setFld a f v).acq = s.acq := rfl
@[simp] theorem setFld_plt (a : Nat) (f : Fld) (v : Nat) : (s.setFld a f v).plt = s.plt := rfl
@[simp] theorem setFld_fft (a : Nat) (f : Fld) (v : Nat) : (s.setFld a f v).fft = s.fft := rfl
@[simp] theorem setFld_hel (a : Nat) (f : Fld) (v : Nat) : (s.setFld a f v).hel = s.hel := rfl
@[simp] theorem setFld_act (a : Nat) (f : Fld) (v : Nat) : (s.setFld a f v).act = s.act := rfl
@[simp] theorem setFld_hka (a : Nat) (f : Fld) (v : Nat) : (s.setFld a f v).hka = s.hka := rfl
@[simp] theorem setFld_col (a : Nat) (f : Fld) (v : Nat) : (s.setFld a f v).col = s.col := rfl
@[simp] theorem setFld_alm (a : Nat) (f : Fld) (v : Nat) : (s.setFld a f v).alm = s.alm := rfl
@[simp] theorem setFld_pho (a : Nat) (f : Fld) (v : Nat) : (s.setFld a f v).pho = s.pho := rfl
@[simp] theorem setFld_cdr (a : Nat) (f : Fld) (v : Nat) : (s.setFld a f v).cdr = s.cdr := rfl
@[simp] theorem setFld_ssc (a : Nat) (f : Fld) (v : Nat) : (s.setFld a f v).ssc = s.ssc := rfl
@[simp] theorem setFld_est (a : Nat) (f : Fld) (v : Nat) : (s.setFld a f v).est = s.est := rfl
@[simp] theorem setFld_dma (a : Nat) (f : Fld) (v : Nat) : (s.setFld a f v).dma = s.dma := rfl
@[simp] theorem setFld_hlk (a : Nat) (f : Fld) (v : Nat) : (s.setFld a f v).hlk = s.hlk := rfl
@[simp] theorem setFld_evf (a : Nat) (f : Fld) (v : Nat) : (s.setFld a f v).evf = s.evf := rfl
@[simp] theorem setFld_chr (a : Nat) (f : Fld) (v : Nat) : (s.setFld a f v).chr = s.chr := rfl
@[simp] theorem setFld_sec (a : Nat) (f : Fld) (v : Nat) : (s.setFld a f v).sec = s.sec := rfl
@[simp] theorem setFld_pwr (a : Nat) (f : Fld) (v : Nat) : (s.setFld a f v).pwr = s.pwr := rfl

/-! ## State.setFlag -/

@[simp] theorem setFlag_pending (a : Nat) (f : Fld) (b : Bool) : (s.setFlag a f b).pending = s.pending := rfl
@[simp] theorem setFlag_now (a : Nat) (f : Fld) (b : Bool) : (s.setFlag a f b).now = s.now := rfl
@[simp] theorem setFlag_fv (a : Nat) (f : Fld) (b : Bool) : (s.setFlag a f b).fv = s.fv := rfl
@[simp] theorem setFlag_straps (a : Nat) (f : Fld) (b : Bool) : (s.setFlag a f b).straps = s.straps := rfl
@[simp] theorem setFlag_pend (a : Nat) (f : Fld) (b : Bool) : (s.setFlag a f b).pend = s.pend := rfl
@[simp] theorem setFlag_hold64 (a : Nat) (f : Fld) (b : Bool) : (s.setFlag a f b).hold64 = s.hold64 := rfl
@[simp] theorem setFlag_hdrs (a : Nat) (f : Fld) (b : Bool) : (s.setFlag a f b).hdrs = s.hdrs := rfl
@[simp] theorem setFlag_bar2 (a : Nat) (f : Fld) (b : Bool) : (s.setFlag a f b).bar2 = s.bar2 := rfl
@[simp] theorem setFlag_holdTab (a : Nat) (f : Fld) (b : Bool) : (s.setFlag a f b).holdTab = s.holdTab := rfl
@[simp] theorem setFlag_attnL (a : Nat) (f : Fld) (b : Bool) : (s.setFlag a f b).attnL = s.attnL := rfl
@[simp] theorem setFlag_flight (a : Nat) (f : Fld) (b : Bool) : (s.setFlag a f b).flight = s.flight := rfl
@[simp] theorem setFlag_out (a : Nat) (f : Fld) (b : Bool) : (s.setFlag a f b).out = s.out := rfl
@[simp] theorem setFlag_mer (a : Nat) (f : Fld) (b : Bool) : (s.setFlag a f b).mer = s.mer := rfl
@[simp] theorem setFlag_lines (a : Nat) (f : Fld) (b : Bool) : (s.setFlag a f b).lines = s.lines := rfl
@[simp] theorem setFlag_acq (a : Nat) (f : Fld) (b : Bool) : (s.setFlag a f b).acq = s.acq := rfl
@[simp] theorem setFlag_plt (a : Nat) (f : Fld) (b : Bool) : (s.setFlag a f b).plt = s.plt := rfl
@[simp] theorem setFlag_fft (a : Nat) (f : Fld) (b : Bool) : (s.setFlag a f b).fft = s.fft := rfl
@[simp] theorem setFlag_hel (a : Nat) (f : Fld) (b : Bool) : (s.setFlag a f b).hel = s.hel := rfl
@[simp] theorem setFlag_act (a : Nat) (f : Fld) (b : Bool) : (s.setFlag a f b).act = s.act := rfl
@[simp] theorem setFlag_hka (a : Nat) (f : Fld) (b : Bool) : (s.setFlag a f b).hka = s.hka := rfl
@[simp] theorem setFlag_col (a : Nat) (f : Fld) (b : Bool) : (s.setFlag a f b).col = s.col := rfl
@[simp] theorem setFlag_alm (a : Nat) (f : Fld) (b : Bool) : (s.setFlag a f b).alm = s.alm := rfl
@[simp] theorem setFlag_pho (a : Nat) (f : Fld) (b : Bool) : (s.setFlag a f b).pho = s.pho := rfl
@[simp] theorem setFlag_cdr (a : Nat) (f : Fld) (b : Bool) : (s.setFlag a f b).cdr = s.cdr := rfl
@[simp] theorem setFlag_ssc (a : Nat) (f : Fld) (b : Bool) : (s.setFlag a f b).ssc = s.ssc := rfl
@[simp] theorem setFlag_est (a : Nat) (f : Fld) (b : Bool) : (s.setFlag a f b).est = s.est := rfl
@[simp] theorem setFlag_dma (a : Nat) (f : Fld) (b : Bool) : (s.setFlag a f b).dma = s.dma := rfl
@[simp] theorem setFlag_hlk (a : Nat) (f : Fld) (b : Bool) : (s.setFlag a f b).hlk = s.hlk := rfl
@[simp] theorem setFlag_evf (a : Nat) (f : Fld) (b : Bool) : (s.setFlag a f b).evf = s.evf := rfl
@[simp] theorem setFlag_chr (a : Nat) (f : Fld) (b : Bool) : (s.setFlag a f b).chr = s.chr := rfl
@[simp] theorem setFlag_sec (a : Nat) (f : Fld) (b : Bool) : (s.setFlag a f b).sec = s.sec := rfl
@[simp] theorem setFlag_pwr (a : Nat) (f : Fld) (b : Bool) : (s.setFlag a f b).pwr = s.pwr := rfl

/-! ## State.setHdr -/

@[simp] theorem setHdr_pending (p : Nat) (h : Hdr) : (s.setHdr p h).pending = s.pending := rfl
@[simp] theorem setHdr_now (p : Nat) (h : Hdr) : (s.setHdr p h).now = s.now := rfl
@[simp] theorem setHdr_fv (p : Nat) (h : Hdr) : (s.setHdr p h).fv = s.fv := rfl
@[simp] theorem setHdr_straps (p : Nat) (h : Hdr) : (s.setHdr p h).straps = s.straps := rfl
@[simp] theorem setHdr_regs (p : Nat) (h : Hdr) : (s.setHdr p h).regs = s.regs := rfl
@[simp] theorem setHdr_pend (p : Nat) (h : Hdr) : (s.setHdr p h).pend = s.pend := rfl
@[simp] theorem setHdr_hold64 (p : Nat) (h : Hdr) : (s.setHdr p h).hold64 = s.hold64 := rfl
@[simp] theorem setHdr_hdrs (p : Nat) (h : Hdr) : (s.setHdr p h).hdrs = tabPut {} s.hdrs p h := rfl
@[simp] theorem setHdr_bar2 (p : Nat) (h : Hdr) : (s.setHdr p h).bar2 = s.bar2 := rfl
@[simp] theorem setHdr_holdTab (p : Nat) (h : Hdr) : (s.setHdr p h).holdTab = s.holdTab := rfl
@[simp] theorem setHdr_attnL (p : Nat) (h : Hdr) : (s.setHdr p h).attnL = s.attnL := rfl
@[simp] theorem setHdr_flight (p : Nat) (h : Hdr) : (s.setHdr p h).flight = s.flight := rfl
@[simp] theorem setHdr_out (p : Nat) (h : Hdr) : (s.setHdr p h).out = s.out := rfl
@[simp] theorem setHdr_mer (p : Nat) (h : Hdr) : (s.setHdr p h).mer = s.mer := rfl
@[simp] theorem setHdr_lines (p : Nat) (h : Hdr) : (s.setHdr p h).lines = s.lines := rfl
@[simp] theorem setHdr_acq (p : Nat) (h : Hdr) : (s.setHdr p h).acq = s.acq := rfl
@[simp] theorem setHdr_plt (p : Nat) (h : Hdr) : (s.setHdr p h).plt = s.plt := rfl
@[simp] theorem setHdr_fft (p : Nat) (h : Hdr) : (s.setHdr p h).fft = s.fft := rfl
@[simp] theorem setHdr_hel (p : Nat) (h : Hdr) : (s.setHdr p h).hel = s.hel := rfl
@[simp] theorem setHdr_act (p : Nat) (h : Hdr) : (s.setHdr p h).act = s.act := rfl
@[simp] theorem setHdr_hka (p : Nat) (h : Hdr) : (s.setHdr p h).hka = s.hka := rfl
@[simp] theorem setHdr_col (p : Nat) (h : Hdr) : (s.setHdr p h).col = s.col := rfl
@[simp] theorem setHdr_alm (p : Nat) (h : Hdr) : (s.setHdr p h).alm = s.alm := rfl
@[simp] theorem setHdr_pho (p : Nat) (h : Hdr) : (s.setHdr p h).pho = s.pho := rfl
@[simp] theorem setHdr_cdr (p : Nat) (h : Hdr) : (s.setHdr p h).cdr = s.cdr := rfl
@[simp] theorem setHdr_ssc (p : Nat) (h : Hdr) : (s.setHdr p h).ssc = s.ssc := rfl
@[simp] theorem setHdr_est (p : Nat) (h : Hdr) : (s.setHdr p h).est = s.est := rfl
@[simp] theorem setHdr_dma (p : Nat) (h : Hdr) : (s.setHdr p h).dma = s.dma := rfl
@[simp] theorem setHdr_hlk (p : Nat) (h : Hdr) : (s.setHdr p h).hlk = s.hlk := rfl
@[simp] theorem setHdr_evf (p : Nat) (h : Hdr) : (s.setHdr p h).evf = s.evf := rfl
@[simp] theorem setHdr_chr (p : Nat) (h : Hdr) : (s.setHdr p h).chr = s.chr := rfl
@[simp] theorem setHdr_sec (p : Nat) (h : Hdr) : (s.setHdr p h).sec = s.sec := rfl
@[simp] theorem setHdr_pwr (p : Nat) (h : Hdr) : (s.setHdr p h).pwr = s.pwr := rfl

/-! ## State.setByte -/

@[simp] theorem setByte_pending (a : Nat) (b : Byte) : (s.setByte a b).pending = s.pending := rfl
@[simp] theorem setByte_now (a : Nat) (b : Byte) : (s.setByte a b).now = s.now := rfl
@[simp] theorem setByte_fv (a : Nat) (b : Byte) : (s.setByte a b).fv = s.fv := rfl
@[simp] theorem setByte_straps (a : Nat) (b : Byte) : (s.setByte a b).straps = s.straps := rfl
@[simp] theorem setByte_regs (a : Nat) (b : Byte) : (s.setByte a b).regs = s.regs := rfl
@[simp] theorem setByte_pend (a : Nat) (b : Byte) : (s.setByte a b).pend = s.pend := rfl
@[simp] theorem setByte_hold64 (a : Nat) (b : Byte) : (s.setByte a b).hold64 = s.hold64 := rfl
@[simp] theorem setByte_hdrs (a : Nat) (b : Byte) : (s.setByte a b).hdrs = s.hdrs := rfl
@[simp] theorem setByte_bar2 (a : Nat) (b : Byte) : (s.setByte a b).bar2 = tabPut (tabByte a) s.bar2 a b := rfl
@[simp] theorem setByte_holdTab (a : Nat) (b : Byte) : (s.setByte a b).holdTab = s.holdTab := rfl
@[simp] theorem setByte_attnL (a : Nat) (b : Byte) : (s.setByte a b).attnL = s.attnL := rfl
@[simp] theorem setByte_flight (a : Nat) (b : Byte) : (s.setByte a b).flight = s.flight := rfl
@[simp] theorem setByte_out (a : Nat) (b : Byte) : (s.setByte a b).out = s.out := rfl
@[simp] theorem setByte_mer (a : Nat) (b : Byte) : (s.setByte a b).mer = s.mer := rfl
@[simp] theorem setByte_lines (a : Nat) (b : Byte) : (s.setByte a b).lines = s.lines := rfl
@[simp] theorem setByte_acq (a : Nat) (b : Byte) : (s.setByte a b).acq = s.acq := rfl
@[simp] theorem setByte_plt (a : Nat) (b : Byte) : (s.setByte a b).plt = s.plt := rfl
@[simp] theorem setByte_fft (a : Nat) (b : Byte) : (s.setByte a b).fft = s.fft := rfl
@[simp] theorem setByte_hel (a : Nat) (b : Byte) : (s.setByte a b).hel = s.hel := rfl
@[simp] theorem setByte_act (a : Nat) (b : Byte) : (s.setByte a b).act = s.act := rfl
@[simp] theorem setByte_hka (a : Nat) (b : Byte) : (s.setByte a b).hka = s.hka := rfl
@[simp] theorem setByte_col (a : Nat) (b : Byte) : (s.setByte a b).col = s.col := rfl
@[simp] theorem setByte_alm (a : Nat) (b : Byte) : (s.setByte a b).alm = s.alm := rfl
@[simp] theorem setByte_pho (a : Nat) (b : Byte) : (s.setByte a b).pho = s.pho := rfl
@[simp] theorem setByte_cdr (a : Nat) (b : Byte) : (s.setByte a b).cdr = s.cdr := rfl
@[simp] theorem setByte_ssc (a : Nat) (b : Byte) : (s.setByte a b).ssc = s.ssc := rfl
@[simp] theorem setByte_est (a : Nat) (b : Byte) : (s.setByte a b).est = s.est := rfl
@[simp] theorem setByte_dma (a : Nat) (b : Byte) : (s.setByte a b).dma = s.dma := rfl
@[simp] theorem setByte_hlk (a : Nat) (b : Byte) : (s.setByte a b).hlk = s.hlk := rfl
@[simp] theorem setByte_evf (a : Nat) (b : Byte) : (s.setByte a b).evf = s.evf := rfl
@[simp] theorem setByte_chr (a : Nat) (b : Byte) : (s.setByte a b).chr = s.chr := rfl
@[simp] theorem setByte_sec (a : Nat) (b : Byte) : (s.setByte a b).sec = s.sec := rfl
@[simp] theorem setByte_pwr (a : Nat) (b : Byte) : (s.setByte a b).pwr = s.pwr := rfl

/-! ## State.send -/

@[simp] theorem send_pending (m : Msg) : (s.send m).pending = s.pending := rfl
@[simp] theorem send_now (m : Msg) : (s.send m).now = s.now := rfl
@[simp] theorem send_fv (m : Msg) : (s.send m).fv = s.fv := rfl
@[simp] theorem send_straps (m : Msg) : (s.send m).straps = s.straps := rfl
@[simp] theorem send_regs (m : Msg) : (s.send m).regs = s.regs := rfl
@[simp] theorem send_pend (m : Msg) : (s.send m).pend = s.pend := rfl
@[simp] theorem send_hold64 (m : Msg) : (s.send m).hold64 = s.hold64 := rfl
@[simp] theorem send_hdrs (m : Msg) : (s.send m).hdrs = s.hdrs := rfl
@[simp] theorem send_bar2 (m : Msg) : (s.send m).bar2 = s.bar2 := rfl
@[simp] theorem send_holdTab (m : Msg) : (s.send m).holdTab = s.holdTab := rfl
@[simp] theorem send_attnL (m : Msg) : (s.send m).attnL = s.attnL := rfl
@[simp] theorem send_flight (m : Msg) : (s.send m).flight = s.flight := rfl
@[simp] theorem send_out (m : Msg) : (s.send m).out = s.out ++ [m] := rfl
@[simp] theorem send_mer (m : Msg) : (s.send m).mer = s.mer := rfl
@[simp] theorem send_lines (m : Msg) : (s.send m).lines = s.lines := rfl
@[simp] theorem send_acq (m : Msg) : (s.send m).acq = s.acq := rfl
@[simp] theorem send_plt (m : Msg) : (s.send m).plt = s.plt := rfl
@[simp] theorem send_fft (m : Msg) : (s.send m).fft = s.fft := rfl
@[simp] theorem send_hel (m : Msg) : (s.send m).hel = s.hel := rfl
@[simp] theorem send_act (m : Msg) : (s.send m).act = s.act := rfl
@[simp] theorem send_hka (m : Msg) : (s.send m).hka = s.hka := rfl
@[simp] theorem send_col (m : Msg) : (s.send m).col = s.col := rfl
@[simp] theorem send_alm (m : Msg) : (s.send m).alm = s.alm := rfl
@[simp] theorem send_pho (m : Msg) : (s.send m).pho = s.pho := rfl
@[simp] theorem send_cdr (m : Msg) : (s.send m).cdr = s.cdr := rfl
@[simp] theorem send_ssc (m : Msg) : (s.send m).ssc = s.ssc := rfl
@[simp] theorem send_est (m : Msg) : (s.send m).est = s.est := rfl
@[simp] theorem send_dma (m : Msg) : (s.send m).dma = s.dma := rfl
@[simp] theorem send_hlk (m : Msg) : (s.send m).hlk = s.hlk := rfl
@[simp] theorem send_evf (m : Msg) : (s.send m).evf = s.evf := rfl
@[simp] theorem send_chr (m : Msg) : (s.send m).chr = s.chr := rfl
@[simp] theorem send_sec (m : Msg) : (s.send m).sec = s.sec := rfl
@[simp] theorem send_pwr (m : Msg) : (s.send m).pwr = s.pwr := rfl

/-! ## State.emit -/

@[simp] theorem emit_pending (p : Nat) : (s.emit p).pending = s.pending := rfl
@[simp] theorem emit_now (p : Nat) : (s.emit p).now = s.now := rfl
@[simp] theorem emit_fv (p : Nat) : (s.emit p).fv = s.fv := rfl
@[simp] theorem emit_straps (p : Nat) : (s.emit p).straps = s.straps := rfl
@[simp] theorem emit_regs (p : Nat) : (s.emit p).regs = s.regs := rfl
@[simp] theorem emit_pend (p : Nat) : (s.emit p).pend = s.pend := rfl
@[simp] theorem emit_hold64 (p : Nat) : (s.emit p).hold64 = s.hold64 := rfl
@[simp] theorem emit_hdrs (p : Nat) : (s.emit p).hdrs = s.hdrs := rfl
@[simp] theorem emit_bar2 (p : Nat) : (s.emit p).bar2 = s.bar2 := rfl
@[simp] theorem emit_holdTab (p : Nat) : (s.emit p).holdTab = s.holdTab := rfl
@[simp] theorem emit_attnL (p : Nat) : (s.emit p).attnL = s.attnL := rfl
@[simp] theorem emit_flight (p : Nat) : (s.emit p).flight = s.flight ++ [p] := rfl
@[simp] theorem emit_out (p : Nat) : (s.emit p).out = s.out := rfl
@[simp] theorem emit_mer (p : Nat) : (s.emit p).mer = s.mer := rfl
@[simp] theorem emit_lines (p : Nat) : (s.emit p).lines = s.lines := rfl
@[simp] theorem emit_acq (p : Nat) : (s.emit p).acq = s.acq := rfl
@[simp] theorem emit_plt (p : Nat) : (s.emit p).plt = s.plt := rfl
@[simp] theorem emit_fft (p : Nat) : (s.emit p).fft = s.fft := rfl
@[simp] theorem emit_hel (p : Nat) : (s.emit p).hel = s.hel := rfl
@[simp] theorem emit_act (p : Nat) : (s.emit p).act = s.act := rfl
@[simp] theorem emit_hka (p : Nat) : (s.emit p).hka = s.hka := rfl
@[simp] theorem emit_col (p : Nat) : (s.emit p).col = s.col := rfl
@[simp] theorem emit_alm (p : Nat) : (s.emit p).alm = s.alm := rfl
@[simp] theorem emit_pho (p : Nat) : (s.emit p).pho = s.pho := rfl
@[simp] theorem emit_cdr (p : Nat) : (s.emit p).cdr = s.cdr := rfl
@[simp] theorem emit_ssc (p : Nat) : (s.emit p).ssc = s.ssc := rfl
@[simp] theorem emit_est (p : Nat) : (s.emit p).est = s.est := rfl
@[simp] theorem emit_dma (p : Nat) : (s.emit p).dma = s.dma := rfl
@[simp] theorem emit_hlk (p : Nat) : (s.emit p).hlk = s.hlk := rfl
@[simp] theorem emit_evf (p : Nat) : (s.emit p).evf = s.evf := rfl
@[simp] theorem emit_chr (p : Nat) : (s.emit p).chr = s.chr := rfl
@[simp] theorem emit_sec (p : Nat) : (s.emit p).sec = s.sec := rfl
@[simp] theorem emit_pwr (p : Nat) : (s.emit p).pwr = s.pwr := rfl

/-! ## State.useFree -/

@[simp] theorem useFree_pending : (s.useFree).pending = s.pending := rfl
@[simp] theorem useFree_now : (s.useFree).now = s.now := rfl
@[simp] theorem useFree_fv : (s.useFree).fv = s.fv + 1 := rfl
@[simp] theorem useFree_straps : (s.useFree).straps = s.straps := rfl
@[simp] theorem useFree_regs : (s.useFree).regs = s.regs := rfl
@[simp] theorem useFree_pend : (s.useFree).pend = s.pend := rfl
@[simp] theorem useFree_hold64 : (s.useFree).hold64 = s.hold64 := rfl
@[simp] theorem useFree_hdrs : (s.useFree).hdrs = s.hdrs := rfl
@[simp] theorem useFree_bar2 : (s.useFree).bar2 = s.bar2 := rfl
@[simp] theorem useFree_holdTab : (s.useFree).holdTab = s.holdTab := rfl
@[simp] theorem useFree_attnL : (s.useFree).attnL = s.attnL := rfl
@[simp] theorem useFree_flight : (s.useFree).flight = s.flight := rfl
@[simp] theorem useFree_out : (s.useFree).out = s.out := rfl
@[simp] theorem useFree_mer : (s.useFree).mer = s.mer := rfl
@[simp] theorem useFree_lines : (s.useFree).lines = s.lines := rfl
@[simp] theorem useFree_acq : (s.useFree).acq = s.acq := rfl
@[simp] theorem useFree_plt : (s.useFree).plt = s.plt := rfl
@[simp] theorem useFree_fft : (s.useFree).fft = s.fft := rfl
@[simp] theorem useFree_hel : (s.useFree).hel = s.hel := rfl
@[simp] theorem useFree_act : (s.useFree).act = s.act := rfl
@[simp] theorem useFree_hka : (s.useFree).hka = s.hka := rfl
@[simp] theorem useFree_col : (s.useFree).col = s.col := rfl
@[simp] theorem useFree_alm : (s.useFree).alm = s.alm := rfl
@[simp] theorem useFree_pho : (s.useFree).pho = s.pho := rfl
@[simp] theorem useFree_cdr : (s.useFree).cdr = s.cdr := rfl
@[simp] theorem useFree_ssc : (s.useFree).ssc = s.ssc := rfl
@[simp] theorem useFree_est : (s.useFree).est = s.est := rfl
@[simp] theorem useFree_dma : (s.useFree).dma = s.dma := rfl
@[simp] theorem useFree_hlk : (s.useFree).hlk = s.hlk := rfl
@[simp] theorem useFree_evf : (s.useFree).evf = s.evf := rfl
@[simp] theorem useFree_chr : (s.useFree).chr = s.chr := rfl
@[simp] theorem useFree_sec : (s.useFree).sec = s.sec := rfl
@[simp] theorem useFree_pwr : (s.useFree).pwr = s.pwr := rfl

/-! ## State.skipFree -/

@[simp] theorem skipFree_pending (n : Nat) : (s.skipFree n).pending = s.pending := rfl
@[simp] theorem skipFree_now (n : Nat) : (s.skipFree n).now = s.now := rfl
@[simp] theorem skipFree_fv (n : Nat) : (s.skipFree n).fv = s.fv + n := rfl
@[simp] theorem skipFree_straps (n : Nat) : (s.skipFree n).straps = s.straps := rfl
@[simp] theorem skipFree_regs (n : Nat) : (s.skipFree n).regs = s.regs := rfl
@[simp] theorem skipFree_pend (n : Nat) : (s.skipFree n).pend = s.pend := rfl
@[simp] theorem skipFree_hold64 (n : Nat) : (s.skipFree n).hold64 = s.hold64 := rfl
@[simp] theorem skipFree_hdrs (n : Nat) : (s.skipFree n).hdrs = s.hdrs := rfl
@[simp] theorem skipFree_bar2 (n : Nat) : (s.skipFree n).bar2 = s.bar2 := rfl
@[simp] theorem skipFree_holdTab (n : Nat) : (s.skipFree n).holdTab = s.holdTab := rfl
@[simp] theorem skipFree_attnL (n : Nat) : (s.skipFree n).attnL = s.attnL := rfl
@[simp] theorem skipFree_flight (n : Nat) : (s.skipFree n).flight = s.flight := rfl
@[simp] theorem skipFree_out (n : Nat) : (s.skipFree n).out = s.out := rfl
@[simp] theorem skipFree_mer (n : Nat) : (s.skipFree n).mer = s.mer := rfl
@[simp] theorem skipFree_lines (n : Nat) : (s.skipFree n).lines = s.lines := rfl
@[simp] theorem skipFree_acq (n : Nat) : (s.skipFree n).acq = s.acq := rfl
@[simp] theorem skipFree_plt (n : Nat) : (s.skipFree n).plt = s.plt := rfl
@[simp] theorem skipFree_fft (n : Nat) : (s.skipFree n).fft = s.fft := rfl
@[simp] theorem skipFree_hel (n : Nat) : (s.skipFree n).hel = s.hel := rfl
@[simp] theorem skipFree_act (n : Nat) : (s.skipFree n).act = s.act := rfl
@[simp] theorem skipFree_hka (n : Nat) : (s.skipFree n).hka = s.hka := rfl
@[simp] theorem skipFree_col (n : Nat) : (s.skipFree n).col = s.col := rfl
@[simp] theorem skipFree_alm (n : Nat) : (s.skipFree n).alm = s.alm := rfl
@[simp] theorem skipFree_pho (n : Nat) : (s.skipFree n).pho = s.pho := rfl
@[simp] theorem skipFree_cdr (n : Nat) : (s.skipFree n).cdr = s.cdr := rfl
@[simp] theorem skipFree_ssc (n : Nat) : (s.skipFree n).ssc = s.ssc := rfl
@[simp] theorem skipFree_est (n : Nat) : (s.skipFree n).est = s.est := rfl
@[simp] theorem skipFree_dma (n : Nat) : (s.skipFree n).dma = s.dma := rfl
@[simp] theorem skipFree_hlk (n : Nat) : (s.skipFree n).hlk = s.hlk := rfl
@[simp] theorem skipFree_evf (n : Nat) : (s.skipFree n).evf = s.evf := rfl
@[simp] theorem skipFree_chr (n : Nat) : (s.skipFree n).chr = s.chr := rfl
@[simp] theorem skipFree_sec (n : Nat) : (s.skipFree n).sec = s.sec := rfl
@[simp] theorem skipFree_pwr (n : Nat) : (s.skipFree n).pwr = s.pwr := rfl

/-! ## State.upto -/

@[simp] theorem upto_pending (t : Nat) : (s.upto t).pending = s.pending := rfl
@[simp] theorem upto_now (t : Nat) : (s.upto t).now = max s.now t := rfl
@[simp] theorem upto_fv (t : Nat) : (s.upto t).fv = s.fv := rfl
@[simp] theorem upto_straps (t : Nat) : (s.upto t).straps = s.straps := rfl
@[simp] theorem upto_regs (t : Nat) : (s.upto t).regs = s.regs := rfl
@[simp] theorem upto_pend (t : Nat) : (s.upto t).pend = s.pend := rfl
@[simp] theorem upto_hold64 (t : Nat) : (s.upto t).hold64 = s.hold64 := rfl
@[simp] theorem upto_hdrs (t : Nat) : (s.upto t).hdrs = s.hdrs := rfl
@[simp] theorem upto_bar2 (t : Nat) : (s.upto t).bar2 = s.bar2 := rfl
@[simp] theorem upto_holdTab (t : Nat) : (s.upto t).holdTab = s.holdTab := rfl
@[simp] theorem upto_attnL (t : Nat) : (s.upto t).attnL = s.attnL := rfl
@[simp] theorem upto_flight (t : Nat) : (s.upto t).flight = s.flight := rfl
@[simp] theorem upto_out (t : Nat) : (s.upto t).out = s.out := rfl
@[simp] theorem upto_mer (t : Nat) : (s.upto t).mer = s.mer := rfl
@[simp] theorem upto_lines (t : Nat) : (s.upto t).lines = s.lines := rfl
@[simp] theorem upto_acq (t : Nat) : (s.upto t).acq = s.acq := rfl
@[simp] theorem upto_plt (t : Nat) : (s.upto t).plt = s.plt := rfl
@[simp] theorem upto_fft (t : Nat) : (s.upto t).fft = s.fft := rfl
@[simp] theorem upto_hel (t : Nat) : (s.upto t).hel = s.hel := rfl
@[simp] theorem upto_act (t : Nat) : (s.upto t).act = s.act := rfl
@[simp] theorem upto_hka (t : Nat) : (s.upto t).hka = s.hka := rfl
@[simp] theorem upto_col (t : Nat) : (s.upto t).col = s.col := rfl
@[simp] theorem upto_alm (t : Nat) : (s.upto t).alm = s.alm := rfl
@[simp] theorem upto_pho (t : Nat) : (s.upto t).pho = s.pho := rfl
@[simp] theorem upto_cdr (t : Nat) : (s.upto t).cdr = s.cdr := rfl
@[simp] theorem upto_ssc (t : Nat) : (s.upto t).ssc = s.ssc := rfl
@[simp] theorem upto_est (t : Nat) : (s.upto t).est = s.est := rfl
@[simp] theorem upto_dma (t : Nat) : (s.upto t).dma = s.dma := rfl
@[simp] theorem upto_hlk (t : Nat) : (s.upto t).hlk = s.hlk := rfl
@[simp] theorem upto_evf (t : Nat) : (s.upto t).evf = s.evf := rfl
@[simp] theorem upto_chr (t : Nat) : (s.upto t).chr = s.chr := rfl
@[simp] theorem upto_sec (t : Nat) : (s.upto t).sec = s.sec := rfl
@[simp] theorem upto_pwr (t : Nat) : (s.upto t).pwr = s.pwr := rfl

/-! ## State.setMer -/

@[simp] theorem setMer_pending (f : Mer → Mer) : (s.setMer f).pending = s.pending := rfl
@[simp] theorem setMer_now (f : Mer → Mer) : (s.setMer f).now = s.now := rfl
@[simp] theorem setMer_fv (f : Mer → Mer) : (s.setMer f).fv = s.fv := rfl
@[simp] theorem setMer_straps (f : Mer → Mer) : (s.setMer f).straps = s.straps := rfl
@[simp] theorem setMer_regs (f : Mer → Mer) : (s.setMer f).regs = s.regs := rfl
@[simp] theorem setMer_pend (f : Mer → Mer) : (s.setMer f).pend = s.pend := rfl
@[simp] theorem setMer_hold64 (f : Mer → Mer) : (s.setMer f).hold64 = s.hold64 := rfl
@[simp] theorem setMer_hdrs (f : Mer → Mer) : (s.setMer f).hdrs = s.hdrs := rfl
@[simp] theorem setMer_bar2 (f : Mer → Mer) : (s.setMer f).bar2 = s.bar2 := rfl
@[simp] theorem setMer_holdTab (f : Mer → Mer) : (s.setMer f).holdTab = s.holdTab := rfl
@[simp] theorem setMer_attnL (f : Mer → Mer) : (s.setMer f).attnL = s.attnL := rfl
@[simp] theorem setMer_flight (f : Mer → Mer) : (s.setMer f).flight = s.flight := rfl
@[simp] theorem setMer_out (f : Mer → Mer) : (s.setMer f).out = s.out := rfl
@[simp] theorem setMer_mer (f : Mer → Mer) : (s.setMer f).mer = f s.mer := rfl
@[simp] theorem setMer_lines (f : Mer → Mer) : (s.setMer f).lines = s.lines := rfl
@[simp] theorem setMer_acq (f : Mer → Mer) : (s.setMer f).acq = s.acq := rfl
@[simp] theorem setMer_plt (f : Mer → Mer) : (s.setMer f).plt = s.plt := rfl
@[simp] theorem setMer_fft (f : Mer → Mer) : (s.setMer f).fft = s.fft := rfl
@[simp] theorem setMer_hel (f : Mer → Mer) : (s.setMer f).hel = s.hel := rfl
@[simp] theorem setMer_act (f : Mer → Mer) : (s.setMer f).act = s.act := rfl
@[simp] theorem setMer_hka (f : Mer → Mer) : (s.setMer f).hka = s.hka := rfl
@[simp] theorem setMer_col (f : Mer → Mer) : (s.setMer f).col = s.col := rfl
@[simp] theorem setMer_alm (f : Mer → Mer) : (s.setMer f).alm = s.alm := rfl
@[simp] theorem setMer_pho (f : Mer → Mer) : (s.setMer f).pho = s.pho := rfl
@[simp] theorem setMer_cdr (f : Mer → Mer) : (s.setMer f).cdr = s.cdr := rfl
@[simp] theorem setMer_ssc (f : Mer → Mer) : (s.setMer f).ssc = s.ssc := rfl
@[simp] theorem setMer_est (f : Mer → Mer) : (s.setMer f).est = s.est := rfl
@[simp] theorem setMer_dma (f : Mer → Mer) : (s.setMer f).dma = s.dma := rfl
@[simp] theorem setMer_hlk (f : Mer → Mer) : (s.setMer f).hlk = s.hlk := rfl
@[simp] theorem setMer_evf (f : Mer → Mer) : (s.setMer f).evf = s.evf := rfl
@[simp] theorem setMer_chr (f : Mer → Mer) : (s.setMer f).chr = s.chr := rfl
@[simp] theorem setMer_sec (f : Mer → Mer) : (s.setMer f).sec = s.sec := rfl
@[simp] theorem setMer_pwr (f : Mer → Mer) : (s.setMer f).pwr = s.pwr := rfl

/-! ## State.setEvf -/

@[simp] theorem setEvf_pending (f : Evf → Evf) : (s.setEvf f).pending = s.pending := rfl
@[simp] theorem setEvf_now (f : Evf → Evf) : (s.setEvf f).now = s.now := rfl
@[simp] theorem setEvf_fv (f : Evf → Evf) : (s.setEvf f).fv = s.fv := rfl
@[simp] theorem setEvf_straps (f : Evf → Evf) : (s.setEvf f).straps = s.straps := rfl
@[simp] theorem setEvf_regs (f : Evf → Evf) : (s.setEvf f).regs = s.regs := rfl
@[simp] theorem setEvf_pend (f : Evf → Evf) : (s.setEvf f).pend = s.pend := rfl
@[simp] theorem setEvf_hold64 (f : Evf → Evf) : (s.setEvf f).hold64 = s.hold64 := rfl
@[simp] theorem setEvf_hdrs (f : Evf → Evf) : (s.setEvf f).hdrs = s.hdrs := rfl
@[simp] theorem setEvf_bar2 (f : Evf → Evf) : (s.setEvf f).bar2 = s.bar2 := rfl
@[simp] theorem setEvf_holdTab (f : Evf → Evf) : (s.setEvf f).holdTab = s.holdTab := rfl
@[simp] theorem setEvf_attnL (f : Evf → Evf) : (s.setEvf f).attnL = s.attnL := rfl
@[simp] theorem setEvf_flight (f : Evf → Evf) : (s.setEvf f).flight = s.flight := rfl
@[simp] theorem setEvf_out (f : Evf → Evf) : (s.setEvf f).out = s.out := rfl
@[simp] theorem setEvf_mer (f : Evf → Evf) : (s.setEvf f).mer = s.mer := rfl
@[simp] theorem setEvf_lines (f : Evf → Evf) : (s.setEvf f).lines = s.lines := rfl
@[simp] theorem setEvf_acq (f : Evf → Evf) : (s.setEvf f).acq = s.acq := rfl
@[simp] theorem setEvf_plt (f : Evf → Evf) : (s.setEvf f).plt = s.plt := rfl
@[simp] theorem setEvf_fft (f : Evf → Evf) : (s.setEvf f).fft = s.fft := rfl
@[simp] theorem setEvf_hel (f : Evf → Evf) : (s.setEvf f).hel = s.hel := rfl
@[simp] theorem setEvf_act (f : Evf → Evf) : (s.setEvf f).act = s.act := rfl
@[simp] theorem setEvf_hka (f : Evf → Evf) : (s.setEvf f).hka = s.hka := rfl
@[simp] theorem setEvf_col (f : Evf → Evf) : (s.setEvf f).col = s.col := rfl
@[simp] theorem setEvf_alm (f : Evf → Evf) : (s.setEvf f).alm = s.alm := rfl
@[simp] theorem setEvf_pho (f : Evf → Evf) : (s.setEvf f).pho = s.pho := rfl
@[simp] theorem setEvf_cdr (f : Evf → Evf) : (s.setEvf f).cdr = s.cdr := rfl
@[simp] theorem setEvf_ssc (f : Evf → Evf) : (s.setEvf f).ssc = s.ssc := rfl
@[simp] theorem setEvf_est (f : Evf → Evf) : (s.setEvf f).est = s.est := rfl
@[simp] theorem setEvf_dma (f : Evf → Evf) : (s.setEvf f).dma = s.dma := rfl
@[simp] theorem setEvf_hlk (f : Evf → Evf) : (s.setEvf f).hlk = s.hlk := rfl
@[simp] theorem setEvf_evf (f : Evf → Evf) : (s.setEvf f).evf = f s.evf := rfl
@[simp] theorem setEvf_chr (f : Evf → Evf) : (s.setEvf f).chr = s.chr := rfl
@[simp] theorem setEvf_sec (f : Evf → Evf) : (s.setEvf f).sec = s.sec := rfl
@[simp] theorem setEvf_pwr (f : Evf → Evf) : (s.setEvf f).pwr = s.pwr := rfl

/-! ## State.setHlk -/

@[simp] theorem setHlk_pending (f : Hlk → Hlk) : (s.setHlk f).pending = s.pending := rfl
@[simp] theorem setHlk_now (f : Hlk → Hlk) : (s.setHlk f).now = s.now := rfl
@[simp] theorem setHlk_fv (f : Hlk → Hlk) : (s.setHlk f).fv = s.fv := rfl
@[simp] theorem setHlk_straps (f : Hlk → Hlk) : (s.setHlk f).straps = s.straps := rfl
@[simp] theorem setHlk_regs (f : Hlk → Hlk) : (s.setHlk f).regs = s.regs := rfl
@[simp] theorem setHlk_pend (f : Hlk → Hlk) : (s.setHlk f).pend = s.pend := rfl
@[simp] theorem setHlk_hold64 (f : Hlk → Hlk) : (s.setHlk f).hold64 = s.hold64 := rfl
@[simp] theorem setHlk_hdrs (f : Hlk → Hlk) : (s.setHlk f).hdrs = s.hdrs := rfl
@[simp] theorem setHlk_bar2 (f : Hlk → Hlk) : (s.setHlk f).bar2 = s.bar2 := rfl
@[simp] theorem setHlk_holdTab (f : Hlk → Hlk) : (s.setHlk f).holdTab = s.holdTab := rfl
@[simp] theorem setHlk_attnL (f : Hlk → Hlk) : (s.setHlk f).attnL = s.attnL := rfl
@[simp] theorem setHlk_flight (f : Hlk → Hlk) : (s.setHlk f).flight = s.flight := rfl
@[simp] theorem setHlk_out (f : Hlk → Hlk) : (s.setHlk f).out = s.out := rfl
@[simp] theorem setHlk_mer (f : Hlk → Hlk) : (s.setHlk f).mer = s.mer := rfl
@[simp] theorem setHlk_lines (f : Hlk → Hlk) : (s.setHlk f).lines = s.lines := rfl
@[simp] theorem setHlk_acq (f : Hlk → Hlk) : (s.setHlk f).acq = s.acq := rfl
@[simp] theorem setHlk_plt (f : Hlk → Hlk) : (s.setHlk f).plt = s.plt := rfl
@[simp] theorem setHlk_fft (f : Hlk → Hlk) : (s.setHlk f).fft = s.fft := rfl
@[simp] theorem setHlk_hel (f : Hlk → Hlk) : (s.setHlk f).hel = s.hel := rfl
@[simp] theorem setHlk_act (f : Hlk → Hlk) : (s.setHlk f).act = s.act := rfl
@[simp] theorem setHlk_hka (f : Hlk → Hlk) : (s.setHlk f).hka = s.hka := rfl
@[simp] theorem setHlk_col (f : Hlk → Hlk) : (s.setHlk f).col = s.col := rfl
@[simp] theorem setHlk_alm (f : Hlk → Hlk) : (s.setHlk f).alm = s.alm := rfl
@[simp] theorem setHlk_pho (f : Hlk → Hlk) : (s.setHlk f).pho = s.pho := rfl
@[simp] theorem setHlk_cdr (f : Hlk → Hlk) : (s.setHlk f).cdr = s.cdr := rfl
@[simp] theorem setHlk_ssc (f : Hlk → Hlk) : (s.setHlk f).ssc = s.ssc := rfl
@[simp] theorem setHlk_est (f : Hlk → Hlk) : (s.setHlk f).est = s.est := rfl
@[simp] theorem setHlk_dma (f : Hlk → Hlk) : (s.setHlk f).dma = s.dma := rfl
@[simp] theorem setHlk_hlk (f : Hlk → Hlk) : (s.setHlk f).hlk = f s.hlk := rfl
@[simp] theorem setHlk_evf (f : Hlk → Hlk) : (s.setHlk f).evf = s.evf := rfl
@[simp] theorem setHlk_chr (f : Hlk → Hlk) : (s.setHlk f).chr = s.chr := rfl
@[simp] theorem setHlk_sec (f : Hlk → Hlk) : (s.setHlk f).sec = s.sec := rfl
@[simp] theorem setHlk_pwr (f : Hlk → Hlk) : (s.setHlk f).pwr = s.pwr := rfl

/-! ## State.setChr -/

@[simp] theorem setChr_pending (f : Chr → Chr) : (s.setChr f).pending = s.pending := rfl
@[simp] theorem setChr_now (f : Chr → Chr) : (s.setChr f).now = s.now := rfl
@[simp] theorem setChr_fv (f : Chr → Chr) : (s.setChr f).fv = s.fv := rfl
@[simp] theorem setChr_straps (f : Chr → Chr) : (s.setChr f).straps = s.straps := rfl
@[simp] theorem setChr_regs (f : Chr → Chr) : (s.setChr f).regs = s.regs := rfl
@[simp] theorem setChr_pend (f : Chr → Chr) : (s.setChr f).pend = s.pend := rfl
@[simp] theorem setChr_hold64 (f : Chr → Chr) : (s.setChr f).hold64 = s.hold64 := rfl
@[simp] theorem setChr_hdrs (f : Chr → Chr) : (s.setChr f).hdrs = s.hdrs := rfl
@[simp] theorem setChr_bar2 (f : Chr → Chr) : (s.setChr f).bar2 = s.bar2 := rfl
@[simp] theorem setChr_holdTab (f : Chr → Chr) : (s.setChr f).holdTab = s.holdTab := rfl
@[simp] theorem setChr_attnL (f : Chr → Chr) : (s.setChr f).attnL = s.attnL := rfl
@[simp] theorem setChr_flight (f : Chr → Chr) : (s.setChr f).flight = s.flight := rfl
@[simp] theorem setChr_out (f : Chr → Chr) : (s.setChr f).out = s.out := rfl
@[simp] theorem setChr_mer (f : Chr → Chr) : (s.setChr f).mer = s.mer := rfl
@[simp] theorem setChr_lines (f : Chr → Chr) : (s.setChr f).lines = s.lines := rfl
@[simp] theorem setChr_acq (f : Chr → Chr) : (s.setChr f).acq = s.acq := rfl
@[simp] theorem setChr_plt (f : Chr → Chr) : (s.setChr f).plt = s.plt := rfl
@[simp] theorem setChr_fft (f : Chr → Chr) : (s.setChr f).fft = s.fft := rfl
@[simp] theorem setChr_hel (f : Chr → Chr) : (s.setChr f).hel = s.hel := rfl
@[simp] theorem setChr_act (f : Chr → Chr) : (s.setChr f).act = s.act := rfl
@[simp] theorem setChr_hka (f : Chr → Chr) : (s.setChr f).hka = s.hka := rfl
@[simp] theorem setChr_col (f : Chr → Chr) : (s.setChr f).col = s.col := rfl
@[simp] theorem setChr_alm (f : Chr → Chr) : (s.setChr f).alm = s.alm := rfl
@[simp] theorem setChr_pho (f : Chr → Chr) : (s.setChr f).pho = s.pho := rfl
@[simp] theorem setChr_cdr (f : Chr → Chr) : (s.setChr f).cdr = s.cdr := rfl
@[simp] theorem setChr_ssc (f : Chr → Chr) : (s.setChr f).ssc = s.ssc := rfl
@[simp] theorem setChr_est (f : Chr → Chr) : (s.setChr f).est = s.est := rfl
@[simp] theorem setChr_dma (f : Chr → Chr) : (s.setChr f).dma = s.dma := rfl
@[simp] theorem setChr_hlk (f : Chr → Chr) : (s.setChr f).hlk = s.hlk := rfl
@[simp] theorem setChr_evf (f : Chr → Chr) : (s.setChr f).evf = s.evf := rfl
@[simp] theorem setChr_chr (f : Chr → Chr) : (s.setChr f).chr = f s.chr := rfl
@[simp] theorem setChr_sec (f : Chr → Chr) : (s.setChr f).sec = s.sec := rfl
@[simp] theorem setChr_pwr (f : Chr → Chr) : (s.setChr f).pwr = s.pwr := rfl

/-! ## State.setSsc -/

@[simp] theorem setSsc_pending (f : Ssc → Ssc) : (s.setSsc f).pending = s.pending := rfl
@[simp] theorem setSsc_now (f : Ssc → Ssc) : (s.setSsc f).now = s.now := rfl
@[simp] theorem setSsc_fv (f : Ssc → Ssc) : (s.setSsc f).fv = s.fv := rfl
@[simp] theorem setSsc_straps (f : Ssc → Ssc) : (s.setSsc f).straps = s.straps := rfl
@[simp] theorem setSsc_regs (f : Ssc → Ssc) : (s.setSsc f).regs = s.regs := rfl
@[simp] theorem setSsc_pend (f : Ssc → Ssc) : (s.setSsc f).pend = s.pend := rfl
@[simp] theorem setSsc_hold64 (f : Ssc → Ssc) : (s.setSsc f).hold64 = s.hold64 := rfl
@[simp] theorem setSsc_hdrs (f : Ssc → Ssc) : (s.setSsc f).hdrs = s.hdrs := rfl
@[simp] theorem setSsc_bar2 (f : Ssc → Ssc) : (s.setSsc f).bar2 = s.bar2 := rfl
@[simp] theorem setSsc_holdTab (f : Ssc → Ssc) : (s.setSsc f).holdTab = s.holdTab := rfl
@[simp] theorem setSsc_attnL (f : Ssc → Ssc) : (s.setSsc f).attnL = s.attnL := rfl
@[simp] theorem setSsc_flight (f : Ssc → Ssc) : (s.setSsc f).flight = s.flight := rfl
@[simp] theorem setSsc_out (f : Ssc → Ssc) : (s.setSsc f).out = s.out := rfl
@[simp] theorem setSsc_mer (f : Ssc → Ssc) : (s.setSsc f).mer = s.mer := rfl
@[simp] theorem setSsc_lines (f : Ssc → Ssc) : (s.setSsc f).lines = s.lines := rfl
@[simp] theorem setSsc_acq (f : Ssc → Ssc) : (s.setSsc f).acq = s.acq := rfl
@[simp] theorem setSsc_plt (f : Ssc → Ssc) : (s.setSsc f).plt = s.plt := rfl
@[simp] theorem setSsc_fft (f : Ssc → Ssc) : (s.setSsc f).fft = s.fft := rfl
@[simp] theorem setSsc_hel (f : Ssc → Ssc) : (s.setSsc f).hel = s.hel := rfl
@[simp] theorem setSsc_act (f : Ssc → Ssc) : (s.setSsc f).act = s.act := rfl
@[simp] theorem setSsc_hka (f : Ssc → Ssc) : (s.setSsc f).hka = s.hka := rfl
@[simp] theorem setSsc_col (f : Ssc → Ssc) : (s.setSsc f).col = s.col := rfl
@[simp] theorem setSsc_alm (f : Ssc → Ssc) : (s.setSsc f).alm = s.alm := rfl
@[simp] theorem setSsc_pho (f : Ssc → Ssc) : (s.setSsc f).pho = s.pho := rfl
@[simp] theorem setSsc_cdr (f : Ssc → Ssc) : (s.setSsc f).cdr = s.cdr := rfl
@[simp] theorem setSsc_ssc (f : Ssc → Ssc) : (s.setSsc f).ssc = f s.ssc := rfl
@[simp] theorem setSsc_est (f : Ssc → Ssc) : (s.setSsc f).est = s.est := rfl
@[simp] theorem setSsc_dma (f : Ssc → Ssc) : (s.setSsc f).dma = s.dma := rfl
@[simp] theorem setSsc_hlk (f : Ssc → Ssc) : (s.setSsc f).hlk = s.hlk := rfl
@[simp] theorem setSsc_evf (f : Ssc → Ssc) : (s.setSsc f).evf = s.evf := rfl
@[simp] theorem setSsc_chr (f : Ssc → Ssc) : (s.setSsc f).chr = s.chr := rfl
@[simp] theorem setSsc_sec (f : Ssc → Ssc) : (s.setSsc f).sec = s.sec := rfl
@[simp] theorem setSsc_pwr (f : Ssc → Ssc) : (s.setSsc f).pwr = s.pwr := rfl

/-! ## State.setPwr -/

@[simp] theorem setPwr_pending (f : Pwr → Pwr) : (s.setPwr f).pending = s.pending := rfl
@[simp] theorem setPwr_now (f : Pwr → Pwr) : (s.setPwr f).now = s.now := rfl
@[simp] theorem setPwr_fv (f : Pwr → Pwr) : (s.setPwr f).fv = s.fv := rfl
@[simp] theorem setPwr_straps (f : Pwr → Pwr) : (s.setPwr f).straps = s.straps := rfl
@[simp] theorem setPwr_regs (f : Pwr → Pwr) : (s.setPwr f).regs = s.regs := rfl
@[simp] theorem setPwr_pend (f : Pwr → Pwr) : (s.setPwr f).pend = s.pend := rfl
@[simp] theorem setPwr_hold64 (f : Pwr → Pwr) : (s.setPwr f).hold64 = s.hold64 := rfl
@[simp] theorem setPwr_hdrs (f : Pwr → Pwr) : (s.setPwr f).hdrs = s.hdrs := rfl
@[simp] theorem setPwr_bar2 (f : Pwr → Pwr) : (s.setPwr f).bar2 = s.bar2 := rfl
@[simp] theorem setPwr_holdTab (f : Pwr → Pwr) : (s.setPwr f).holdTab = s.holdTab := rfl
@[simp] theorem setPwr_attnL (f : Pwr → Pwr) : (s.setPwr f).attnL = s.attnL := rfl
@[simp] theorem setPwr_flight (f : Pwr → Pwr) : (s.setPwr f).flight = s.flight := rfl
@[simp] theorem setPwr_out (f : Pwr → Pwr) : (s.setPwr f).out = s.out := rfl
@[simp] theorem setPwr_mer (f : Pwr → Pwr) : (s.setPwr f).mer = s.mer := rfl
@[simp] theorem setPwr_lines (f : Pwr → Pwr) : (s.setPwr f).lines = s.lines := rfl
@[simp] theorem setPwr_acq (f : Pwr → Pwr) : (s.setPwr f).acq = s.acq := rfl
@[simp] theorem setPwr_plt (f : Pwr → Pwr) : (s.setPwr f).plt = s.plt := rfl
@[simp] theorem setPwr_fft (f : Pwr → Pwr) : (s.setPwr f).fft = s.fft := rfl
@[simp] theorem setPwr_hel (f : Pwr → Pwr) : (s.setPwr f).hel = s.hel := rfl
@[simp] theorem setPwr_act (f : Pwr → Pwr) : (s.setPwr f).act = s.act := rfl
@[simp] theorem setPwr_hka (f : Pwr → Pwr) : (s.setPwr f).hka = s.hka := rfl
@[simp] theorem setPwr_col (f : Pwr → Pwr) : (s.setPwr f).col = s.col := rfl
@[simp] theorem setPwr_alm (f : Pwr → Pwr) : (s.setPwr f).alm = s.alm := rfl
@[simp] theorem setPwr_pho (f : Pwr → Pwr) : (s.setPwr f).pho = s.pho := rfl
@[simp] theorem setPwr_cdr (f : Pwr → Pwr) : (s.setPwr f).cdr = s.cdr := rfl
@[simp] theorem setPwr_ssc (f : Pwr → Pwr) : (s.setPwr f).ssc = s.ssc := rfl
@[simp] theorem setPwr_est (f : Pwr → Pwr) : (s.setPwr f).est = s.est := rfl
@[simp] theorem setPwr_dma (f : Pwr → Pwr) : (s.setPwr f).dma = s.dma := rfl
@[simp] theorem setPwr_hlk (f : Pwr → Pwr) : (s.setPwr f).hlk = s.hlk := rfl
@[simp] theorem setPwr_evf (f : Pwr → Pwr) : (s.setPwr f).evf = s.evf := rfl
@[simp] theorem setPwr_chr (f : Pwr → Pwr) : (s.setPwr f).chr = s.chr := rfl
@[simp] theorem setPwr_sec (f : Pwr → Pwr) : (s.setPwr f).sec = s.sec := rfl
@[simp] theorem setPwr_pwr (f : Pwr → Pwr) : (s.setPwr f).pwr = f s.pwr := rfl

/-! ## State.setSec -/

@[simp] theorem setSec_pending (f : Sec → Sec) : (s.setSec f).pending = s.pending := rfl
@[simp] theorem setSec_now (f : Sec → Sec) : (s.setSec f).now = s.now := rfl
@[simp] theorem setSec_fv (f : Sec → Sec) : (s.setSec f).fv = s.fv := rfl
@[simp] theorem setSec_straps (f : Sec → Sec) : (s.setSec f).straps = s.straps := rfl
@[simp] theorem setSec_regs (f : Sec → Sec) : (s.setSec f).regs = s.regs := rfl
@[simp] theorem setSec_pend (f : Sec → Sec) : (s.setSec f).pend = s.pend := rfl
@[simp] theorem setSec_hold64 (f : Sec → Sec) : (s.setSec f).hold64 = s.hold64 := rfl
@[simp] theorem setSec_hdrs (f : Sec → Sec) : (s.setSec f).hdrs = s.hdrs := rfl
@[simp] theorem setSec_bar2 (f : Sec → Sec) : (s.setSec f).bar2 = s.bar2 := rfl
@[simp] theorem setSec_holdTab (f : Sec → Sec) : (s.setSec f).holdTab = s.holdTab := rfl
@[simp] theorem setSec_attnL (f : Sec → Sec) : (s.setSec f).attnL = s.attnL := rfl
@[simp] theorem setSec_flight (f : Sec → Sec) : (s.setSec f).flight = s.flight := rfl
@[simp] theorem setSec_out (f : Sec → Sec) : (s.setSec f).out = s.out := rfl
@[simp] theorem setSec_mer (f : Sec → Sec) : (s.setSec f).mer = s.mer := rfl
@[simp] theorem setSec_lines (f : Sec → Sec) : (s.setSec f).lines = s.lines := rfl
@[simp] theorem setSec_acq (f : Sec → Sec) : (s.setSec f).acq = s.acq := rfl
@[simp] theorem setSec_plt (f : Sec → Sec) : (s.setSec f).plt = s.plt := rfl
@[simp] theorem setSec_fft (f : Sec → Sec) : (s.setSec f).fft = s.fft := rfl
@[simp] theorem setSec_hel (f : Sec → Sec) : (s.setSec f).hel = s.hel := rfl
@[simp] theorem setSec_act (f : Sec → Sec) : (s.setSec f).act = s.act := rfl
@[simp] theorem setSec_hka (f : Sec → Sec) : (s.setSec f).hka = s.hka := rfl
@[simp] theorem setSec_col (f : Sec → Sec) : (s.setSec f).col = s.col := rfl
@[simp] theorem setSec_alm (f : Sec → Sec) : (s.setSec f).alm = s.alm := rfl
@[simp] theorem setSec_pho (f : Sec → Sec) : (s.setSec f).pho = s.pho := rfl
@[simp] theorem setSec_cdr (f : Sec → Sec) : (s.setSec f).cdr = s.cdr := rfl
@[simp] theorem setSec_ssc (f : Sec → Sec) : (s.setSec f).ssc = s.ssc := rfl
@[simp] theorem setSec_est (f : Sec → Sec) : (s.setSec f).est = s.est := rfl
@[simp] theorem setSec_dma (f : Sec → Sec) : (s.setSec f).dma = s.dma := rfl
@[simp] theorem setSec_hlk (f : Sec → Sec) : (s.setSec f).hlk = s.hlk := rfl
@[simp] theorem setSec_evf (f : Sec → Sec) : (s.setSec f).evf = s.evf := rfl
@[simp] theorem setSec_chr (f : Sec → Sec) : (s.setSec f).chr = s.chr := rfl
@[simp] theorem setSec_sec (f : Sec → Sec) : (s.setSec f).sec = f s.sec := rfl
@[simp] theorem setSec_pwr (f : Sec → Sec) : (s.setSec f).pwr = s.pwr := rfl

/-! ## State.setAxis -/

@[simp] theorem setAxis_pending (x : Nat) (a : Axis) : (s.setAxis x a).pending = s.pending := rfl
@[simp] theorem setAxis_now (x : Nat) (a : Axis) : (s.setAxis x a).now = s.now := rfl
@[simp] theorem setAxis_fv (x : Nat) (a : Axis) : (s.setAxis x a).fv = s.fv := rfl
@[simp] theorem setAxis_straps (x : Nat) (a : Axis) : (s.setAxis x a).straps = s.straps := rfl
@[simp] theorem setAxis_regs (x : Nat) (a : Axis) : (s.setAxis x a).regs = s.regs := rfl
@[simp] theorem setAxis_pend (x : Nat) (a : Axis) : (s.setAxis x a).pend = s.pend := rfl
@[simp] theorem setAxis_hold64 (x : Nat) (a : Axis) : (s.setAxis x a).hold64 = s.hold64 := rfl
@[simp] theorem setAxis_hdrs (x : Nat) (a : Axis) : (s.setAxis x a).hdrs = s.hdrs := rfl
@[simp] theorem setAxis_bar2 (x : Nat) (a : Axis) : (s.setAxis x a).bar2 = s.bar2 := rfl
@[simp] theorem setAxis_holdTab (x : Nat) (a : Axis) : (s.setAxis x a).holdTab = s.holdTab := rfl
@[simp] theorem setAxis_attnL (x : Nat) (a : Axis) : (s.setAxis x a).attnL = s.attnL := rfl
@[simp] theorem setAxis_flight (x : Nat) (a : Axis) : (s.setAxis x a).flight = s.flight := rfl
@[simp] theorem setAxis_out (x : Nat) (a : Axis) : (s.setAxis x a).out = s.out := rfl
@[simp] theorem setAxis_mer (x : Nat) (a : Axis) : (s.setAxis x a).mer = s.mer := rfl
@[simp] theorem setAxis_lines (x : Nat) (a : Axis) : (s.setAxis x a).lines = s.lines := rfl
@[simp] theorem setAxis_acq (x : Nat) (a : Axis) : (s.setAxis x a).acq = s.acq := rfl
@[simp] theorem setAxis_plt (x : Nat) (a : Axis) : (s.setAxis x a).plt = s.plt := rfl
@[simp] theorem setAxis_fft (x : Nat) (a : Axis) : (s.setAxis x a).fft = s.fft := rfl
@[simp] theorem setAxis_hel (x : Nat) (a : Axis) : (s.setAxis x a).hel = s.hel := rfl
@[simp] theorem setAxis_act (x : Nat) (a : Axis) : (s.setAxis x a).act = s.act := rfl
@[simp] theorem setAxis_hka (x : Nat) (a : Axis) : (s.setAxis x a).hka = s.hka := rfl
@[simp] theorem setAxis_col (x : Nat) (a : Axis) : (s.setAxis x a).col = s.col := rfl
@[simp] theorem setAxis_alm (x : Nat) (a : Axis) : (s.setAxis x a).alm = s.alm := rfl
@[simp] theorem setAxis_pho (x : Nat) (a : Axis) : (s.setAxis x a).pho = s.pho := rfl
@[simp] theorem setAxis_cdr (x : Nat) (a : Axis) : (s.setAxis x a).cdr = { s.cdr with axes := tabPut {} s.cdr.axes x a } := rfl
@[simp] theorem setAxis_ssc (x : Nat) (a : Axis) : (s.setAxis x a).ssc = s.ssc := rfl
@[simp] theorem setAxis_est (x : Nat) (a : Axis) : (s.setAxis x a).est = s.est := rfl
@[simp] theorem setAxis_dma (x : Nat) (a : Axis) : (s.setAxis x a).dma = s.dma := rfl
@[simp] theorem setAxis_hlk (x : Nat) (a : Axis) : (s.setAxis x a).hlk = s.hlk := rfl
@[simp] theorem setAxis_evf (x : Nat) (a : Axis) : (s.setAxis x a).evf = s.evf := rfl
@[simp] theorem setAxis_chr (x : Nat) (a : Axis) : (s.setAxis x a).chr = s.chr := rfl
@[simp] theorem setAxis_sec (x : Nat) (a : Axis) : (s.setAxis x a).sec = s.sec := rfl
@[simp] theorem setAxis_pwr (x : Nat) (a : Axis) : (s.setAxis x a).pwr = s.pwr := rfl

/-! ## State.setChan -/

@[simp] theorem setChan_pending (c : Nat) (x : Dch) : (s.setChan c x).pending = s.pending := rfl
@[simp] theorem setChan_now (c : Nat) (x : Dch) : (s.setChan c x).now = s.now := rfl
@[simp] theorem setChan_fv (c : Nat) (x : Dch) : (s.setChan c x).fv = s.fv := rfl
@[simp] theorem setChan_straps (c : Nat) (x : Dch) : (s.setChan c x).straps = s.straps := rfl
@[simp] theorem setChan_regs (c : Nat) (x : Dch) : (s.setChan c x).regs = s.regs := rfl
@[simp] theorem setChan_pend (c : Nat) (x : Dch) : (s.setChan c x).pend = s.pend := rfl
@[simp] theorem setChan_hold64 (c : Nat) (x : Dch) : (s.setChan c x).hold64 = s.hold64 := rfl
@[simp] theorem setChan_hdrs (c : Nat) (x : Dch) : (s.setChan c x).hdrs = s.hdrs := rfl
@[simp] theorem setChan_bar2 (c : Nat) (x : Dch) : (s.setChan c x).bar2 = s.bar2 := rfl
@[simp] theorem setChan_holdTab (c : Nat) (x : Dch) : (s.setChan c x).holdTab = s.holdTab := rfl
@[simp] theorem setChan_attnL (c : Nat) (x : Dch) : (s.setChan c x).attnL = s.attnL := rfl
@[simp] theorem setChan_flight (c : Nat) (x : Dch) : (s.setChan c x).flight = s.flight := rfl
@[simp] theorem setChan_out (c : Nat) (x : Dch) : (s.setChan c x).out = s.out := rfl
@[simp] theorem setChan_mer (c : Nat) (x : Dch) : (s.setChan c x).mer = s.mer := rfl
@[simp] theorem setChan_lines (c : Nat) (x : Dch) : (s.setChan c x).lines = s.lines := rfl
@[simp] theorem setChan_acq (c : Nat) (x : Dch) : (s.setChan c x).acq = s.acq := rfl
@[simp] theorem setChan_plt (c : Nat) (x : Dch) : (s.setChan c x).plt = s.plt := rfl
@[simp] theorem setChan_fft (c : Nat) (x : Dch) : (s.setChan c x).fft = s.fft := rfl
@[simp] theorem setChan_hel (c : Nat) (x : Dch) : (s.setChan c x).hel = s.hel := rfl
@[simp] theorem setChan_act (c : Nat) (x : Dch) : (s.setChan c x).act = s.act := rfl
@[simp] theorem setChan_hka (c : Nat) (x : Dch) : (s.setChan c x).hka = s.hka := rfl
@[simp] theorem setChan_col (c : Nat) (x : Dch) : (s.setChan c x).col = s.col := rfl
@[simp] theorem setChan_alm (c : Nat) (x : Dch) : (s.setChan c x).alm = s.alm := rfl
@[simp] theorem setChan_pho (c : Nat) (x : Dch) : (s.setChan c x).pho = s.pho := rfl
@[simp] theorem setChan_cdr (c : Nat) (x : Dch) : (s.setChan c x).cdr = s.cdr := rfl
@[simp] theorem setChan_ssc (c : Nat) (x : Dch) : (s.setChan c x).ssc = s.ssc := rfl
@[simp] theorem setChan_est (c : Nat) (x : Dch) : (s.setChan c x).est = s.est := rfl
@[simp] theorem setChan_dma (c : Nat) (x : Dch) : (s.setChan c x).dma = { s.dma with chans := tabPut {} s.dma.chans c x } := rfl
@[simp] theorem setChan_hlk (c : Nat) (x : Dch) : (s.setChan c x).hlk = s.hlk := rfl
@[simp] theorem setChan_evf (c : Nat) (x : Dch) : (s.setChan c x).evf = s.evf := rfl
@[simp] theorem setChan_chr (c : Nat) (x : Dch) : (s.setChan c x).chr = s.chr := rfl
@[simp] theorem setChan_sec (c : Nat) (x : Dch) : (s.setChan c x).sec = s.sec := rfl
@[simp] theorem setChan_pwr (c : Nat) (x : Dch) : (s.setChan c x).pwr = s.pwr := rfl

/-! ## State.setCh -/

@[simp] theorem setCh_pending (c : Nat) (x : AcqCh) : (s.setCh c x).pending = s.pending := rfl
@[simp] theorem setCh_now (c : Nat) (x : AcqCh) : (s.setCh c x).now = s.now := rfl
@[simp] theorem setCh_fv (c : Nat) (x : AcqCh) : (s.setCh c x).fv = s.fv := rfl
@[simp] theorem setCh_straps (c : Nat) (x : AcqCh) : (s.setCh c x).straps = s.straps := rfl
@[simp] theorem setCh_regs (c : Nat) (x : AcqCh) : (s.setCh c x).regs = s.regs := rfl
@[simp] theorem setCh_pend (c : Nat) (x : AcqCh) : (s.setCh c x).pend = s.pend := rfl
@[simp] theorem setCh_hold64 (c : Nat) (x : AcqCh) : (s.setCh c x).hold64 = s.hold64 := rfl
@[simp] theorem setCh_hdrs (c : Nat) (x : AcqCh) : (s.setCh c x).hdrs = s.hdrs := rfl
@[simp] theorem setCh_bar2 (c : Nat) (x : AcqCh) : (s.setCh c x).bar2 = s.bar2 := rfl
@[simp] theorem setCh_holdTab (c : Nat) (x : AcqCh) : (s.setCh c x).holdTab = s.holdTab := rfl
@[simp] theorem setCh_attnL (c : Nat) (x : AcqCh) : (s.setCh c x).attnL = s.attnL := rfl
@[simp] theorem setCh_flight (c : Nat) (x : AcqCh) : (s.setCh c x).flight = s.flight := rfl
@[simp] theorem setCh_out (c : Nat) (x : AcqCh) : (s.setCh c x).out = s.out := rfl
@[simp] theorem setCh_mer (c : Nat) (x : AcqCh) : (s.setCh c x).mer = s.mer := rfl
@[simp] theorem setCh_lines (c : Nat) (x : AcqCh) : (s.setCh c x).lines = s.lines := rfl
@[simp] theorem setCh_acq (c : Nat) (x : AcqCh) : (s.setCh c x).acq = { s.acq with chans := tabPut {} s.acq.chans c x } := rfl
@[simp] theorem setCh_plt (c : Nat) (x : AcqCh) : (s.setCh c x).plt = s.plt := rfl
@[simp] theorem setCh_fft (c : Nat) (x : AcqCh) : (s.setCh c x).fft = s.fft := rfl
@[simp] theorem setCh_hel (c : Nat) (x : AcqCh) : (s.setCh c x).hel = s.hel := rfl
@[simp] theorem setCh_act (c : Nat) (x : AcqCh) : (s.setCh c x).act = s.act := rfl
@[simp] theorem setCh_hka (c : Nat) (x : AcqCh) : (s.setCh c x).hka = s.hka := rfl
@[simp] theorem setCh_col (c : Nat) (x : AcqCh) : (s.setCh c x).col = s.col := rfl
@[simp] theorem setCh_alm (c : Nat) (x : AcqCh) : (s.setCh c x).alm = s.alm := rfl
@[simp] theorem setCh_pho (c : Nat) (x : AcqCh) : (s.setCh c x).pho = s.pho := rfl
@[simp] theorem setCh_cdr (c : Nat) (x : AcqCh) : (s.setCh c x).cdr = s.cdr := rfl
@[simp] theorem setCh_ssc (c : Nat) (x : AcqCh) : (s.setCh c x).ssc = s.ssc := rfl
@[simp] theorem setCh_est (c : Nat) (x : AcqCh) : (s.setCh c x).est = s.est := rfl
@[simp] theorem setCh_dma (c : Nat) (x : AcqCh) : (s.setCh c x).dma = s.dma := rfl
@[simp] theorem setCh_hlk (c : Nat) (x : AcqCh) : (s.setCh c x).hlk = s.hlk := rfl
@[simp] theorem setCh_evf (c : Nat) (x : AcqCh) : (s.setCh c x).evf = s.evf := rfl
@[simp] theorem setCh_chr (c : Nat) (x : AcqCh) : (s.setCh c x).chr = s.chr := rfl
@[simp] theorem setCh_sec (c : Nat) (x : AcqCh) : (s.setCh c x).sec = s.sec := rfl
@[simp] theorem setCh_pwr (c : Nat) (x : AcqCh) : (s.setCh c x).pwr = s.pwr := rfl

/-! ## State.setSpare -/

@[simp] theorem setSpare_pending (g : Nat) (x : Spare) : (s.setSpare g x).pending = s.pending := rfl
@[simp] theorem setSpare_now (g : Nat) (x : Spare) : (s.setSpare g x).now = s.now := rfl
@[simp] theorem setSpare_fv (g : Nat) (x : Spare) : (s.setSpare g x).fv = s.fv := rfl
@[simp] theorem setSpare_straps (g : Nat) (x : Spare) : (s.setSpare g x).straps = s.straps := rfl
@[simp] theorem setSpare_regs (g : Nat) (x : Spare) : (s.setSpare g x).regs = s.regs := rfl
@[simp] theorem setSpare_pend (g : Nat) (x : Spare) : (s.setSpare g x).pend = s.pend := rfl
@[simp] theorem setSpare_hold64 (g : Nat) (x : Spare) : (s.setSpare g x).hold64 = s.hold64 := rfl
@[simp] theorem setSpare_hdrs (g : Nat) (x : Spare) : (s.setSpare g x).hdrs = s.hdrs := rfl
@[simp] theorem setSpare_bar2 (g : Nat) (x : Spare) : (s.setSpare g x).bar2 = s.bar2 := rfl
@[simp] theorem setSpare_holdTab (g : Nat) (x : Spare) : (s.setSpare g x).holdTab = s.holdTab := rfl
@[simp] theorem setSpare_attnL (g : Nat) (x : Spare) : (s.setSpare g x).attnL = s.attnL := rfl
@[simp] theorem setSpare_flight (g : Nat) (x : Spare) : (s.setSpare g x).flight = s.flight := rfl
@[simp] theorem setSpare_out (g : Nat) (x : Spare) : (s.setSpare g x).out = s.out := rfl
@[simp] theorem setSpare_mer (g : Nat) (x : Spare) : (s.setSpare g x).mer = s.mer := rfl
@[simp] theorem setSpare_lines (g : Nat) (x : Spare) : (s.setSpare g x).lines = s.lines := rfl
@[simp] theorem setSpare_acq (g : Nat) (x : Spare) : (s.setSpare g x).acq = { s.acq with spares := tabPut {} s.acq.spares g x } := rfl
@[simp] theorem setSpare_plt (g : Nat) (x : Spare) : (s.setSpare g x).plt = s.plt := rfl
@[simp] theorem setSpare_fft (g : Nat) (x : Spare) : (s.setSpare g x).fft = s.fft := rfl
@[simp] theorem setSpare_hel (g : Nat) (x : Spare) : (s.setSpare g x).hel = s.hel := rfl
@[simp] theorem setSpare_act (g : Nat) (x : Spare) : (s.setSpare g x).act = s.act := rfl
@[simp] theorem setSpare_hka (g : Nat) (x : Spare) : (s.setSpare g x).hka = s.hka := rfl
@[simp] theorem setSpare_col (g : Nat) (x : Spare) : (s.setSpare g x).col = s.col := rfl
@[simp] theorem setSpare_alm (g : Nat) (x : Spare) : (s.setSpare g x).alm = s.alm := rfl
@[simp] theorem setSpare_pho (g : Nat) (x : Spare) : (s.setSpare g x).pho = s.pho := rfl
@[simp] theorem setSpare_cdr (g : Nat) (x : Spare) : (s.setSpare g x).cdr = s.cdr := rfl
@[simp] theorem setSpare_ssc (g : Nat) (x : Spare) : (s.setSpare g x).ssc = s.ssc := rfl
@[simp] theorem setSpare_est (g : Nat) (x : Spare) : (s.setSpare g x).est = s.est := rfl
@[simp] theorem setSpare_dma (g : Nat) (x : Spare) : (s.setSpare g x).dma = s.dma := rfl
@[simp] theorem setSpare_hlk (g : Nat) (x : Spare) : (s.setSpare g x).hlk = s.hlk := rfl
@[simp] theorem setSpare_evf (g : Nat) (x : Spare) : (s.setSpare g x).evf = s.evf := rfl
@[simp] theorem setSpare_chr (g : Nat) (x : Spare) : (s.setSpare g x).chr = s.chr := rfl
@[simp] theorem setSpare_sec (g : Nat) (x : Spare) : (s.setSpare g x).sec = s.sec := rfl
@[simp] theorem setSpare_pwr (g : Nat) (x : Spare) : (s.setSpare g x).pwr = s.pwr := rfl

/-! ## State.setLampRes -/

@[simp] theorem setLampRes_pending (n : Nat) (r : LampRes) : (s.setLampRes n r).pending = s.pending := rfl
@[simp] theorem setLampRes_now (n : Nat) (r : LampRes) : (s.setLampRes n r).now = s.now := rfl
@[simp] theorem setLampRes_fv (n : Nat) (r : LampRes) : (s.setLampRes n r).fv = s.fv := rfl
@[simp] theorem setLampRes_straps (n : Nat) (r : LampRes) : (s.setLampRes n r).straps = s.straps := rfl
@[simp] theorem setLampRes_regs (n : Nat) (r : LampRes) : (s.setLampRes n r).regs = s.regs := rfl
@[simp] theorem setLampRes_pend (n : Nat) (r : LampRes) : (s.setLampRes n r).pend = s.pend := rfl
@[simp] theorem setLampRes_hold64 (n : Nat) (r : LampRes) : (s.setLampRes n r).hold64 = s.hold64 := rfl
@[simp] theorem setLampRes_hdrs (n : Nat) (r : LampRes) : (s.setLampRes n r).hdrs = s.hdrs := rfl
@[simp] theorem setLampRes_bar2 (n : Nat) (r : LampRes) : (s.setLampRes n r).bar2 = s.bar2 := rfl
@[simp] theorem setLampRes_holdTab (n : Nat) (r : LampRes) : (s.setLampRes n r).holdTab = s.holdTab := rfl
@[simp] theorem setLampRes_attnL (n : Nat) (r : LampRes) : (s.setLampRes n r).attnL = s.attnL := rfl
@[simp] theorem setLampRes_flight (n : Nat) (r : LampRes) : (s.setLampRes n r).flight = s.flight := rfl
@[simp] theorem setLampRes_out (n : Nat) (r : LampRes) : (s.setLampRes n r).out = s.out := rfl
@[simp] theorem setLampRes_mer (n : Nat) (r : LampRes) : (s.setLampRes n r).mer = s.mer := rfl
@[simp] theorem setLampRes_lines (n : Nat) (r : LampRes) : (s.setLampRes n r).lines = s.lines := rfl
@[simp] theorem setLampRes_acq (n : Nat) (r : LampRes) : (s.setLampRes n r).acq = s.acq := rfl
@[simp] theorem setLampRes_plt (n : Nat) (r : LampRes) : (s.setLampRes n r).plt = s.plt := rfl
@[simp] theorem setLampRes_fft (n : Nat) (r : LampRes) : (s.setLampRes n r).fft = s.fft := rfl
@[simp] theorem setLampRes_hel (n : Nat) (r : LampRes) : (s.setLampRes n r).hel = s.hel := rfl
@[simp] theorem setLampRes_act (n : Nat) (r : LampRes) : (s.setLampRes n r).act = { s.act with lamps := tabPut {} s.act.lamps n r } := rfl
@[simp] theorem setLampRes_hka (n : Nat) (r : LampRes) : (s.setLampRes n r).hka = s.hka := rfl
@[simp] theorem setLampRes_col (n : Nat) (r : LampRes) : (s.setLampRes n r).col = s.col := rfl
@[simp] theorem setLampRes_alm (n : Nat) (r : LampRes) : (s.setLampRes n r).alm = s.alm := rfl
@[simp] theorem setLampRes_pho (n : Nat) (r : LampRes) : (s.setLampRes n r).pho = s.pho := rfl
@[simp] theorem setLampRes_cdr (n : Nat) (r : LampRes) : (s.setLampRes n r).cdr = s.cdr := rfl
@[simp] theorem setLampRes_ssc (n : Nat) (r : LampRes) : (s.setLampRes n r).ssc = s.ssc := rfl
@[simp] theorem setLampRes_est (n : Nat) (r : LampRes) : (s.setLampRes n r).est = s.est := rfl
@[simp] theorem setLampRes_dma (n : Nat) (r : LampRes) : (s.setLampRes n r).dma = s.dma := rfl
@[simp] theorem setLampRes_hlk (n : Nat) (r : LampRes) : (s.setLampRes n r).hlk = s.hlk := rfl
@[simp] theorem setLampRes_evf (n : Nat) (r : LampRes) : (s.setLampRes n r).evf = s.evf := rfl
@[simp] theorem setLampRes_chr (n : Nat) (r : LampRes) : (s.setLampRes n r).chr = s.chr := rfl
@[simp] theorem setLampRes_sec (n : Nat) (r : LampRes) : (s.setLampRes n r).sec = s.sec := rfl
@[simp] theorem setLampRes_pwr (n : Nat) (r : LampRes) : (s.setLampRes n r).pwr = s.pwr := rfl

/-! ## State.setLine -/

@[simp] theorem setLine_pending (n : Nat) (i : LineInfo) : (s.setLine n i).pending = s.pending := rfl
@[simp] theorem setLine_now (n : Nat) (i : LineInfo) : (s.setLine n i).now = s.now := rfl
@[simp] theorem setLine_fv (n : Nat) (i : LineInfo) : (s.setLine n i).fv = s.fv := rfl
@[simp] theorem setLine_straps (n : Nat) (i : LineInfo) : (s.setLine n i).straps = s.straps := rfl
@[simp] theorem setLine_regs (n : Nat) (i : LineInfo) : (s.setLine n i).regs = s.regs := rfl
@[simp] theorem setLine_pend (n : Nat) (i : LineInfo) : (s.setLine n i).pend = s.pend := rfl
@[simp] theorem setLine_hold64 (n : Nat) (i : LineInfo) : (s.setLine n i).hold64 = s.hold64 := rfl
@[simp] theorem setLine_hdrs (n : Nat) (i : LineInfo) : (s.setLine n i).hdrs = s.hdrs := rfl
@[simp] theorem setLine_bar2 (n : Nat) (i : LineInfo) : (s.setLine n i).bar2 = s.bar2 := rfl
@[simp] theorem setLine_holdTab (n : Nat) (i : LineInfo) : (s.setLine n i).holdTab = s.holdTab := rfl
@[simp] theorem setLine_attnL (n : Nat) (i : LineInfo) : (s.setLine n i).attnL = s.attnL := rfl
@[simp] theorem setLine_flight (n : Nat) (i : LineInfo) : (s.setLine n i).flight = s.flight := rfl
@[simp] theorem setLine_out (n : Nat) (i : LineInfo) : (s.setLine n i).out = s.out := rfl
@[simp] theorem setLine_mer (n : Nat) (i : LineInfo) : (s.setLine n i).mer = s.mer := rfl
@[simp] theorem setLine_lines (n : Nat) (i : LineInfo) : (s.setLine n i).lines = tabIns s.lines n i := rfl
@[simp] theorem setLine_acq (n : Nat) (i : LineInfo) : (s.setLine n i).acq = s.acq := rfl
@[simp] theorem setLine_plt (n : Nat) (i : LineInfo) : (s.setLine n i).plt = s.plt := rfl
@[simp] theorem setLine_fft (n : Nat) (i : LineInfo) : (s.setLine n i).fft = s.fft := rfl
@[simp] theorem setLine_hel (n : Nat) (i : LineInfo) : (s.setLine n i).hel = s.hel := rfl
@[simp] theorem setLine_act (n : Nat) (i : LineInfo) : (s.setLine n i).act = s.act := rfl
@[simp] theorem setLine_hka (n : Nat) (i : LineInfo) : (s.setLine n i).hka = s.hka := rfl
@[simp] theorem setLine_col (n : Nat) (i : LineInfo) : (s.setLine n i).col = s.col := rfl
@[simp] theorem setLine_alm (n : Nat) (i : LineInfo) : (s.setLine n i).alm = s.alm := rfl
@[simp] theorem setLine_pho (n : Nat) (i : LineInfo) : (s.setLine n i).pho = s.pho := rfl
@[simp] theorem setLine_cdr (n : Nat) (i : LineInfo) : (s.setLine n i).cdr = s.cdr := rfl
@[simp] theorem setLine_ssc (n : Nat) (i : LineInfo) : (s.setLine n i).ssc = s.ssc := rfl
@[simp] theorem setLine_est (n : Nat) (i : LineInfo) : (s.setLine n i).est = s.est := rfl
@[simp] theorem setLine_dma (n : Nat) (i : LineInfo) : (s.setLine n i).dma = s.dma := rfl
@[simp] theorem setLine_hlk (n : Nat) (i : LineInfo) : (s.setLine n i).hlk = s.hlk := rfl
@[simp] theorem setLine_evf (n : Nat) (i : LineInfo) : (s.setLine n i).evf = s.evf := rfl
@[simp] theorem setLine_chr (n : Nat) (i : LineInfo) : (s.setLine n i).chr = s.chr := rfl
@[simp] theorem setLine_sec (n : Nat) (i : LineInfo) : (s.setLine n i).sec = s.sec := rfl
@[simp] theorem setLine_pwr (n : Nat) (i : LineInfo) : (s.setLine n i).pwr = s.pwr := rfl

end Sys2Proof.Laws
end

