-- ==== Sys2Proof/Laws/Ops.lean ====
section
/-! SUPPORT. Laws of the shared operations: what a read gives after a write, for registers, fields, page headers and
table memory; which parts of the state each operation leaves alone; and frames, one lemma per operation. -/

namespace Sys2Proof.Laws

open Sys2Proof.Machine

variable {s0 s t : State}

/-! ## Bits -/

/-- Replacing a field leaves what lies above and below it. -/
theorem putBits_eq (w hi lo v : Nat) : putBits w hi lo v =
    w / (2 ^ lo * 2 ^ (hi + 1 - lo)) * (2 ^ lo * 2 ^ (hi + 1 - lo)) + v % 2 ^ (hi + 1 - lo) * 2 ^ lo + w % 2 ^ lo := by
  unfold putBits bits
  generalize 2 ^ lo = p
  generalize 2 ^ (hi + 1 - lo) = n
  have h1 := Nat.div_add_mod w p
  have h2 := Nat.div_add_mod (w / p) n
  rw [← Nat.div_div_eq_div_mul]
  generalize w / p / n = a at *
  generalize w / p % n = b at *
  generalize w % p = c at *
  rw [← h2] at h1
  have h3 : p * (n * a + b) = a * (p * n) + b * p := by
    rw [Nat.mul_add, ← Nat.mul_assoc, Nat.mul_comm (p * n) a, Nat.mul_comm p b]
  omega

theorem bits_putBits (w hi lo v : Nat) : bits (putBits w hi lo v) hi lo = v % 2 ^ (hi + 1 - lo) := by
  rw [putBits_eq]
  unfold bits
  have hp : 0 < 2 ^ lo := Nat.two_pow_pos lo
  generalize 2 ^ lo = p at *
  generalize 2 ^ (hi + 1 - lo) = n at *
  have h : w / (p * n) * (p * n) + v % n * p + w % p = w % p + (n * (w / (p * n)) + v % n) * p := by
    rw [Nat.add_mul, Nat.mul_assoc n, Nat.mul_comm n, Nat.mul_assoc]
    omega
  rw [h, Nat.add_mul_div_right _ _ hp, Nat.div_eq_of_lt (Nat.mod_lt _ hp), Nat.zero_add, Nat.mul_add_mod, Nat.mod_mod]

theorem bits_below (w hi lo v hi' lo' : Nat) (h : hi' < lo) : bits (putBits w hi lo v) hi' lo' = bits w hi' lo' := by
  by_cases hl : lo' ≤ hi'
  · rw [putBits_eq]
    unfold bits
    obtain ⟨d, hd⟩ : ∃ d, lo = (hi' + 1 - lo') + lo' + d := ⟨lo - (hi' + 1 - lo') - lo', by omega⟩
    have hp : 2 ^ lo = 2 ^ lo' * 2 ^ (hi' + 1 - lo') * 2 ^ d := by rw [hd, ← Nat.pow_add, ← Nat.pow_add]; congr 1; omega
    have e : ∀ x : Nat, x / 2 ^ lo' % 2 ^ (hi' + 1 - lo') = x % (2 ^ lo' * 2 ^ (hi' + 1 - lo')) / 2 ^ lo' := fun x => by
      rw [Nat.mod_mul_right_div_self]
    rw [e, e]
    congr 1
    have hm : w % 2 ^ lo % (2 ^ lo' * 2 ^ (hi' + 1 - lo')) = w % (2 ^ lo' * 2 ^ (hi' + 1 - lo')) := by
      rw [hp]
      exact Nat.mod_mul_right_mod _ _ _
    rw [← hm]
    generalize w % 2 ^ lo = c
    rw [hp]
    generalize 2 ^ lo' * 2 ^ (hi' + 1 - lo') = q
    have : w / (q * 2 ^ d * 2 ^ (hi + 1 - lo)) * (q * 2 ^ d * 2 ^ (hi + 1 - lo)) + v % 2 ^ (hi + 1 - lo) * (q * 2 ^ d) + c
        = c + q * (w / (q * 2 ^ d * 2 ^ (hi + 1 - lo)) * (2 ^ d * 2 ^ (hi + 1 - lo)) + v % 2 ^ (hi + 1 - lo) * 2 ^ d) := by
      rw [Nat.mul_add, Nat.add_comm c]
      congr 1
      congr 1
      · rw [Nat.mul_assoc q, Nat.mul_left_comm]
      · rw [Nat.mul_left_comm]
    rw [this, Nat.add_mul_mod_self_left]
  · unfold bits
    have : hi' + 1 - lo' = 0 := by omega
    simp [this, Nat.mod_one]

theorem bits_above (w hi lo v hi' lo' : Nat) (hl : lo ≤ hi) (h : hi < lo') :
    bits (putBits w hi lo v) hi' lo' = bits w hi' lo' := by
  rw [putBits_eq]
  unfold bits
  congr 1
  have hp : 2 ^ lo' = 2 ^ lo * 2 ^ (hi + 1 - lo) * 2 ^ (lo' - (hi + 1)) := by
    rw [← Nat.pow_add, ← Nat.pow_add]; congr 1; omega
  rw [hp, ← Nat.div_div_eq_div_mul _ (2 ^ lo * 2 ^ (hi + 1 - lo)), ← Nat.div_div_eq_div_mul _ (2 ^ lo * 2 ^ (hi + 1 - lo))]
  congr 1
  have hq : 0 < 2 ^ lo * 2 ^ (hi + 1 - lo) := Nat.mul_pos (Nat.two_pow_pos _) (Nat.two_pow_pos _)
  have hp : 0 < 2 ^ lo := Nat.two_pow_pos lo
  have hv : v % 2 ^ (hi + 1 - lo) < 2 ^ (hi + 1 - lo) := Nat.mod_lt _ (Nat.two_pow_pos _)
  have hw : w % 2 ^ lo < 2 ^ lo := Nat.mod_lt _ hp
  rw [Nat.add_assoc, Nat.add_comm, Nat.add_mul_div_right _ _ hq, Nat.div_eq_of_lt, Nat.zero_add]
  calc v % 2 ^ (hi + 1 - lo) * 2 ^ lo + w % 2 ^ lo < v % 2 ^ (hi + 1 - lo) * 2 ^ lo + 1 * 2 ^ lo := by omega
    _ = (v % 2 ^ (hi + 1 - lo) + 1) * 2 ^ lo := by rw [Nat.add_mul]
    _ ≤ 2 ^ (hi + 1 - lo) * 2 ^ lo := Nat.mul_le_mul_right _ hv
    _ = 2 ^ lo * 2 ^ (hi + 1 - lo) := Nat.mul_comm _ _

/-- A field of a 32-bit word does not see what lies above bit 31. -/
theorem bits_word (x hi lo : Nat) (h : hi < 32) : bits (BitVec.ofNat 32 x).toNat hi lo = bits x hi lo := by
  unfold bits
  by_cases hl : lo ≤ hi
  · rw [BitVec.toNat_ofNat]
    obtain ⟨d, hd⟩ : ∃ d, 32 = lo + ((hi + 1 - lo) + d) := ⟨31 - hi, by omega⟩
    have hp : 2 ^ 32 = 2 ^ lo * (2 ^ (hi + 1 - lo) * 2 ^ d) := by rw [← Nat.pow_add, ← Nat.pow_add, ← hd]
    rw [hp, Nat.mod_mul_right_div_self]
    exact Nat.mod_mul_right_mod _ _ _
  · have : hi + 1 - lo = 0 := by omega
    simp [this, Nat.mod_one]

theorem bits_lt (w hi lo : Nat) : bits w hi lo < 2 ^ (hi + 1 - lo) := Nat.mod_lt _ (Nat.two_pow_pos _)

/-! ## Which parts of the state an operation leaves alone -/

@[simp] theorem sendVector_pending (v : Nat) : (s.sendVector v).pending = s.pending := by
  unfold State.sendVector
  repeat' split
  all_goals rfl
@[simp] theorem sendVector_now (v : Nat) : (s.sendVector v).now = s.now := by
  unfold State.sendVector
  repeat' split
  all_goals rfl
@[simp] theorem sendVector_fv (v : Nat) : (s.sendVector v).fv = s.fv := by
  unfold State.sendVector
  repeat' split
  all_goals rfl
@[simp] theorem sendVector_straps (v : Nat) : (s.sendVector v).straps = s.straps := by
  unfold State.sendVector
  repeat' split
  all_goals rfl
@[simp] theorem sendVector_regs (v : Nat) : (s.sendVector v).regs = s.regs := by
  unfold State.sendVector
  repeat' split
  all_goals rfl
@[simp] theorem sendVector_pend (v : Nat) : (s.sendVector v).pend = s.pend := by
  unfold State.sendVector
  repeat' split
  all_goals rfl
@[simp] theorem sendVector_hold64 (v : Nat) : (s.sendVector v).hold64 = s.hold64 := by
  unfold State.sendVector
  repeat' split
  all_goals rfl
@[simp] theorem sendVector_hdrs (v : Nat) : (s.sendVector v).hdrs = s.hdrs := by
  unfold State.sendVector
  repeat' split
  all_goals rfl
@[simp] theorem sendVector_bar2 (v : Nat) : (s.sendVector v).bar2 = s.bar2 := by
  unfold State.sendVector
  repeat' split
  all_goals rfl
@[simp] theorem sendVector_holdTab (v : Nat) : (s.sendVector v).holdTab = s.holdTab := by
  unfold State.sendVector
  repeat' split
  all_goals rfl
@[simp] theorem sendVector_attnL (v : Nat) : (s.sendVector v).attnL = s.attnL := by
  unfold State.sendVector
  repeat' split
  all_goals rfl
@[simp] theorem sendVector_flight (v : Nat) : (s.sendVector v).flight = s.flight := by
  unfold State.sendVector
  repeat' split
  all_goals rfl
@[simp] theorem sendVector_mer (v : Nat) : (s.sendVector v).mer = s.mer := by
  unfold State.sendVector
  repeat' split
  all_goals rfl
@[simp] theorem sendVector_lines (v : Nat) : (s.sendVector v).lines = s.lines := by
  unfold State.sendVector
  repeat' split
  all_goals rfl
@[simp] theorem sendVector_acq (v : Nat) : (s.sendVector v).acq = s.acq := by
  unfold State.sendVector
  repeat' split
  all_goals rfl
@[simp] theorem sendVector_plt (v : Nat) : (s.sendVector v).plt = s.plt := by
  unfold State.sendVector
  repeat' split
  all_goals rfl
@[simp] theorem sendVector_fft (v : Nat) : (s.sendVector v).fft = s.fft := by
  unfold State.sendVector
  repeat' split
  all_goals rfl
@[simp] theorem sendVector_hel (v : Nat) : (s.sendVector v).hel = s.hel := by
  unfold State.sendVector
  repeat' split
  all_goals rfl
@[simp] theorem sendVector_act (v : Nat) : (s.sendVector v).act = s.act := by
  unfold State.sendVector
  repeat' split
  all_goals rfl
@[simp] theorem sendVector_hka (v : Nat) : (s.sendVector v).hka = s.hka := by
  unfold State.sendVector
  repeat' split
  all_goals rfl
@[simp] theorem sendVector_col (v : Nat) : (s.sendVector v).col = s.col := by
  unfold State.sendVector
  repeat' split
  all_goals rfl
@[simp] theorem sendVector_alm (v : Nat) : (s.sendVector v).alm = s.alm := by
  unfold State.sendVector
  repeat' split
  all_goals rfl
@[simp] theorem sendVector_pho (v : Nat) : (s.sendVector v).pho = s.pho := by
  unfold State.sendVector
  repeat' split
  all_goals rfl
@[simp] theorem sendVector_cdr (v : Nat) : (s.sendVector v).cdr = s.cdr := by
  unfold State.sendVector
  repeat' split
  all_goals rfl
@[simp] theorem sendVector_ssc (v : Nat) : (s.sendVector v).ssc = s.ssc := by
  unfold State.sendVector
  repeat' split
  all_goals rfl
@[simp] theorem sendVector_est (v : Nat) : (s.sendVector v).est = s.est := by
  unfold State.sendVector
  repeat' split
  all_goals rfl
@[simp] theorem sendVector_dma (v : Nat) : (s.sendVector v).dma = s.dma := by
  unfold State.sendVector
  repeat' split
  all_goals rfl
@[simp] theorem sendVector_evf (v : Nat) : (s.sendVector v).evf = s.evf := by
  unfold State.sendVector
  repeat' split
  all_goals rfl
@[simp] theorem sendVector_chr (v : Nat) : (s.sendVector v).chr = s.chr := by
  unfold State.sendVector
  repeat' split
  all_goals rfl
@[simp] theorem sendVector_sec (v : Nat) : (s.sendVector v).sec = s.sec := by
  unfold State.sendVector
  repeat' split
  all_goals rfl
@[simp] theorem sendVector_pwr (v : Nat) : (s.sendVector v).pwr = s.pwr := by
  unfold State.sendVector
  repeat' split
  all_goals rfl
@[simp] theorem irq_pending (p : Nat) : (s.irq p).pending = s.pending := by
  unfold State.irq
  split
  · simp
  · rfl
@[simp] theorem irq_now (p : Nat) : (s.irq p).now = s.now := by
  unfold State.irq
  split
  · simp
  · rfl
@[simp] theorem irq_fv (p : Nat) : (s.irq p).fv = s.fv := by
  unfold State.irq
  split
  · simp
  · rfl
@[simp] theorem irq_straps (p : Nat) : (s.irq p).straps = s.straps := by
  unfold State.irq
  split
  · simp
  · rfl
@[simp] theorem irq_regs (p : Nat) : (s.irq p).regs = s.regs := by
  unfold State.irq
  split
  · simp
  · rfl
@[simp] theorem irq_pend (p : Nat) : (s.irq p).pend = s.pend := by
  unfold State.irq
  split
  · simp
  · rfl
@[simp] theorem irq_hold64 (p : Nat) : (s.irq p).hold64 = s.hold64 := by
  unfold State.irq
  split
  · simp
  · rfl
@[simp] theorem irq_hdrs (p : Nat) : (s.irq p).hdrs = s.hdrs := by
  unfold State.irq
  split
  · simp
  · rfl
@[simp] theorem irq_bar2 (p : Nat) : (s.irq p).bar2 = s.bar2 := by
  unfold State.irq
  split
  · simp
  · rfl
@[simp] theorem irq_holdTab (p : Nat) : (s.irq p).holdTab = s.holdTab := by
  unfold State.irq
  split
  · simp
  · rfl
@[simp] theorem irq_attnL (p : Nat) : (s.irq p).attnL = s.attnL := by
  unfold State.irq
  split
  · simp
  · rfl
@[simp] theorem irq_flight (p : Nat) : (s.irq p).flight = s.flight := by
  unfold State.irq
  split
  · simp
  · rfl
@[simp] theorem irq_mer (p : Nat) : (s.irq p).mer = s.mer := by
  unfold State.irq
  split
  · simp
  · rfl
@[simp] theorem irq_lines (p : Nat) : (s.irq p).lines = s.lines := by
  unfold State.irq
  split
  · simp
  · rfl
@[simp] theorem irq_acq (p : Nat) : (s.irq p).acq = s.acq := by
  unfold State.irq
  split
  · simp
  · rfl
@[simp] theorem irq_plt (p : Nat) : (s.irq p).plt = s.plt := by
  unfold State.irq
  split
  · simp
  · rfl
@[simp] theorem irq_fft (p : Nat) : (s.irq p).fft = s.fft := by
  unfold State.irq
  split
  · simp
  · rfl
@[simp] theorem irq_hel (p : Nat) : (s.irq p).hel = s.hel := by
  unfold State.irq
  split
  · simp
  · rfl
@[simp] theorem irq_act (p : Nat) : (s.irq p).act = s.act := by
  unfold State.irq
  split
  · simp
  · rfl
@[simp] theorem irq_hka (p : Nat) : (s.irq p).hka = s.hka := by
  unfold State.irq
  split
  · simp
  · rfl
@[simp] theorem irq_col (p : Nat) : (s.irq p).col = s.col := by
  unfold State.irq
  split
  · simp
  · rfl
@[simp] theorem irq_alm (p : Nat) : (s.irq p).alm = s.alm := by
  unfold State.irq
  split
  · simp
  · rfl
@[simp] theorem irq_pho (p : Nat) : (s.irq p).pho = s.pho := by
  unfold State.irq
  split
  · simp
  · rfl
@[simp] theorem irq_cdr (p : Nat) : (s.irq p).cdr = s.cdr := by
  unfold State.irq
  split
  · simp
  · rfl
@[simp] theorem irq_ssc (p : Nat) : (s.irq p).ssc = s.ssc := by
  unfold State.irq
  split
  · simp
  · rfl
@[simp] theorem irq_est (p : Nat) : (s.irq p).est = s.est := by
  unfold State.irq
  split
  · simp
  · rfl
@[simp] theorem irq_dma (p : Nat) : (s.irq p).dma = s.dma := by
  unfold State.irq
  split
  · simp
  · rfl
@[simp] theorem irq_evf (p : Nat) : (s.irq p).evf = s.evf := by
  unfold State.irq
  split
  · simp
  · rfl
@[simp] theorem irq_chr (p : Nat) : (s.irq p).chr = s.chr := by
  unfold State.irq
  split
  · simp
  · rfl
@[simp] theorem irq_sec (p : Nat) : (s.irq p).sec = s.sec := by
  unfold State.irq
  split
  · simp
  · rfl
@[simp] theorem irq_pwr (p : Nat) : (s.irq p).pwr = s.pwr := by
  unfold State.irq
  split
  · simp
  · rfl
@[simp] theorem evt_pending (p b : Nat) : (s.evt p b).pending = s.pending := by
  unfold State.evt
  dsimp only
  split
  · simp
  · simp
@[simp] theorem evt_now (p b : Nat) : (s.evt p b).now = s.now := by
  unfold State.evt
  dsimp only
  split
  · simp
  · simp
@[simp] theorem evt_fv (p b : Nat) : (s.evt p b).fv = s.fv := by
  unfold State.evt
  dsimp only
  split
  · simp
  · simp
@[simp] theorem evt_straps (p b : Nat) : (s.evt p b).straps = s.straps := by
  unfold State.evt
  dsimp only
  split
  · simp
  · simp
@[simp] theorem evt_regs (p b : Nat) : (s.evt p b).regs = s.regs := by
  unfold State.evt
  dsimp only
  split
  · simp
  · simp
@[simp] theorem evt_pend (p b : Nat) : (s.evt p b).pend = s.pend := by
  unfold State.evt
  dsimp only
  split
  · simp
  · simp
@[simp] theorem evt_hold64 (p b : Nat) : (s.evt p b).hold64 = s.hold64 := by
  unfold State.evt
  dsimp only
  split
  · simp
  · simp
@[simp] theorem evt_bar2 (p b : Nat) : (s.evt p b).bar2 = s.bar2 := by
  unfold State.evt
  dsimp only
  split
  · simp
  · simp
@[simp] theorem evt_holdTab (p b : Nat) : (s.evt p b).holdTab = s.holdTab := by
  unfold State.evt
  dsimp only
  split
  · simp
  · simp
@[simp] theorem evt_attnL (p b : Nat) : (s.evt p b).attnL = s.attnL := by
  unfold State.evt
  dsimp only
  split
  · simp
  · simp
@[simp] theorem evt_flight (p b : Nat) : (s.evt p b).flight = s.flight := by
  unfold State.evt
  dsimp only
  split
  · simp
  · simp
@[simp] theorem evt_mer (p b : Nat) : (s.evt p b).mer = s.mer := by
  unfold State.evt
  dsimp only
  split
  · simp
  · simp
@[simp] theorem evt_lines (p b : Nat) : (s.evt p b).lines = s.lines := by
  unfold State.evt
  dsimp only
  split
  · simp
  · simp
@[simp] theorem evt_acq (p b : Nat) : (s.evt p b).acq = s.acq := by
  unfold State.evt
  dsimp only
  split
  · simp
  · simp
@[simp] theorem evt_plt (p b : Nat) : (s.evt p b).plt = s.plt := by
  unfold State.evt
  dsimp only
  split
  · simp
  · simp
@[simp] theorem evt_fft (p b : Nat) : (s.evt p b).fft = s.fft := by
  unfold State.evt
  dsimp only
  split
  · simp
  · simp
@[simp] theorem evt_hel (p b : Nat) : (s.evt p b).hel = s.hel := by
  unfold State.evt
  dsimp only
  split
  · simp
  · simp
@[simp] theorem evt_act (p b : Nat) : (s.evt p b).act = s.act := by
  unfold State.evt
  dsimp only
  split
  · simp
  · simp
@[simp] theorem evt_hka (p b : Nat) : (s.evt p b).hka = s.hka := by
  unfold State.evt
  dsimp only
  split
  · simp
  · simp
@[simp] theorem evt_col (p b : Nat) : (s.evt p b).col = s.col := by
  unfold State.evt
  dsimp only
  split
  · simp
  · simp
@[simp] theorem evt_alm (p b : Nat) : (s.evt p b).alm = s.alm := by
  unfold State.evt
  dsimp only
  split
  · simp
  · simp
@[simp] theorem evt_pho (p b : Nat) : (s.evt p b).pho = s.pho := by
  unfold State.evt
  dsimp only
  split
  · simp
  · simp
@[simp] theorem evt_cdr (p b : Nat) : (s.evt p b).cdr = s.cdr := by
  unfold State.evt
  dsimp only
  split
  · simp
  · simp
@[simp] theorem evt_ssc (p b : Nat) : (s.evt p b).ssc = s.ssc := by
  unfold State.evt
  dsimp only
  split
  · simp
  · simp
@[simp] theorem evt_est (p b : Nat) : (s.evt p b).est = s.est := by
  unfold State.evt
  dsimp only
  split
  · simp
  · simp
@[simp] theorem evt_dma (p b : Nat) : (s.evt p b).dma = s.dma := by
  unfold State.evt
  dsimp only
  split
  · simp
  · simp
@[simp] theorem evt_evf (p b : Nat) : (s.evt p b).evf = s.evf := by
  unfold State.evt
  dsimp only
  split
  · simp
  · simp
@[simp] theorem evt_chr (p b : Nat) : (s.evt p b).chr = s.chr := by
  unfold State.evt
  dsimp only
  split
  · simp
  · simp
@[simp] theorem evt_sec (p b : Nat) : (s.evt p b).sec = s.sec := by
  unfold State.evt
  dsimp only
  split
  · simp
  · simp
@[simp] theorem evt_pwr (p b : Nat) : (s.evt p b).pwr = s.pwr := by
  unfold State.evt
  dsimp only
  split
  · simp
  · simp
@[simp] theorem evtIf_pending (c : Bool) (p b : Nat) : (s.evtIf c p b).pending = s.pending := by
  unfold State.evtIf
  split
  · simp
  · rfl
@[simp] theorem evtIf_now (c : Bool) (p b : Nat) : (s.evtIf c p b).now = s.now := by
  unfold State.evtIf
  split
  · simp
  · rfl
@[simp] theorem evtIf_fv (c : Bool) (p b : Nat) : (s.evtIf c p b).fv = s.fv := by
  unfold State.evtIf
  split
  · simp
  · rfl
@[simp] theorem evtIf_straps (c : Bool) (p b : Nat) : (s.evtIf c p b).straps = s.straps := by
  unfold State.evtIf
  split
  · simp
  · rfl
@[simp] theorem evtIf_regs (c : Bool) (p b : Nat) : (s.evtIf c p b).regs = s.regs := by
  unfold State.evtIf
  split
  · simp
  · rfl
@[simp] theorem evtIf_pend (c : Bool) (p b : Nat) : (s.evtIf c p b).pend = s.pend := by
  unfold State.evtIf
  split
  · simp
  · rfl
@[simp] theorem evtIf_hold64 (c : Bool) (p b : Nat) : (s.evtIf c p b).hold64 = s.hold64 := by
  unfold State.evtIf
  split
  · simp
  · rfl
@[simp] theorem evtIf_bar2 (c : Bool) (p b : Nat) : (s.evtIf c p b).bar2 = s.bar2 := by
  unfold State.evtIf
  split
  · simp
  · rfl
@[simp] theorem evtIf_holdTab (c : Bool) (p b : Nat) : (s.evtIf c p b).holdTab = s.holdTab := by
  unfold State.evtIf
  split
  · simp
  · rfl
@[simp] theorem evtIf_attnL (c : Bool) (p b : Nat) : (s.evtIf c p b).attnL = s.attnL := by
  unfold State.evtIf
  split
  · simp
  · rfl
@[simp] theorem evtIf_flight (c : Bool) (p b : Nat) : (s.evtIf c p b).flight = s.flight := by
  unfold State.evtIf
  split
  · simp
  · rfl
@[simp] theorem evtIf_mer (c : Bool) (p b : Nat) : (s.evtIf c p b).mer = s.mer := by
  unfold State.evtIf
  split
  · simp
  · rfl
@[simp] theorem evtIf_lines (c : Bool) (p b : Nat) : (s.evtIf c p b).lines = s.lines := by
  unfold State.evtIf
  split
  · simp
  · rfl
@[simp] theorem evtIf_acq (c : Bool) (p b : Nat) : (s.evtIf c p b).acq = s.acq := by
  unfold State.evtIf
  split
  · simp
  · rfl
@[simp] theorem evtIf_plt (c : Bool) (p b : Nat) : (s.evtIf c p b).plt = s.plt := by
  unfold State.evtIf
  split
  · simp
  · rfl
@[simp] theorem evtIf_fft (c : Bool) (p b : Nat) : (s.evtIf c p b).fft = s.fft := by
  unfold State.evtIf
  split
  · simp
  · rfl
@[simp] theorem evtIf_hel (c : Bool) (p b : Nat) : (s.evtIf c p b).hel = s.hel := by
  unfold State.evtIf
  split
  · simp
  · rfl
@[simp] theorem evtIf_act (c : Bool) (p b : Nat) : (s.evtIf c p b).act = s.act := by
  unfold State.evtIf
  split
  · simp
  · rfl
@[simp] theorem evtIf_hka (c : Bool) (p b : Nat) : (s.evtIf c p b).hka = s.hka := by
  unfold State.evtIf
  split
  · simp
  · rfl
@[simp] theorem evtIf_col (c : Bool) (p b : Nat) : (s.evtIf c p b).col = s.col := by
  unfold State.evtIf
  split
  · simp
  · rfl
@[simp] theorem evtIf_alm (c : Bool) (p b : Nat) : (s.evtIf c p b).alm = s.alm := by
  unfold State.evtIf
  split
  · simp
  · rfl
@[simp] theorem evtIf_pho (c : Bool) (p b : Nat) : (s.evtIf c p b).pho = s.pho := by
  unfold State.evtIf
  split
  · simp
  · rfl
@[simp] theorem evtIf_cdr (c : Bool) (p b : Nat) : (s.evtIf c p b).cdr = s.cdr := by
  unfold State.evtIf
  split
  · simp
  · rfl
@[simp] theorem evtIf_ssc (c : Bool) (p b : Nat) : (s.evtIf c p b).ssc = s.ssc := by
  unfold State.evtIf
  split
  · simp
  · rfl
@[simp] theorem evtIf_est (c : Bool) (p b : Nat) : (s.evtIf c p b).est = s.est := by
  unfold State.evtIf
  split
  · simp
  · rfl
@[simp] theorem evtIf_dma (c : Bool) (p b : Nat) : (s.evtIf c p b).dma = s.dma := by
  unfold State.evtIf
  split
  · simp
  · rfl
@[simp] theorem evtIf_evf (c : Bool) (p b : Nat) : (s.evtIf c p b).evf = s.evf := by
  unfold State.evtIf
  split
  · simp
  · rfl
@[simp] theorem evtIf_chr (c : Bool) (p b : Nat) : (s.evtIf c p b).chr = s.chr := by
  unfold State.evtIf
  split
  · simp
  · rfl
@[simp] theorem evtIf_sec (c : Bool) (p b : Nat) : (s.evtIf c p b).sec = s.sec := by
  unfold State.evtIf
  split
  · simp
  · rfl
@[simp] theorem evtIf_pwr (c : Bool) (p b : Nat) : (s.evtIf c p b).pwr = s.pwr := by
  unfold State.evtIf
  split
  · simp
  · rfl
@[simp] theorem setReg64_pending (a v : Nat) : (s.setReg64 a v).pending = s.pending := by simp [State.setReg64]
@[simp] theorem setReg64_now (a v : Nat) : (s.setReg64 a v).now = s.now := by simp [State.setReg64]
@[simp] theorem setReg64_fv (a v : Nat) : (s.setReg64 a v).fv = s.fv := by simp [State.setReg64]
@[simp] theorem setReg64_straps (a v : Nat) : (s.setReg64 a v).straps = s.straps := by simp [State.setReg64]
@[simp] theorem setReg64_pend (a v : Nat) : (s.setReg64 a v).pend = s.pend := by simp [State.setReg64]
@[simp] theorem setReg64_hold64 (a v : Nat) : (s.setReg64 a v).hold64 = s.hold64 := by simp [State.setReg64]
@[simp] theorem setReg64_hdrs (a v : Nat) : (s.setReg64 a v).hdrs = s.hdrs := by simp [State.setReg64]
@[simp] theorem setReg64_bar2 (a v : Nat) : (s.setReg64 a v).bar2 = s.bar2 := by simp [State.setReg64]
@[simp] theorem setReg64_holdTab (a v : Nat) : (s.setReg64 a v).holdTab = s.holdTab := by simp [State.setReg64]
@[simp] theorem setReg64_attnL (a v : Nat) : (s.setReg64 a v).attnL = s.attnL := by simp [State.setReg64]
@[simp] theorem setReg64_flight (a v : Nat) : (s.setReg64 a v).flight = s.flight := by simp [State.setReg64]
@[simp] theorem setReg64_out (a v : Nat) : (s.setReg64 a v).out = s.out := by simp [State.setReg64]
@[simp] theorem setReg64_mer (a v : Nat) : (s.setReg64 a v).mer = s.mer := by simp [State.setReg64]
@[simp] theorem setReg64_lines (a v : Nat) : (s.setReg64 a v).lines = s.lines := by simp [State.setReg64]
@[simp] theorem setReg64_acq (a v : Nat) : (s.setReg64 a v).acq = s.acq := by simp [State.setReg64]
@[simp] theorem setReg64_plt (a v : Nat) : (s.setReg64 a v).plt = s.plt := by simp [State.setReg64]
@[simp] theorem setReg64_fft (a v : Nat) : (s.setReg64 a v).fft = s.fft := by simp [State.setReg64]
@[simp] theorem setReg64_hel (a v : Nat) : (s.setReg64 a v).hel = s.hel := by simp [State.setReg64]
@[simp] theorem setReg64_act (a v : Nat) : (s.setReg64 a v).act = s.act := by simp [State.setReg64]
@[simp] theorem setReg64_hka (a v : Nat) : (s.setReg64 a v).hka = s.hka := by simp [State.setReg64]
@[simp] theorem setReg64_col (a v : Nat) : (s.setReg64 a v).col = s.col := by simp [State.setReg64]
@[simp] theorem setReg64_alm (a v : Nat) : (s.setReg64 a v).alm = s.alm := by simp [State.setReg64]
@[simp] theorem setReg64_pho (a v : Nat) : (s.setReg64 a v).pho = s.pho := by simp [State.setReg64]
@[simp] theorem setReg64_cdr (a v : Nat) : (s.setReg64 a v).cdr = s.cdr := by simp [State.setReg64]
@[simp] theorem setReg64_ssc (a v : Nat) : (s.setReg64 a v).ssc = s.ssc := by simp [State.setReg64]
@[simp] theorem setReg64_est (a v : Nat) : (s.setReg64 a v).est = s.est := by simp [State.setReg64]
@[simp] theorem setReg64_dma (a v : Nat) : (s.setReg64 a v).dma = s.dma := by simp [State.setReg64]
@[simp] theorem setReg64_hlk (a v : Nat) : (s.setReg64 a v).hlk = s.hlk := by simp [State.setReg64]
@[simp] theorem setReg64_evf (a v : Nat) : (s.setReg64 a v).evf = s.evf := by simp [State.setReg64]
@[simp] theorem setReg64_chr (a v : Nat) : (s.setReg64 a v).chr = s.chr := by simp [State.setReg64]
@[simp] theorem setReg64_sec (a v : Nat) : (s.setReg64 a v).sec = s.sec := by simp [State.setReg64]
@[simp] theorem setReg64_pwr (a v : Nat) : (s.setReg64 a v).pwr = s.pwr := by simp [State.setReg64]
@[simp] theorem bump_pending (a n : Nat) : (s.bump a n).pending = s.pending := by simp [State.bump]
@[simp] theorem bump_now (a n : Nat) : (s.bump a n).now = s.now := by simp [State.bump]
@[simp] theorem bump_fv (a n : Nat) : (s.bump a n).fv = s.fv := by simp [State.bump]
@[simp] theorem bump_straps (a n : Nat) : (s.bump a n).straps = s.straps := by simp [State.bump]
@[simp] theorem bump_pend (a n : Nat) : (s.bump a n).pend = s.pend := by simp [State.bump]
@[simp] theorem bump_hold64 (a n : Nat) : (s.bump a n).hold64 = s.hold64 := by simp [State.bump]
@[simp] theorem bump_hdrs (a n : Nat) : (s.bump a n).hdrs = s.hdrs := by simp [State.bump]
@[simp] theorem bump_bar2 (a n : Nat) : (s.bump a n).bar2 = s.bar2 := by simp [State.bump]
@[simp] theorem bump_holdTab (a n : Nat) : (s.bump a n).holdTab = s.holdTab := by simp [State.bump]
@[simp] theorem bump_attnL (a n : Nat) : (s.bump a n).attnL = s.attnL := by simp [State.bump]
@[simp] theorem bump_flight (a n : Nat) : (s.bump a n).flight = s.flight := by simp [State.bump]
@[simp] theorem bump_out (a n : Nat) : (s.bump a n).out = s.out := by simp [State.bump]
@[simp] theorem bump_mer (a n : Nat) : (s.bump a n).mer = s.mer := by simp [State.bump]
@[simp] theorem bump_lines (a n : Nat) : (s.bump a n).lines = s.lines := by simp [State.bump]
@[simp] theorem bump_acq (a n : Nat) : (s.bump a n).acq = s.acq := by simp [State.bump]
@[simp] theorem bump_plt (a n : Nat) : (s.bump a n).plt = s.plt := by simp [State.bump]
@[simp] theorem bump_fft (a n : Nat) : (s.bump a n).fft = s.fft := by simp [State.bump]
@[simp] theorem bump_hel (a n : Nat) : (s.bump a n).hel = s.hel := by simp [State.bump]
@[simp] theorem bump_act (a n : Nat) : (s.bump a n).act = s.act := by simp [State.bump]
@[simp] theorem bump_hka (a n : Nat) : (s.bump a n).hka = s.hka := by simp [State.bump]
@[simp] theorem bump_col (a n : Nat) : (s.bump a n).col = s.col := by simp [State.bump]
@[simp] theorem bump_alm (a n : Nat) : (s.bump a n).alm = s.alm := by simp [State.bump]
@[simp] theorem bump_pho (a n : Nat) : (s.bump a n).pho = s.pho := by simp [State.bump]
@[simp] theorem bump_cdr (a n : Nat) : (s.bump a n).cdr = s.cdr := by simp [State.bump]
@[simp] theorem bump_ssc (a n : Nat) : (s.bump a n).ssc = s.ssc := by simp [State.bump]
@[simp] theorem bump_est (a n : Nat) : (s.bump a n).est = s.est := by simp [State.bump]
@[simp] theorem bump_dma (a n : Nat) : (s.bump a n).dma = s.dma := by simp [State.bump]
@[simp] theorem bump_hlk (a n : Nat) : (s.bump a n).hlk = s.hlk := by simp [State.bump]
@[simp] theorem bump_evf (a n : Nat) : (s.bump a n).evf = s.evf := by simp [State.bump]
@[simp] theorem bump_chr (a n : Nat) : (s.bump a n).chr = s.chr := by simp [State.bump]
@[simp] theorem bump_sec (a n : Nat) : (s.bump a n).sec = s.sec := by simp [State.bump]
@[simp] theorem bump_pwr (a n : Nat) : (s.bump a n).pwr = s.pwr := by simp [State.bump]
@[simp] theorem bumpFld_pending (a : Nat) (f : Fld) (n : Nat) : (s.bumpFld a f n).pending = s.pending := by simp [State.bumpFld]
@[simp] theorem bumpFld_now (a : Nat) (f : Fld) (n : Nat) : (s.bumpFld a f n).now = s.now := by simp [State.bumpFld]
@[simp] theorem bumpFld_fv (a : Nat) (f : Fld) (n : Nat) : (s.bumpFld a f n).fv = s.fv := by simp [State.bumpFld]
@[simp] theorem bumpFld_straps (a : Nat) (f : Fld) (n : Nat) : (s.bumpFld a f n).straps = s.straps := by simp [State.bumpFld]
@[simp] theorem bumpFld_pend (a : Nat) (f : Fld) (n : Nat) : (s.bumpFld a f n).pend = s.pend := by simp [State.bumpFld]
@[simp] theorem bumpFld_hold64 (a : Nat) (f : Fld) (n : Nat) : (s.bumpFld a f n).hold64 = s.hold64 := by simp [State.bumpFld]
@[simp] theorem bumpFld_hdrs (a : Nat) (f : Fld) (n : Nat) : (s.bumpFld a f n).hdrs = s.hdrs := by simp [State.bumpFld]
@[simp] theorem bumpFld_bar2 (a : Nat) (f : Fld) (n : Nat) : (s.bumpFld a f n).bar2 = s.bar2 := by simp [State.bumpFld]
@[simp] theorem bumpFld_holdTab (a : Nat) (f : Fld) (n : Nat) : (s.bumpFld a f n).holdTab = s.holdTab := by simp [State.bumpFld]
@[simp] theorem bumpFld_attnL (a : Nat) (f : Fld) (n : Nat) : (s.bumpFld a f n).attnL = s.attnL := by simp [State.bumpFld]
@[simp] theorem bumpFld_flight (a : Nat) (f : Fld) (n : Nat) : (s.bumpFld a f n).flight = s.flight := by simp [State.bumpFld]
@[simp] theorem bumpFld_out (a : Nat) (f : Fld) (n : Nat) : (s.bumpFld a f n).out = s.out := by simp [State.bumpFld]
@[simp] theorem bumpFld_mer (a : Nat) (f : Fld) (n : Nat) : (s.bumpFld a f n).mer = s.mer := by simp [State.bumpFld]
@[simp] theorem bumpFld_lines (a : Nat) (f : Fld) (n : Nat) : (s.bumpFld a f n).lines = s.lines := by simp [State.bumpFld]
@[simp] theorem bumpFld_acq (a : Nat) (f : Fld) (n : Nat) : (s.bumpFld a f n).acq = s.acq := by simp [State.bumpFld]
@[simp] theorem bumpFld_plt (a : Nat) (f : Fld) (n : Nat) : (s.bumpFld a f n).plt = s.plt := by simp [State.bumpFld]
@[simp] theorem bumpFld_fft (a : Nat) (f : Fld) (n : Nat) : (s.bumpFld a f n).fft = s.fft := by simp [State.bumpFld]
@[simp] theorem bumpFld_hel (a : Nat) (f : Fld) (n : Nat) : (s.bumpFld a f n).hel = s.hel := by simp [State.bumpFld]
@[simp] theorem bumpFld_act (a : Nat) (f : Fld) (n : Nat) : (s.bumpFld a f n).act = s.act := by simp [State.bumpFld]
@[simp] theorem bumpFld_hka (a : Nat) (f : Fld) (n : Nat) : (s.bumpFld a f n).hka = s.hka := by simp [State.bumpFld]
@[simp] theorem bumpFld_col (a : Nat) (f : Fld) (n : Nat) : (s.bumpFld a f n).col = s.col := by simp [State.bumpFld]
@[simp] theorem bumpFld_alm (a : Nat) (f : Fld) (n : Nat) : (s.bumpFld a f n).alm = s.alm := by simp [State.bumpFld]
@[simp] theorem bumpFld_pho (a : Nat) (f : Fld) (n : Nat) : (s.bumpFld a f n).pho = s.pho := by simp [State.bumpFld]
@[simp] theorem bumpFld_cdr (a : Nat) (f : Fld) (n : Nat) : (s.bumpFld a f n).cdr = s.cdr := by simp [State.bumpFld]
@[simp] theorem bumpFld_ssc (a : Nat) (f : Fld) (n : Nat) : (s.bumpFld a f n).ssc = s.ssc := by simp [State.bumpFld]
@[simp] theorem bumpFld_est (a : Nat) (f : Fld) (n : Nat) : (s.bumpFld a f n).est = s.est := by simp [State.bumpFld]
@[simp] theorem bumpFld_dma (a : Nat) (f : Fld) (n : Nat) : (s.bumpFld a f n).dma = s.dma := by simp [State.bumpFld]
@[simp] theorem bumpFld_hlk (a : Nat) (f : Fld) (n : Nat) : (s.bumpFld a f n).hlk = s.hlk := by simp [State.bumpFld]
@[simp] theorem bumpFld_evf (a : Nat) (f : Fld) (n : Nat) : (s.bumpFld a f n).evf = s.evf := by simp [State.bumpFld]
@[simp] theorem bumpFld_chr (a : Nat) (f : Fld) (n : Nat) : (s.bumpFld a f n).chr = s.chr := by simp [State.bumpFld]
@[simp] theorem bumpFld_sec (a : Nat) (f : Fld) (n : Nat) : (s.bumpFld a f n).sec = s.sec := by simp [State.bumpFld]
@[simp] theorem bumpFld_pwr (a : Nat) (f : Fld) (n : Nat) : (s.bumpFld a f n).pwr = s.pwr := by simp [State.bumpFld]
@[simp] theorem setAttn_pending (b : Nat) : (s.setAttn b).pending = s.pending := by
  unfold State.setAttn State.attnIrq
  dsimp only
  split
  · simp
  · rfl
@[simp] theorem setAttn_now (b : Nat) : (s.setAttn b).now = s.now := by
  unfold State.setAttn State.attnIrq
  dsimp only
  split
  · simp
  · rfl
@[simp] theorem setAttn_fv (b : Nat) : (s.setAttn b).fv = s.fv := by
  unfold State.setAttn State.attnIrq
  dsimp only
  split
  · simp
  · rfl
@[simp] theorem setAttn_straps (b : Nat) : (s.setAttn b).straps = s.straps := by
  unfold State.setAttn State.attnIrq
  dsimp only
  split
  · simp
  · rfl
@[simp] theorem setAttn_regs (b : Nat) : (s.setAttn b).regs = s.regs := by
  unfold State.setAttn State.attnIrq
  dsimp only
  split
  · simp
  · rfl
@[simp] theorem setAttn_pend (b : Nat) : (s.setAttn b).pend = s.pend := by
  unfold State.setAttn State.attnIrq
  dsimp only
  split
  · simp
  · rfl
@[simp] theorem setAttn_hold64 (b : Nat) : (s.setAttn b).hold64 = s.hold64 := by
  unfold State.setAttn State.attnIrq
  dsimp only
  split
  · simp
  · rfl
@[simp] theorem setAttn_hdrs (b : Nat) : (s.setAttn b).hdrs = s.hdrs := by
  unfold State.setAttn State.attnIrq
  dsimp only
  split
  · simp
  · rfl
@[simp] theorem setAttn_bar2 (b : Nat) : (s.setAttn b).bar2 = s.bar2 := by
  unfold State.setAttn State.attnIrq
  dsimp only
  split
  · simp
  · rfl
@[simp] theorem setAttn_holdTab (b : Nat) : (s.setAttn b).holdTab = s.holdTab := by
  unfold State.setAttn State.attnIrq
  dsimp only
  split
  · simp
  · rfl
@[simp] theorem setAttn_flight (b : Nat) : (s.setAttn b).flight = s.flight := by
  unfold State.setAttn State.attnIrq
  dsimp only
  split
  · simp
  · rfl
@[simp] theorem setAttn_mer (b : Nat) : (s.setAttn b).mer = s.mer := by
  unfold State.setAttn State.attnIrq
  dsimp only
  split
  · simp
  · rfl
@[simp] theorem setAttn_lines (b : Nat) : (s.setAttn b).lines = s.lines := by
  unfold State.setAttn State.attnIrq
  dsimp only
  split
  · simp
  · rfl
@[simp] theorem setAttn_acq (b : Nat) : (s.setAttn b).acq = s.acq := by
  unfold State.setAttn State.attnIrq
  dsimp only
  split
  · simp
  · rfl
@[simp] theorem setAttn_plt (b : Nat) : (s.setAttn b).plt = s.plt := by
  unfold State.setAttn State.attnIrq
  dsimp only
  split
  · simp
  · rfl
@[simp] theorem setAttn_fft (b : Nat) : (s.setAttn b).fft = s.fft := by
  unfold State.setAttn State.attnIrq
  dsimp only
  split
  · simp
  · rfl
@[simp] theorem setAttn_hel (b : Nat) : (s.setAttn b).hel = s.hel := by
  unfold State.setAttn State.attnIrq
  dsimp only
  split
  · simp
  · rfl
@[simp] theorem setAttn_act (b : Nat) : (s.setAttn b).act = s.act := by
  unfold State.setAttn State.attnIrq
  dsimp only
  split
  · simp
  · rfl
@[simp] theorem setAttn_hka (b : Nat) : (s.setAttn b).hka = s.hka := by
  unfold State.setAttn State.attnIrq
  dsimp only
  split
  · simp
  · rfl
@[simp] theorem setAttn_col (b : Nat) : (s.setAttn b).col = s.col := by
  unfold State.setAttn State.attnIrq
  dsimp only
  split
  · simp
  · rfl
@[simp] theorem setAttn_alm (b : Nat) : (s.setAttn b).alm = s.alm := by
  unfold State.setAttn State.attnIrq
  dsimp only
  split
  · simp
  · rfl
@[simp] theorem setAttn_pho (b : Nat) : (s.setAttn b).pho = s.pho := by
  unfold State.setAttn State.attnIrq
  dsimp only
  split
  · simp
  · rfl
@[simp] theorem setAttn_cdr (b : Nat) : (s.setAttn b).cdr = s.cdr := by
  unfold State.setAttn State.attnIrq
  dsimp only
  split
  · simp
  · rfl
@[simp] theorem setAttn_ssc (b : Nat) : (s.setAttn b).ssc = s.ssc := by
  unfold State.setAttn State.attnIrq
  dsimp only
  split
  · simp
  · rfl
@[simp] theorem setAttn_est (b : Nat) : (s.setAttn b).est = s.est := by
  unfold State.setAttn State.attnIrq
  dsimp only
  split
  · simp
  · rfl
@[simp] theorem setAttn_dma (b : Nat) : (s.setAttn b).dma = s.dma := by
  unfold State.setAttn State.attnIrq
  dsimp only
  split
  · simp
  · rfl
@[simp] theorem setAttn_evf (b : Nat) : (s.setAttn b).evf = s.evf := by
  unfold State.setAttn State.attnIrq
  dsimp only
  split
  · simp
  · rfl
@[simp] theorem setAttn_chr (b : Nat) : (s.setAttn b).chr = s.chr := by
  unfold State.setAttn State.attnIrq
  dsimp only
  split
  · simp
  · rfl
@[simp] theorem setAttn_sec (b : Nat) : (s.setAttn b).sec = s.sec := by
  unfold State.setAttn State.attnIrq
  dsimp only
  split
  · simp
  · rfl
@[simp] theorem setAttn_pwr (b : Nat) : (s.setAttn b).pwr = s.pwr := by
  unfold State.setAttn State.attnIrq
  dsimp only
  split
  · simp
  · rfl
@[simp] theorem kwSpend_pending (p : Nat) : (s.kwSpend p).pending = s.pending := by
  unfold State.kwSpend
  simp
@[simp] theorem kwSpend_now (p : Nat) : (s.kwSpend p).now = s.now := by
  unfold State.kwSpend
  simp
@[simp] theorem kwSpend_fv (p : Nat) : (s.kwSpend p).fv = s.fv := by
  unfold State.kwSpend
  simp
@[simp] theorem kwSpend_straps (p : Nat) : (s.kwSpend p).straps = s.straps := by
  unfold State.kwSpend
  simp
@[simp] theorem kwSpend_regs (p : Nat) : (s.kwSpend p).regs = s.regs := by
  unfold State.kwSpend
  simp
@[simp] theorem kwSpend_pend (p : Nat) : (s.kwSpend p).pend = s.pend := by
  unfold State.kwSpend
  simp
@[simp] theorem kwSpend_hold64 (p : Nat) : (s.kwSpend p).hold64 = s.hold64 := by
  unfold State.kwSpend
  simp
@[simp] theorem kwSpend_bar2 (p : Nat) : (s.kwSpend p).bar2 = s.bar2 := by
  unfold State.kwSpend
  simp
@[simp] theorem kwSpend_holdTab (p : Nat) : (s.kwSpend p).holdTab = s.holdTab := by
  unfold State.kwSpend
  simp
@[simp] theorem kwSpend_attnL (p : Nat) : (s.kwSpend p).attnL = s.attnL := by
  unfold State.kwSpend
  simp
@[simp] theorem kwSpend_flight (p : Nat) : (s.kwSpend p).flight = s.flight := by
  unfold State.kwSpend
  simp
@[simp] theorem kwSpend_mer (p : Nat) : (s.kwSpend p).mer = s.mer := by
  unfold State.kwSpend
  simp
@[simp] theorem kwSpend_lines (p : Nat) : (s.kwSpend p).lines = s.lines := by
  unfold State.kwSpend
  simp
@[simp] theorem kwSpend_acq (p : Nat) : (s.kwSpend p).acq = s.acq := by
  unfold State.kwSpend
  simp
@[simp] theorem kwSpend_plt (p : Nat) : (s.kwSpend p).plt = s.plt := by
  unfold State.kwSpend
  simp
@[simp] theorem kwSpend_fft (p : Nat) : (s.kwSpend p).fft = s.fft := by
  unfold State.kwSpend
  simp
@[simp] theorem kwSpend_hel (p : Nat) : (s.kwSpend p).hel = s.hel := by
  unfold State.kwSpend
  simp
@[simp] theorem kwSpend_act (p : Nat) : (s.kwSpend p).act = s.act := by
  unfold State.kwSpend
  simp
@[simp] theorem kwSpend_hka (p : Nat) : (s.kwSpend p).hka = s.hka := by
  unfold State.kwSpend
  simp
@[simp] theorem kwSpend_col (p : Nat) : (s.kwSpend p).col = s.col := by
  unfold State.kwSpend
  simp
@[simp] theorem kwSpend_alm (p : Nat) : (s.kwSpend p).alm = s.alm := by
  unfold State.kwSpend
  simp
@[simp] theorem kwSpend_pho (p : Nat) : (s.kwSpend p).pho = s.pho := by
  unfold State.kwSpend
  simp
@[simp] theorem kwSpend_cdr (p : Nat) : (s.kwSpend p).cdr = s.cdr := by
  unfold State.kwSpend
  simp
@[simp] theorem kwSpend_ssc (p : Nat) : (s.kwSpend p).ssc = s.ssc := by
  unfold State.kwSpend
  simp
@[simp] theorem kwSpend_est (p : Nat) : (s.kwSpend p).est = s.est := by
  unfold State.kwSpend
  simp
@[simp] theorem kwSpend_dma (p : Nat) : (s.kwSpend p).dma = s.dma := by
  unfold State.kwSpend
  simp
@[simp] theorem kwSpend_evf (p : Nat) : (s.kwSpend p).evf = s.evf := by
  unfold State.kwSpend
  simp
@[simp] theorem kwSpend_chr (p : Nat) : (s.kwSpend p).chr = s.chr := by
  unfold State.kwSpend
  simp
@[simp] theorem kwSpend_sec (p : Nat) : (s.kwSpend p).sec = s.sec := by
  unfold State.kwSpend
  simp
@[simp] theorem kwSpend_pwr (p : Nat) : (s.kwSpend p).pwr = s.pwr := by
  unfold State.kwSpend
  simp
@[simp] theorem ignored_pending (l sp r a : Nat) : (s.ignored l sp r a).pending = s.pending :=
  (evt_pending _ _).trans ((setReg_pending _ _ _).trans (bump_pending _ _))
@[simp] theorem ignored_now (l sp r a : Nat) : (s.ignored l sp r a).now = s.now :=
  (evt_now _ _).trans ((setReg_now _ _ _).trans (bump_now _ _))
@[simp] theorem ignored_fv (l sp r a : Nat) : (s.ignored l sp r a).fv = s.fv :=
  (evt_fv _ _).trans ((setReg_fv _ _ _).trans (bump_fv _ _))
@[simp] theorem ignored_straps (l sp r a : Nat) : (s.ignored l sp r a).straps = s.straps :=
  (evt_straps _ _).trans ((setReg_straps _ _ _).trans (bump_straps _ _))
@[simp] theorem ignored_pend (l sp r a : Nat) : (s.ignored l sp r a).pend = s.pend :=
  (evt_pend _ _).trans ((setReg_pend _ _ _).trans (bump_pend _ _))
@[simp] theorem ignored_hold64 (l sp r a : Nat) : (s.ignored l sp r a).hold64 = s.hold64 :=
  (evt_hold64 _ _).trans ((setReg_hold64 _ _ _).trans (bump_hold64 _ _))
@[simp] theorem ignored_bar2 (l sp r a : Nat) : (s.ignored l sp r a).bar2 = s.bar2 :=
  (evt_bar2 _ _).trans ((setReg_bar2 _ _ _).trans (bump_bar2 _ _))
@[simp] theorem ignored_holdTab (l sp r a : Nat) : (s.ignored l sp r a).holdTab = s.holdTab :=
  (evt_holdTab _ _).trans ((setReg_holdTab _ _ _).trans (bump_holdTab _ _))
@[simp] theorem ignored_attnL (l sp r a : Nat) : (s.ignored l sp r a).attnL = s.attnL :=
  (evt_attnL _ _).trans ((setReg_attnL _ _ _).trans (bump_attnL _ _))
@[simp] theorem ignored_flight (l sp r a : Nat) : (s.ignored l sp r a).flight = s.flight :=
  (evt_flight _ _).trans ((setReg_flight _ _ _).trans (bump_flight _ _))
@[simp] theorem ignored_mer (l sp r a : Nat) : (s.ignored l sp r a).mer = s.mer :=
  (evt_mer _ _).trans ((setReg_mer _ _ _).trans (bump_mer _ _))
@[simp] theorem ignored_lines (l sp r a : Nat) : (s.ignored l sp r a).lines = s.lines :=
  (evt_lines _ _).trans ((setReg_lines _ _ _).trans (bump_lines _ _))
@[simp] theorem ignored_acq (l sp r a : Nat) : (s.ignored l sp r a).acq = s.acq :=
  (evt_acq _ _).trans ((setReg_acq _ _ _).trans (bump_acq _ _))
@[simp] theorem ignored_plt (l sp r a : Nat) : (s.ignored l sp r a).plt = s.plt :=
  (evt_plt _ _).trans ((setReg_plt _ _ _).trans (bump_plt _ _))
@[simp] theorem ignored_fft (l sp r a : Nat) : (s.ignored l sp r a).fft = s.fft :=
  (evt_fft _ _).trans ((setReg_fft _ _ _).trans (bump_fft _ _))
@[simp] theorem ignored_hel (l sp r a : Nat) : (s.ignored l sp r a).hel = s.hel :=
  (evt_hel _ _).trans ((setReg_hel _ _ _).trans (bump_hel _ _))
@[simp] theorem ignored_act (l sp r a : Nat) : (s.ignored l sp r a).act = s.act :=
  (evt_act _ _).trans ((setReg_act _ _ _).trans (bump_act _ _))
@[simp] theorem ignored_hka (l sp r a : Nat) : (s.ignored l sp r a).hka = s.hka :=
  (evt_hka _ _).trans ((setReg_hka _ _ _).trans (bump_hka _ _))
@[simp] theorem ignored_col (l sp r a : Nat) : (s.ignored l sp r a).col = s.col :=
  (evt_col _ _).trans ((setReg_col _ _ _).trans (bump_col _ _))
@[simp] theorem ignored_alm (l sp r a : Nat) : (s.ignored l sp r a).alm = s.alm :=
  (evt_alm _ _).trans ((setReg_alm _ _ _).trans (bump_alm _ _))
@[simp] theorem ignored_pho (l sp r a : Nat) : (s.ignored l sp r a).pho = s.pho :=
  (evt_pho _ _).trans ((setReg_pho _ _ _).trans (bump_pho _ _))
@[simp] theorem ignored_cdr (l sp r a : Nat) : (s.ignored l sp r a).cdr = s.cdr :=
  (evt_cdr _ _).trans ((setReg_cdr _ _ _).trans (bump_cdr _ _))
@[simp] theorem ignored_ssc (l sp r a : Nat) : (s.ignored l sp r a).ssc = s.ssc :=
  (evt_ssc _ _).trans ((setReg_ssc _ _ _).trans (bump_ssc _ _))
@[simp] theorem ignored_est (l sp r a : Nat) : (s.ignored l sp r a).est = s.est :=
  (evt_est _ _).trans ((setReg_est _ _ _).trans (bump_est _ _))
@[simp] theorem ignored_dma (l sp r a : Nat) : (s.ignored l sp r a).dma = s.dma :=
  (evt_dma _ _).trans ((setReg_dma _ _ _).trans (bump_dma _ _))
@[simp] theorem ignored_evf (l sp r a : Nat) : (s.ignored l sp r a).evf = s.evf :=
  (evt_evf _ _).trans ((setReg_evf _ _ _).trans (bump_evf _ _))
@[simp] theorem ignored_chr (l sp r a : Nat) : (s.ignored l sp r a).chr = s.chr :=
  (evt_chr _ _).trans ((setReg_chr _ _ _).trans (bump_chr _ _))
@[simp] theorem ignored_sec (l sp r a : Nat) : (s.ignored l sp r a).sec = s.sec :=
  (evt_sec _ _).trans ((setReg_sec _ _ _).trans (bump_sec _ _))
@[simp] theorem ignored_pwr (l sp r a : Nat) : (s.ignored l sp r a).pwr = s.pwr :=
  (evt_pwr _ _).trans ((setReg_pwr _ _ _).trans (bump_pwr _ _))

/-! ## Registers -/

@[simp] theorem reg_setReg_same (a : Nat) (w : Word) : (s.setReg a w).reg a = w := by simp [State.reg, State.setReg]

theorem reg_setReg_other (a b : Nat) (w : Word) (h : b ≠ a) : (s.setReg a w).reg b = s.reg b := by
  simp [State.reg, State.setReg, get_put_other, h]

theorem reg_setFld_other (a b : Nat) (f : Fld) (v : Nat) (h : b ≠ a) : (s.setFld a f v).reg b = s.reg b :=
  reg_setReg_other _ _ _ h

theorem reg_setFlag_other (a b : Nat) (f : Fld) (v : Bool) (h : b ≠ a) : (s.setFlag a f v).reg b = s.reg b :=
  reg_setReg_other _ _ _ h

/-- A field holds what was written to it. -/
theorem fld_setFld_same (a : Nat) (f : Fld) (v : Nat) (h : f.1 < 32) :
    (s.setFld a f v).fld a f = v % 2 ^ (f.1 + 1 - f.2) := by
  simp only [State.fld, State.setFld, reg_setReg_same, bits_word _ _ _ h, bits_putBits]

/-- A field beside it keeps its value. -/
theorem fld_setFld_beside (a : Nat) (f g : Fld) (v : Nat) (h : g.1 < 32) (hf : f.2 ≤ f.1) (hd : g.1 < f.2 ∨ f.1 < g.2) :
    (s.setFld a f v).fld a g = s.fld a g := by
  simp only [State.fld, State.setFld, reg_setReg_same, bits_word _ _ _ h]
  rcases hd with hd | hd
  · exact bits_below _ _ _ _ _ _ hd
  · exact bits_above _ _ _ _ _ _ hf hd

theorem fld_setFld_other (a b : Nat) (f g : Fld) (v : Nat) (h : b ≠ a) : (s.setFld a f v).fld b g = s.fld b g := by
  simp [State.fld, reg_setFld_other, h]

theorem fld_setReg_other (a b : Nat) (g : Fld) (w : Word) (h : b ≠ a) : (s.setReg a w).fld b g = s.fld b g := by
  simp [State.fld, reg_setReg_other, h]

theorem flag_setFlag_same (a : Nat) (f : Fld) (b : Bool) (h : f.1 < 32) (hf : f.1 = f.2) : (s.setFlag a f b).flag a f = b := by
  simp only [State.flag, State.setFlag, fld_setFld_same _ _ _ h]
  have : f.1 + 1 - f.2 = 1 := by omega
  rw [this]
  cases b <;> rfl

theorem reg64_setReg64 (a v : Nat) : (s.setReg64 a v).reg64 a = v % 2 ^ 64 := by
  have h : a ≠ a + 4 := by omega
  simp only [State.reg64, State.setReg64, reg_setReg_same, reg_setReg_other _ _ _ h, BitVec.toNat_ofNat]
  omega

/-! ## Headers -/

@[simp] theorem hdr_setHdr_same (p : Nat) (h : Hdr) : (s.setHdr p h).hdr p = h := by simp [State.hdr, State.setHdr]

theorem hdr_setHdr_other (p q : Nat) (h : Hdr) (hq : q ≠ p) : (s.setHdr p h).hdr q = s.hdr q := by
  simp [State.hdr, State.setHdr, get_put_other, hq]

theorem hdr_setReg (p a : Nat) (w : Word) : (s.setReg a w).hdr p = s.hdr p := rfl

@[simp] theorem hdr_sendVector (p v : Nat) : (s.sendVector v).hdr p = s.hdr p := by simp [State.hdr]

@[simp] theorem hdr_irq (p v : Nat) : (s.irq v).hdr p = s.hdr p := by simp [State.hdr]

/-- An event sets its bit of PEVT and leaves the rest of the header (R42). -/
@[simp] theorem hdr_evt_same (p b : Nat) :
    (s.evt p b).hdr p = { s.hdr p with pevt := (s.hdr p).pevt ||| BitVec.ofNat 32 (2 ^ b) } := by
  unfold State.evt
  dsimp only
  split <;> simp

theorem hdr_evt_other (p q b : Nat) (h : q ≠ p) : (s.evt p b).hdr q = s.hdr q := by
  unfold State.evt
  dsimp only
  split <;> simp [hdr_setHdr_other, h]

theorem bit_testBit (x b : Nat) : bit x b = x.testBit b := by
  simp only [bit, Nat.testBit, Nat.shiftRight_eq_div_pow, Nat.one_and_eq_mod_two]
  cases Nat.mod_two_eq_zero_or_one (x / 2 ^ b) with
  | inl h => simp [h]
  | inr h => simp [h]

/-- An event sets its bit of PEVT. -/
theorem raised_evt_same (p b : Nat) (h : b < 32) : (s.evt p b).raised p b = true := by
  unfold State.raised
  rw [hdr_evt_same, bit_testBit]
  simp only [BitVec.toNat_or, Nat.testBit_or, BitVec.toNat_ofNat, Nat.testBit_mod_two_pow, Nat.testBit_two_pow_self, h]
  simp

/-- A bit of PEVT that was set stays set through other events. -/
theorem raised_evt (p b q c : Nat) (k : s.raised p b = true) : (s.evt q c).raised p b = true := by
  by_cases e : p = q
  · subst e
    unfold State.raised at *
    rw [hdr_evt_same, bit_testBit]
    rw [bit_testBit] at k
    simp [BitVec.toNat_or, Nat.testBit_or, k]
  · unfold State.raised
    rw [hdr_evt_other _ _ _ e]
    exact k

theorem raised_congr (p b : Nat) (h : t.hdr p = s.hdr p) : t.raised p b = s.raised p b := by
  simp only [State.raised, h]

theorem evtIf_true (p b : Nat) : s.evtIf true p b = s.evt p b := rfl

theorem evtIf_false (p b : Nat) : s.evtIf false p b = s := rfl

/-- A KW write with the guard open uses the guard up (R56). -/
theorem kwSpend_open (p : Nat) (h : s.kwAllowed p = true) :
    s.kwSpend p = s.setHdr p { s.hdr p with keyOpen := false } := by
  simp [State.kwSpend, State.evtIf, h]

/-- A refused KW write re-arms the guard and sets KEYERR (R59, R61). -/
theorem kwSpend_shut (p : Nat) (h : s.kwAllowed p = false) :
    s.kwSpend p = (s.setHdr p { s.hdr p with keyOpen := false }).evt p 3 := by
  simp [State.kwSpend, State.evtIf, h]

theorem guarded_open (p : Nat) (f : State → State) (h : s.kwAllowed p = true) :
    s.guarded p f = f (s.setHdr p { s.hdr p with keyOpen := false }) := by
  simp [State.guarded, h, kwSpend_open p h]

theorem guarded_shut (p : Nat) (f : State → State) (h : s.kwAllowed p = false) :
    s.guarded p f = (s.setHdr p { s.hdr p with keyOpen := false }).evt p 3 := by
  simp [State.guarded, h, kwSpend_shut p h]

theorem hostWrite_taken (p : Nat) (f : State → State) (h : s.accepts p = true) : s.hostWrite p f = f s := by
  simp [State.hostWrite, h]

theorem hostWrite_lost (p : Nat) (f : State → State) (h : s.accepts p = false) : s.hostWrite p f = s := by
  simp [State.hostWrite, h]

/-- Whether the register bus serves depends on the power state and the time alone. -/
theorem busDark_congr (hp : t.pwr = s.pwr) (hn : t.now = s.now) : t.busDark = s.busDark := by
  simp only [State.busDark, hp, hn]

theorem accepts_congr (p : Nat) (hp : t.pwr = s.pwr) (hn : t.now = s.now) (hh : t.hdr p = s.hdr p) :
    t.accepts p = s.accepts p := by
  simp only [State.accepts, busDark_congr hp hn, hh, hp]

theorem accepts_bus (p : Nat) (h : s.accepts p = true) : s.busDark = false := by
  unfold State.accepts at h
  revert h
  cases s.busDark
  · exact fun _ => rfl
  · simp

/-- A page that takes a write takes it later too. -/
theorem accepts_upto (p n : Nat) (h : s.accepts p = true) : (s.upto n).accepts p = true := by
  have e : (s.upto n).hdr p = s.hdr p := rfl
  simp only [State.accepts, State.busDark, upto_pwr, upto_now, e] at h ⊢
  simp only [Bool.and_eq_true, Bool.not_eq_true', Bool.or_eq_false_iff, Bool.and_eq_false_iff, decide_eq_false_iff_not] at h ⊢
  exact ⟨⟨⟨h.1.1.1, h.1.1.2.imp id (fun k => decide_eq_false (fun x => k (Nat.lt_of_le_of_lt (Nat.le_max_left s.now n) x)))⟩, h.1.2⟩, h.2⟩

@[simp] theorem busDark_setHdr (p : Nat) (x : Hdr) : (s.setHdr p x).busDark = s.busDark := busDark_congr rfl rfl

/-! ## Table memory -/

@[simp] theorem byte_setByte_same (a : Nat) (b : Byte) : (s.setByte a b).byte a = b := by simp [State.byte, State.setByte]

theorem byte_setByte_other (a c : Nat) (b : Byte) (h : c ≠ a) : (s.setByte a b).byte c = s.byte c := by
  simp [State.byte, State.setByte, get_put_other, h]

/-- A store changes no byte outside the bytes stored. -/
theorem byte_store_other (a n v c : Nat) (h : c < a ∨ a + n ≤ c) : (s.store a n v).byte c = s.byte c := by
  induction n generalizing s a v with
  | zero => rfl
  | succ n ih =>
    unfold State.store
    rw [ih _ _ (by omega), byte_setByte_other _ _ _ (by omega)]

theorem load_congr (a n : Nat) (h : ∀ c, a ≤ c → c < a + n → t.byte c = s.byte c) : t.load a n = s.load a n := by
  induction n generalizing a with
  | zero => rfl
  | succ n ih =>
    unfold State.load
    rw [h a (by omega) (by omega), ih _ (fun c h1 h2 => h c (by omega) (by omega))]

/-- A load of the bytes stored gives what was stored. -/
theorem load_store_same (a n v : Nat) : (s.store a n v).load a n = v % 2 ^ (8 * n) := by
  induction n generalizing s a v with
  | zero => simp [State.load, Nat.mod_one]
  | succ n ih =>
    unfold State.store State.load
    rw [ih, byte_store_other _ _ _ _ (by omega), byte_setByte_same, BitVec.toNat_ofNat]
    have h : 2 ^ (8 * (n + 1)) = 256 * 2 ^ (8 * n) := by
      rw [show 8 * (n + 1) = 8 + 8 * n by omega, Nat.pow_add]
    rw [h, Nat.mod_mul (a := 256)]

/-- A load elsewhere is not disturbed. -/
theorem load_store_other (a n v b m : Nat) (h : b + m ≤ a ∨ a + n ≤ b) : (s.store a n v).load b m = s.load b m :=
  load_congr _ _ (fun _ _ _ => byte_store_other _ _ _ _ (by omega))

end Sys2Proof.Laws

namespace Sys2Proof.Machine

open Sys2Proof.Laws

variable {s0 s t : State}

/-! ## Frames -/

theorem SamePart.refl (p : Piece) (s : State) : SamePart p s s := by
  cases p
  case held => exact ⟨rfl, rfl⟩
  case tables => exact fun _ => rfl
  all_goals rfl

theorem SamePart.trans {a b c : State} (p : Piece) (h : SamePart p a b) (k : SamePart p b c) : SamePart p a c := by
  cases p
  case held => exact ⟨k.1.trans h.1, k.2.trans h.2⟩
  case tables => exact fun x => (k x).trans (h x)
  all_goals exact Eq.trans k h

variable {l pg : List Nat} {ps : List Piece}

theorem Frame.refl (s : State) : Frame l pg ps s s := ⟨rfl, fun _ _ => rfl, fun _ _ => rfl, fun p _ => .refl p s⟩

theorem Frame.trans {a b c : State} (h : Frame l pg ps a b) (k : Frame l pg ps b c) : Frame l pg ps a c :=
  ⟨k.queue.trans h.queue, fun x hx => (k.regs x hx).trans (h.regs x hx), fun p hp => (k.hdrs p hp).trans (h.hdrs p hp),
    fun p hp => (h.parts p hp).trans p (k.parts p hp)⟩

/-- A smaller frame is a frame. -/
theorem Frame.mono {l' pg' : List Nat} {ps' : List Piece} (h : Frame l pg ps s t) (hl : l ⊆ l') (hp : pg ⊆ pg')
    (hq : ps ⊆ ps') : Frame l' pg' ps' s t :=
  ⟨h.queue, fun a ha => h.regs a (fun x => ha (hl x)), fun p ha => h.hdrs p (fun x => ha (hp x)),
    fun p ha => h.parts p (fun x => ha (hq x))⟩

/-- An operation that changes only the register file. -/
theorem Frame.ofRegs {r : List (Nat × Word)} (h : Frame l pg ps s0 s) (hr : SameRegsBut l s { s with regs := r }) :
    Frame l pg ps s0 { s with regs := r } :=
  h.trans ⟨rfl, hr, fun _ _ => rfl, fun p _ => by cases p <;> first | rfl | exact ⟨rfl, rfl⟩ | exact fun _ => rfl⟩

theorem Frame.setReg (a : Nat) (w : Word) (ha : a ∈ l) (h : Frame l pg ps s0 s) : Frame l pg ps s0 (s.setReg a w) :=
  h.ofRegs (fun b hb => reg_setReg_other a b w (fun e => hb (e ▸ ha)))

theorem Frame.setFld (a : Nat) (f : Fld) (v : Nat) (ha : a ∈ l) (h : Frame l pg ps s0 s) :
    Frame l pg ps s0 (s.setFld a f v) := h.setReg _ _ ha

theorem Frame.setFlag (a : Nat) (f : Fld) (v : Bool) (ha : a ∈ l) (h : Frame l pg ps s0 s) :
    Frame l pg ps s0 (s.setFlag a f v) := h.setReg _ _ ha

theorem Frame.bump (a n : Nat) (ha : a ∈ l) (h : Frame l pg ps s0 s) : Frame l pg ps s0 (s.bump a n) := h.setReg _ _ ha

theorem Frame.bumpFld (a : Nat) (f : Fld) (n : Nat) (ha : a ∈ l) (h : Frame l pg ps s0 s) :
    Frame l pg ps s0 (s.bumpFld a f n) := h.setReg _ _ ha

theorem Frame.setReg64 (a v : Nat) (ha : a ∈ l) (hb : a + 4 ∈ l) (h : Frame l pg ps s0 s) :
    Frame l pg ps s0 (s.setReg64 a v) := (h.setReg _ _ ha).setReg _ _ hb

theorem Frame.setHdr (p : Nat) (x : Hdr) (hp : p ∈ pg) (h : Frame l pg ps s0 s) : Frame l pg ps s0 (s.setHdr p x) :=
  h.trans ⟨rfl, fun _ _ => rfl, fun q hq => hdr_setHdr_other p q x (fun e => hq (e ▸ hp)),
    fun p _ => by cases p <;> first | rfl | exact ⟨rfl, rfl⟩ | exact fun _ => rfl⟩

theorem Frame.now_set {x} (hp : Piece.now ∈ ps) (h : Frame l pg ps s0 s) : Frame l pg ps s0 { s with now := x } :=
  h.trans ⟨rfl, fun _ _ => rfl, fun _ _ => rfl, fun p hq => by
    cases p <;> first | exact absurd hp hq | rfl | exact ⟨rfl, rfl⟩ | exact fun _ => rfl⟩

theorem Frame.fv_set {x} (hp : Piece.free ∈ ps) (h : Frame l pg ps s0 s) : Frame l pg ps s0 { s with fv := x } :=
  h.trans ⟨rfl, fun _ _ => rfl, fun _ _ => rfl, fun p hq => by
    cases p <;> first | exact absurd hp hq | rfl | exact ⟨rfl, rfl⟩ | exact fun _ => rfl⟩

theorem Frame.attnL_set {x} (hp : Piece.attn ∈ ps) (h : Frame l pg ps s0 s) : Frame l pg ps s0 { s with attnL := x } :=
  h.trans ⟨rfl, fun _ _ => rfl, fun _ _ => rfl, fun p hq => by
    cases p <;> first | exact absurd hp hq | rfl | exact ⟨rfl, rfl⟩ | exact fun _ => rfl⟩

theorem Frame.flight_set {x} (hp : Piece.flight ∈ ps) (h : Frame l pg ps s0 s) : Frame l pg ps s0 { s with flight := x } :=
  h.trans ⟨rfl, fun _ _ => rfl, fun _ _ => rfl, fun p hq => by
    cases p <;> first | exact absurd hp hq | rfl | exact ⟨rfl, rfl⟩ | exact fun _ => rfl⟩

theorem Frame.out_set {x} (hp : Piece.out ∈ ps) (h : Frame l pg ps s0 s) : Frame l pg ps s0 { s with out := x } :=
  h.trans ⟨rfl, fun _ _ => rfl, fun _ _ => rfl, fun p hq => by
    cases p <;> first | exact absurd hp hq | rfl | exact ⟨rfl, rfl⟩ | exact fun _ => rfl⟩

theorem Frame.lines_set {x} (hp : Piece.lines ∈ ps) (h : Frame l pg ps s0 s) : Frame l pg ps s0 { s with lines := x } :=
  h.trans ⟨rfl, fun _ _ => rfl, fun _ _ => rfl, fun p hq => by
    cases p <;> first | exact absurd hp hq | rfl | exact ⟨rfl, rfl⟩ | exact fun _ => rfl⟩

theorem Frame.mer_set {x} (hp : Piece.mer ∈ ps) (h : Frame l pg ps s0 s) : Frame l pg ps s0 { s with mer := x } :=
  h.trans ⟨rfl, fun _ _ => rfl, fun _ _ => rfl, fun p hq => by
    cases p <;> first | exact absurd hp hq | rfl | exact ⟨rfl, rfl⟩ | exact fun _ => rfl⟩

theorem Frame.acq_set {x} (hp : Piece.acq ∈ ps) (h : Frame l pg ps s0 s) : Frame l pg ps s0 { s with acq := x } :=
  h.trans ⟨rfl, fun _ _ => rfl, fun _ _ => rfl, fun p hq => by
    cases p <;> first | exact absurd hp hq | rfl | exact ⟨rfl, rfl⟩ | exact fun _ => rfl⟩

theorem Frame.plt_set {x} (hp : Piece.plt ∈ ps) (h : Frame l pg ps s0 s) : Frame l pg ps s0 { s with plt := x } :=
  h.trans ⟨rfl, fun _ _ => rfl, fun _ _ => rfl, fun p hq => by
    cases p <;> first | exact absurd hp hq | rfl | exact ⟨rfl, rfl⟩ | exact fun _ => rfl⟩

theorem Frame.fft_set {x} (hp : Piece.fft ∈ ps) (h : Frame l pg ps s0 s) : Frame l pg ps s0 { s with fft := x } :=
  h.trans ⟨rfl, fun _ _ => rfl, fun _ _ => rfl, fun p hq => by
    cases p <;> first | exact absurd hp hq | rfl | exact ⟨rfl, rfl⟩ | exact fun _ => rfl⟩

theorem Frame.hel_set {x} (hp : Piece.hel ∈ ps) (h : Frame l pg ps s0 s) : Frame l pg ps s0 { s with hel := x } :=
  h.trans ⟨rfl, fun _ _ => rfl, fun _ _ => rfl, fun p hq => by
    cases p <;> first | exact absurd hp hq | rfl | exact ⟨rfl, rfl⟩ | exact fun _ => rfl⟩

theorem Frame.act_set {x} (hp : Piece.act ∈ ps) (h : Frame l pg ps s0 s) : Frame l pg ps s0 { s with act := x } :=
  h.trans ⟨rfl, fun _ _ => rfl, fun _ _ => rfl, fun p hq => by
    cases p <;> first | exact absurd hp hq | rfl | exact ⟨rfl, rfl⟩ | exact fun _ => rfl⟩

theorem Frame.hka_set {x} (hp : Piece.hka ∈ ps) (h : Frame l pg ps s0 s) : Frame l pg ps s0 { s with hka := x } :=
  h.trans ⟨rfl, fun _ _ => rfl, fun _ _ => rfl, fun p hq => by
    cases p <;> first | exact absurd hp hq | rfl | exact ⟨rfl, rfl⟩ | exact fun _ => rfl⟩

theorem Frame.col_set {x} (hp : Piece.col ∈ ps) (h : Frame l pg ps s0 s) : Frame l pg ps s0 { s with col := x } :=
  h.trans ⟨rfl, fun _ _ => rfl, fun _ _ => rfl, fun p hq => by
    cases p <;> first | exact absurd hp hq | rfl | exact ⟨rfl, rfl⟩ | exact fun _ => rfl⟩

theorem Frame.alm_set {x} (hp : Piece.alm ∈ ps) (h : Frame l pg ps s0 s) : Frame l pg ps s0 { s with alm := x } :=
  h.trans ⟨rfl, fun _ _ => rfl, fun _ _ => rfl, fun p hq => by
    cases p <;> first | exact absurd hp hq | rfl | exact ⟨rfl, rfl⟩ | exact fun _ => rfl⟩

theorem Frame.pho_set {x} (hp : Piece.pho ∈ ps) (h : Frame l pg ps s0 s) : Frame l pg ps s0 { s with pho := x } :=
  h.trans ⟨rfl, fun _ _ => rfl, fun _ _ => rfl, fun p hq => by
    cases p <;> first | exact absurd hp hq | rfl | exact ⟨rfl, rfl⟩ | exact fun _ => rfl⟩

theorem Frame.cdr_set {x} (hp : Piece.cdr ∈ ps) (h : Frame l pg ps s0 s) : Frame l pg ps s0 { s with cdr := x } :=
  h.trans ⟨rfl, fun _ _ => rfl, fun _ _ => rfl, fun p hq => by
    cases p <;> first | exact absurd hp hq | rfl | exact ⟨rfl, rfl⟩ | exact fun _ => rfl⟩

theorem Frame.ssc_set {x} (hp : Piece.ssc ∈ ps) (h : Frame l pg ps s0 s) : Frame l pg ps s0 { s with ssc := x } :=
  h.trans ⟨rfl, fun _ _ => rfl, fun _ _ => rfl, fun p hq => by
    cases p <;> first | exact absurd hp hq | rfl | exact ⟨rfl, rfl⟩ | exact fun _ => rfl⟩

theorem Frame.est_set {x} (hp : Piece.est ∈ ps) (h : Frame l pg ps s0 s) : Frame l pg ps s0 { s with est := x } :=
  h.trans ⟨rfl, fun _ _ => rfl, fun _ _ => rfl, fun p hq => by
    cases p <;> first | exact absurd hp hq | rfl | exact ⟨rfl, rfl⟩ | exact fun _ => rfl⟩

theorem Frame.dma_set {x} (hp : Piece.dma ∈ ps) (h : Frame l pg ps s0 s) : Frame l pg ps s0 { s with dma := x } :=
  h.trans ⟨rfl, fun _ _ => rfl, fun _ _ => rfl, fun p hq => by
    cases p <;> first | exact absurd hp hq | rfl | exact ⟨rfl, rfl⟩ | exact fun _ => rfl⟩

theorem Frame.hlk_set {x} (hp : Piece.hlk ∈ ps) (h : Frame l pg ps s0 s) : Frame l pg ps s0 { s with hlk := x } :=
  h.trans ⟨rfl, fun _ _ => rfl, fun _ _ => rfl, fun p hq => by
    cases p <;> first | exact absurd hp hq | rfl | exact ⟨rfl, rfl⟩ | exact fun _ => rfl⟩

theorem Frame.evf_set {x} (hp : Piece.evf ∈ ps) (h : Frame l pg ps s0 s) : Frame l pg ps s0 { s with evf := x } :=
  h.trans ⟨rfl, fun _ _ => rfl, fun _ _ => rfl, fun p hq => by
    cases p <;> first | exact absurd hp hq | rfl | exact ⟨rfl, rfl⟩ | exact fun _ => rfl⟩

theorem Frame.chr_set {x} (hp : Piece.chr ∈ ps) (h : Frame l pg ps s0 s) : Frame l pg ps s0 { s with chr := x } :=
  h.trans ⟨rfl, fun _ _ => rfl, fun _ _ => rfl, fun p hq => by
    cases p <;> first | exact absurd hp hq | rfl | exact ⟨rfl, rfl⟩ | exact fun _ => rfl⟩

theorem Frame.sec_set {x} (hp : Piece.sec ∈ ps) (h : Frame l pg ps s0 s) : Frame l pg ps s0 { s with sec := x } :=
  h.trans ⟨rfl, fun _ _ => rfl, fun _ _ => rfl, fun p hq => by
    cases p <;> first | exact absurd hp hq | rfl | exact ⟨rfl, rfl⟩ | exact fun _ => rfl⟩

theorem Frame.pwr_set {x} (hp : Piece.pwr ∈ ps) (h : Frame l pg ps s0 s) : Frame l pg ps s0 { s with pwr := x } :=
  h.trans ⟨rfl, fun _ _ => rfl, fun _ _ => rfl, fun p hq => by
    cases p <;> first | exact absurd hp hq | rfl | exact ⟨rfl, rfl⟩ | exact fun _ => rfl⟩

theorem Frame.pend_set {x} (hp : Piece.waiting ∈ ps) (h : Frame l pg ps s0 s) : Frame l pg ps s0 { s with pend := x } :=
  h.trans ⟨rfl, fun _ _ => rfl, fun _ _ => rfl, fun p hq => by
    cases p <;> first | exact absurd hp hq | rfl | exact ⟨rfl, rfl⟩ | exact fun _ => rfl⟩

theorem Frame.hold64_set {x} (hp : Piece.held ∈ ps) (h : Frame l pg ps s0 s) : Frame l pg ps s0 { s with hold64 := x } :=
  h.trans ⟨rfl, fun _ _ => rfl, fun _ _ => rfl, fun p hq => by
    cases p <;> first | exact absurd hp hq | rfl | exact ⟨rfl, rfl⟩ | exact fun _ => rfl⟩

theorem Frame.holdTab_set {x} (hp : Piece.held ∈ ps) (h : Frame l pg ps s0 s) : Frame l pg ps s0 { s with holdTab := x } :=
  h.trans ⟨rfl, fun _ _ => rfl, fun _ _ => rfl, fun p hq => by
    cases p <;> first | exact absurd hp hq | rfl | exact ⟨rfl, rfl⟩ | exact fun _ => rfl⟩

theorem Frame.bar2_set {x} (hp : Piece.tables ∈ ps) (h : Frame l pg ps s0 s) : Frame l pg ps s0 { s with bar2 := x } :=
  h.trans ⟨rfl, fun _ _ => rfl, fun _ _ => rfl, fun p hq => by
    cases p <;> first | exact absurd hp hq | rfl | exact ⟨rfl, rfl⟩ | exact fun _ => rfl⟩

theorem Frame.send (m : Msg) (hp : Piece.out ∈ ps) (h : Frame l pg ps s0 s) : Frame l pg ps s0 (s.send m) := h.out_set hp

theorem Frame.emit (p : Nat) (hp : Piece.flight ∈ ps) (h : Frame l pg ps s0 s) : Frame l pg ps s0 (s.emit p) :=
  h.flight_set hp

theorem Frame.upto (x : Nat) (hp : Piece.now ∈ ps) (h : Frame l pg ps s0 s) : Frame l pg ps s0 (s.upto x) := h.now_set hp

theorem Frame.useFree (hp : Piece.free ∈ ps) (h : Frame l pg ps s0 s) : Frame l pg ps s0 s.useFree := h.fv_set hp

theorem Frame.skipFree (n : Nat) (hp : Piece.free ∈ ps) (h : Frame l pg ps s0 s) : Frame l pg ps s0 (s.skipFree n) :=
  h.fv_set hp

theorem Frame.store (a n v : Nat) (hp : Piece.tables ∈ ps) (h : Frame l pg ps s0 s) : Frame l pg ps s0 (s.store a n v) := by
  induction n generalizing s a v with
  | zero => exact h
  | succ n ih => exact ih _ _ (h.bar2_set hp)

theorem Frame.ite {c : Prop} [Decidable c] {a b : State} (ha : Frame l pg ps s0 a) (hb : Frame l pg ps s0 b) :
    Frame l pg ps s0 (if c then a else b) := by
  split <;> assumption

theorem Frame.when (c : Bool) {f : State → State} (h : Frame l pg ps s0 s)
    (hf : ∀ t, Frame l pg ps s0 t → Frame l pg ps s0 (f t)) : Frame l pg ps s0 (s.when c f) := by
  unfold State.when
  exact .ite (hf _ h) h

theorem Frame.foldS {α : Type} {f : State → α → State} (x : List α) (h : Frame l pg ps s0 s)
    (hf : ∀ t e, Frame l pg ps s0 t → Frame l pg ps s0 (f t e)) : Frame l pg ps s0 (Machine.foldS f s x) := by
  induction x generalizing s with
  | nil => exact h
  | cons e x ih => exact ih (hf _ _ h)

theorem Frame.forN (n : Nat) {f : State → Nat → State} (h : Frame l pg ps s0 s)
    (hf : ∀ t x, Frame l pg ps s0 t → Frame l pg ps s0 (f t x)) : Frame l pg ps s0 (Machine.forN n f s) :=
  h.foldS _ hf

theorem Frame.sendVector (v : Nat) (ho : Piece.out ∈ ps) (hh : Piece.hlk ∈ ps) (h : Frame l pg ps s0 s) :
    Frame l pg ps s0 (s.sendVector v) := by
  unfold State.sendVector
  exact .ite (.ite (h.hlk_set hh) (h.send _ ho)) h

theorem Frame.irq (v : Nat) (ho : Piece.out ∈ ps) (hh : Piece.hlk ∈ ps) (h : Frame l pg ps s0 s) :
    Frame l pg ps s0 (s.irq v) := by
  unfold State.irq
  split
  · exact h.sendVector _ ho hh
  · exact h

/-- An event touches its page's header, the pending bits of the vectors and the messages sent. -/
theorem Frame.evt (p b : Nat) (hp : p ∈ pg) (ho : Piece.out ∈ ps) (hh : Piece.hlk ∈ ps) (h : Frame l pg ps s0 s) :
    Frame l pg ps s0 (s.evt p b) := by
  unfold State.evt
  exact .ite ((h.setHdr _ _ hp).irq _ ho hh) (h.setHdr _ _ hp)

theorem Frame.evtIf (c : Bool) (p b : Nat) (hp : p ∈ pg) (ho : Piece.out ∈ ps) (hh : Piece.hlk ∈ ps)
    (h : Frame l pg ps s0 s) : Frame l pg ps s0 (s.evtIf c p b) := by
  unfold State.evtIf
  exact .ite (h.evt _ _ hp ho hh) h

theorem Frame.attnIrq (u : State) (ho : Piece.out ∈ ps) (hh : Piece.hlk ∈ ps) (h : Frame l pg ps s0 s) :
    Frame l pg ps s0 (u.attnIrq s) := by
  unfold State.attnIrq
  exact .ite (h.sendVector _ ho hh) h

theorem Frame.setAttn (b : Nat) (ha : Piece.attn ∈ ps) (ho : Piece.out ∈ ps) (hh : Piece.hlk ∈ ps)
    (h : Frame l pg ps s0 s) : Frame l pg ps s0 (s.setAttn b) := by
  unfold State.setAttn
  exact .attnIrq _ ho hh (h.attnL_set ha)

theorem Frame.kwSpend (p : Nat) (hp : p ∈ pg) (ho : Piece.out ∈ ps) (hh : Piece.hlk ∈ ps) (h : Frame l pg ps s0 s) :
    Frame l pg ps s0 (s.kwSpend p) := by
  unfold State.kwSpend
  exact (h.setHdr _ _ hp).evtIf _ _ _ hp ho hh

theorem Frame.hostWrite (p : Nat) {f : State → State} (h : Frame l pg ps s0 s)
    (hf : ∀ t, Frame l pg ps s0 t → Frame l pg ps s0 (f t)) : Frame l pg ps s0 (s.hostWrite p f) := by
  unfold State.hostWrite
  exact .ite (hf _ h) h

theorem Frame.guarded (p : Nat) {f : State → State} (hp : p ∈ pg) (ho : Piece.out ∈ ps) (hh : Piece.hlk ∈ ps)
    (h : Frame l pg ps s0 s) (hf : ∀ t, Frame l pg ps s0 t → Frame l pg ps s0 (f t)) :
    Frame l pg ps s0 (s.guarded p f) := by
  unfold State.guarded
  exact .ite (hf _ (h.kwSpend _ hp ho hh)) (h.kwSpend _ hp ho hh)

theorem Frame.ignored (k sp r a : Nat) (h1 : R.HLK_IGNCNT ∈ l) (h2 : R.HLK_IGNLAST ∈ l) (hp : P.HLK ∈ pg)
    (ho : Piece.out ∈ ps) (hh : Piece.hlk ∈ ps) (h : Frame l pg ps s0 s) : Frame l pg ps s0 (s.ignored k sp r a) := by
  unfold State.ignored
  exact ((h.bump _ _ h1).setReg _ _ h2).evt _ _ hp ho hh

end Sys2Proof.Machine
end

