-- ==== Sys2Proof/Laws/Faults.lean ====
section
/-! SUPPORT. What raising a fault does and what it leaves alone (spec/16 R518 to R527): its bookkeeping, the pause of a
job by a Major fault, and the stops that a pause makes. -/

namespace Sys2Proof.Machine

open Sys2Proof.Laws

variable {s0 s t : State} {l pg : List Nat} {ps : List Piece}

theorem Frame.setAxis (x : Nat) (a : Axis) (hc : Piece.cdr ∈ ps) (h : Frame l pg ps s0 s) :
    Frame l pg ps s0 (s.setAxis x a) := h.cdr_set hc

theorem Frame.setSsc (f : Ssc → Ssc) (hc : Piece.ssc ∈ ps) (h : Frame l pg ps s0 s) : Frame l pg ps s0 (s.setSsc f) :=
  h.ssc_set hc

theorem Frame.setJob (f : Job → Job) (hc : Piece.ssc ∈ ps) (h : Frame l pg ps s0 s) : Frame l pg ps s0 (s.setJob f) :=
  h.ssc_set hc

/-- A stop during the wake delay touches the axes alone (R374). -/
theorem Frame.wakeStop (x : Nat) (xs : List Nat) (hc : Piece.cdr ∈ ps) (h : Frame l pg ps s0 s) :
    Frame l pg ps s0 (s.wakeStop x xs) := by
  unfold State.wakeStop
  exact (h.cdr_set hc).foldS _ (fun t y k => k.setAxis _ _ hc)

/-- A controlled stop touches the axes and its own page's events (R380). -/
theorem Frame.cstop (x : Nat) (hx : P.CDRx x ∈ pg) (hc : Piece.cdr ∈ ps) (ho : Piece.out ∈ ps) (hh : Piece.hlk ∈ ps)
    (h : Frame l pg ps s0 s) : Frame l pg ps s0 (s.cstop x) := by
  unfold State.cstop
  refine .ite ((h.setAxis _ _ hc).evt _ _ hx ho hh) ?_
  dsimp only
  exact .ite (h.wakeStop _ _ hc) ((h.setAxis _ _ hc).foldS _ (fun t y k => k.setAxis _ _ hc))

theorem Frame.stopEvents (hp : P.SSC ∈ pg) (hr : R.SSC_STOPS ∈ l) (ha : Piece.attn ∈ ps) (hf : Piece.flight ∈ ps)
    (ho : Piece.out ∈ ps) (hh : Piece.hlk ∈ ps) (h : Frame l pg ps s0 s) : Frame l pg ps s0 s.stopEvents := by
  unfold State.stopEvents
  exact (((h.evt _ _ hp ho hh).setAttn _ ha ho hh).emit _ hf).bump _ _ hr

theorem Frame.loseLine (n : Nat) (h1 : R.SSC_LOST ∈ l) (h2 : R.SSC_LOST + 4 ∈ l) (hc : Piece.ssc ∈ ps)
    (h : Frame l pg ps s0 s) : Frame l pg ps s0 (s.loseLine n) := by
  unfold State.loseLine State.count64
  exact .ite ((h.setJob _ hc).setReg64 _ _ h1 h2) h

theorem scanAxis_lt (s : State) (x : Nat) (h : s.scanAxis = some x) : x < 4 := by
  unfold State.scanAxis at h
  split at h
  · cases h
    exact bits_lt _ _ _
  · cases h

theorem cdrPage_mem (x : Nat) (h : x < 4) : P.CDRx x ∈ [P.CDRx 0, P.CDRx 1, P.CDRx 2, P.CDRx 3] := by
  have : x = 0 ∨ x = 1 ∨ x = 2 ∨ x = 3 := by omega
  rcases this with rfl | rfl | rfl | rfl <;> simp

/-- The lists of a frame take in all that raising a fault may touch. -/
structure FaultRoom (l pg : List Nat) (ps : List Piece) : Prop where
  regs  : faultRegs ⊆ l
  pages : [P.CHR, P.SSC, P.CDRx 0, P.CDRx 1, P.CDRx 2, P.CDRx 3] ⊆ pg
  parts : faultParts ⊆ ps

theorem Frame.trackStop (r : FaultRoom l pg ps) (h : Frame l pg ps s0 s) : Frame l pg ps s0 s.trackStop := by
  have hp := fun {p} (k : p ∈ faultParts) => r.parts k
  have hk : Frame l pg ps s0 (match s.scanAxis with | some x => s.cstop x | none => s) := by
    split
    · rename_i x hx
      refine h.cstop x (r.pages ?_) (hp (by decide)) (hp (by decide)) (hp (by decide))
      exact List.mem_cons_of_mem _ (List.mem_cons_of_mem _ (cdrPage_mem x (scanAxis_lt s x hx)))
    · exact h
  unfold State.trackStop
  exact (hk.setSsc _ (hp (by decide))).stopEvents (r.pages (by simp)) (r.regs (by decide)) (hp (by decide))
    (hp (by decide)) (hp (by decide)) (hp (by decide))

theorem Frame.pauseFree (r : FaultRoom l pg ps) (h : Frame l pg ps s0 s) : Frame l pg ps s0 s.pauseFree := by
  unfold State.pauseFree
  have h1 := h.setSsc (fun j => { j with st := 8, pauseF := true }) (r.parts (by decide))
  dsimp only
  split
  · have h2 := h1.mer_set (x := { (s.setSsc (fun j => { j with st := 8, pauseF := true })).mer with latch := none })
      (r.parts (by decide))
    exact .ite h2 (h2.loseLine _ (r.regs (by decide)) (r.regs (by decide)) (r.parts (by decide)))
  · exact h1

/-- Pausing a job (R392, R413). -/
theorem Frame.pauseJob (c i : Nat) (r : FaultRoom l pg ps) (h : Frame l pg ps s0 s) : Frame l pg ps s0 (s.pauseJob c i) := by
  have hc : Piece.ssc ∈ ps := r.parts (by decide)
  unfold State.pauseJob
  refine .ite ?_ h
  dsimp only
  have h1 := h.setSsc (fun j => { j with pausers := s.ssc.pausers.filter (fun p => p != (c, i)) ++ [(c, i)] }) hc
  refine .ite (.ite (h1.setSsc _ hc) ?_) (.ite (h1.pauseFree r) h1)
  split
  · exact (h1.setSsc _ hc).trackStop r
  · exact (h1.setSsc _ hc).trackStop r
  · exact h1.setSsc _ hc
  · exact h1
  · exact h1.setSsc _ hc

theorem Frame.logNew (e : LogEntry) (hp : P.CHR ∈ pg) (hr : R.CHR_LOGOVF ∈ l) (hc : Piece.chr ∈ ps) (ho : Piece.out ∈ ps)
    (hh : Piece.hlk ∈ ps) (h : Frame l pg ps s0 s) : Frame l pg ps s0 (s.logNew e) := by
  unfold State.logNew
  split
  · exact (h.chr_set hc).evt _ _ hp ho hh
  · dsimp only
    exact .evt _ _ hp ho hh (.ite (((h.chr_set hc).bump _ _ hr).evt _ _ hp ho hh) (h.chr_set hc))

theorem Frame.recordFault (c i n : Nat) (r : FaultRoom l pg ps) (hf : faultPage c i ∈ pg) (h : Frame l pg ps s0 s) :
    Frame l pg ps s0 (s.recordFault c i n) := by
  have hc : Piece.chr ∈ ps := r.parts (by decide)
  have ho : Piece.out ∈ ps := r.parts (by decide)
  have hh : Piece.hlk ∈ ps := r.parts (by decide)
  have ha : Piece.attn ∈ ps := r.parts (by decide)
  have hn : Frame l pg ps s0 (s.noteFault c i) := h.chr_set hc
  have h1 : Frame l pg ps s0 ((s.noteFault c i).logFault c i n) := by
    unfold State.logFault
    split
    · exact hn.chr_set hc
    · exact hn.logNew _ (r.pages (by simp)) (r.regs (by decide)) hc ho hh
  unfold State.recordFault
  dsimp only
  refine .attnIrq _ ho hh ?_
  have h2 := Frame.ite (c := ((s.noteFault c i).logFault c i n).isUnack c i = true) h1
    (h1.chr_set (x := { ((s.noteFault c i).logFault c i n).chr with unack := ((s.noteFault c i).logFault c i n).chr.unack ++ [(c, i, faultSev c)] }) hc)
  split
  · exact ((h2.setHdr _ _ hf).evt _ _ hf ho hh).attnL_set ha
  · exact (h2.setHdr _ _ hf).evt _ _ hf ho hh

/-- Raising a fault about a line touches its bookkeeping and the job it pauses, and nothing else. -/
theorem Frame.faultLine (c i n : Nat) (r : FaultRoom l pg ps) (hf : faultPage c i ∈ pg) (h : Frame l pg ps s0 s) :
    Frame l pg ps s0 (s.faultLine c i n) := by
  unfold State.faultLine State.react
  have h1 := (h.recordFault c i n r hf).when (decide (2 ≤ faultSev c)) (f := fun s => s.emit 79)
    (fun t k => k.emit _ (r.parts (by decide)))
  exact .ite (h1.pauseJob _ _ r) h1

theorem Frame.fault (c i : Nat) (r : FaultRoom l pg ps) (hf : faultPage c i ∈ pg) (h : Frame l pg ps s0 s) :
    Frame l pg ps s0 (s.fault c i) := h.faultLine _ _ _ r hf

/-! ## What is recorded -/

theorem logFault_unack (c i n : Nat) : (s.logFault c i n).chr.unack = s.chr.unack := by
  unfold State.logFault
  split
  · rfl
  · unfold State.logNew
    split
    · simp
    · dsimp only
      split <;> simp

theorem recordFault_unack (c i n : Nat) : (s.recordFault c i n).chr.unack =
    if s.isUnack c i then s.chr.unack else s.chr.unack ++ [(c, i, faultSev c)] := by
  have h : ∀ a b : State, (a.attnIrq b).chr = b.chr := fun a b => by
    unfold State.attnIrq
    dsimp only
    split <;> simp
  unfold State.recordFault
  dsimp only
  rw [h]
  have hn : (s.noteFault c i).chr.unack = s.chr.unack := rfl
  have hu : ((s.noteFault c i).logFault c i n).isUnack c i = s.isUnack c i := by simp [State.isUnack, logFault_unack, hn]
  rw [hu]
  split <;> split <;> simp [logFault_unack, hn]

theorem pauseJob_chr (c i : Nat) : (s.pauseJob c i).chr = s.chr := by
  have hf : ∀ (f : State → Nat → State), (∀ u y, (f u y).chr = u.chr) → ∀ (xs : List Nat) (u : State),
      (foldS f u xs).chr = u.chr := by
    intro f h xs
    induction xs with
    | nil => intro u; rfl
    | cons y xs ih => intro u; exact (ih _).trans (h _ _)
  have hcs : ∀ (u : State) x, (u.cstop x).chr = u.chr := fun u x => by
    unfold State.cstop
    split
    · rw [evt_chr]
      rfl
    · dsimp only
      split
      · unfold State.wakeStop
        exact (hf _ (fun _ _ => by rfl) _ _).trans rfl
      · exact (hf _ (fun _ _ => by rfl) _ _).trans rfl
  have hts : ∀ u : State, u.trackStop.chr = u.chr := fun u => by
    unfold State.trackStop State.stopEvents
    simp only [bump_chr, emit_chr, setAttn_chr, evt_chr, setSsc_chr]
    split
    · exact hcs _ _
    · rfl
  have hpf : ∀ u : State, u.pauseFree.chr = u.chr := fun u => by
    unfold State.pauseFree
    dsimp only
    split
    · split
      · rfl
      · unfold State.loseLine State.count64
        split
        · rw [setReg64_chr]
          rfl
        · rfl
    · rfl
  unfold State.pauseJob
  dsimp only
  repeat' split
  all_goals first | rfl | (rw [hts]; rfl) | (rw [hpf]; rfl)

/-- A fault just raised is unacknowledged. -/
theorem faultLine_isUnack (c i n : Nat) : (s.faultLine c i n).isUnack c i = true := by
  have h : (s.faultLine c i n).chr.unack = (s.recordFault c i n).chr.unack := by
    unfold State.faultLine State.react State.when
    split
    · rw [pauseJob_chr]
      split <;> rfl
    · split <;> rfl
  unfold State.isUnack
  rw [h, recordFault_unack]
  split
  · rename_i hu
    exact hu
  · simp

theorem fault_isUnack (c i : Nat) : (s.fault c i).isUnack c i = true := faultLine_isUnack _ _ _

end Sys2Proof.Machine
end

