-- ==== Sys2Proof/Laws/Kept.lean ====
section
/-! SUPPORT. What no operation of the machine undoes: the queue behind the command, the canonical form of the register
file, the pending values, the page headers and the table memory, and the fuses. One lemma per operation of Ops.lean. -/

namespace Sys2Proof.Laws

open Sys2Proof.Machine

/-- t keeps what s has: the queue, the canonical forms, the fuses. -/
structure Kept (s t : State) : Prop where
  queue : t.pending = s.pending
  mem   : Memory.wf s.bar2 = true → Memory.wf t.bar2 = true
  regs  : tabSorted s.regs = true → tabSorted t.regs = true
  pend  : tabSorted s.pend = true → tabSorted t.pend = true
  hdrs  : tabSorted s.hdrs = true → tabSorted t.hdrs = true
  otp   : s.sec.otp ≤ t.sec.otp
  field : s.sec.field = true → t.sec.field = true

/-- A security state that keeps the fuses of another. -/
structure SecKept (a b : Sec) : Prop where
  otp   : a.otp ≤ b.otp
  field : a.field = true → b.field = true

/-- An outcome that, if it is a next state, keeps. -/
structure KeptOut (s : State) (o : Host.Outcome State Fault Refusal) : Prop where
  out : ∀ t, o = .next t → Kept s t

/-- A state that, if there is one, keeps. -/
structure KeptOpt (s : State) (o : Option State) : Prop where
  out : ∀ t, o = some t → Kept s t

variable {s0 s t : State}

theorem Kept.refl (s : State) : Kept s s := ⟨rfl, id, id, id, id, Nat.le_refl _, id⟩

theorem Kept.trans {a b c : State} (h : Kept a b) (k : Kept b c) : Kept a c :=
  ⟨k.queue.trans h.queue, k.mem ∘ h.mem, k.regs ∘ h.regs, k.pend ∘ h.pend, k.hdrs ∘ h.hdrs,
    Nat.le_trans h.otp k.otp, k.field ∘ h.field⟩

theorem SecKept.refl (a : Sec) : SecKept a a := ⟨Nat.le_refl _, id⟩

theorem out_next (h : Kept s0 t) : KeptOut s0 (.next t) := by
  refine ⟨fun u hu => ?_⟩
  cases hu
  exact h

theorem out_fault (r : Fault) : KeptOut s0 (.fault r) := by
  refine ⟨fun u hu => ?_⟩
  cases hu

theorem opt_some (h : Kept s0 t) : KeptOpt s0 (some t) := by
  refine ⟨fun u hu => ?_⟩
  cases hu
  exact h

theorem opt_none : KeptOpt s0 none := by
  refine ⟨fun u hu => ?_⟩
  cases hu

theorem ite_kept {c : Prop} [Decidable c] {a b : State} (ha : Kept s0 a) (hb : Kept s0 b) :
    Kept s0 (if c then a else b) := by
  split <;> assumption

theorem ite_fst {α : Type} {c : Prop} [Decidable c] {p q : State × α} (hp : Kept s0 p.1) (hq : Kept s0 q.1) :
    Kept s0 (if c then p else q).1 := by
  split <;> assumption

theorem ite_out {c : Prop} [Decidable c] {a b : Host.Outcome State Fault Refusal} (ha : KeptOut s0 a) (hb : KeptOut s0 b) :
    KeptOut s0 (if c then a else b) := by
  split <;> assumption

theorem ite_opt {c : Prop} [Decidable c] {a b : Option State} (ha : KeptOpt s0 a) (hb : KeptOpt s0 b) :
    KeptOpt s0 (if c then a else b) := by
  split <;> assumption

theorem of_some {o : Option State} (h : KeptOpt s0 o) (e : o = some t) : Kept s0 t := h.out t e

theorem of_fst {α : Type} {p : State × α} {x : α} (h : Kept s0 p.1) (e : p = (t, x)) : Kept s0 t := by
  subst e
  exact h

/-- An update that changes none of the kept fields but the security state. -/
theorem mk_kept {sec : Sec} (h : Kept s0 t) (hs : SecKept t.sec sec)
    {now fv straps hold64 holdTab attnL flight out mer lines acq plt fft hel act hka col alm pho cdr ssc est dma hlk evf chr pwr} :
    Kept s0 (State.mk t.pending now fv straps t.regs t.pend hold64 t.hdrs t.bar2 holdTab attnL flight out mer lines acq plt
      fft hel act hka col alm pho cdr ssc est dma hlk evf chr sec pwr) :=
  ⟨h.queue, h.mem, h.regs, h.pend, h.hdrs, Nat.le_trans h.otp hs.otp, hs.field ∘ h.field⟩

/-- An update that changes the pending values too, and keeps their keys rising. -/
theorem mk_pend {sec : Sec} {pend : List (Nat × Word)} (h : Kept s0 t) (hp : tabSorted t.pend = true → tabSorted pend = true)
    (hs : SecKept t.sec sec)
    {now fv straps hold64 holdTab attnL flight out mer lines acq plt fft hel act hka col alm pho cdr ssc est dma hlk evf chr pwr} :
    Kept s0 (State.mk t.pending now fv straps t.regs pend hold64 t.hdrs t.bar2 holdTab attnL flight out mer lines acq plt
      fft hel act hka col alm pho cdr ssc est dma hlk evf chr sec pwr) :=
  ⟨h.queue, h.mem, h.regs, hp ∘ h.pend, h.hdrs, Nat.le_trans h.otp hs.otp, hs.field ∘ h.field⟩

/-- An update of the pending values that keeps their keys rising. -/
theorem pend_kept {l : List (Nat × Word)} (h : Kept s0 t) (hl : tabSorted t.pend = true → tabSorted l = true) :
    Kept s0 { t with pend := l } :=
  ⟨h.queue, h.mem, h.regs, hl ∘ h.pend, h.hdrs, h.otp, h.field⟩

theorem hdrs_kept {l : List (Nat × Hdr)} (h : Kept s0 t) (hl : tabSorted t.hdrs = true → tabSorted l = true) :
    Kept s0 { t with hdrs := l } :=
  ⟨h.queue, h.mem, h.regs, h.pend, hl ∘ h.hdrs, h.otp, h.field⟩

theorem regs_kept {l : List (Nat × Word)} (h : Kept s0 t) (hl : tabSorted t.regs = true → tabSorted l = true) :
    Kept s0 { t with regs := l } :=
  ⟨h.queue, h.mem, hl ∘ h.regs, h.pend, h.hdrs, h.otp, h.field⟩

/-! ## Table memory -/

theorem wf_put (m : List Host.Cell) (a : Nat) (b : Byte) (h : Memory.wf m = true) :
    Memory.wf (tabPut (tabByte a) m a b) = true := by
  simp only [Memory.wf, Bool.and_eq_true, List.all_eq_true] at h ⊢
  refine ⟨sorted_put _ _ _ _ h.1, ?_⟩
  intro c hc
  unfold tabPut at hc
  split at hc
  · exact h.2 c (mem_erase _ _ _ hc)
  · rename_i hb
    rcases mem_ins _ _ _ _ hc with rfl | hc
    · simpa using hb
    · exact h.2 c hc

/-- Writing one byte keeps everything. -/
theorem setByte_kept (a : Nat) (b : Byte) (h : Kept s0 s) : Kept s0 (s.setByte a b) :=
  ⟨h.queue, fun m => wf_put _ _ _ (h.mem m), h.regs, h.pend, h.hdrs, h.otp, h.field⟩

theorem store_kept (a n v : Nat) (h : Kept s0 s) : Kept s0 (s.store a n v) := by
  induction n generalizing s a v with
  | zero => exact h
  | succ n ih => exact ih _ _ (setByte_kept _ _ h)

/-! ## Operations with a continuation -/

theorem setReg_kept (a : Nat) (w : Word) (h : Kept s0 s) : Kept s0 (s.setReg a w) :=
  regs_kept h (sorted_put _ _ _ _)

theorem setHdr_kept (p : Nat) (x : Hdr) (h : Kept s0 s) : Kept s0 (s.setHdr p x) :=
  hdrs_kept h (sorted_put _ _ _ _)

theorem when_kept (c : Bool) {f : State → State} (h : Kept s0 s) (hf : ∀ t, Kept s0 t → Kept s0 (f t)) :
    Kept s0 (s.when c f) := by
  unfold State.when
  split
  · exact hf _ h
  · exact h

theorem foldS_kept {α : Type} {f : State → α → State} (l : List α) (h : Kept s0 s)
    (hf : ∀ t x, Kept s0 t → Kept s0 (f t x)) : Kept s0 (foldS f s l) := by
  induction l generalizing s with
  | nil => exact h
  | cons x l ih => exact ih (hf _ _ h)

theorem forN_kept (n : Nat) {f : State → Nat → State} (h : Kept s0 s)
    (hf : ∀ t x, Kept s0 t → Kept s0 (f t x)) : Kept s0 (forN n f s) :=
  foldS_kept _ h hf

theorem hostWrite_kept (p : Nat) {f : State → State} (h : Kept s0 s) (hf : ∀ t, Kept s0 t → Kept s0 (f t)) :
    Kept s0 (s.hostWrite p f) := by
  unfold State.hostWrite
  split
  · exact hf _ h
  · exact h

/-- A fold that carries a result beside the state. -/
theorem foldl_kept {α β : Type} {f : State × α → β → State × α} (l : List β) {p : State × α} (h : Kept s0 p.1)
    (hf : ∀ p x, Kept s0 p.1 → Kept s0 (f p x).1) : Kept s0 (l.foldl f p).1 := by
  induction l generalizing p with
  | nil => exact h
  | cons x l ih => exact ih (hf _ _ h)

/-- Entries inserted one by one keep the keys rising. -/
theorem sorted_foldl {α : Type} (l m : List (Nat × α)) (h : tabSorted m = true) :
    tabSorted (l.foldl (fun m (e : Nat × α) => tabIns m e.1 e.2) m) = true := by
  induction l generalizing m with
  | nil => exact h
  | cons e l ih => exact ih _ (sorted_ins _ _ _ h)

end Sys2Proof.Laws
end

