-- ==== Sys2Proof/Laws/KeptSlots.lean ====
section
/-! SUPPORT. Every operation of Machine/Ops.lean, Pend.lean, Axis.lean, Grid.lean, Job.lean, Reactions.lean, Faults.lean, Acq.lean, Fft.lean, Plate.lean, Hel.lean, ColReq.lean, Act.lean keeps what no operation undoes (Kept.lean). -/

namespace Sys2Proof.Laws

set_option Elab.async false

open Sys2Proof.Machine

variable {s0 s t : State}

/-! ## Machine/Ops.lean -/

theorem setFld_kept (a : Nat) (f : Fld) (v : Nat) (h : Kept s0 s) : Kept s0 (State.setFld s a f v) := by
  unfold State.setFld
  repeat' first
    | with_reducible assumption
    | intro _
    | with_reducible apply setReg_kept
    | with_reducible apply ite_kept
    | split
    | dsimp only

theorem setFlag_kept (a : Nat) (f : Fld) (b : Bool) (h : Kept s0 s) : Kept s0 (State.setFlag s a f b) := by
  unfold State.setFlag
  repeat' first
    | with_reducible assumption
    | intro _
    | with_reducible apply setFld_kept
    | with_reducible apply ite_kept
    | split
    | dsimp only

theorem setReg64_kept (a : Nat) (v : Nat) (h : Kept s0 s) : Kept s0 (State.setReg64 s a v) := by
  unfold State.setReg64
  repeat' first
    | with_reducible assumption
    | intro _
    | with_reducible apply setReg_kept
    | with_reducible apply ite_kept
    | split
    | dsimp only

theorem bump_kept (a : Nat) (n : Nat) (h : Kept s0 s) : Kept s0 (State.bump s a n) := by
  unfold State.bump
  repeat' first
    | with_reducible assumption
    | intro _
    | with_reducible apply setReg_kept
    | with_reducible apply ite_kept
    | split
    | dsimp only

theorem bumpFld_kept (a : Nat) (f : Fld) (n : Nat) (h : Kept s0 s) : Kept s0 (State.bumpFld s a f n) := by
  unfold State.bumpFld
  repeat' first
    | with_reducible assumption
    | intro _
    | with_reducible apply setFld_kept
    | with_reducible apply ite_kept
    | split
    | dsimp only

theorem useFree_kept  (h : Kept s0 s) : Kept s0 (State.useFree s) := by
  unfold State.useFree
  repeat' first
    | with_reducible assumption
    | intro _
    | with_reducible apply ite_kept
    | split
    | dsimp only
    | with_reducible refine mk_kept ?_ (SecKept.refl _)

theorem skipFree_kept (n : Nat) (h : Kept s0 s) : Kept s0 (State.skipFree s n) := by
  unfold State.skipFree
  repeat' first
    | with_reducible assumption
    | intro _
    | with_reducible apply ite_kept
    | split
    | dsimp only
    | with_reducible refine mk_kept ?_ (SecKept.refl _)

theorem upto_kept (t : Nat) (h : Kept s0 s) : Kept s0 (State.upto s t) := by
  unfold State.upto
  repeat' first
    | with_reducible assumption
    | intro _
    | with_reducible apply ite_kept
    | split
    | dsimp only
    | with_reducible refine mk_kept ?_ (SecKept.refl _)

theorem send_kept (m : Msg) (h : Kept s0 s) : Kept s0 (State.send s m) := by
  unfold State.send
  repeat' first
    | with_reducible assumption
    | intro _
    | with_reducible apply ite_kept
    | split
    | dsimp only
    | with_reducible refine mk_kept ?_ (SecKept.refl _)

theorem sendVector_kept (v : Nat) (h : Kept s0 s) : Kept s0 (State.sendVector s v) := by
  unfold State.sendVector
  repeat' first
    | with_reducible assumption
    | intro _
    | with_reducible apply send_kept
    | with_reducible apply ite_kept
    | split
    | dsimp only
    | with_reducible refine mk_kept ?_ (SecKept.refl _)

theorem irq_kept (p : Nat) (h : Kept s0 s) : Kept s0 (State.irq s p) := by
  unfold State.irq
  repeat' first
    | with_reducible assumption
    | intro _
    | with_reducible apply sendVector_kept
    | with_reducible apply ite_kept
    | split
    | dsimp only

theorem evt_kept (p : Nat) (b : Nat) (h : Kept s0 s) : Kept s0 (State.evt s p b) := by
  unfold State.evt
  repeat' first
    | with_reducible assumption
    | intro _
    | with_reducible apply setHdr_kept
    | with_reducible apply irq_kept
    | with_reducible apply ite_kept
    | split
    | dsimp only

theorem evtIf_kept (c : Bool) (p : Nat) (b : Nat) (h : Kept s0 s) : Kept s0 (State.evtIf s c p b) := by
  unfold State.evtIf
  repeat' first
    | with_reducible assumption
    | intro _
    | with_reducible apply evt_kept
    | with_reducible apply ite_kept
    | split
    | dsimp only

theorem attnIrq_kept (a0 : State) (h : Kept s0 s) : Kept s0 (State.attnIrq a0 s) := by
  unfold State.attnIrq
  repeat' first
    | with_reducible assumption
    | intro _
    | with_reducible apply sendVector_kept
    | with_reducible apply ite_kept
    | split
    | dsimp only

theorem setAttn_kept (b : Nat) (h : Kept s0 s) : Kept s0 (State.setAttn s b) := by
  unfold State.setAttn
  repeat' first
    | with_reducible assumption
    | intro _
    | with_reducible apply attnIrq_kept
    | with_reducible apply ite_kept
    | split
    | dsimp only
    | with_reducible refine mk_kept ?_ (SecKept.refl _)

theorem emit_kept (p : Nat) (h : Kept s0 s) : Kept s0 (State.emit s p) := by
  unfold State.emit
  repeat' first
    | with_reducible assumption
    | intro _
    | with_reducible apply ite_kept
    | split
    | dsimp only
    | with_reducible refine mk_kept ?_ (SecKept.refl _)

theorem kwSpend_kept (p : Nat) (h : Kept s0 s) : Kept s0 (State.kwSpend s p) := by
  unfold State.kwSpend
  repeat' first
    | with_reducible assumption
    | intro _
    | with_reducible apply setHdr_kept
    | with_reducible apply evtIf_kept
    | with_reducible apply ite_kept
    | split
    | dsimp only

theorem guarded_kept (p : Nat) {f : State → State} (h : Kept s0 s) (hf : ∀ t, Kept s0 t → Kept s0 (f t)) : Kept s0 (State.guarded s p f) := by
  unfold State.guarded
  repeat' first
    | with_reducible assumption
    | intro _
    | with_reducible apply kwSpend_kept
    | with_reducible apply hf
    | with_reducible apply ite_kept
    | split
    | dsimp only

theorem ignored_kept (link : Nat) (space : Nat) (reason : Nat) (a : Nat) (h : Kept s0 s) : Kept s0 (State.ignored s link space reason a) := by
  unfold State.ignored
  repeat' first
    | with_reducible assumption
    | intro _
    | with_reducible apply bump_kept
    | with_reducible apply setReg_kept
    | with_reducible apply evt_kept
    | with_reducible apply ite_kept
    | split
    | dsimp only

/-! ## Machine/Pend.lean -/

theorem runvHook_kept (a : Nat) (w : Sys2Proof.Word) (h : Kept s0 s) : Kept s0 (State.runvHook s a w) := by
  unfold State.runvHook
  repeat' first
    | with_reducible assumption
    | intro _
    | with_reducible apply foldS_kept
    | with_reducible apply ite_kept
    | split
    | dsimp only
    | with_reducible refine mk_kept ?_ (SecKept.refl _)

theorem warmHook_kept (a : Nat) (w : Sys2Proof.Word) (h : Kept s0 s) : Kept s0 (State.warmHook s a w) := by
  unfold State.warmHook
  repeat' first
    | with_reducible assumption
    | intro _
    | with_reducible apply ite_kept
    | split
    | dsimp only
    | with_reducible refine mk_kept ?_ (SecKept.refl _)

theorem notchHook_kept (a : Nat) (w : Sys2Proof.Word) (h : Kept s0 s) : Kept s0 (State.notchHook s a w) := by
  unfold State.notchHook
  repeat' first
    | with_reducible assumption
    | intro _
    | with_reducible apply ite_kept
    | split
    | dsimp only
    | with_reducible refine mk_kept ?_ (SecKept.refl _)

theorem setCores_kept (p : Nat) (h : Kept s0 s) : Kept s0 (State.setCores s p) := by
  unfold State.setCores
  repeat' first
    | with_reducible assumption
    | intro _
    | with_reducible apply setFlag_kept
    | with_reducible apply ite_kept
    | split
    | dsimp only
    | with_reducible refine mk_kept ?_ (SecKept.refl _)

theorem coresReady_kept  (h : Kept s0 s) : Kept s0 (State.coresReady s) := by
  unfold State.coresReady
  repeat' first
    | with_reducible assumption
    | intro _
    | with_reducible apply setCores_kept
    | with_reducible apply ite_kept
    | split
    | dsimp only

theorem readyHook_kept (old : State) (a : Nat) (h : Kept s0 s) : Kept s0 (State.readyHook s old a) := by
  unfold State.readyHook
  repeat' first
    | with_reducible assumption
    | intro _
    | with_reducible apply when_kept
    | with_reducible apply coresReady_kept
    | with_reducible apply ite_kept
    | split
    | dsimp only

theorem pclkHook_kept (old : State) (h : Kept s0 s) : Kept s0 (State.pclkHook s old) := by
  unfold State.pclkHook
  repeat' first
    | with_reducible assumption
    | intro _
    | with_reducible apply ite_kept
    | split
    | dsimp only
    | with_reducible refine mk_kept ?_ (SecKept.refl _)

theorem darkHook_kept (a : Nat) (w : Sys2Proof.Word) (h : Kept s0 s) : Kept s0 (State.darkHook s a w) := by
  unfold State.darkHook
  repeat' first
    | with_reducible assumption
    | intro _
    | with_reducible apply ite_kept
    | split
    | dsimp only
    | with_reducible refine mk_kept ?_ (SecKept.refl _)
    | with_reducible refine mk_pend ?_ (sorted_ins _ _ _) (SecKept.refl _)

theorem activate_kept (a : Nat) (w : Sys2Proof.Word) (h : Kept s0 s) : Kept s0 (State.activate s a w) := by
  unfold State.activate
  repeat' first
    | with_reducible assumption
    | intro _
    | with_reducible apply pclkHook_kept
    | with_reducible apply readyHook_kept
    | with_reducible apply setReg_kept
    | with_reducible apply notchHook_kept
    | with_reducible apply warmHook_kept
    | with_reducible apply runvHook_kept
    | with_reducible apply darkHook_kept
    | with_reducible apply ite_kept
    | split
    | dsimp only

theorem applyPend_kept (sel : Nat → Bool) (h : Kept s0 s) : Kept s0 (State.applyPend s sel) := by
  unfold State.applyPend
  repeat' first
    | with_reducible assumption
    | intro _
    | with_reducible apply foldS_kept
    | with_reducible apply activate_kept
    | with_reducible apply ite_kept
    | split
    | dsimp only
    | with_reducible refine mk_kept ?_ (SecKept.refl _)
    | with_reducible refine mk_pend ?_ (sorted_keep _ _) (SecKept.refl _)

theorem applyBnd_kept (b : Bnd) (h : Kept s0 s) : Kept s0 (State.applyBnd s b) := by
  unfold State.applyBnd
  repeat' first
    | with_reducible assumption
    | intro _
    | with_reducible apply applyPend_kept
    | with_reducible apply ite_kept
    | split
    | dsimp only

theorem applyPage_kept (b : Bnd) (page : Nat) (h : Kept s0 s) : Kept s0 (State.applyPage s b page) := by
  unfold State.applyPage
  repeat' first
    | with_reducible assumption
    | intro _
    | with_reducible apply applyPend_kept
    | with_reducible apply ite_kept
    | split
    | dsimp only

theorem commit_kept (page : Nat) (h : Kept s0 s) : Kept s0 (State.commit s page) := by
  unfold State.commit
  repeat' first
    | with_reducible assumption
    | intro _
    | with_reducible apply applyPage_kept
    | with_reducible apply evt_kept
    | with_reducible apply setHdr_kept
    | with_reducible apply ite_kept
    | split
    | dsimp only

/-! ## Machine/Axis.lean -/

theorem setAxis_kept (x : Nat) (a : Axis) (h : Kept s0 s) : Kept s0 (State.setAxis s x a) := by
  unfold State.setAxis
  repeat' first
    | with_reducible assumption
    | intro _
    | with_reducible apply ite_kept
    | split
    | dsimp only
    | with_reducible refine mk_kept ?_ (SecKept.refl _)

theorem freezeOne_kept (rel : Bool) (x : Nat) (h : Kept s0 s) : Kept s0 (State.freezeOne s rel x) := by
  unfold State.freezeOne
  repeat' first
    | with_reducible assumption
    | intro _
    | with_reducible apply setAxis_kept
    | with_reducible apply setAttn_kept
    | with_reducible apply evt_kept
    | with_reducible apply ite_kept
    | split
    | dsimp only

theorem scanFrozen_kept (xs : List Nat) (h : Kept s0 s) : Kept s0 (State.scanFrozen s xs) := by
  unfold State.scanFrozen
  repeat' first
    | with_reducible assumption
    | intro _
    | with_reducible apply ite_kept
    | split
    | dsimp only
    | with_reducible refine mk_kept ?_ (SecKept.refl _)

theorem freeze_kept (x : Nat) (rel : Bool) (h : Kept s0 s) : Kept s0 (State.freeze s x rel) := by
  unfold State.freeze
  repeat' first
    | with_reducible assumption
    | intro _
    | with_reducible apply scanFrozen_kept
    | with_reducible apply foldS_kept
    | with_reducible apply freezeOne_kept
    | with_reducible apply ite_kept
    | split
    | dsimp only
    | with_reducible refine mk_kept ?_ (SecKept.refl _)
    | with_reducible refine mk_pend ?_ (sorted_erase _ _) (SecKept.refl _)

theorem wakeStop_kept (x : Nat) (xs : List Nat) (h : Kept s0 s) : Kept s0 (State.wakeStop s x xs) := by
  unfold State.wakeStop
  repeat' first
    | with_reducible assumption
    | intro _
    | with_reducible apply foldS_kept
    | with_reducible apply setAxis_kept
    | with_reducible apply ite_kept
    | split
    | dsimp only
    | with_reducible refine mk_kept ?_ (SecKept.refl _)
    | with_reducible refine mk_pend ?_ (sorted_erase _ _) (SecKept.refl _)

theorem cstop_kept (x : Nat) (h : Kept s0 s) : Kept s0 (State.cstop s x) := by
  unfold State.cstop
  repeat' first
    | with_reducible assumption
    | intro _
    | with_reducible apply evt_kept
    | with_reducible apply setAxis_kept
    | with_reducible apply wakeStop_kept
    | with_reducible apply foldS_kept
    | with_reducible apply ite_kept
    | split
    | dsimp only

theorem queueFlush_kept (x : Nat) (h : Kept s0 s) : Kept s0 (State.queueFlush s x) := by
  unfold State.queueFlush
  repeat' first
    | with_reducible assumption
    | intro _
    | with_reducible apply setAxis_kept
    | with_reducible apply ite_kept
    | split
    | dsimp only

/-! ## Machine/Grid.lean -/

theorem trigger_kept (t : Trig) (h : Kept s0 s) : Kept s0 (State.trigger s t) := by
  unfold State.trigger
  repeat' first
    | with_reducible assumption
    | intro _
    | with_reducible apply ite_kept
    | split
    | dsimp only
    | with_reducible refine mk_kept ?_ (SecKept.refl _)

theorem gridMove_kept (x : Nat) (h : Kept s0 s) : Kept s0 (State.gridMove s x) := by
  unfold State.gridMove
  repeat' first
    | with_reducible assumption
    | intro _
    | with_reducible apply forN_kept
    | with_reducible apply trigger_kept
    | with_reducible apply emit_kept
    | with_reducible apply ite_kept
    | split
    | dsimp only
    | with_reducible refine mk_kept ?_ (SecKept.refl _)

theorem gridLost_kept (x : Nat) (h : Kept s0 s) : Kept s0 (State.gridLost s x) := by
  unfold State.gridLost
  repeat' first
    | with_reducible assumption
    | intro _
    | with_reducible apply useFree_kept
    | with_reducible apply ite_kept
    | split
    | dsimp only
    | with_reducible refine mk_kept ?_ (SecKept.refl _)

theorem followMove_kept  (h : Kept s0 s) : Kept s0 (State.followMove s) := by
  unfold State.followMove
  repeat' first
    | with_reducible assumption
    | intro _
    | with_reducible apply forN_kept
    | with_reducible apply trigger_kept
    | with_reducible apply ite_kept
    | split
    | dsimp only
    | with_reducible refine mk_kept ?_ (SecKept.refl _)

/-! ## Machine/Job.lean -/

theorem setSsc_kept (f : Ssc → Ssc) (h : Kept s0 s) : Kept s0 (State.setSsc s f) := by
  unfold State.setSsc
  repeat' first
    | with_reducible assumption
    | intro _
    | with_reducible apply ite_kept
    | split
    | dsimp only
    | with_reducible refine mk_kept ?_ (SecKept.refl _)

theorem setJob_kept (f : Job → Job) (h : Kept s0 s) : Kept s0 (State.setJob s f) := by
  unfold State.setJob
  repeat' first
    | with_reducible assumption
    | intro _
    | with_reducible apply setSsc_kept
    | with_reducible apply ite_kept
    | split
    | dsimp only

theorem count64_kept (a : Nat) (n : Nat) (h : Kept s0 s) : Kept s0 (State.count64 s a n) := by
  unfold State.count64
  repeat' first
    | with_reducible assumption
    | intro _
    | with_reducible apply setReg64_kept
    | with_reducible apply ite_kept
    | split
    | dsimp only

theorem loseLine_kept (n : Nat) (h : Kept s0 s) : Kept s0 (State.loseLine s n) := by
  unfold State.loseLine
  repeat' first
    | with_reducible assumption
    | intro _
    | with_reducible apply count64_kept
    | with_reducible apply setJob_kept
    | with_reducible apply ite_kept
    | split
    | dsimp only

theorem dropLine_kept (n : Nat) (h : Kept s0 s) : Kept s0 (State.dropLine s n) := by
  unfold State.dropLine
  repeat' first
    | with_reducible assumption
    | intro _
    | with_reducible apply loseLine_kept
    | with_reducible apply ite_kept
    | split
    | dsimp only
    | with_reducible refine mk_kept ?_ (SecKept.refl _)
    | with_reducible refine mk_pend ?_ (sorted_erase _ _) (SecKept.refl _)

theorem stopEvents_kept  (h : Kept s0 s) : Kept s0 (State.stopEvents s) := by
  unfold State.stopEvents
  repeat' first
    | with_reducible assumption
    | intro _
    | with_reducible apply bump_kept
    | with_reducible apply emit_kept
    | with_reducible apply setAttn_kept
    | with_reducible apply evt_kept
    | with_reducible apply ite_kept
    | split
    | dsimp only

theorem trackStop_kept  (h : Kept s0 s) : Kept s0 (State.trackStop s) := by
  unfold State.trackStop
  repeat' first
    | with_reducible assumption
    | intro _
    | with_reducible apply cstop_kept
    | with_reducible apply stopEvents_kept
    | with_reducible apply setSsc_kept
    | with_reducible apply ite_kept
    | split
    | dsimp only

theorem pauseFree_kept  (h : Kept s0 s) : Kept s0 (State.pauseFree s) := by
  unfold State.pauseFree
  repeat' first
    | with_reducible assumption
    | intro _
    | with_reducible apply setSsc_kept
    | with_reducible apply loseLine_kept
    | with_reducible apply ite_kept
    | split
    | dsimp only
    | with_reducible refine mk_kept ?_ (SecKept.refl _)

theorem pauseJob_kept (code : Nat) (item : Nat) (h : Kept s0 s) : Kept s0 (State.pauseJob s code item) := by
  unfold State.pauseJob
  repeat' first
    | with_reducible assumption
    | intro _
    | with_reducible apply setSsc_kept
    | with_reducible apply trackStop_kept
    | with_reducible apply pauseFree_kept
    | with_reducible apply ite_kept
    | split
    | dsimp only

/-! ## Machine/Reactions.lean -/

theorem react_kept (sev : Nat) (code : Nat) (item : Nat) (h : Kept s0 s) : Kept s0 (State.react s sev code item) := by
  unfold State.react
  repeat' first
    | with_reducible assumption
    | intro _
    | with_reducible apply pauseJob_kept
    | with_reducible apply ite_kept
    | split
    | dsimp only

/-! ## Machine/Faults.lean -/

theorem logNew_kept (e : LogEntry) (h : Kept s0 s) : Kept s0 (State.logNew s e) := by
  unfold State.logNew
  repeat' first
    | with_reducible assumption
    | intro _
    | with_reducible apply evt_kept
    | with_reducible apply bump_kept
    | with_reducible apply ite_kept
    | split
    | dsimp only
    | with_reducible refine mk_kept ?_ (SecKept.refl _)
    | with_reducible refine mk_pend ?_ (sorted_ins _ _ _) (SecKept.refl _)

theorem logFault_kept (code : Nat) (item : Nat) (line : Nat) (h : Kept s0 s) : Kept s0 (State.logFault s code item line) := by
  unfold State.logFault
  repeat' first
    | with_reducible assumption
    | intro _
    | with_reducible apply logNew_kept
    | with_reducible apply ite_kept
    | split
    | dsimp only
    | with_reducible refine mk_kept ?_ (SecKept.refl _)
    | with_reducible refine mk_pend ?_ (sorted_ins _ _ _) (SecKept.refl _)

theorem noteFault_kept (code : Nat) (item : Nat) (h : Kept s0 s) : Kept s0 (State.noteFault s code item) := by
  unfold State.noteFault
  repeat' first
    | with_reducible assumption
    | intro _
    | with_reducible apply ite_kept
    | split
    | dsimp only
    | with_reducible refine mk_kept ?_ (SecKept.refl _)

theorem recordFault_kept (code : Nat) (item : Nat) (line : Nat) (h : Kept s0 s) : Kept s0 (State.recordFault s code item line) := by
  unfold State.recordFault
  repeat' first
    | with_reducible assumption
    | intro _
    | with_reducible apply logFault_kept
    | with_reducible apply noteFault_kept
    | with_reducible apply setHdr_kept
    | with_reducible apply evt_kept
    | with_reducible apply attnIrq_kept
    | with_reducible apply ite_kept
    | split
    | dsimp only
    | with_reducible refine mk_kept ?_ (SecKept.refl _)

theorem faultLine_kept (code : Nat) (item : Nat) (line : Nat) (h : Kept s0 s) : Kept s0 (State.faultLine s code item line) := by
  unfold State.faultLine
  repeat' first
    | with_reducible assumption
    | intro _
    | with_reducible apply react_kept
    | with_reducible apply when_kept
    | with_reducible apply recordFault_kept
    | with_reducible apply emit_kept
    | with_reducible apply ite_kept
    | split
    | dsimp only

theorem fault_kept (code : Nat) (item : Nat) (h : Kept s0 s) : Kept s0 (State.fault s code item) := by
  unfold State.fault
  repeat' first
    | with_reducible assumption
    | intro _
    | with_reducible apply faultLine_kept
    | with_reducible apply ite_kept
    | split
    | dsimp only

/-! ## Machine/Acq.lean -/

theorem setCh_kept (c : Nat) (x : AcqCh) (h : Kept s0 s) : Kept s0 (State.setCh s c x) := by
  unfold State.setCh
  repeat' first
    | with_reducible assumption
    | intro _
    | with_reducible apply ite_kept
    | split
    | dsimp only
    | with_reducible refine mk_kept ?_ (SecKept.refl _)

theorem setSpare_kept (g : Nat) (x : Spare) (h : Kept s0 s) : Kept s0 (State.setSpare s g x) := by
  unfold State.setSpare
  repeat' first
    | with_reducible assumption
    | intro _
    | with_reducible apply ite_kept
    | split
    | dsimp only
    | with_reducible refine mk_kept ?_ (SecKept.refl _)

theorem showWarm_kept (c : Nat) (h : Kept s0 s) : Kept s0 (State.showWarm s c) := by
  unfold State.showWarm
  repeat' first
    | with_reducible assumption
    | intro _
    | with_reducible apply setFlag_kept
    | with_reducible apply setFld_kept
    | with_reducible apply ite_kept
    | split
    | dsimp only

theorem primBoundary_kept (c : Nat) (h : Kept s0 s) : Kept s0 (State.primBoundary s c) := by
  unfold State.primBoundary
  repeat' first
    | with_reducible assumption
    | intro _
    | with_reducible apply showWarm_kept
    | with_reducible apply setCh_kept
    | with_reducible apply when_kept
    | with_reducible apply evt_kept
    | with_reducible apply bump_kept
    | with_reducible apply ite_kept
    | split
    | dsimp only

theorem spareBoundary_kept (g : Nat) (h : Kept s0 s) : Kept s0 (State.spareBoundary s g) := by
  unfold State.spareBoundary
  repeat' first
    | with_reducible assumption
    | intro _
    | with_reducible apply setCh_kept
    | with_reducible apply ite_kept
    | split
    | dsimp only

theorem acqLine_kept  (h : Kept s0 s) : Kept s0 (State.acqLine s) := by
  unfold State.acqLine
  repeat' first
    | with_reducible assumption
    | intro _
    | with_reducible apply forN_kept
    | with_reducible apply spareBoundary_kept
    | with_reducible apply primBoundary_kept
    | with_reducible apply ite_kept
    | split
    | dsimp only
    | with_reducible refine mk_kept ?_ (SecKept.refl _)

theorem clearLevels_kept (c : Nat) (h : Kept s0 s) : Kept s0 (State.clearLevels s c) := by
  unfold State.clearLevels
  repeat' first
    | with_reducible assumption
    | intro _
    | with_reducible apply ite_kept
    | split
    | dsimp only
    | with_reducible refine mk_kept ?_ (SecKept.refl _)
    | with_reducible refine mk_pend ?_ (sorted_keep _ _) (SecKept.refl _)

theorem showWire_kept (c : Nat) (fail : Bool) (h : Kept s0 s) : Kept s0 (State.showWire s c fail) := by
  unfold State.showWire
  repeat' first
    | with_reducible assumption
    | intro _
    | with_reducible apply setFld_kept
    | with_reducible apply setFlag_kept
    | with_reducible apply ite_kept
    | split
    | dsimp only

theorem wireForget_kept (c : Nat) (h : Kept s0 s) : Kept s0 (State.wireForget s c) := by
  unfold State.wireForget
  repeat' first
    | with_reducible assumption
    | intro _
    | with_reducible apply when_kept
    | with_reducible apply showWire_kept
    | with_reducible apply setCh_kept
    | with_reducible apply ite_kept
    | split
    | dsimp only

theorem switchCh_kept (c : Nat) (h : Kept s0 s) : Kept s0 (State.switchCh s c) := by
  unfold State.switchCh
  repeat' first
    | with_reducible assumption
    | intro _
    | with_reducible apply wireForget_kept
    | with_reducible apply when_kept
    | with_reducible apply setCh_kept
    | with_reducible apply clearLevels_kept
    | with_reducible apply setFlag_kept
    | with_reducible apply setFld_kept
    | with_reducible apply ite_kept
    | split
    | dsimp only

theorem switchSpare_kept (g : Nat) (h : Kept s0 s) : Kept s0 (State.switchSpare s g) := by
  unfold State.switchSpare
  repeat' first
    | with_reducible assumption
    | intro _
    | with_reducible apply setSpare_kept
    | with_reducible apply setFld_kept
    | with_reducible apply ite_kept
    | split
    | dsimp only

theorem acqReadout_kept  (h : Kept s0 s) : Kept s0 (State.acqReadout s) := by
  unfold State.acqReadout
  repeat' first
    | with_reducible assumption
    | intro _
    | with_reducible apply forN_kept
    | with_reducible apply switchSpare_kept
    | with_reducible apply switchCh_kept
    | with_reducible apply ite_kept
    | split
    | dsimp only
    | with_reducible refine mk_kept ?_ (SecKept.refl _)

theorem execConversion_kept (c : Nat) (x : Sys2Proof.ConvIn) (h : Kept s0 s) : KeptOut s0 (execConversion c x s) := by
  unfold execConversion
  repeat' first
    | with_reducible assumption
    | intro _
    | with_reducible apply setCh_kept
    | with_reducible apply when_kept
    | with_reducible apply bump_kept
    | with_reducible apply ite_out
    | with_reducible apply out_next
    | with_reducible apply out_fault
    | with_reducible apply ite_kept
    | split
    | dsimp only

theorem wireCheck_kept (c : Nat) (x : Sys2Proof.WireIn) (h : Kept s0 s) : Kept s0 (State.wireCheck c x s) := by
  unfold State.wireCheck
  repeat' first
    | with_reducible assumption
    | intro _
    | with_reducible apply upto_kept
    | with_reducible apply showWire_kept
    | with_reducible apply setCh_kept
    | with_reducible apply when_kept
    | with_reducible apply bump_kept
    | with_reducible apply evtIf_kept
    | with_reducible apply ite_kept
    | split
    | dsimp only

theorem execCoresSettled_kept (t : Nat) (h : Kept s0 s) : KeptOut s0 (execCoresSettled t s) := by
  unfold execCoresSettled
  repeat' first
    | with_reducible assumption
    | intro _
    | with_reducible apply setCores_kept
    | with_reducible apply upto_kept
    | with_reducible apply ite_out
    | with_reducible apply out_next
    | with_reducible apply out_fault
    | with_reducible apply ite_kept
    | split
    | dsimp only

/-! ## Machine/Fft.lean -/

theorem eccUncorrectable_kept (e : Nat) (h : Kept s0 s) : Kept s0 (State.eccUncorrectable s e) := by
  unfold State.eccUncorrectable
  repeat' first
    | with_reducible assumption
    | intro _
    | with_reducible apply setReg_kept
    | with_reducible apply bump_kept
    | with_reducible apply fault_kept
    | with_reducible apply evt_kept
    | with_reducible apply ite_kept
    | split
    | dsimp only

theorem strike_kept (e : Nat) (u : Sys2Proof.Upset) (h : Kept s0 s) : Kept s0 (State.strike s e u) := by
  unfold State.strike
  repeat' first
    | with_reducible assumption
    | intro _
    | with_reducible apply store_kept
    | with_reducible apply evt_kept
    | with_reducible apply bump_kept
    | with_reducible apply ite_kept
    | split
    | dsimp only
    | with_reducible refine mk_kept ?_ (SecKept.refl _)
    | with_reducible refine mk_pend ?_ (sorted_ins _ _ _) (SecKept.refl _)

theorem readEntry_kept (u : List Sys2Proof.Upset) (e : Nat) (h : Kept s0 s) : Kept s0 (State.readEntry s u e) := by
  unfold State.readEntry
  repeat' first
    | with_reducible assumption
    | intro _
    | with_reducible apply foldS_kept
    | with_reducible apply strike_kept
    | with_reducible apply when_kept
    | with_reducible apply eccUncorrectable_kept
    | with_reducible apply ite_kept
    | split
    | dsimp only

theorem writeEntry_kept (e : Nat) (v : Nat) (h : Kept s0 s) : Kept s0 (State.writeEntry s e v) := by
  unfold State.writeEntry
  repeat' first
    | with_reducible assumption
    | intro _
    | with_reducible apply store_kept
    | with_reducible apply ite_kept
    | split
    | dsimp only
    | with_reducible refine mk_kept ?_ (SecKept.refl _)
    | with_reducible refine mk_pend ?_ (sorted_erase _ _) (SecKept.refl _)

theorem hostEntry_kept (e : Nat) (v : Nat) (h : Kept s0 s) : Kept s0 (State.hostEntry s e v) := by
  unfold State.hostEntry
  repeat' first
    | with_reducible assumption
    | intro _
    | with_reducible apply when_kept
    | with_reducible apply writeEntry_kept
    | with_reducible apply ite_kept
    | split
    | dsimp only
    | with_reducible refine mk_kept ?_ (SecKept.refl _)
    | with_reducible refine mk_pend ?_ (sorted_ins _ _ _) (SecKept.refl _)

theorem mixEntries_kept  (h : Kept s0 s) : Kept s0 (State.mixEntries s) := by
  unfold State.mixEntries
  repeat' first
    | with_reducible assumption
    | intro _
    | with_reducible apply foldS_kept
    | with_reducible apply useFree_kept
    | with_reducible apply writeEntry_kept
    | with_reducible apply ite_kept
    | split
    | dsimp only
    | with_reducible refine mk_kept ?_ (SecKept.refl _)

theorem writeDark_kept (a : Nat) (v : Nat) (h : Kept s0 s) : Kept s0 (State.writeDark s a v) := by
  unfold State.writeDark
  repeat' first
    | with_reducible assumption
    | intro _
    | with_reducible apply writeEntry_kept
    | with_reducible apply ite_kept
    | split
    | dsimp only
    | with_reducible refine mk_kept ?_ (SecKept.refl _)
    | with_reducible refine mk_pend ?_ (sorted_erase _ _) (SecKept.refl _)

theorem tabWrite32_kept (link : Nat) (a : Nat) (v : Nat) (h : Kept s0 s) : Kept s0 (State.tabWrite32 s link a v) := by
  unfold State.tabWrite32
  repeat' first
    | with_reducible assumption
    | intro _
    | with_reducible apply ignored_kept
    | with_reducible apply hostEntry_kept
    | with_reducible apply writeDark_kept
    | with_reducible apply store_kept
    | with_reducible apply ite_kept
    | split
    | dsimp only
    | with_reducible refine mk_kept ?_ (SecKept.refl _)
    | with_reducible refine mk_pend ?_ (sorted_ins _ _ _) (SecKept.refl _)
    | with_reducible refine mk_pend ?_ (sorted_erase _ _) (SecKept.refl _)

theorem tabWrite64_kept (link : Nat) (a : Nat) (v : Nat) (h : Kept s0 s) : Kept s0 (State.tabWrite64 s link a v) := by
  unfold State.tabWrite64
  repeat' first
    | with_reducible assumption
    | intro _
    | with_reducible apply ignored_kept
    | with_reducible apply hostEntry_kept
    | with_reducible apply tabWrite32_kept
    | with_reducible apply ite_kept
    | split
    | dsimp only
    | with_reducible refine mk_kept ?_ (SecKept.refl _)
    | with_reducible refine mk_pend ?_ (sorted_erase _ _) (SecKept.refl _)

theorem tabWrite_kept (link : Nat) (a : Nat) (wide : Bool) (v : Nat) (h : Kept s0 s) : Kept s0 (State.tabWrite s link a wide v) := by
  unfold State.tabWrite
  repeat' first
    | with_reducible assumption
    | intro _
    | with_reducible apply tabWrite64_kept
    | with_reducible apply tabWrite32_kept
    | with_reducible apply ite_kept
    | split
    | dsimp only

theorem tabRead_kept (a : Nat) (wide : Bool) (u : List Sys2Proof.Upset) (h : Kept s0 s) : Kept s0 (State.tabRead s a wide u).1 := by
  unfold State.tabRead
  repeat' first
    | with_reducible assumption
    | intro _
    | with_reducible apply readEntry_kept
    | with_reducible apply ite_kept
    | split
    | dsimp only
    | with_reducible exact Kept.refl _

theorem execTableWrite_kept (a : Nat) (wide : Bool) (v : Nat) (h : Kept s0 s) : KeptOut s0 (execTableWrite a wide v s) := by
  unfold execTableWrite
  repeat' first
    | with_reducible assumption
    | intro _
    | with_reducible apply tabWrite_kept
    | with_reducible apply ite_out
    | with_reducible apply out_next
    | with_reducible apply out_fault
    | with_reducible apply ite_kept
    | split
    | dsimp only

theorem execTableRead_kept (a : Nat) (wide : Bool) (u : List Sys2Proof.Upset) (h : Kept s0 s) : KeptOut s0 (execTableRead a wide u s) := by
  unfold execTableRead
  repeat' first
    | with_reducible assumption
    | intro _
    | with_reducible apply send_kept
    | with_reducible apply tabRead_kept
    | with_reducible apply ite_out
    | with_reducible apply out_next
    | with_reducible apply out_fault
    | with_reducible apply ite_kept
    | split
    | dsimp only
    | with_reducible refine of_fst ?_ ‹_ = (_, _)›

theorem execScrubRead_kept (u : List Sys2Proof.Upset) (h : Kept s0 s) : KeptOut s0 (execScrubRead u s) := by
  unfold execScrubRead
  repeat' first
    | with_reducible assumption
    | intro _
    | with_reducible apply readEntry_kept
    | with_reducible apply setReg_kept
    | with_reducible apply evtIf_kept
    | with_reducible apply ite_out
    | with_reducible apply out_next
    | with_reducible apply out_fault
    | with_reducible apply ite_kept
    | split
    | dsimp only
    | with_reducible refine mk_kept ?_ (SecKept.refl _)

theorem showFft_kept  (h : Kept s0 s) : Kept s0 (State.showFft s) := by
  unfold State.showFft
  repeat' first
    | with_reducible assumption
    | intro _
    | with_reducible apply setFld_kept
    | with_reducible apply setReg_kept
    | with_reducible apply ite_kept
    | split
    | dsimp only

theorem switchServed_kept  (h : Kept s0 s) : Kept s0 (State.switchServed s) := by
  unfold State.switchServed
  repeat' first
    | with_reducible assumption
    | intro _
    | with_reducible apply setFld_kept
    | with_reducible apply ite_kept
    | split
    | dsimp only

theorem switchDone_kept  (h : Kept s0 s) : Kept s0 (State.switchDone s) := by
  unfold State.switchDone
  repeat' first
    | with_reducible assumption
    | intro _
    | with_reducible apply switchServed_kept
    | with_reducible apply evt_kept
    | with_reducible apply showFft_kept
    | with_reducible apply setFlag_kept
    | with_reducible apply ite_kept
    | split
    | dsimp only
    | with_reducible refine mk_kept ?_ (SecKept.refl _)

theorem switchIdle_kept  (h : Kept s0 s) : Kept s0 (State.switchIdle s) := by
  unfold State.switchIdle
  repeat' first
    | with_reducible assumption
    | intro _
    | with_reducible apply evt_kept
    | with_reducible apply setFlag_kept
    | with_reducible apply switchDone_kept
    | with_reducible apply ite_kept
    | split
    | dsimp only
    | with_reducible refine mk_kept ?_ (SecKept.refl _)

theorem switchStart_kept  (h : Kept s0 s) : Kept s0 (State.switchStart s) := by
  unfold State.switchStart
  repeat' first
    | with_reducible assumption
    | intro _
    | with_reducible apply evt_kept
    | with_reducible apply setFlag_kept
    | with_reducible apply showFft_kept
    | with_reducible apply ite_kept
    | split
    | dsimp only
    | with_reducible refine mk_kept ?_ (SecKept.refl _)

theorem blendStep_kept  (h : Kept s0 s) : Kept s0 (State.blendStep s) := by
  unfold State.blendStep
  repeat' first
    | with_reducible assumption
    | intro _
    | with_reducible apply showFft_kept
    | with_reducible apply switchDone_kept
    | with_reducible apply ite_kept
    | split
    | dsimp only
    | with_reducible refine mk_kept ?_ (SecKept.refl _)

theorem fftLine_kept (go : Bool) (h : Kept s0 s) : Kept s0 (State.fftLine s go) := by
  unfold State.fftLine
  repeat' first
    | with_reducible assumption
    | intro _
    | with_reducible apply blendStep_kept
    | with_reducible apply switchStart_kept
    | with_reducible apply setFlag_kept
    | with_reducible apply useFree_kept
    | with_reducible apply evt_kept
    | with_reducible apply ite_kept
    | split
    | dsimp only

theorem fftSoftReset_kept  (h : Kept s0 s) : Kept s0 (State.fftSoftReset s) := by
  unfold State.fftSoftReset
  repeat' first
    | with_reducible assumption
    | intro _
    | with_reducible apply showFft_kept
    | with_reducible apply ite_kept
    | split
    | dsimp only
    | with_reducible refine mk_kept ?_ (SecKept.refl _)

theorem darkCommit_kept  (h : Kept s0 s) : Kept s0 (State.darkCommit s) := by
  unfold State.darkCommit
  repeat' first
    | with_reducible assumption
    | intro _
    | with_reducible apply foldS_kept
    | with_reducible apply writeEntry_kept
    | with_reducible apply ite_kept
    | split
    | dsimp only
    | with_reducible refine mk_kept ?_ (SecKept.refl _)

theorem darkClear_kept  (h : Kept s0 s) : Kept s0 (State.darkClear s) := by
  unfold State.darkClear
  repeat' first
    | with_reducible assumption
    | intro _
    | with_reducible apply setFlag_kept
    | with_reducible apply ite_kept
    | split
    | dsimp only
    | with_reducible refine mk_kept ?_ (SecKept.refl _)

theorem darkHold_kept (prim : Nat) (line : Nat) (p : Nat) (k : Nat) (md : Int) (h : Kept s0 s) : Kept s0 (State.darkHold s prim line p k md) := by
  unfold State.darkHold
  repeat' first
    | with_reducible assumption
    | intro _
    | with_reducible apply ite_kept
    | split
    | dsimp only
    | with_reducible refine mk_kept ?_ (SecKept.refl _)
    | with_reducible refine mk_pend ?_ (sorted_ins _ _ _) (SecKept.refl _)

theorem runStart_kept (kind : Nat) (lines : Nat) (h : Kept s0 s) : Kept s0 (State.runStart s kind lines) := by
  unfold State.runStart
  repeat' first
    | with_reducible assumption
    | intro _
    | with_reducible apply showFft_kept
    | with_reducible apply ite_kept
    | split
    | dsimp only
    | with_reducible refine mk_kept ?_ (SecKept.refl _)

theorem copyDone_kept (h : Kept s0 s) : Kept s0 (State.copyDone s) := by
  have h1 : Kept s0 (foldS (fun s e => s.readEntry [] e) s (s.badOf s.fft.active)) :=
    foldS_kept _ h (fun _ _ ht => readEntry_kept _ _ ht)
  exact ⟨h1.queue, fun m => copyBank_wf _ _ (h1.mem m), h1.regs, h1.pend, h1.hdrs, h1.otp, h1.field⟩

theorem execCalCopyDone_kept (t : Nat) (h : Kept s0 s) : KeptOut s0 (execCalCopyDone t s) := by
  unfold execCalCopyDone
  repeat' first
    | with_reducible assumption
    | intro _
    | with_reducible apply upto_kept
    | with_reducible apply mixEntries_kept
    | with_reducible apply copyDone_kept
    | with_reducible apply showFft_kept
    | with_reducible apply ite_out
    | with_reducible apply out_next
    | with_reducible apply out_fault
    | with_reducible apply ite_kept
    | split
    | dsimp only
    | with_reducible refine mk_kept ?_ (SecKept.refl _)

/-! ## Machine/Plate.lean -/

theorem keepUse_kept  (h : Kept s0 s) : Kept s0 (State.keepUse s) := by
  unfold State.keepUse
  repeat' first
    | with_reducible assumption
    | intro _
    | with_reducible apply ite_kept
    | split
    | dsimp only
    | with_reducible refine mk_kept ?_ (SecKept.refl _)

theorem setLine_kept (l : Nat) (i : LineInfo) (h : Kept s0 s) : Kept s0 (State.setLine s l i) := by
  unfold State.setLine
  repeat' first
    | with_reducible assumption
    | intro _
    | with_reducible apply ite_kept
    | split
    | dsimp only
    | with_reducible refine mk_kept ?_ (SecKept.refl _)
    | with_reducible refine mk_pend ?_ (sorted_ins _ _ _) (SecKept.refl _)

theorem lineFlag_kept (l : Nat) (b : Nat) (h : Kept s0 s) : Kept s0 (State.lineFlag s l b) := by
  unfold State.lineFlag
  repeat' first
    | with_reducible assumption
    | intro _
    | with_reducible apply setLine_kept
    | with_reducible apply ite_kept
    | split
    | dsimp only

theorem lineFlagIf_kept (c : Bool) (l : Nat) (b : Nat) (h : Kept s0 s) : Kept s0 (State.lineFlagIf s c l b) := by
  unfold State.lineFlagIf
  repeat' first
    | with_reducible assumption
    | intro _
    | with_reducible apply lineFlag_kept
    | with_reducible apply ite_kept
    | split
    | dsimp only

theorem closeOb_kept (line : Nat) (c : Nat) (slot : Nat) (seq : Nat) (o : ObSum) (h : Kept s0 s) : Kept s0 (State.closeOb s line c slot seq o) := by
  unfold State.closeOb
  repeat' first
    | with_reducible assumption
    | intro _
    | with_reducible apply setFld_kept
    | with_reducible apply ite_kept
    | split
    | dsimp only
    | with_reducible refine mk_kept ?_ (SecKept.refl _)
    | with_reducible refine mk_pend ?_ (sorted_ins _ _ _) (SecKept.refl _)

theorem readFlat_kept (u : List Sys2Proof.Upset) (li : LineInfo) (i : Nat) (h : Kept s0 s) : Kept s0 (State.readFlat s u li i).1 := by
  unfold State.readFlat
  repeat' first
    | with_reducible assumption
    | intro _
    | with_reducible apply readEntry_kept
    | with_reducible apply ite_kept
    | split
    | dsimp only
    | with_reducible exact Kept.refl _

theorem lineT_kept (u : List Sys2Proof.Upset) (line : Nat) (p : Nat) (h : Kept s0 s) : Kept s0 (State.lineT s u line p).1 := by
  unfold State.lineT
  repeat' first
    | with_reducible assumption
    | intro _
    | with_reducible apply readEntry_kept
    | with_reducible apply ite_kept
    | split
    | dsimp only
    | with_reducible refine mk_kept ?_ (SecKept.refl _)
    | with_reducible refine mk_pend ?_ (sorted_ins _ _ _) (SecKept.refl _)
    | with_reducible exact Kept.refl _

theorem bandSample_kept (u : List Sys2Proof.Upset) (line : Nat) (band : Nat) (p : Nat) (x : Merged) (h : Kept s0 s) : Kept s0 (State.bandSample s u line band p x).1 := by
  unfold State.bandSample
  repeat' first
    | with_reducible assumption
    | intro _
    | with_reducible apply readFlat_kept
    | with_reducible apply lineT_kept
    | with_reducible apply ite_kept
    | split
    | dsimp only
    | with_reducible refine of_fst ?_ ‹_ = (_, _)›
    | with_reducible exact Kept.refl _

theorem noteForced_kept (line : Nat) (h : Kept s0 s) : Kept s0 (State.noteForced s line) := by
  unfold State.noteForced
  repeat' first
    | with_reducible assumption
    | intro _
    | with_reducible apply lineFlag_kept
    | with_reducible apply evt_kept
    | with_reducible apply bump_kept
    | with_reducible apply ite_kept
    | split
    | dsimp only

theorem hold_kept (x : Smp) (broken : Bool) (h : Kept s0 s) : Kept s0 (State.hold s x broken) := by
  unfold State.hold
  repeat' first
    | with_reducible assumption
    | intro _
    | with_reducible apply skipFree_kept
    | with_reducible apply ite_kept
    | split
    | dsimp only
    | with_reducible refine mk_kept ?_ (SecKept.refl _)

theorem holdDark_kept (line : Nat) (c : Nat) (prim : Nat) (p : Part) (x : Merged) (h : Kept s0 s) : Kept s0 (State.holdDark s line c prim p x) := by
  unfold State.holdDark
  repeat' first
    | with_reducible assumption
    | intro _
    | with_reducible apply when_kept
    | with_reducible apply hold_kept
    | with_reducible apply noteForced_kept
    | with_reducible apply ite_kept
    | split
    | dsimp only

theorem holdBand_kept (u : List Sys2Proof.Upset) (line : Nat) (c : Nat) (prim : Nat) (p : Part) (x : Merged) (h : Kept s0 s) : Kept s0 (State.holdBand s u line c prim p x) := by
  unfold State.holdBand
  repeat' first
    | with_reducible assumption
    | intro _
    | with_reducible apply bandSample_kept
    | with_reducible apply when_kept
    | with_reducible apply hold_kept
    | with_reducible apply noteForced_kept
    | with_reducible apply evtIf_kept
    | with_reducible apply lineFlag_kept
    | with_reducible apply evt_kept
    | with_reducible apply bump_kept
    | with_reducible apply ite_kept
    | split
    | dsimp only
    | with_reducible refine of_fst ?_ ‹_ = (_, _)›

theorem holdSample_kept (u : List Sys2Proof.Upset) (line : Nat) (c : Nat) (prim : Nat) (matched : Bool) (p : Part) (x : Merged) (h : Kept s0 s) : Kept s0 (State.holdSample s u line c prim matched p x) := by
  unfold State.holdSample
  repeat' first
    | with_reducible assumption
    | intro _
    | with_reducible apply holdDark_kept
    | with_reducible apply holdBand_kept
    | with_reducible apply lineFlagIf_kept
    | with_reducible apply ite_kept
    | split
    | dsimp only

theorem sweepSample_kept (line : Nat) (off : Bool) (p : Part) (o : ObSum) (h : Kept s0 s) : Kept s0 (State.sweepSample s line off p o) := by
  unfold State.sweepSample
  repeat' first
    | with_reducible assumption
    | intro _
    | with_reducible apply ite_kept
    | split
    | dsimp only
    | with_reducible refine mk_kept ?_ (SecKept.refl _)
    | with_reducible refine mk_pend ?_ (sorted_ins _ _ _) (SecKept.refl _)

theorem sample_kept (u : List Sys2Proof.Upset) (c : Nat) (p : Part) (h : Kept s0 s) : Kept s0 (State.sample s u c p) := by
  unfold State.sample
  repeat' first
    | with_reducible assumption
    | intro _
    | with_reducible apply closeOb_kept
    | with_reducible apply sweepSample_kept
    | with_reducible apply holdSample_kept
    | with_reducible apply ite_kept
    | split
    | dsimp only
    | with_reducible refine mk_kept ?_ (SecKept.refl _)
    | with_reducible refine mk_pend ?_ (sorted_ins _ _ _) (SecKept.refl _)

theorem plateWord_kept (u : List Sys2Proof.Upset) (c : Nat) (w : Nat) (h : Kept s0 s) : Kept s0 (State.plateWord s u c w) := by
  unfold State.plateWord
  repeat' first
    | with_reducible assumption
    | intro _
    | with_reducible apply sample_kept
    | with_reducible apply ite_kept
    | split
    | dsimp only
    | with_reducible refine mk_kept ?_ (SecKept.refl _)
    | with_reducible refine mk_pend ?_ (sorted_ins _ _ _) (SecKept.refl _)

theorem execFabricWord_kept (c : Nat) (u : List Sys2Proof.Upset) (h : Kept s0 s) : KeptOut s0 (execFabricWord c u s) := by
  unfold execFabricWord
  repeat' first
    | with_reducible assumption
    | intro _
    | with_reducible apply plateWord_kept
    | with_reducible apply setCh_kept
    | with_reducible apply ite_out
    | with_reducible apply out_next
    | with_reducible apply out_fault
    | with_reducible apply ite_kept
    | split
    | dsimp only

theorem scanTouch_kept (key : Nat) (h : Kept s0 s) : Kept s0 (State.scanTouch s key) := by
  unfold State.scanTouch
  repeat' first
    | with_reducible assumption
    | intro _
    | with_reducible apply useFree_kept
    | with_reducible apply when_kept
    | with_reducible apply ite_kept
    | split
    | dsimp only
    | with_reducible refine mk_kept ?_ (SecKept.refl _)
    | with_reducible refine mk_pend ?_ (sorted_ins _ _ _) (SecKept.refl _)

theorem streakStep_kept (sel : Nat) (k : Nat) (x : Smp) (h : Kept s0 s) : Kept s0 (State.streakStep s sel k x) := by
  unfold State.streakStep
  repeat' first
    | with_reducible assumption
    | intro _
    | with_reducible apply scanTouch_kept
    | with_reducible apply ite_kept
    | split
    | dsimp only
    | with_reducible refine mk_kept ?_ (SecKept.refl _)
    | with_reducible refine mk_pend ?_ (sorted_ins _ _ _) (SecKept.refl _)

theorem streakSample_kept (x : Smp) (h : Kept s0 s) : Kept s0 (State.streakSample s x) := by
  unfold State.streakSample
  repeat' first
    | with_reducible assumption
    | intro _
    | with_reducible apply forN_kept
    | with_reducible apply streakStep_kept
    | with_reducible apply ite_kept
    | split
    | dsimp only

theorem calSample_kept (x : Smp) (h : Kept s0 s) : Kept s0 (State.calSample s x) := by
  unfold State.calSample
  repeat' first
    | with_reducible assumption
    | intro _
    | with_reducible apply ite_kept
    | split
    | dsimp only
    | with_reducible refine mk_kept ?_ (SecKept.refl _)
    | with_reducible refine mk_pend ?_ (sorted_ins _ _ _) (SecKept.refl _)

theorem noiseSample_kept (x : Smp) (h : Kept s0 s) : Kept s0 (State.noiseSample s x) := by
  unfold State.noiseSample
  repeat' first
    | with_reducible assumption
    | intro _
    | with_reducible apply forN_kept
    | with_reducible apply ite_kept
    | split
    | dsimp only
    | with_reducible refine mk_kept ?_ (SecKept.refl _)
    | with_reducible refine mk_pend ?_ (sorted_ins _ _ _) (SecKept.refl _)

theorem noisePush_kept (line : Nat) (h : Kept s0 s) : Kept s0 (State.noisePush s line) := by
  unfold State.noisePush
  repeat' first
    | with_reducible assumption
    | intro _
    | with_reducible apply ite_kept
    | split
    | dsimp only
    | with_reducible refine mk_kept ?_ (SecKept.refl _)

theorem noiseShow_kept  (h : Kept s0 s) : Kept s0 (State.noiseShow s) := by
  unfold State.noiseShow
  repeat' first
    | with_reducible assumption
    | intro _
    | with_reducible apply forN_kept
    | with_reducible apply setReg_kept
    | with_reducible apply useFree_kept
    | with_reducible apply ite_kept
    | split
    | dsimp only

theorem releaseDark_kept (x : Smp) (h : Kept s0 s) : Kept s0 (State.releaseDark s x) := by
  unfold State.releaseDark
  repeat' first
    | with_reducible assumption
    | intro _
    | with_reducible apply noiseSample_kept
    | with_reducible apply noisePush_kept
    | with_reducible apply darkHold_kept
    | with_reducible apply ite_kept
    | split
    | dsimp only

theorem noteSuspect_kept (x : Smp) (h : Kept s0 s) : Kept s0 (State.noteSuspect s x) := by
  unfold State.noteSuspect
  repeat' first
    | with_reducible assumption
    | intro _
    | with_reducible apply lineFlag_kept
    | with_reducible apply evt_kept
    | with_reducible apply bump_kept
    | with_reducible apply ite_kept
    | split
    | dsimp only
    | with_reducible refine mk_kept ?_ (SecKept.refl _)
    | with_reducible refine mk_pend ?_ (sorted_ins _ _ _) (SecKept.refl _)

theorem releaseSmp_kept (x : Smp) (h : Kept s0 s) : Kept s0 (State.releaseSmp s x) := by
  unfold State.releaseSmp
  repeat' first
    | with_reducible assumption
    | intro _
    | with_reducible apply noteSuspect_kept
    | with_reducible apply releaseDark_kept
    | with_reducible apply calSample_kept
    | with_reducible apply streakSample_kept
    | with_reducible apply ite_kept
    | split
    | dsimp only
    | with_reducible refine mk_kept ?_ (SecKept.refl _)

theorem readBegin_kept (e : Exposure) (h : Kept s0 s) : Kept s0 (State.readBegin s e) := by
  unfold State.readBegin
  repeat' first
    | with_reducible assumption
    | intro _
    | with_reducible apply ite_kept
    | split
    | dsimp only
    | with_reducible refine mk_kept ?_ (SecKept.refl _)

theorem islandDone_kept (g : Nat) (line : Nat) (h : Kept s0 s) : Kept s0 (State.islandDone s g line) := by
  unfold State.islandDone
  repeat' first
    | with_reducible assumption
    | intro _
    | with_reducible apply ite_kept
    | split
    | dsimp only
    | with_reducible refine mk_kept ?_ (SecKept.refl _)
    | with_reducible refine mk_pend ?_ (sorted_ins _ _ _) (SecKept.refl _)
    | with_reducible refine mk_pend ?_ (sorted_erase _ _) (SecKept.refl _)

theorem colPair_kept (line : Nat) (sv : Int) (pv : Int) (h : Kept s0 s) : Kept s0 (State.colPair s line sv pv) := by
  unfold State.colPair
  repeat' first
    | with_reducible assumption
    | intro _
    | with_reducible apply ite_kept
    | split
    | dsimp only
    | with_reducible refine mk_kept ?_ (SecKept.refl _)
    | with_reducible refine mk_pend ?_ (sorted_ins _ _ _) (SecKept.refl _)

theorem colPairs_kept (g : Nat) (e : Readout) (own : List Smp) (sh : List Shadow) (h : Kept s0 s) : Kept s0 (State.colPairs s g e own sh) := by
  unfold State.colPairs
  repeat' first
    | with_reducible assumption
    | intro _
    | with_reducible apply foldS_kept
    | with_reducible apply colPair_kept
    | with_reducible apply ite_kept
    | split
    | dsimp only

theorem execReadoutRelease_kept (g : Nat) (t : Nat) (h : Kept s0 s) : KeptOut s0 (execReadoutRelease g t s) := by
  unfold execReadoutRelease
  repeat' first
    | with_reducible assumption
    | intro _
    | with_reducible apply upto_kept
    | with_reducible apply foldS_kept
    | with_reducible apply releaseSmp_kept
    | with_reducible apply colPairs_kept
    | with_reducible apply skipFree_kept
    | with_reducible apply when_kept
    | with_reducible apply noiseShow_kept
    | with_reducible apply islandDone_kept
    | with_reducible apply ite_out
    | with_reducible apply out_next
    | with_reducible apply out_fault
    | with_reducible apply ite_kept
    | split
    | dsimp only
    | with_reducible refine mk_kept ?_ (SecKept.refl _)
    | with_reducible refine mk_pend ?_ (sorted_ins _ _ _) (SecKept.refl _)
    | with_reducible refine mk_pend ?_ (sorted_keep _ _) (SecKept.refl _)

/-! ## Machine/Hel.lean -/

theorem uptoTap_kept (tap : Nat) (h : Kept s0 s) : Kept s0 (State.uptoTap s tap) := by
  unfold State.uptoTap
  repeat' first
    | with_reducible assumption
    | intro _
    | with_reducible apply upto_kept
    | with_reducible apply ite_kept
    | split
    | dsimp only

theorem killCols_kept (p : Nat → ColRun → Bool) (h : Kept s0 s) : Kept s0 (State.killCols s p) := by
  unfold State.killCols
  repeat' first
    | with_reducible assumption
    | intro _
    | with_reducible apply foldS_kept
    | with_reducible apply setReg_kept
    | with_reducible apply ite_kept
    | split
    | dsimp only
    | with_reducible refine mk_kept ?_ (SecKept.refl _)

theorem lampsDark_kept  (h : Kept s0 s) : Kept s0 (State.lampsDark s) := by
  unfold State.lampsDark
  repeat' first
    | with_reducible assumption
    | intro _
    | with_reducible apply killCols_kept
    | with_reducible apply ite_kept
    | split
    | dsimp only
    | with_reducible refine mk_kept ?_ (SecKept.refl _)

theorem columnDark_kept (c : Nat) (h : Kept s0 s) : Kept s0 (State.columnDark s c) := by
  unfold State.columnDark
  repeat' first
    | with_reducible assumption
    | intro _
    | with_reducible apply killCols_kept
    | with_reducible apply ite_kept
    | split
    | dsimp only
    | with_reducible refine mk_kept ?_ (SecKept.refl _)
    | with_reducible refine mk_pend ?_ (sorted_erase _ _) (SecKept.refl _)

theorem cutStrobes_kept  (h : Kept s0 s) : Kept s0 (State.cutStrobes s) := by
  unfold State.cutStrobes
  repeat' first
    | with_reducible assumption
    | intro _
    | with_reducible apply when_kept
    | with_reducible apply evt_kept
    | with_reducible apply bump_kept
    | with_reducible apply ite_kept
    | split
    | dsimp only
    | with_reducible refine mk_kept ?_ (SecKept.refl _)

theorem selectRow_kept (k : Nat) (cols : List (Nat × ColRun)) (h : Kept s0 s) : Kept s0 (State.selectRow s k cols) := by
  unfold State.selectRow
  repeat' first
    | with_reducible assumption
    | intro _
    | with_reducible apply ite_kept
    | split
    | dsimp only
    | with_reducible refine mk_kept ?_ (SecKept.refl _)

theorem snapRow_kept (k : Nat) (hold : Bool) (h : Kept s0 s) : Kept s0 (State.snapRow s k hold) := by
  unfold State.snapRow
  repeat' first
    | with_reducible assumption
    | intro _
    | with_reducible apply selectRow_kept
    | with_reducible apply ite_kept
    | split
    | dsimp only

theorem noRow_kept  (h : Kept s0 s) : Kept s0 (State.noRow s) := by
  unfold State.noRow
  repeat' first
    | with_reducible assumption
    | intro _
    | with_reducible apply ite_kept
    | split
    | dsimp only
    | with_reducible refine mk_kept ?_ (SecKept.refl _)

theorem steerIn_kept (c : Nat) (pulse : Nat) (h : Kept s0 s) : Kept s0 (State.steerIn s c pulse) := by
  unfold State.steerIn
  repeat' first
    | with_reducible assumption
    | intro _
    | with_reducible apply uptoTap_kept
    | with_reducible apply setReg_kept
    | with_reducible apply ite_kept
    | split
    | dsimp only
    | with_reducible refine mk_kept ?_ (SecKept.refl _)
    | with_reducible refine mk_pend ?_ (sorted_ins _ _ _) (SecKept.refl _)

theorem execStrobeStart_kept (pulse : Nat) (col : Option Nat) (h : Kept s0 s) : KeptOut s0 (execStrobeStart pulse col s) := by
  unfold execStrobeStart
  repeat' first
    | with_reducible assumption
    | intro _
    | with_reducible apply steerIn_kept
    | with_reducible apply forN_kept
    | with_reducible apply ite_out
    | with_reducible apply out_next
    | with_reducible apply out_fault
    | with_reducible apply ite_kept
    | split
    | dsimp only

theorem execStrobeEnd_kept (c : Nat) (h : Kept s0 s) : KeptOut s0 (execStrobeEnd c s) := by
  unfold execStrobeEnd
  repeat' first
    | with_reducible assumption
    | intro _
    | with_reducible apply uptoTap_kept
    | with_reducible apply ite_out
    | with_reducible apply out_next
    | with_reducible apply out_fault
    | with_reducible apply ite_kept
    | split
    | dsimp only
    | with_reducible refine mk_kept ?_ (SecKept.refl _)
    | with_reducible refine mk_pend ?_ (sorted_ins _ _ _) (SecKept.refl _)

theorem lampLimit_kept (lamp : Nat) (h : Kept s0 s) : Kept s0 (State.lampLimit s lamp) := by
  unfold State.lampLimit
  repeat' first
    | with_reducible assumption
    | intro _
    | with_reducible apply evt_kept
    | with_reducible apply setFlag_kept
    | with_reducible apply fault_kept
    | with_reducible apply ite_kept
    | split
    | dsimp only
    | with_reducible refine mk_kept ?_ (SecKept.refl _)
    | with_reducible refine mk_pend ?_ (sorted_ins _ _ _) (SecKept.refl _)

theorem lampCode_kept (lamp : Nat) (h : Kept s0 s) : Kept s0 (State.lampCode s lamp) := by
  unfold State.lampCode
  repeat' first
    | with_reducible assumption
    | intro _
    | with_reducible apply lampLimit_kept
    | with_reducible apply ite_kept
    | split
    | dsimp only
    | with_reducible refine mk_kept ?_ (SecKept.refl _)

theorem codeStep_kept  (h : Kept s0 s) : Kept s0 (State.codeStep s) := by
  unfold State.codeStep
  repeat' first
    | with_reducible assumption
    | intro _
    | with_reducible apply foldS_kept
    | with_reducible apply lampCode_kept
    | with_reducible apply ite_kept
    | split
    | dsimp only

theorem setHelSt_kept (x : HelSt) (h : Kept s0 s) : Kept s0 (State.setHelSt s x) := by
  unfold State.setHelSt
  repeat' first
    | with_reducible assumption
    | intro _
    | with_reducible apply ite_kept
    | split
    | dsimp only
    | with_reducible refine mk_kept ?_ (SecKept.refl _)

theorem setLam_kept (v : Nat) (h : Kept s0 s) : Kept s0 (State.setLam s v) := by
  unfold State.setLam
  repeat' first
    | with_reducible assumption
    | intro _
    | with_reducible apply setFld_kept
    | with_reducible apply ite_kept
    | split
    | dsimp only
    | with_reducible refine mk_kept ?_ (SecKept.refl _)

theorem fadeBegin_kept (x : HelSt) (ms : Nat) (h : Kept s0 s) : Kept s0 (State.fadeBegin s x ms) := by
  unfold State.fadeBegin
  repeat' first
    | with_reducible assumption
    | intro _
    | with_reducible apply ite_kept
    | split
    | dsimp only
    | with_reducible refine mk_kept ?_ (SecKept.refl _)

theorem lampEnable_kept  (h : Kept s0 s) : Kept s0 (State.lampEnable s) := by
  unfold State.lampEnable
  repeat' first
    | with_reducible assumption
    | intro _
    | with_reducible apply setFlag_kept
    | with_reducible apply fadeBegin_kept
    | with_reducible apply ite_kept
    | split
    | dsimp only

theorem lampDisable_kept  (h : Kept s0 s) : Kept s0 (State.lampDisable s) := by
  unfold State.lampDisable
  repeat' first
    | with_reducible assumption
    | intro _
    | with_reducible apply setFlag_kept
    | with_reducible apply fadeBegin_kept
    | with_reducible apply ite_kept
    | split
    | dsimp only

theorem execLampEnable_kept  (h : Kept s0 s) : KeptOut s0 (execLampEnable s) := by
  unfold execLampEnable
  repeat' first
    | with_reducible assumption
    | intro _
    | with_reducible apply hostWrite_kept
    | with_reducible apply lampEnable_kept
    | with_reducible apply ite_out
    | with_reducible apply out_next
    | with_reducible apply out_fault
    | with_reducible apply ite_kept
    | split
    | dsimp only

theorem execLampDisable_kept  (h : Kept s0 s) : KeptOut s0 (execLampDisable s) := by
  unfold execLampDisable
  repeat' first
    | with_reducible assumption
    | intro _
    | with_reducible apply hostWrite_kept
    | with_reducible apply lampDisable_kept
    | with_reducible apply ite_out
    | with_reducible apply out_next
    | with_reducible apply out_fault
    | with_reducible apply ite_kept
    | split
    | dsimp only

theorem fadeStep_kept  (h : Kept s0 s) : Kept s0 (State.fadeStep s) := by
  unfold State.fadeStep
  repeat' first
    | with_reducible assumption
    | intro _
    | with_reducible apply setLam_kept
    | with_reducible apply evt_kept
    | with_reducible apply setHelSt_kept
    | with_reducible apply lampsDark_kept
    | with_reducible apply ite_kept
    | split
    | dsimp only
    | with_reducible refine mk_kept ?_ (SecKept.refl _)

theorem unitStart_kept (key : Nat) (h : Kept s0 s) : Kept s0 (State.unitStart s key) := by
  unfold State.unitStart
  repeat' first
    | with_reducible assumption
    | intro _
    | with_reducible apply ite_kept
    | split
    | dsimp only
    | with_reducible refine mk_kept ?_ (SecKept.refl _)
    | with_reducible refine mk_pend ?_ (sorted_ins _ _ _) (SecKept.refl _)

theorem unitHold_kept (key : Nat) (h : Kept s0 s) : Kept s0 (State.unitHold s key) := by
  unfold State.unitHold
  repeat' first
    | with_reducible assumption
    | intro _
    | with_reducible apply ite_kept
    | split
    | dsimp only
    | with_reducible refine mk_kept ?_ (SecKept.refl _)
    | with_reducible refine mk_pend ?_ (sorted_ins _ _ _) (SecKept.refl _)

theorem rowStart_kept (k : Nat) (h : Kept s0 s) : Kept s0 (State.rowStart s k) := by
  unfold State.rowStart
  repeat' first
    | with_reducible assumption
    | intro _
    | with_reducible apply unitStart_kept
    | with_reducible apply unitHold_kept
    | with_reducible apply ite_kept
    | split
    | dsimp only

theorem rowsFreed_kept  (h : Kept s0 s) : Kept s0 (State.rowsFreed s) := by
  unfold State.rowsFreed
  repeat' first
    | with_reducible assumption
    | intro _
    | with_reducible apply forN_kept
    | with_reducible apply unitStart_kept
    | with_reducible apply ite_kept
    | split
    | dsimp only

theorem unitDrop_kept (key : Nat) (h : Kept s0 s) : Kept s0 (State.unitDrop s key) := by
  unfold State.unitDrop
  repeat' first
    | with_reducible assumption
    | intro _
    | with_reducible apply ite_kept
    | split
    | dsimp only
    | with_reducible refine mk_kept ?_ (SecKept.refl _)
    | with_reducible refine mk_pend ?_ (sorted_erase _ _) (SecKept.refl _)

theorem unitPrune_kept  (h : Kept s0 s) : Kept s0 (State.unitPrune s) := by
  unfold State.unitPrune
  repeat' first
    | with_reducible assumption
    | intro _
    | with_reducible apply ite_kept
    | split
    | dsimp only
    | with_reducible refine mk_kept ?_ (SecKept.refl _)

theorem execFadeTick_kept (t : Nat) (h : Kept s0 s) : KeptOut s0 (execFadeTick t s) := by
  unfold execFadeTick
  repeat' first
    | with_reducible assumption
    | intro _
    | with_reducible apply fadeStep_kept
    | with_reducible apply rowsFreed_kept
    | with_reducible apply upto_kept
    | with_reducible apply unitPrune_kept
    | with_reducible apply ite_out
    | with_reducible apply out_next
    | with_reducible apply out_fault
    | with_reducible apply ite_kept
    | split
    | dsimp only
    | with_reducible refine mk_kept ?_ (SecKept.refl _)

theorem unitLine_kept (line : Nat) (key : Nat) (h : Kept s0 s) : Kept s0 (State.unitLine s line key) := by
  unfold State.unitLine
  repeat' first
    | with_reducible assumption
    | intro _
    | with_reducible apply when_kept
    | with_reducible apply setReg64_kept
    | with_reducible apply unitDrop_kept
    | with_reducible apply evt_kept
    | with_reducible apply ite_kept
    | split
    | dsimp only
    | with_reducible refine mk_kept ?_ (SecKept.refl _)
    | with_reducible refine mk_pend ?_ (sorted_ins _ _ _) (SecKept.refl _)

theorem recoverCols_kept  (h : Kept s0 s) : Kept s0 (State.recoverCols s) := by
  unfold State.recoverCols
  repeat' first
    | with_reducible assumption
    | intro _
    | with_reducible apply foldS_kept
    | with_reducible apply unitStart_kept
    | with_reducible apply ite_kept
    | split
    | dsimp only
    | with_reducible refine mk_kept ?_ (SecKept.refl _)

theorem helLine_kept (line : Nat) (h : Kept s0 s) : Kept s0 (State.helLine s line) := by
  unfold State.helLine
  repeat' first
    | with_reducible assumption
    | intro _
    | with_reducible apply recoverCols_kept
    | with_reducible apply foldS_kept
    | with_reducible apply unitLine_kept
    | with_reducible apply codeStep_kept
    | with_reducible apply ite_kept
    | split
    | dsimp only
    | with_reducible refine mk_kept ?_ (SecKept.refl _)

theorem helHold_kept  (h : Kept s0 s) : Kept s0 (State.helHold s) := by
  unfold State.helHold
  repeat' first
    | with_reducible assumption
    | intro _
    | with_reducible apply setHelSt_kept
    | with_reducible apply ite_kept
    | split
    | dsimp only

theorem execHoldWaitExpiry_kept (t : Nat) (h : Kept s0 s) : KeptOut s0 (execHoldWaitExpiry t s) := by
  unfold execHoldWaitExpiry
  repeat' first
    | with_reducible assumption
    | intro _
    | with_reducible apply upto_kept
    | with_reducible apply helHold_kept
    | with_reducible apply ite_out
    | with_reducible apply out_next
    | with_reducible apply out_fault
    | with_reducible apply ite_kept
    | split
    | dsimp only
    | with_reducible refine mk_kept ?_ (SecKept.refl _)

theorem endRows_kept (m : Nat) (h : Kept s0 s) : Kept s0 (State.endRows s m) := by
  unfold State.endRows
  repeat' first
    | with_reducible assumption
    | intro _
    | with_reducible apply killCols_kept
    | with_reducible apply ite_kept
    | split
    | dsimp only
    | with_reducible refine mk_kept ?_ (SecKept.refl _)

theorem rowShutdown_kept (k : Nat) (h : Kept s0 s) : Kept s0 (State.rowShutdown s k) := by
  unfold State.rowShutdown
  repeat' first
    | with_reducible assumption
    | intro _
    | with_reducible apply endRows_kept
    | with_reducible apply setReg_kept
    | with_reducible apply evt_kept
    | with_reducible apply fault_kept
    | with_reducible apply unitDrop_kept
    | with_reducible apply ite_kept
    | split
    | dsimp only
    | with_reducible refine mk_kept ?_ (SecKept.refl _)
    | with_reducible refine mk_pend ?_ (sorted_ins _ _ _) (SecKept.refl _)

theorem maskLamp_kept (k : Nat) (c : Nat) (h : Kept s0 s) : Kept s0 (State.maskLamp s k c) := by
  unfold State.maskLamp
  repeat' first
    | with_reducible assumption
    | intro _
    | with_reducible apply unitDrop_kept
    | with_reducible apply setFld_kept
    | with_reducible apply ite_kept
    | split
    | dsimp only

theorem lampVerdict_kept (k : Nat) (c : Nat) (short : Bool) (h : Kept s0 s) : Kept s0 (State.lampVerdict s k c short) := by
  unfold State.lampVerdict
  repeat' first
    | with_reducible assumption
    | intro _
    | with_reducible apply setFld_kept
    | with_reducible apply evt_kept
    | with_reducible apply bump_kept
    | with_reducible apply rowShutdown_kept
    | with_reducible apply fault_kept
    | with_reducible apply maskLamp_kept
    | with_reducible apply ite_kept
    | split
    | dsimp only

theorem execRegulatorVerdict_kept (k : Nat) (c : Nat) (short : Bool) (t : Nat) (h : Kept s0 s) : KeptOut s0 (execRegulatorVerdict k c short t s) := by
  unfold execRegulatorVerdict
  repeat' first
    | with_reducible assumption
    | intro _
    | with_reducible apply upto_kept
    | with_reducible apply lampVerdict_kept
    | with_reducible apply ite_out
    | with_reducible apply out_next
    | with_reducible apply out_fault
    | with_reducible apply ite_kept
    | split
    | dsimp only

theorem columnStop_kept (c : Nat) (h : Kept s0 s) : Kept s0 (State.columnStop s c) := by
  unfold State.columnStop
  repeat' first
    | with_reducible assumption
    | intro _
    | with_reducible apply columnDark_kept
    | with_reducible apply setFlag_kept
    | with_reducible apply fault_kept
    | with_reducible apply evt_kept
    | with_reducible apply foldS_kept
    | with_reducible apply rowShutdown_kept
    | with_reducible apply ite_kept
    | split
    | dsimp only

theorem execColumnFault_kept (c : Nat) (t : Nat) (h : Kept s0 s) : KeptOut s0 (execColumnFault c t s) := by
  unfold execColumnFault
  repeat' first
    | with_reducible assumption
    | intro _
    | with_reducible apply columnStop_kept
    | with_reducible apply upto_kept
    | with_reducible apply ite_out
    | with_reducible apply out_next
    | with_reducible apply out_fault
    | with_reducible apply ite_kept
    | split
    | dsimp only

theorem verdictClear_kept (c : Nat) (w : Sys2Proof.Word) (h : Kept s0 s) : Kept s0 (State.verdictClear s c w) := by
  unfold State.verdictClear
  repeat' first
    | with_reducible assumption
    | intro _
    | with_reducible apply setReg_kept
    | with_reducible apply forN_kept
    | with_reducible apply setFld_kept
    | with_reducible apply unitStart_kept
    | with_reducible apply ite_kept
    | split
    | dsimp only
    | with_reducible refine mk_kept ?_ (SecKept.refl _)

theorem execLampVerdictClear_kept (c : Nat) (w : Sys2Proof.Word) (h : Kept s0 s) : KeptOut s0 (execLampVerdictClear c w s) := by
  unfold execLampVerdictClear
  repeat' first
    | with_reducible assumption
    | intro _
    | with_reducible apply hostWrite_kept
    | with_reducible apply verdictClear_kept
    | with_reducible apply ite_out
    | with_reducible apply out_next
    | with_reducible apply out_fault
    | with_reducible apply ite_kept
    | split
    | dsimp only

theorem columnReen_kept (c : Nat) (h : Kept s0 s) : Kept s0 (State.columnReen s c) := by
  unfold State.columnReen
  repeat' first
    | with_reducible assumption
    | intro _
    | with_reducible apply setFlag_kept
    | with_reducible apply ite_kept
    | split
    | dsimp only
    | with_reducible refine mk_kept ?_ (SecKept.refl _)
    | with_reducible refine mk_pend ?_ (sorted_ins _ _ _) (SecKept.refl _)

theorem execColumnReen_kept (c : Nat) (h : Kept s0 s) : KeptOut s0 (execColumnReen c s) := by
  unfold execColumnReen
  repeat' first
    | with_reducible assumption
    | intro _
    | with_reducible apply hostWrite_kept
    | with_reducible apply columnReen_kept
    | with_reducible apply ite_out
    | with_reducible apply out_next
    | with_reducible apply out_fault
    | with_reducible apply ite_kept
    | split
    | dsimp only

theorem execColumnRecovered_kept (c : Nat) (h : Kept s0 s) : KeptOut s0 (execColumnRecovered c s) := by
  unfold execColumnRecovered
  repeat' first
    | with_reducible assumption
    | intro _
    | with_reducible apply unitStart_kept
    | with_reducible apply ite_out
    | with_reducible apply out_next
    | with_reducible apply out_fault
    | with_reducible apply ite_kept
    | split
    | dsimp only
    | with_reducible refine mk_kept ?_ (SecKept.refl _)
    | with_reducible refine mk_pend ?_ (sorted_ins _ _ _) (SecKept.refl _)
    | with_reducible refine mk_pend ?_ (sorted_erase _ _) (SecKept.refl _)

theorem colFollow_kept (old : State) (h : Kept s0 s) : Kept s0 (State.colFollow s old) := by
  unfold State.colFollow
  repeat' first
    | with_reducible assumption
    | intro _
    | with_reducible apply forN_kept
    | with_reducible apply unitStart_kept
    | with_reducible apply columnDark_kept
    | with_reducible apply ite_kept
    | split
    | dsimp only

theorem hdrmClear_kept (c : Nat) (h : Kept s0 s) : Kept s0 (State.hdrmClear s c) := by
  unfold State.hdrmClear
  repeat' first
    | with_reducible assumption
    | intro _
    | with_reducible apply setFlag_kept
    | with_reducible apply ite_kept
    | split
    | dsimp only
    | with_reducible refine mk_kept ?_ (SecKept.refl _)

theorem execHdrmClear_kept (c : Nat) (h : Kept s0 s) : KeptOut s0 (execHdrmClear c s) := by
  unfold execHdrmClear
  repeat' first
    | with_reducible assumption
    | intro _
    | with_reducible apply hostWrite_kept
    | with_reducible apply hdrmClear_kept
    | with_reducible apply ite_out
    | with_reducible apply out_next
    | with_reducible apply out_fault
    | with_reducible apply ite_kept
    | split
    | dsimp only

theorem rowHoldOff_kept (k : Nat) (h : Kept s0 s) : Kept s0 (State.rowHoldOff s k) := by
  unfold State.rowHoldOff
  repeat' first
    | with_reducible assumption
    | intro _
    | with_reducible apply unitHold_kept
    | with_reducible apply unitDrop_kept
    | with_reducible apply ite_kept
    | split
    | dsimp only

theorem ilkFall_kept (back : Option Nat) (h : Kept s0 s) : Kept s0 (State.ilkFall s back) := by
  unfold State.ilkFall
  repeat' first
    | with_reducible assumption
    | intro _
    | with_reducible apply endRows_kept
    | with_reducible apply setReg_kept
    | with_reducible apply forN_kept
    | with_reducible apply rowHoldOff_kept
    | with_reducible apply fault_kept
    | with_reducible apply emit_kept
    | with_reducible apply evt_kept
    | with_reducible apply ite_kept
    | split
    | dsimp only
    | with_reducible refine mk_kept ?_ (SecKept.refl _)

theorem execIlkFall_kept (x : Sys2Proof.IlkIn) (h : Kept s0 s) : KeptOut s0 (execIlkFall x s) := by
  unfold execIlkFall
  repeat' first
    | with_reducible assumption
    | intro _
    | with_reducible apply ilkFall_kept
    | with_reducible apply upto_kept
    | with_reducible apply ite_out
    | with_reducible apply out_next
    | with_reducible apply out_fault
    | with_reducible apply ite_kept
    | split
    | dsimp only

theorem ilkClear_kept  (h : Kept s0 s) : Kept s0 (State.ilkClear s) := by
  unfold State.ilkClear
  repeat' first
    | with_reducible assumption
    | intro _
    | with_reducible apply setReg_kept
    | with_reducible apply forN_kept
    | with_reducible apply rowStart_kept
    | with_reducible apply ite_kept
    | split
    | dsimp only

theorem execIlkLatchClear_kept (pin : Bool) (h : Kept s0 s) : KeptOut s0 (execIlkLatchClear pin s) := by
  unfold execIlkLatchClear
  repeat' first
    | with_reducible assumption
    | intro _
    | with_reducible apply hostWrite_kept
    | with_reducible apply guarded_kept
    | with_reducible apply ilkClear_kept
    | with_reducible apply ite_out
    | with_reducible apply out_next
    | with_reducible apply out_fault
    | with_reducible apply ite_kept
    | split
    | dsimp only
    | with_reducible refine mk_kept ?_ (SecKept.refl _)

theorem rowenApply_kept (w : Sys2Proof.Word) (h : Kept s0 s) : Kept s0 (State.rowenApply s w) := by
  unfold State.rowenApply
  repeat' first
    | with_reducible assumption
    | intro _
    | with_reducible apply setReg_kept
    | with_reducible apply forN_kept
    | with_reducible apply rowStart_kept
    | with_reducible apply unitDrop_kept
    | with_reducible apply endRows_kept
    | with_reducible apply ite_kept
    | split
    | dsimp only

theorem rowenWrite_kept (w : Sys2Proof.Word) (h : Kept s0 s) : Kept s0 (State.rowenWrite s w) := by
  unfold State.rowenWrite
  repeat' first
    | with_reducible assumption
    | intro _
    | with_reducible apply evtIf_kept
    | with_reducible apply ite_kept
    | split
    | dsimp only
    | with_reducible refine mk_kept ?_ (SecKept.refl _)
    | with_reducible refine mk_pend ?_ (sorted_ins _ _ _) (SecKept.refl _)

theorem execRowEnable_kept (k : Nat) (h : Kept s0 s) : KeptOut s0 (execRowEnable k s) := by
  unfold execRowEnable
  repeat' first
    | with_reducible assumption
    | intro _
    | with_reducible apply hostWrite_kept
    | with_reducible apply rowenWrite_kept
    | with_reducible apply ite_out
    | with_reducible apply out_next
    | with_reducible apply out_fault
    | with_reducible apply ite_kept
    | split
    | dsimp only

theorem markRows_kept (m : Nat) (h : Kept s0 s) : Kept s0 (State.markRows s m) := by
  unfold State.markRows
  repeat' first
    | with_reducible assumption
    | intro _
    | with_reducible apply forN_kept
    | with_reducible apply rowShutdown_kept
    | with_reducible apply ite_kept
    | split
    | dsimp only
    | with_reducible refine mk_kept ?_ (SecKept.refl _)

theorem ilkMark_kept (m : Nat) (h : Kept s0 s) : Kept s0 (State.ilkMark s m) := by
  unfold State.ilkMark
  repeat' first
    | with_reducible assumption
    | intro _
    | with_reducible apply forN_kept
    | with_reducible apply rowHoldOff_kept
    | with_reducible apply endRows_kept
    | with_reducible apply ite_kept
    | split
    | dsimp only

theorem safeWrite_kept (w : Nat) (h : Kept s0 s) : Kept s0 (State.safeWrite s w) := by
  unfold State.safeWrite
  repeat' first
    | with_reducible assumption
    | intro _
    | with_reducible apply markRows_kept
    | with_reducible apply ilkMark_kept
    | with_reducible apply setFld_kept
    | with_reducible apply ite_kept
    | split
    | dsimp only

theorem uvWrite_kept (w : Nat) (h : Kept s0 s) : Kept s0 (State.uvWrite s w) := by
  unfold State.uvWrite
  repeat' first
    | with_reducible assumption
    | intro _
    | with_reducible apply markRows_kept
    | with_reducible apply ilkMark_kept
    | with_reducible apply setFld_kept
    | with_reducible apply ite_kept
    | split
    | dsimp only

theorem execSafeRowMark_kept (k : Nat) (uv : Bool) (h : Kept s0 s) : KeptOut s0 (execSafeRowMark k uv s) := by
  unfold execSafeRowMark
  repeat' first
    | with_reducible assumption
    | intro _
    | with_reducible apply hostWrite_kept
    | with_reducible apply guarded_kept
    | with_reducible apply uvWrite_kept
    | with_reducible apply safeWrite_kept
    | with_reducible apply ite_out
    | with_reducible apply out_next
    | with_reducible apply out_fault
    | with_reducible apply ite_kept
    | split
    | dsimp only

theorem stgIdle_kept  (h : Kept s0 s) : Kept s0 (State.stgIdle s) := by
  unfold State.stgIdle
  repeat' first
    | with_reducible assumption
    | intro _
    | with_reducible apply ite_kept
    | split
    | dsimp only
    | with_reducible refine mk_kept ?_ (SecKept.refl _)

/-! ## Machine/ColReq.lean -/

theorem showCol_kept  (h : Kept s0 s) : Kept s0 (State.showCol s) := by
  unfold State.showCol
  repeat' first
    | with_reducible assumption
    | intro _
    | with_reducible apply setFld_kept
    | with_reducible apply ite_kept
    | split
    | dsimp only

theorem colResult_kept (kind : Nat) (outcome : Nat) (tries : Nat) (item : Nat) (h : Kept s0 s) : Kept s0 (State.colResult s kind outcome tries item) := by
  unfold State.colResult
  repeat' first
    | with_reducible assumption
    | intro _
    | with_reducible apply setReg_kept
    | with_reducible apply ite_kept
    | split
    | dsimp only

theorem colAccept_kept (kind : Nat) (tries : Nat) (item : Nat) (h : Kept s0 s) : Kept s0 (State.colAccept s kind tries item) := by
  unfold State.colAccept
  repeat' first
    | with_reducible assumption
    | intro _
    | with_reducible apply evt_kept
    | with_reducible apply colResult_kept
    | with_reducible apply ite_kept
    | split
    | dsimp only

theorem colReject_kept (kind : Nat) (tries : Nat) (item : Nat) (h : Kept s0 s) : Kept s0 (State.colReject s kind tries item) := by
  unfold State.colReject
  repeat' first
    | with_reducible assumption
    | intro _
    | with_reducible apply fault_kept
    | with_reducible apply colResult_kept
    | with_reducible apply setAttn_kept
    | with_reducible apply evt_kept
    | with_reducible apply bump_kept
    | with_reducible apply ite_kept
    | split
    | dsimp only

theorem colAbandon_kept (kind : Nat) (item : Nat) (h : Kept s0 s) : Kept s0 (State.colAbandon s kind item) := by
  unfold State.colAbandon
  repeat' first
    | with_reducible assumption
    | intro _
    | with_reducible apply colResult_kept
    | with_reducible apply ite_kept
    | split
    | dsimp only

theorem colNeed_kept (b : Nat) (h : Kept s0 s) : Kept s0 (State.colNeed s b) := by
  unfold State.colNeed
  repeat' first
    | with_reducible assumption
    | intro _
    | with_reducible apply setAttn_kept
    | with_reducible apply evt_kept
    | with_reducible apply setFld_kept
    | with_reducible apply ite_kept
    | split
    | dsimp only

theorem colNeedDone_kept (b : Nat) (h : Kept s0 s) : Kept s0 (State.colNeedDone s b) := by
  unfold State.colNeedDone
  repeat' first
    | with_reducible assumption
    | intro _
    | with_reducible apply setFld_kept
    | with_reducible apply ite_kept
    | split
    | dsimp only

theorem runBegin_kept (kind : Nat) (h : Kept s0 s) : Kept s0 (State.runBegin s kind) := by
  unfold State.runBegin
  repeat' first
    | with_reducible assumption
    | intro _
    | with_reducible apply runStart_kept
    | with_reducible apply setFld_kept
    | with_reducible apply showCol_kept
    | with_reducible apply ite_kept
    | split
    | dsimp only
    | with_reducible refine mk_kept ?_ (SecKept.refl _)

theorem colServe_kept  (h : Kept s0 s) : Kept s0 (State.colServe s) := by
  unfold State.colServe
  repeat' first
    | with_reducible assumption
    | intro _
    | with_reducible apply runBegin_kept
    | with_reducible apply ite_kept
    | split
    | dsimp only

theorem runEnd_kept  (h : Kept s0 s) : Kept s0 (State.runEnd s) := by
  unfold State.runEnd
  repeat' first
    | with_reducible assumption
    | intro _
    | with_reducible apply setFld_kept
    | with_reducible apply colServe_kept
    | with_reducible apply showCol_kept
    | with_reducible apply when_kept
    | with_reducible apply setAttn_kept
    | with_reducible apply ite_kept
    | split
    | dsimp only
    | with_reducible refine mk_kept ?_ (SecKept.refl _)

theorem colTrigger_kept (kind : Nat) (h : Kept s0 s) : Kept s0 (State.colTrigger s kind) := by
  unfold State.colTrigger
  repeat' first
    | with_reducible assumption
    | intro _
    | with_reducible apply colServe_kept
    | with_reducible apply ite_kept
    | split
    | dsimp only
    | with_reducible refine mk_kept ?_ (SecKept.refl _)

theorem dtMax_kept (src : Nat) (d : Nat) (h : Kept s0 s) : Kept s0 (State.dtMax s src d) := by
  unfold State.dtMax
  repeat' first
    | with_reducible assumption
    | intro _
    | with_reducible apply setReg_kept
    | with_reducible apply ite_kept
    | split
    | dsimp only

theorem tempCheck_kept (i : Nat) (h : Kept s0 s) : Kept s0 (State.tempCheck s i) := by
  unfold State.tempCheck
  repeat' first
    | with_reducible assumption
    | intro _
    | with_reducible apply dtMax_kept
    | with_reducible apply colTrigger_kept
    | with_reducible apply ite_kept
    | split
    | dsimp only
    | with_reducible refine mk_kept ?_ (SecKept.refl _)

theorem urgentTake_kept (t : Nat) (h : Kept s0 s) : Kept s0 (State.urgentTake s t) := by
  unfold State.urgentTake
  repeat' first
    | with_reducible assumption
    | intro _
    | with_reducible apply ite_kept
    | split
    | dsimp only
    | with_reducible refine mk_kept ?_ (SecKept.refl _)

theorem hkTake_kept  (h : Kept s0 s) : Kept s0 (State.hkTake s) := by
  unfold State.hkTake
  repeat' first
    | with_reducible assumption
    | intro _
    | with_reducible apply urgentTake_kept
    | with_reducible apply ite_kept
    | split
    | dsimp only

theorem urgentPull_kept  (h : Kept s0 s) : Kept s0 (State.urgentPull s) := by
  unfold State.urgentPull
  repeat' first
    | with_reducible assumption
    | intro _
    | with_reducible apply hkTake_kept
    | with_reducible apply ite_kept
    | split
    | dsimp only
    | with_reducible refine mk_kept ?_ (SecKept.refl _)

theorem urgentPut_kept (u : Urgent) (h : Kept s0 s) : Kept s0 (State.urgentPut s u) := by
  unfold State.urgentPut
  repeat' first
    | with_reducible assumption
    | intro _
    | with_reducible apply urgentPull_kept
    | with_reducible apply ite_kept
    | split
    | dsimp only
    | with_reducible refine mk_kept ?_ (SecKept.refl _)

theorem dacPump_kept  (h : Kept s0 s) : Kept s0 (State.dacPump s) := by
  unfold State.dacPump
  repeat' first
    | with_reducible assumption
    | intro _
    | with_reducible apply hkTake_kept
    | with_reducible apply urgentPut_kept
    | with_reducible apply ite_kept
    | split
    | dsimp only

theorem dacStart_kept  (h : Kept s0 s) : Kept s0 (State.dacStart s) := by
  unfold State.dacStart
  repeat' first
    | with_reducible assumption
    | intro _
    | with_reducible apply dacPump_kept
    | with_reducible apply ite_kept
    | split
    | dsimp only
    | with_reducible refine mk_kept ?_ (SecKept.refl _)

theorem dacPoint_kept (v : Int) (h : Kept s0 s) : Kept s0 (State.dacPoint s v) := by
  unfold State.dacPoint
  repeat' first
    | with_reducible assumption
    | intro _
    | with_reducible apply dacPump_kept
    | with_reducible apply showCol_kept
    | with_reducible apply fault_kept
    | with_reducible apply ite_kept
    | split
    | dsimp only
    | with_reducible refine mk_kept ?_ (SecKept.refl _)

/-! ## Machine/Act.lean -/

theorem setMeasM_kept (m : Nat) (h : Kept s0 s) : Kept s0 (State.setMeasM s m) := by
  unfold State.setMeasM
  repeat' first
    | with_reducible assumption
    | intro _
    | with_reducible apply ite_kept
    | split
    | dsimp only
    | with_reducible refine mk_kept ?_ (SecKept.refl _)

theorem actArm_kept  (h : Kept s0 s) : Kept s0 (State.actArm s) := by
  unfold State.actArm
  repeat' first
    | with_reducible assumption
    | intro _
    | with_reducible apply setMeasM_kept
    | with_reducible apply ite_kept
    | split
    | dsimp only
    | with_reducible refine mk_kept ?_ (SecKept.refl _)

theorem actSlotEnd_kept (row : Nat) (hold : Bool) (h : Kept s0 s) : Kept s0 (State.actSlotEnd s row hold) := by
  unfold State.actSlotEnd
  repeat' first
    | with_reducible assumption
    | intro _
    | with_reducible apply ite_kept
    | split
    | dsimp only
    | with_reducible refine mk_kept ?_ (SecKept.refl _)

theorem setLampRes_kept (lamp : Nat) (r : LampRes) (h : Kept s0 s) : Kept s0 (State.setLampRes s lamp r) := by
  unfold State.setLampRes
  repeat' first
    | with_reducible assumption
    | intro _
    | with_reducible apply ite_kept
    | split
    | dsimp only
    | with_reducible refine mk_kept ?_ (SecKept.refl _)

theorem windowAdd_kept (lamp : Nat) (phi : Nat) (h : Kept s0 s) : Kept s0 (State.windowAdd s lamp phi) := by
  unfold State.windowAdd
  repeat' first
    | with_reducible assumption
    | intro _
    | with_reducible apply ite_kept
    | split
    | dsimp only
    | with_reducible refine mk_kept ?_ (SecKept.refl _)
    | with_reducible refine mk_pend ?_ (sorted_ins _ _ _) (SecKept.refl _)

theorem lampDecline_kept (lamp : Nat) (qexp : Nat) (h : Kept s0 s) : Kept s0 (State.lampDecline s lamp qexp) := by
  unfold State.lampDecline
  repeat' first
    | with_reducible assumption
    | intro _
    | with_reducible apply colTrigger_kept
    | with_reducible apply setLampRes_kept
    | with_reducible apply ite_kept
    | split
    | dsimp only

theorem actVerdict_kept (k : Nat) (c : Nat) (old : LampRes) (new_ : LampRes) (h : Kept s0 s) : Kept s0 (State.actVerdict s k c old new_) := by
  unfold State.actVerdict
  repeat' first
    | with_reducible assumption
    | intro _
    | with_reducible apply when_kept
    | with_reducible apply lampVerdict_kept
    | with_reducible apply fault_kept
    | with_reducible apply evt_kept
    | with_reducible apply ite_kept
    | split
    | dsimp only

theorem measSat_kept (k : Nat) (c : Nat) (judged : Bool) (h : Kept s0 s) : Kept s0 (State.measSat s k c judged) := by
  unfold State.measSat
  repeat' first
    | with_reducible assumption
    | intro _
    | with_reducible apply fault_kept
    | with_reducible apply evt_kept
    | with_reducible apply bump_kept
    | with_reducible apply setLampRes_kept
    | with_reducible apply ite_kept
    | split
    | dsimp only

theorem baseSample_kept (c : Nat) (v : Int) (h : Kept s0 s) : Kept s0 (State.baseSample s c v) := by
  unfold State.baseSample
  repeat' first
    | with_reducible assumption
    | intro _
    | with_reducible apply ite_kept
    | split
    | dsimp only
    | with_reducible refine mk_kept ?_ (SecKept.refl _)
    | with_reducible refine mk_pend ?_ (sorted_ins _ _ _) (SecKept.refl _)

theorem measCol_kept (ms : MeasSlot) (x : Sys2Proof.MeasIn) (h : Kept s0 s) : Kept s0 (State.measCol s ms x) := by
  unfold State.measCol
  repeat' first
    | with_reducible assumption
    | intro _
    | with_reducible apply when_kept
    | with_reducible apply baseSample_kept
    | with_reducible apply measSat_kept
    | with_reducible apply windowAdd_kept
    | with_reducible apply setLampRes_kept
    | with_reducible apply lampDecline_kept
    | with_reducible apply actVerdict_kept
    | with_reducible apply ite_kept
    | split
    | dsimp only
    | with_reducible refine mk_kept ?_ (SecKept.refl _)
    | with_reducible refine mk_pend ?_ (sorted_ins _ _ _) (SecKept.refl _)

theorem execStrobeMeasure_kept (x : List Sys2Proof.MeasIn) (t : Nat) (h : Kept s0 s) : KeptOut s0 (execStrobeMeasure x t s) := by
  unfold execStrobeMeasure
  repeat' first
    | with_reducible assumption
    | intro _
    | with_reducible apply upto_kept
    | with_reducible apply when_kept
    | with_reducible apply evt_kept
    | with_reducible apply bump_kept
    | with_reducible apply foldS_kept
    | with_reducible apply measCol_kept
    | with_reducible apply ite_out
    | with_reducible apply out_next
    | with_reducible apply out_fault
    | with_reducible apply ite_kept
    | split
    | dsimp only
    | with_reducible refine mk_kept ?_ (SecKept.refl _)

theorem baseCol_kept (c : Nat) (h : Kept s0 s) : Kept s0 (State.baseCol s c) := by
  unfold State.baseCol
  repeat' first
    | with_reducible assumption
    | intro _
    | with_reducible apply setFld_kept
    | with_reducible apply ite_kept
    | split
    | dsimp only
    | with_reducible refine mk_kept ?_ (SecKept.refl _)
    | with_reducible refine mk_pend ?_ (sorted_ins _ _ _) (SecKept.refl _)

theorem execBaselineInterval_kept (t : Nat) (h : Kept s0 s) : KeptOut s0 (execBaselineInterval t s) := by
  unfold execBaselineInterval
  repeat' first
    | with_reducible assumption
    | intro _
    | with_reducible apply upto_kept
    | with_reducible apply forN_kept
    | with_reducible apply baseCol_kept
    | with_reducible apply ite_out
    | with_reducible apply out_next
    | with_reducible apply out_fault
    | with_reducible apply ite_kept
    | split
    | dsimp only
    | with_reducible refine mk_kept ?_ (SecKept.refl _)

theorem lampSelect_kept (w : Sys2Proof.Word) (h : Kept s0 s) : Kept s0 (State.lampSelect s w) := by
  unfold State.lampSelect
  repeat' first
    | with_reducible assumption
    | intro _
    | with_reducible apply setReg_kept
    | with_reducible apply ite_kept
    | split
    | dsimp only

theorem execLampSelect_kept (w : Sys2Proof.Word) (h : Kept s0 s) : KeptOut s0 (execLampSelect w s) := by
  unfold execLampSelect
  repeat' first
    | with_reducible assumption
    | intro _
    | with_reducible apply hostWrite_kept
    | with_reducible apply lampSelect_kept
    | with_reducible apply ite_out
    | with_reducible apply out_next
    | with_reducible apply out_fault
    | with_reducible apply ite_kept
    | split
    | dsimp only

theorem holdSlot_kept (j : Nat) (h : Kept s0 s) : Kept s0 (State.holdSlot s j) := by
  unfold State.holdSlot
  repeat' first
    | with_reducible assumption
    | intro _
    | with_reducible apply snapRow_kept
    | with_reducible apply noRow_kept
    | with_reducible apply ite_kept
    | split
    | dsimp only
    | with_reducible refine mk_kept ?_ (SecKept.refl _)

theorem holdSlotEnd_kept (j : Nat) (h : Kept s0 s) : Kept s0 (State.holdSlotEnd s j) := by
  unfold State.holdSlotEnd
  repeat' first
    | with_reducible assumption
    | intro _
    | with_reducible apply actSlotEnd_kept
    | with_reducible apply cutStrobes_kept
    | with_reducible apply ite_kept
    | split
    | dsimp only

theorem holdBegin_kept (offsets : List (Nat × Int)) (h : Kept s0 s) : Kept s0 (State.holdBegin s offsets) := by
  unfold State.holdBegin
  repeat' first
    | with_reducible assumption
    | intro _
    | with_reducible apply stgIdle_kept
    | with_reducible apply setMeasM_kept
    | with_reducible apply foldS_kept
    | with_reducible apply holdSlot_kept
    | with_reducible apply codeStep_kept
    | with_reducible apply ite_kept
    | split
    | dsimp only
    | with_reducible refine mk_kept ?_ (SecKept.refl _)
    | with_reducible refine mk_pend ?_ (sorted_ins _ _ _) (SecKept.refl _)

theorem holdCut_kept  (h : Kept s0 s) : Kept s0 (State.holdCut s) := by
  unfold State.holdCut
  repeat' first
    | with_reducible assumption
    | intro _
    | with_reducible apply noRow_kept
    | with_reducible apply ite_kept
    | split
    | dsimp only
    | with_reducible refine mk_kept ?_ (SecKept.refl _)

theorem execHoldCycle_kept (t : Nat) (offsets : List (Nat × Int)) (h : Kept s0 s) : KeptOut s0 (execHoldCycle t offsets s) := by
  unfold execHoldCycle
  repeat' first
    | with_reducible assumption
    | intro _
    | with_reducible apply upto_kept
    | with_reducible apply holdBegin_kept
    | with_reducible apply holdSlotEnd_kept
    | with_reducible apply holdSlot_kept
    | with_reducible apply noRow_kept
    | with_reducible apply holdCut_kept
    | with_reducible apply ite_out
    | with_reducible apply out_next
    | with_reducible apply out_fault
    | with_reducible apply ite_kept
    | split
    | dsimp only
    | with_reducible refine mk_kept ?_ (SecKept.refl _)

end Sys2Proof.Laws
end

