-- ==== Sys2Proof/Laws/KeptScan.lean ====
section
/-! SUPPORT. Every operation of Machine/Alm.lean, Col.lean, Pho.lean, Dma.lean, Trig.lean, Derive.lean, Adm.lean, Cdr.lean keeps what no operation undoes (Kept.lean). -/

namespace Sys2Proof.Laws

set_option Elab.async false

open Sys2Proof.Machine

variable {s0 s t : State}

/-! ## Machine/Alm.lean -/

theorem setIsland_kept (i : Nat) (x : Island) (h : Kept s0 s) : Kept s0 (State.setIsland s i x) := by
  unfold State.setIsland
  repeat' first
    | with_reducible assumption
    | intro _
    | with_reducible apply setReg_kept
    | with_reducible apply ite_kept
    | split
    | dsimp only
    | with_reducible refine mk_kept ?_ (SecKept.refl _)

theorem execSlackMeasure_kept (l : List Nat) (t : Nat) (h : Kept s0 s) : KeptOut s0 (execSlackMeasure l t s) := by
  unfold execSlackMeasure
  repeat' first
    | with_reducible assumption
    | intro _
    | with_reducible apply forN_kept
    | with_reducible apply setIsland_kept
    | with_reducible apply upto_kept
    | with_reducible apply ite_out
    | with_reducible apply out_next
    | with_reducible apply out_fault
    | with_reducible apply ite_kept
    | split
    | dsimp only
    | with_reducible refine mk_kept ?_ (SecKept.refl _)

theorem clockDown_kept (i : Nat) (h : Kept s0 s) : Kept s0 (State.clockDown s i) := by
  unfold State.clockDown
  repeat' first
    | with_reducible assumption
    | intro _
    | with_reducible apply setIsland_kept
    | with_reducible apply ite_kept
    | split
    | dsimp only

theorem clockUp_kept (i : Nat) (h : Kept s0 s) : Kept s0 (State.clockUp s i) := by
  unfold State.clockUp
  repeat' first
    | with_reducible assumption
    | intro _
    | with_reducible apply setIsland_kept
    | with_reducible apply ite_kept
    | split
    | dsimp only

theorem defer_kept (d : Deferred) (h : Kept s0 s) : Kept s0 (State.defer s d) := by
  have h1 : Kept s0 { s with sec := { s.sec with deferred := s.sec.deferred ++ [d] } } :=
    ⟨h.queue, h.mem, h.regs, h.pend, h.hdrs, h.otp, h.field⟩
  unfold State.defer
  exact ite_kept h h1

theorem clockStep_kept  (h : Kept s0 s) : Kept s0 (State.clockStep s) := by
  unfold State.clockStep
  repeat' first
    | with_reducible assumption
    | intro _
    | with_reducible apply evt_kept
    | with_reducible apply foldS_kept
    | with_reducible apply clockDown_kept
    | with_reducible apply clockUp_kept
    | with_reducible apply ite_kept
    | split
    | dsimp only

theorem execClockStep_kept (t : Nat) (h : Kept s0 s) : KeptOut s0 (execClockStep t s) := by
  unfold execClockStep
  repeat' first
    | with_reducible assumption
    | intro _
    | with_reducible apply upto_kept
    | with_reducible apply defer_kept
    | with_reducible apply clockStep_kept
    | with_reducible apply ite_out
    | with_reducible apply out_next
    | with_reducible apply out_fault
    | with_reducible apply ite_kept
    | split
    | dsimp only

theorem pmbusFault_kept  (h : Kept s0 s) : Kept s0 (State.pmbusFault s) := by
  unfold State.pmbusFault
  repeat' first
    | with_reducible assumption
    | intro _
    | with_reducible apply evt_kept
    | with_reducible apply fault_kept
    | with_reducible apply ite_kept
    | split
    | dsimp only
    | with_reducible refine mk_kept ?_ (SecKept.refl _)

theorem voutCommand_kept (mv : Nat) (ack : Bool) (h : Kept s0 s) : Kept s0 (State.voutCommand s mv ack) := by
  unfold State.voutCommand
  repeat' first
    | with_reducible assumption
    | intro _
    | with_reducible apply send_kept
    | with_reducible apply setFld_kept
    | with_reducible apply pmbusFault_kept
    | with_reducible apply ite_kept
    | split
    | dsimp only
    | with_reducible refine mk_kept ?_ (SecKept.refl _)

theorem voltageGo_kept (mv : Nat) (ack : Bool) (h : Kept s0 s) : Kept s0 (State.voltageGo s mv ack) := by
  unfold State.voltageGo
  repeat' first
    | with_reducible assumption
    | intro _
    | with_reducible apply evtIf_kept
    | with_reducible apply voutCommand_kept
    | with_reducible apply ite_kept
    | split
    | dsimp only

theorem voltageStep_kept (ack : Bool) (h : Kept s0 s) : Kept s0 (State.voltageStep s ack) := by
  unfold State.voltageStep
  repeat' first
    | with_reducible assumption
    | intro _
    | with_reducible apply evt_kept
    | with_reducible apply fault_kept
    | with_reducible apply voltageGo_kept
    | with_reducible apply ite_kept
    | split
    | dsimp only

theorem execVoltageStep_kept (ack : Bool) (t : Nat) (h : Kept s0 s) : KeptOut s0 (execVoltageStep ack t s) := by
  unfold execVoltageStep
  repeat' first
    | with_reducible assumption
    | intro _
    | with_reducible apply upto_kept
    | with_reducible apply defer_kept
    | with_reducible apply voltageStep_kept
    | with_reducible apply ite_out
    | with_reducible apply out_next
    | with_reducible apply out_fault
    | with_reducible apply ite_kept
    | split
    | dsimp only

theorem voutMode_kept (m : Nat) (h : Kept s0 s) : Kept s0 (State.voutMode s m) := by
  unfold State.voutMode
  repeat' first
    | with_reducible assumption
    | intro _
    | with_reducible apply when_kept
    | with_reducible apply pmbusFault_kept
    | with_reducible apply ite_kept
    | split
    | dsimp only
    | with_reducible refine mk_kept ?_ (SecKept.refl _)

theorem execPmbusPoll_kept (x : Sys2Proof.PmbIn) (t : Nat) (h : Kept s0 s) : KeptOut s0 (execPmbusPoll x t s) := by
  unfold execPmbusPoll
  repeat' first
    | with_reducible assumption
    | intro _
    | with_reducible apply upto_kept
    | with_reducible apply send_kept
    | with_reducible apply voutMode_kept
    | with_reducible apply setReg_kept
    | with_reducible apply when_kept
    | with_reducible apply pmbusFault_kept
    | with_reducible apply ite_out
    | with_reducible apply out_next
    | with_reducible apply out_fault
    | with_reducible apply ite_kept
    | split
    | dsimp only

theorem execVoutCheck_kept (x : Sys2Proof.PmbIn) (t : Nat) (h : Kept s0 s) : KeptOut s0 (execVoutCheck x t s) := by
  unfold execVoutCheck
  repeat' first
    | with_reducible assumption
    | intro _
    | with_reducible apply upto_kept
    | with_reducible apply send_kept
    | with_reducible apply setFld_kept
    | with_reducible apply when_kept
    | with_reducible apply pmbusFault_kept
    | with_reducible apply ite_out
    | with_reducible apply out_next
    | with_reducible apply out_fault
    | with_reducible apply ite_kept
    | split
    | dsimp only
    | with_reducible refine mk_kept ?_ (SecKept.refl _)

theorem projectKind_kept (kind : Nat) (h : Kept s0 s) : Kept s0 (State.projectKind s kind).1 :=
  foldl_kept _ h (fun _ _ hp => mk_kept hp (SecKept.refl _))

theorem marginHour_kept  (h : Kept s0 s) : Kept s0 (State.marginHour s) := by
  unfold State.marginHour
  repeat' first
    | with_reducible assumption
    | intro _
    | with_reducible apply projectKind_kept
    | with_reducible apply setReg_kept
    | with_reducible apply evtIf_kept
    | with_reducible apply when_kept
    | with_reducible apply fault_kept
    | with_reducible apply ite_kept
    | split
    | dsimp only
    | with_reducible refine of_fst ?_ ‹_ = (_, _)›
    | with_reducible refine mk_kept ?_ (SecKept.refl _)

theorem execMarginProjection_kept (t : Nat) (h : Kept s0 s) : KeptOut s0 (execMarginProjection t s) := by
  unfold execMarginProjection
  repeat' first
    | with_reducible assumption
    | intro _
    | with_reducible apply upto_kept
    | with_reducible apply defer_kept
    | with_reducible apply marginHour_kept
    | with_reducible apply ite_out
    | with_reducible apply out_next
    | with_reducible apply out_fault
    | with_reducible apply ite_kept
    | split
    | dsimp only

theorem histSave_kept  (h : Kept s0 s) : Kept s0 (State.histSave s) := by
  unfold State.histSave
  repeat' first
    | with_reducible assumption
    | intro _
    | with_reducible apply ite_kept
    | split
    | dsimp only
    | with_reducible refine mk_kept ?_ (SecKept.refl _)

theorem execHistorySave_kept (t : Nat) (h : Kept s0 s) : KeptOut s0 (execHistorySave t s) := by
  unfold execHistorySave
  repeat' first
    | with_reducible assumption
    | intro _
    | with_reducible apply upto_kept
    | with_reducible apply histSave_kept
    | with_reducible apply ite_out
    | with_reducible apply out_next
    | with_reducible apply out_fault
    | with_reducible apply ite_kept
    | split
    | dsimp only
    | with_reducible refine mk_kept ?_ (SecKept.refl _)

theorem histRestore_kept  (h : Kept s0 s) : Kept s0 (State.histRestore s) := by
  unfold State.histRestore
  repeat' first
    | with_reducible assumption
    | intro _
    | with_reducible apply setReg_kept
    | with_reducible apply ite_kept
    | split
    | dsimp only
    | with_reducible refine mk_kept ?_ (SecKept.refl _)

/-! ## Machine/Col.lean -/

theorem colRequest_kept (kind : Nat) (h : Kept s0 s) : Kept s0 (State.colRequest s kind) := by
  unfold State.colRequest
  repeat' first
    | with_reducible assumption
    | intro _
    | with_reducible apply colTrigger_kept
    | with_reducible apply setFld_kept
    | with_reducible apply ite_kept
    | split
    | dsimp only

theorem execColReqLamp_kept  (h : Kept s0 s) : KeptOut s0 (execColReqLamp s) := by
  unfold execColReqLamp
  repeat' first
    | with_reducible assumption
    | intro _
    | with_reducible apply hostWrite_kept
    | with_reducible apply colRequest_kept
    | with_reducible apply ite_out
    | with_reducible apply out_next
    | with_reducible apply out_fault
    | with_reducible apply ite_kept
    | split
    | dsimp only

theorem execColReqFlux_kept  (h : Kept s0 s) : KeptOut s0 (execColReqFlux s) := by
  unfold execColReqFlux
  repeat' first
    | with_reducible assumption
    | intro _
    | with_reducible apply hostWrite_kept
    | with_reducible apply colRequest_kept
    | with_reducible apply ite_out
    | with_reducible apply out_next
    | with_reducible apply out_fault
    | with_reducible apply ite_kept
    | split
    | dsimp only

theorem execColReqDark_kept  (h : Kept s0 s) : KeptOut s0 (execColReqDark s) := by
  unfold execColReqDark
  repeat' first
    | with_reducible assumption
    | intro _
    | with_reducible apply hostWrite_kept
    | with_reducible apply colRequest_kept
    | with_reducible apply ite_out
    | with_reducible apply out_next
    | with_reducible apply out_fault
    | with_reducible apply ite_kept
    | split
    | dsimp only

theorem execColReqWhite_kept  (h : Kept s0 s) : KeptOut s0 (execColReqWhite s) := by
  unfold execColReqWhite
  repeat' first
    | with_reducible assumption
    | intro _
    | with_reducible apply hostWrite_kept
    | with_reducible apply colRequest_kept
    | with_reducible apply ite_out
    | with_reducible apply out_next
    | with_reducible apply out_fault
    | with_reducible apply ite_kept
    | split
    | dsimp only

theorem spareGo_kept (g : Nat) (pos : Nat) (tgt : Nat) (h : Kept s0 s) : Kept s0 (State.spareGo s g pos tgt) := by
  unfold State.spareGo
  repeat' first
    | with_reducible assumption
    | intro _
    | with_reducible apply setSpare_kept
    | with_reducible apply when_kept
    | with_reducible apply spareBoundary_kept
    | with_reducible apply ite_kept
    | split
    | dsimp only

theorem rotRestart_kept  (h : Kept s0 s) : Kept s0 (State.rotRestart s) := by
  unfold State.rotRestart
  repeat' first
    | with_reducible assumption
    | intro _
    | with_reducible apply ite_kept
    | split
    | dsimp only
    | with_reducible refine mk_kept ?_ (SecKept.refl _)

theorem execColReqRotrst_kept  (h : Kept s0 s) : KeptOut s0 (execColReqRotrst s) := by
  unfold execColReqRotrst
  repeat' first
    | with_reducible assumption
    | intro _
    | with_reducible apply hostWrite_kept
    | with_reducible apply rotRestart_kept
    | with_reducible apply ite_out
    | with_reducible apply out_next
    | with_reducible apply out_fault
    | with_reducible apply ite_kept
    | split
    | dsimp only

theorem idleStop_kept  (h : Kept s0 s) : Kept s0 (State.idleStop s) := by
  unfold State.idleStop
  repeat' first
    | with_reducible assumption
    | intro _
    | with_reducible apply forN_kept
    | with_reducible apply setFlag_kept
    | with_reducible apply setFld_kept
    | with_reducible apply showCol_kept
    | with_reducible apply ite_kept
    | split
    | dsimp only
    | with_reducible refine mk_kept ?_ (SecKept.refl _)

theorem runStop_kept  (h : Kept s0 s) : Kept s0 (State.runStop s) := by
  unfold State.runStop
  repeat' first
    | with_reducible assumption
    | intro _
    | with_reducible apply colAbandon_kept
    | with_reducible apply showFft_kept
    | with_reducible apply runEnd_kept
    | with_reducible apply ite_kept
    | split
    | dsimp only
    | with_reducible refine mk_kept ?_ (SecKept.refl _)

theorem runAbandon_kept  (h : Kept s0 s) : Kept s0 (State.runAbandon s) := by
  unfold State.runAbandon
  repeat' first
    | with_reducible assumption
    | intro _
    | with_reducible apply runStop_kept
    | with_reducible apply ite_kept
    | split
    | dsimp only

theorem colCtlWrite_kept (w : Sys2Proof.Word) (h : Kept s0 s) : Kept s0 (State.colCtlWrite s w) := by
  unfold State.colCtlWrite
  repeat' first
    | with_reducible assumption
    | intro _
    | with_reducible apply setReg_kept
    | with_reducible apply idleStop_kept
    | with_reducible apply runAbandon_kept
    | with_reducible apply colServe_kept
    | with_reducible apply ite_kept
    | split
    | dsimp only

theorem colPermWrite_kept (w : Sys2Proof.Word) (h : Kept s0 s) : Kept s0 (State.colPermWrite s w) := by
  unfold State.colPermWrite
  repeat' first
    | with_reducible assumption
    | intro _
    | with_reducible apply setReg_kept
    | with_reducible apply ite_kept
    | split
    | dsimp only

theorem execColDisable_kept (reg : Nat) (w : Sys2Proof.Word) (h : Kept s0 s) : KeptOut s0 (execColDisable reg w s) := by
  unfold execColDisable
  repeat' first
    | with_reducible assumption
    | intro _
    | with_reducible apply hostWrite_kept
    | with_reducible apply colCtlWrite_kept
    | with_reducible apply colPermWrite_kept
    | with_reducible apply ite_out
    | with_reducible apply out_next
    | with_reducible apply out_fault
    | with_reducible apply ite_kept
    | split
    | dsimp only

theorem execCalPeriodExpiry_kept (t : Nat) (h : Kept s0 s) : KeptOut s0 (execCalPeriodExpiry t s) := by
  unfold execCalPeriodExpiry
  repeat' first
    | with_reducible assumption
    | intro _
    | with_reducible apply upto_kept
    | with_reducible apply when_kept
    | with_reducible apply colTrigger_kept
    | with_reducible apply ite_out
    | with_reducible apply out_next
    | with_reducible apply out_fault
    | with_reducible apply ite_kept
    | split
    | dsimp only

theorem execWhitePeriodExpiry_kept (t : Nat) (h : Kept s0 s) : KeptOut s0 (execWhitePeriodExpiry t s) := by
  unfold execWhitePeriodExpiry
  repeat' first
    | with_reducible assumption
    | intro _
    | with_reducible apply upto_kept
    | with_reducible apply when_kept
    | with_reducible apply colNeed_kept
    | with_reducible apply ite_out
    | with_reducible apply out_next
    | with_reducible apply out_fault
    | with_reducible apply ite_kept
    | split
    | dsimp only

theorem sigmaSelect_kept (w : Sys2Proof.Word) (h : Kept s0 s) : Kept s0 (State.sigmaSelect s w) := by
  unfold State.sigmaSelect
  repeat' first
    | with_reducible assumption
    | intro _
    | with_reducible apply setReg_kept
    | with_reducible apply ite_kept
    | split
    | dsimp only

theorem execSigmaSelect_kept (w : Sys2Proof.Word) (h : Kept s0 s) : KeptOut s0 (execSigmaSelect w s) := by
  unfold execSigmaSelect
  repeat' first
    | with_reducible assumption
    | intro _
    | with_reducible apply hostWrite_kept
    | with_reducible apply sigmaSelect_kept
    | with_reducible apply ite_out
    | with_reducible apply out_next
    | with_reducible apply out_fault
    | with_reducible apply ite_kept
    | split
    | dsimp only

theorem setBinCode_kept (k : Nat) (c : Nat) (v : Nat) (h : Kept s0 s) : Kept s0 (State.setBinCode s k c v) := by
  unfold State.setBinCode
  repeat' first
    | with_reducible assumption
    | intro _
    | with_reducible apply store_kept
    | with_reducible apply ite_kept
    | split
    | dsimp only

theorem lampAccept_kept (lamp : Nat) (sum : Nat) (h : Kept s0 s) : Kept s0 (State.lampAccept s lamp sum) := by
  unfold State.lampAccept
  repeat' first
    | with_reducible assumption
    | intro _
    | with_reducible apply when_kept
    | with_reducible apply useFree_kept
    | with_reducible apply setBinCode_kept
    | with_reducible apply lampLimit_kept
    | with_reducible apply ite_kept
    | split
    | dsimp only
    | with_reducible refine mk_kept ?_ (SecKept.refl _)
    | with_reducible refine mk_pend ?_ (sorted_ins _ _ _) (SecKept.refl _)

theorem lampJudge_kept (lamp : Nat) (h : Kept s0 s) : Kept s0 (State.lampJudge s lamp) := by
  unfold State.lampJudge
  repeat' first
    | with_reducible assumption
    | intro _
    | with_reducible apply colReject_kept
    | with_reducible apply colAccept_kept
    | with_reducible apply lampAccept_kept
    | with_reducible apply ite_kept
    | split
    | dsimp only
    | with_reducible refine mk_kept ?_ (SecKept.refl _)
    | with_reducible refine mk_pend ?_ (sorted_ins _ _ _) (SecKept.refl _)

theorem lampRefs_kept  (h : Kept s0 s) : Kept s0 (State.lampRefs s) := by
  unfold State.lampRefs
  repeat' first
    | with_reducible assumption
    | intro _
    | with_reducible apply setReg_kept
    | with_reducible apply ite_kept
    | split
    | dsimp only
    | with_reducible refine mk_kept ?_ (SecKept.refl _)

theorem lampRunEnd_kept  (h : Kept s0 s) : Kept s0 (State.lampRunEnd s) := by
  unfold State.lampRunEnd
  repeat' first
    | with_reducible assumption
    | intro _
    | with_reducible apply when_kept
    | with_reducible apply lampRefs_kept
    | with_reducible apply runEnd_kept
    | with_reducible apply colTrigger_kept
    | with_reducible apply ite_kept
    | split
    | dsimp only

theorem lampRunDone_kept  (h : Kept s0 s) : Kept s0 (State.lampRunDone s) := by
  unfold State.lampRunDone
  repeat' first
    | with_reducible assumption
    | intro _
    | with_reducible apply foldS_kept
    | with_reducible apply lampJudge_kept
    | with_reducible apply lampRunEnd_kept
    | with_reducible apply showCol_kept
    | with_reducible apply ite_kept
    | split
    | dsimp only
    | with_reducible refine mk_kept ?_ (SecKept.refl _)

theorem execLampRunDone_kept (t : Nat) (h : Kept s0 s) : KeptOut s0 (execLampRunDone t s) := by
  unfold execLampRunDone
  repeat' first
    | with_reducible assumption
    | intro _
    | with_reducible apply upto_kept
    | with_reducible apply defer_kept
    | with_reducible apply lampRunDone_kept
    | with_reducible apply ite_out
    | with_reducible apply out_next
    | with_reducible apply out_fault
    | with_reducible apply ite_kept
    | split
    | dsimp only

theorem setGain_kept (i : Nat) (g : Nat) (h : Kept s0 s) : Kept s0 (State.setGain s i g) := by
  unfold State.setGain
  repeat' first
    | with_reducible assumption
    | intro _
    | with_reducible apply writeEntry_kept
    | with_reducible apply ite_kept
    | split
    | dsimp only

theorem fluxBand_kept (k : Nat) (h : Kept s0 s) : Kept s0 (State.fluxBand s k) := by
  unfold State.fluxBand
  repeat' first
    | with_reducible assumption
    | intro _
    | with_reducible apply forN_kept
    | with_reducible apply useFree_kept
    | with_reducible apply setGain_kept
    | with_reducible apply ite_kept
    | split
    | dsimp only

theorem calWrite_kept (kind : Nat) (i : Nat) (h : Kept s0 s) : Kept s0 (State.calWrite s kind i) := by
  unfold State.calWrite
  repeat' first
    | with_reducible assumption
    | intro _
    | with_reducible apply when_kept
    | with_reducible apply writeEntry_kept
    | with_reducible apply ite_kept
    | split
    | dsimp only
    | with_reducible refine mk_kept ?_ (SecKept.refl _)
    | with_reducible refine mk_pend ?_ (sorted_ins _ _ _) (SecKept.refl _)

theorem whiteFigures_kept (ok : Bool) (h : Kept s0 s) : Kept s0 (State.whiteFigures s ok) := by
  unfold State.whiteFigures
  repeat' first
    | with_reducible assumption
    | intro _
    | with_reducible apply forN_kept
    | with_reducible apply useFree_kept
    | with_reducible apply setFld_kept
    | with_reducible apply ite_kept
    | split
    | dsimp only

theorem autoSwitch_kept  (h : Kept s0 s) : Kept s0 (State.autoSwitch s) := by
  unfold State.autoSwitch
  repeat' first
    | with_reducible assumption
    | intro _
    | with_reducible apply setFlag_kept
    | with_reducible apply colNeed_kept
    | with_reducible apply ite_kept
    | split
    | dsimp only
    | with_reducible refine mk_kept ?_ (SecKept.refl _)
    | with_reducible refine mk_pend ?_ (sorted_ins _ _ _) (SecKept.refl _)

theorem whiteLamp_kept (lamp : Nat) (h : Kept s0 s) : Kept s0 (State.whiteLamp s lamp) := by
  unfold State.whiteLamp
  repeat' first
    | with_reducible assumption
    | intro _
    | with_reducible apply when_kept
    | with_reducible apply store_kept
    | with_reducible apply colReject_kept
    | with_reducible apply ite_kept
    | split
    | dsimp only

theorem whiteLamps_kept  (h : Kept s0 s) : Kept s0 (State.whiteLamps s) := by
  unfold State.whiteLamps
  repeat' first
    | with_reducible assumption
    | intro _
    | with_reducible apply foldS_kept
    | with_reducible apply whiteLamp_kept
    | with_reducible apply ite_kept
    | split
    | dsimp only
    | with_reducible refine mk_kept ?_ (SecKept.refl _)

theorem calPass_kept (second : Bool) (h : Kept s0 s) : Kept s0 (State.calPass s second) := by
  unfold State.calPass
  repeat' first
    | with_reducible assumption
    | intro _
    | with_reducible apply ite_kept
    | split
    | dsimp only
    | with_reducible refine mk_kept ?_ (SecKept.refl _)

theorem calDone_kept  (h : Kept s0 s) : Kept s0 (State.calDone s) := by
  unfold State.calDone
  repeat' first
    | with_reducible assumption
    | intro _
    | with_reducible apply evt_kept
    | with_reducible apply showFft_kept
    | with_reducible apply mixEntries_kept
    | with_reducible apply ite_kept
    | split
    | dsimp only
    | with_reducible refine mk_kept ?_ (SecKept.refl _)

theorem fluxDone_kept  (h : Kept s0 s) : Kept s0 (State.fluxDone s) := by
  unfold State.fluxDone
  repeat' first
    | with_reducible assumption
    | intro _
    | with_reducible apply calDone_kept
    | with_reducible apply when_kept
    | with_reducible apply foldS_kept
    | with_reducible apply fluxBand_kept
    | with_reducible apply runEnd_kept
    | with_reducible apply colReject_kept
    | with_reducible apply autoSwitch_kept
    | with_reducible apply colAccept_kept
    | with_reducible apply ite_kept
    | split
    | dsimp only
    | with_reducible refine mk_kept ?_ (SecKept.refl _)

theorem calJudge_kept  (h : Kept s0 s) : Kept s0 (State.calJudge s) := by
  unfold State.calJudge
  repeat' first
    | with_reducible assumption
    | intro _
    | with_reducible apply when_kept
    | with_reducible apply whiteFigures_kept
    | with_reducible apply runEnd_kept
    | with_reducible apply colReject_kept
    | with_reducible apply colNeedDone_kept
    | with_reducible apply whiteLamps_kept
    | with_reducible apply autoSwitch_kept
    | with_reducible apply colAccept_kept
    | with_reducible apply showCol_kept
    | with_reducible apply calPass_kept
    | with_reducible apply showFft_kept
    | with_reducible apply ite_kept
    | split
    | dsimp only
    | with_reducible refine mk_kept ?_ (SecKept.refl _)

theorem calRunDone_kept  (h : Kept s0 s) : Kept s0 (State.calRunDone s) := by
  unfold State.calRunDone
  repeat' first
    | with_reducible assumption
    | intro _
    | with_reducible apply fluxDone_kept
    | with_reducible apply calJudge_kept
    | with_reducible apply foldS_kept
    | with_reducible apply calWrite_kept
    | with_reducible apply when_kept
    | with_reducible apply calPass_kept
    | with_reducible apply calDone_kept
    | with_reducible apply ite_kept
    | split
    | dsimp only
    | with_reducible refine mk_kept ?_ (SecKept.refl _)

theorem execCalRunDone_kept (t : Nat) (h : Kept s0 s) : KeptOut s0 (execCalRunDone t s) := by
  unfold execCalRunDone
  repeat' first
    | with_reducible assumption
    | intro _
    | with_reducible apply upto_kept
    | with_reducible apply defer_kept
    | with_reducible apply calRunDone_kept
    | with_reducible apply ite_out
    | with_reducible apply out_next
    | with_reducible apply out_fault
    | with_reducible apply ite_kept
    | split
    | dsimp only

theorem passStart_kept  (h : Kept s0 s) : Kept s0 (State.passStart s) := by
  unfold State.passStart
  repeat' first
    | with_reducible assumption
    | intro _
    | with_reducible apply dacStart_kept
    | with_reducible apply ite_kept
    | split
    | dsimp only
    | with_reducible refine mk_kept ?_ (SecKept.refl _)

theorem passEnd_kept  (h : Kept s0 s) : Kept s0 (State.passEnd s) := by
  unfold State.passEnd
  repeat' first
    | with_reducible assumption
    | intro _
    | with_reducible apply evt_kept
    | with_reducible apply setReg_kept
    | with_reducible apply ite_kept
    | split
    | dsimp only

theorem stepBegin_kept (c : Nat) (h : Kept s0 s) : Kept s0 (State.stepBegin s c) := by
  unfold State.stepBegin
  repeat' first
    | with_reducible assumption
    | intro _
    | with_reducible apply showCol_kept
    | with_reducible apply spareGo_kept
    | with_reducible apply ite_kept
    | split
    | dsimp only
    | with_reducible refine mk_kept ?_ (SecKept.refl _)

theorem execRotationStepStart_kept (t : Nat) (h : Kept s0 s) : KeptOut s0 (execRotationStepStart t s) := by
  unfold execRotationStepStart
  repeat' first
    | with_reducible assumption
    | intro _
    | with_reducible apply upto_kept
    | with_reducible apply when_kept
    | with_reducible apply passStart_kept
    | with_reducible apply stepBegin_kept
    | with_reducible apply passEnd_kept
    | with_reducible apply ite_out
    | with_reducible apply out_next
    | with_reducible apply out_fault
    | with_reducible apply ite_kept
    | split
    | dsimp only

theorem showRep_kept (c : Nat) (h : Kept s0 s) : Kept s0 (State.showRep s c) := by
  unfold State.showRep
  repeat' first
    | with_reducible assumption
    | intro _
    | with_reducible apply setFld_kept
    | with_reducible apply ite_kept
    | split
    | dsimp only

theorem sweepAccept_kept (c : Nat) (g : Rat) (h : Kept s0 s) : Kept s0 (State.sweepAccept s c g) := by
  unfold State.sweepAccept
  repeat' first
    | with_reducible assumption
    | intro _
    | with_reducible apply when_kept
    | with_reducible apply setFld_kept
    | with_reducible apply ite_kept
    | split
    | dsimp only
    | with_reducible refine mk_kept ?_ (SecKept.refl _)
    | with_reducible refine mk_pend ?_ (sorted_ins _ _ _) (SecKept.refl _)

theorem setTrims_kept (c : Nat) (h : Kept s0 s) : Kept s0 (State.setTrims s c) := by
  unfold State.setTrims
  repeat' first
    | with_reducible assumption
    | intro _
    | with_reducible apply setCh_kept
    | with_reducible apply when_kept
    | with_reducible apply setReg_kept
    | with_reducible apply ite_kept
    | split
    | dsimp only
    | with_reducible refine mk_kept ?_ (SecKept.refl _)

theorem restorePrim_kept (c : Nat) (h : Kept s0 s) : Kept s0 (State.restorePrim s c) := by
  unfold State.restorePrim
  repeat' first
    | with_reducible assumption
    | intro _
    | with_reducible apply setCh_kept
    | with_reducible apply setFld_kept
    | with_reducible apply setReg_kept
    | with_reducible apply ite_kept
    | split
    | dsimp only

theorem stepEnd_kept (g : Nat) (pos : Nat) (tgt : Nat) (h : Kept s0 s) : Kept s0 (State.stepEnd s g pos tgt) := by
  unfold State.stepEnd
  repeat' first
    | with_reducible assumption
    | intro _
    | with_reducible apply spareGo_kept
    | with_reducible apply showCol_kept
    | with_reducible apply ite_kept
    | split
    | dsimp only
    | with_reducible refine mk_kept ?_ (SecKept.refl _)

theorem rotPhase_kept (p : Nat) (h : Kept s0 s) : Kept s0 (State.rotPhase s p) := by
  unfold State.rotPhase
  repeat' first
    | with_reducible assumption
    | intro _
    | with_reducible apply showCol_kept
    | with_reducible apply ite_kept
    | split
    | dsimp only
    | with_reducible refine mk_kept ?_ (SecKept.refl _)

theorem sweepPhase_kept (p : Nat) (h : Kept s0 s) : Kept s0 (State.sweepPhase s p) := by
  unfold State.sweepPhase
  repeat' first
    | with_reducible assumption
    | intro _
    | with_reducible apply showCol_kept
    | with_reducible apply ite_kept
    | split
    | dsimp only
    | with_reducible refine mk_kept ?_ (SecKept.refl _)

theorem setSp_kept (c : Nat) (r : Int) (v : Int) (h : Kept s0 s) : Kept s0 (State.setSp s c r v) := by
  unfold State.setSp
  repeat' first
    | with_reducible assumption
    | intro _
    | with_reducible apply setFld_kept
    | with_reducible apply ite_kept
    | split
    | dsimp only

theorem markProbe_kept (line : Nat) (x : Int) (h : Kept s0 s) : Kept s0 (State.markProbe s line x) := by
  unfold State.markProbe
  repeat' first
    | with_reducible assumption
    | intro _
    | with_reducible apply setLine_kept
    | with_reducible apply ite_kept
    | split
    | dsimp only

theorem markHalf_kept (line : Nat) (h : Kept s0 s) : Kept s0 (State.markHalf s line) := by
  unfold State.markHalf
  repeat' first
    | with_reducible assumption
    | intro _
    | with_reducible apply setLine_kept
    | with_reducible apply ite_kept
    | split
    | dsimp only

theorem probeEnd_kept (c : Nat) (h : Kept s0 s) : Kept s0 (State.probeEnd s c) := by
  unfold State.probeEnd
  repeat' first
    | with_reducible assumption
    | intro _
    | with_reducible apply setFld_kept
    | with_reducible apply ite_kept
    | split
    | dsimp only
    | with_reducible refine mk_kept ?_ (SecKept.refl _)

theorem slewSp_kept (sp : Nat) (r : Int) (v : Int) (h : Kept s0 s) : Kept s0 (State.slewSp s sp r v) := by
  unfold State.slewSp
  repeat' first
    | with_reducible assumption
    | intro _
    | with_reducible apply when_kept
    | with_reducible apply setSp_kept
    | with_reducible apply ite_kept
    | split
    | dsimp only

theorem rot1_kept (c : Nat) (line : Nat) (h : Kept s0 s) : Kept s0 (State.rot1 s c line) := by
  unfold State.rot1
  repeat' first
    | with_reducible assumption
    | intro _
    | with_reducible apply slewSp_kept
    | with_reducible apply rotPhase_kept
    | with_reducible apply markProbe_kept
    | with_reducible apply ite_kept
    | split
    | dsimp only
    | with_reducible refine mk_kept ?_ (SecKept.refl _)

theorem rot3_kept (c : Nat) (line : Nat) (h : Kept s0 s) : Kept s0 (State.rot3 s c line) := by
  unfold State.rot3
  repeat' first
    | with_reducible assumption
    | intro _
    | with_reducible apply rotPhase_kept
    | with_reducible apply markHalf_kept
    | with_reducible apply setSp_kept
    | with_reducible apply slewSp_kept
    | with_reducible apply lineFlagIf_kept
    | with_reducible apply ite_kept
    | split
    | dsimp only
    | with_reducible refine mk_kept ?_ (SecKept.refl _)

theorem rot2_kept (c : Nat) (line : Nat) (h : Kept s0 s) : Kept s0 (State.rot2 s c line) := by
  unfold State.rot2
  repeat' first
    | with_reducible assumption
    | intro _
    | with_reducible apply slewSp_kept
    | with_reducible apply markProbe_kept
    | with_reducible apply rot3_kept
    | with_reducible apply rotPhase_kept
    | with_reducible apply probeEnd_kept
    | with_reducible apply ite_kept
    | split
    | dsimp only
    | with_reducible refine mk_kept ?_ (SecKept.refl _)

theorem swap_kept (c : Nat) (line : Nat) (p : Rat × Rat) (q : Rat × Rat) (h : Kept s0 s) : Kept s0 (State.swap s c line p q) := by
  unfold State.swap
  repeat' first
    | with_reducible assumption
    | intro _
    | with_reducible apply when_kept
    | with_reducible apply setFld_kept
    | with_reducible apply sweepPhase_kept
    | with_reducible apply lineFlag_kept
    | with_reducible apply spareGo_kept
    | with_reducible apply ite_kept
    | split
    | dsimp only
    | with_reducible refine mk_kept ?_ (SecKept.refl _)
    | with_reducible refine mk_pend ?_ (sorted_ins _ _ _) (SecKept.refl _)

theorem stepReject_kept (c : Nat) (h : Kept s0 s) : Kept s0 (State.stepReject s c) := by
  unfold State.stepReject
  repeat' first
    | with_reducible assumption
    | intro _
    | with_reducible apply stepEnd_kept
    | with_reducible apply colReject_kept
    | with_reducible apply ite_kept
    | split
    | dsimp only

theorem rot4_again_kept (c line : Nat) (h : Kept s0 s) : Kept s0 (State.rot4.again c line s) := by
  unfold State.rot4.again
  split
  · exact markHalf_kept _ (mk_kept h (SecKept.refl _))
  · exact stepReject_kept _ h

theorem rot4_kept (c line : Nat) (h : Kept s0 s) : Kept s0 (State.rot4 s c line) := by
  have h1 : Kept s0 { s with col := { s.col with lines := s.col.lines + 1 } } := mk_kept h (SecKept.refl _)
  unfold State.rot4
  refine ite_kept (markHalf_kept _ h1) (ite_kept (stepReject_kept _ h1) ?_)
  split
  · exact ite_kept (swap_kept _ _ _ _ h1) (rot4_again_kept _ _ h1)
  · exact rot4_again_kept _ _ h1

theorem overlapStart_kept (line : Nat) (h : Kept s0 s) : Kept s0 (State.overlapStart s line) := by
  unfold State.overlapStart
  repeat' first
    | with_reducible assumption
    | intro _
    | with_reducible apply rotPhase_kept
    | with_reducible apply markHalf_kept
    | with_reducible apply ite_kept
    | split
    | dsimp only
    | with_reducible refine mk_kept ?_ (SecKept.refl _)

theorem rot5_kept (c : Nat) (line : Nat) (h : Kept s0 s) : Kept s0 (State.rot5 s c line) := by
  unfold State.rot5
  repeat' first
    | with_reducible assumption
    | intro _
    | with_reducible apply showRep_kept
    | with_reducible apply overlapStart_kept
    | with_reducible apply colReject_kept
    | with_reducible apply restorePrim_kept
    | with_reducible apply sweepAccept_kept
    | with_reducible apply sweepPhase_kept
    | with_reducible apply ite_kept
    | split
    | dsimp only
    | with_reducible refine mk_kept ?_ (SecKept.refl _)

theorem rot6_kept (c : Nat) (line : Nat) (h : Kept s0 s) : Kept s0 (State.rot6 s c line) := by
  unfold State.rot6
  repeat' first
    | with_reducible assumption
    | intro _
    | with_reducible apply markHalf_kept
    | with_reducible apply sweepPhase_kept
    | with_reducible apply lineFlag_kept
    | with_reducible apply spareGo_kept
    | with_reducible apply colReject_kept
    | with_reducible apply restorePrim_kept
    | with_reducible apply stepEnd_kept
    | with_reducible apply ite_kept
    | split
    | dsimp only
    | with_reducible refine mk_kept ?_ (SecKept.refl _)

theorem rot7_kept (c : Nat) (h : Kept s0 s) : Kept s0 (State.rot7 s c) := by
  unfold State.rot7
  repeat' first
    | with_reducible assumption
    | intro _
    | with_reducible apply showRep_kept
    | with_reducible apply stepEnd_kept
    | with_reducible apply colReject_kept
    | with_reducible apply setCh_kept
    | with_reducible apply colAccept_kept
    | with_reducible apply sweepAccept_kept
    | with_reducible apply sweepPhase_kept
    | with_reducible apply ite_kept
    | split
    | dsimp only
    | with_reducible refine mk_kept ?_ (SecKept.refl _)

theorem stepAbandon_kept (c : Nat) (h : Kept s0 s) : Kept s0 (State.stepAbandon s c) := by
  unfold State.stepAbandon
  repeat' first
    | with_reducible assumption
    | intro _
    | with_reducible apply when_kept
    | with_reducible apply restorePrim_kept
    | with_reducible apply stepEnd_kept
    | with_reducible apply colResult_kept
    | with_reducible apply ite_kept
    | split
    | dsimp only
    | with_reducible refine mk_kept ?_ (SecKept.refl _)

theorem standDown_kept (g : Nat) (h : Kept s0 s) : Kept s0 (State.standDown s g) := by
  unfold State.standDown
  repeat' first
    | with_reducible assumption
    | intro _
    | with_reducible apply spareGo_kept
    | with_reducible apply ite_kept
    | split
    | dsimp only

theorem colWatch_kept  (h : Kept s0 s) : Kept s0 (State.colWatch s) := by
  unfold State.colWatch
  repeat' first
    | with_reducible assumption
    | intro _
    | with_reducible apply stepAbandon_kept
    | with_reducible apply forN_kept
    | with_reducible apply standDown_kept
    | with_reducible apply ite_kept
    | split
    | dsimp only
    | with_reducible refine mk_kept ?_ (SecKept.refl _)

theorem phaseRestart_kept  (h : Kept s0 s) : Kept s0 (State.phaseRestart s) := by
  unfold State.phaseRestart
  repeat' first
    | with_reducible assumption
    | intro _
    | with_reducible apply sweepPhase_kept
    | with_reducible apply showCol_kept
    | with_reducible apply ite_kept
    | split
    | dsimp only
    | with_reducible refine mk_kept ?_ (SecKept.refl _)

theorem colLine_kept (line : Nat) (h : Kept s0 s) : Kept s0 (State.colLine s line) := by
  unfold State.colLine
  repeat' first
    | with_reducible assumption
    | intro _
    | with_reducible apply phaseRestart_kept
    | with_reducible apply rot1_kept
    | with_reducible apply rot2_kept
    | with_reducible apply rot3_kept
    | with_reducible apply rot4_kept
    | with_reducible apply rot5_kept
    | with_reducible apply rot6_kept
    | with_reducible apply rot7_kept
    | with_reducible apply ite_kept
    | split
    | dsimp only

theorem stepHeld_kept  (h : Kept s0 s) : Kept s0 (State.stepHeld s) := by
  unfold State.stepHeld
  repeat' first
    | with_reducible assumption
    | intro _
    | with_reducible apply showCol_kept
    | with_reducible apply ite_kept
    | split
    | dsimp only
    | with_reducible refine mk_kept ?_ (SecKept.refl _)

theorem execWireCheck_kept (c : Nat) (x : Sys2Proof.WireIn) (h : Kept s0 s) : KeptOut s0 (execWireCheck c x s) := by
  unfold execWireCheck
  repeat' first
    | with_reducible assumption
    | intro _
    | with_reducible apply stepHeld_kept
    | with_reducible apply wireCheck_kept
    | with_reducible apply ite_out
    | with_reducible apply out_next
    | with_reducible apply out_fault
    | with_reducible apply ite_kept
    | split
    | dsimp only

theorem colSlot_kept (e : Exposure) (h : Kept s0 s) : Kept s0 (State.colSlot s e) := by
  unfold State.colSlot
  repeat' first
    | with_reducible assumption
    | intro _
    | with_reducible apply setTrims_kept
    | with_reducible apply ite_kept
    | split
    | dsimp only
    | with_reducible refine mk_kept ?_ (SecKept.refl _)
    | with_reducible refine mk_pend ?_ (sorted_ins _ _ _) (SecKept.refl _)

theorem idleSweep_kept  (h : Kept s0 s) : Kept s0 (State.idleSweep s) := by
  unfold State.idleSweep
  repeat' first
    | with_reducible assumption
    | intro _
    | with_reducible apply forN_kept
    | with_reducible apply setFlag_kept
    | with_reducible apply setFld_kept
    | with_reducible apply showCol_kept
    | with_reducible apply dacStart_kept
    | with_reducible apply colReject_kept
    | with_reducible apply setTrims_kept
    | with_reducible apply idleStop_kept
    | with_reducible apply ite_kept
    | split
    | dsimp only
    | with_reducible refine mk_kept ?_ (SecKept.refl _)

theorem execIdleSweep_kept (t : Nat) (h : Kept s0 s) : KeptOut s0 (execIdleSweep t s) := by
  unfold execIdleSweep
  repeat' first
    | with_reducible assumption
    | intro _
    | with_reducible apply upto_kept
    | with_reducible apply defer_kept
    | with_reducible apply idleSweep_kept
    | with_reducible apply ite_out
    | with_reducible apply out_next
    | with_reducible apply out_fault
    | with_reducible apply ite_kept
    | split
    | dsimp only

/-! ## Machine/Pho.lean -/

theorem phoLine_kept (line : Nat) (h : Kept s0 s) : Kept s0 (State.phoLine s line) := by
  unfold State.phoLine
  repeat' first
    | with_reducible assumption
    | intro _
    | with_reducible apply ite_kept
    | split
    | dsimp only
    | with_reducible refine mk_kept ?_ (SecKept.refl _)
    | with_reducible refine mk_pend ?_ (sorted_ins _ _ _) (SecKept.refl _)

theorem phoPreroll_kept  (h : Kept s0 s) : Kept s0 (State.phoPreroll s) := by
  unfold State.phoPreroll
  repeat' first
    | with_reducible assumption
    | intro _
    | with_reducible apply ite_kept
    | split
    | dsimp only
    | with_reducible refine mk_kept ?_ (SecKept.refl _)

theorem phoRecord_kept (body : List Sys2Proof.Byte) (h : Kept s0 s) : Kept s0 (State.phoRecord s body) := by
  unfold State.phoRecord
  repeat' first
    | with_reducible assumption
    | intro _
    | with_reducible apply evt_kept
    | with_reducible apply bump_kept
    | with_reducible apply setReg_kept
    | with_reducible apply ite_kept
    | split
    | dsimp only
    | with_reducible refine mk_kept ?_ (SecKept.refl _)

theorem winResult_kept (alarmed : Nat) (w : Nat) (r : WinRun) (part : Bool) (broken : Bool) (h : Kept s0 s) : Kept s0 (State.winResult s alarmed w r part broken).1 := by
  unfold State.winResult
  repeat' first
    | with_reducible assumption
    | intro _
    | with_reducible apply store_kept
    | with_reducible apply when_kept
    | with_reducible apply evt_kept
    | with_reducible apply bump_kept
    | with_reducible apply setFld_kept
    | with_reducible apply emit_kept
    | with_reducible apply phoRecord_kept
    | with_reducible apply ite_kept
    | split
    | dsimp only
    | with_reducible refine mk_kept ?_ (SecKept.refl _)
    | with_reducible exact Kept.refl _

theorem winRun_kept (line : Nat) (w : Nat) (c : List Nat) (h : Kept s0 s) : Kept s0 (State.winRun s line w c).1 := by
  unfold State.winRun
  repeat' first
    | with_reducible assumption
    | intro _
    | with_reducible apply store_kept
    | with_reducible apply ite_kept
    | split
    | dsimp only
    | with_reducible exact Kept.refl _

theorem winLine_kept (p : State × Nat) (line : Nat) (l : List (Nat × List Nat)) (smps : List Smp) (w : Nat) (c : List Nat)
    (h : Kept s0 p.1) : Kept s0 (State.winLine p line l smps w c).1 := by
  have h1 : Kept s0 (p.1.winRun line w c).1 := winRun_kept _ _ _ h
  unfold State.winLine
  generalize p.1.winRun line w c = q at h1 ⊢
  obtain ⟨s, r0⟩ := q
  refine ite_fst ?_ (mk_kept h1 (SecKept.refl _))
  exact mk_kept (winResult_kept _ _ _ _ _ h1) (SecKept.refl _)

theorem winDrop_kept (l : List (Nat × List Nat)) (h : Kept s0 s) : Kept s0 (State.winDrop s l) := by
  unfold State.winDrop
  repeat' first
    | with_reducible assumption
    | intro _
    | with_reducible apply foldS_kept
    | with_reducible apply store_kept
    | with_reducible apply ite_kept
    | split
    | dsimp only
    | with_reducible refine mk_kept ?_ (SecKept.refl _)

theorem showBand_kept (sel : Nat) (h : Kept s0 s) : Kept s0 (State.showBand s sel) := by
  unfold State.showBand
  repeat' first
    | with_reducible assumption
    | intro _
    | with_reducible apply setReg_kept
    | with_reducible apply ite_kept
    | split
    | dsimp only

theorem setBand_kept (sel : Nat) (b : BandRun) (h : Kept s0 s) : Kept s0 (State.setBand s sel b) := by
  unfold State.setBand
  repeat' first
    | with_reducible assumption
    | intro _
    | with_reducible apply showBand_kept
    | with_reducible apply ite_kept
    | split
    | dsimp only
    | with_reducible refine mk_kept ?_ (SecKept.refl _)

theorem bandEnd_kept (line : Nat) (sel : Nat) (b : BandRun) (long : Bool) (part : Bool) (h : Kept s0 s) : Kept s0 (State.bandEnd s line sel b long part) := by
  unfold State.bandEnd
  repeat' first
    | with_reducible assumption
    | intro _
    | with_reducible apply emit_kept
    | with_reducible apply evt_kept
    | with_reducible apply when_kept
    | with_reducible apply phoRecord_kept
    | with_reducible apply ite_kept
    | split
    | dsimp only

theorem bandJudge_kept (line : Nat) (sel : Nat) (m : Nat) (h : Kept s0 s) : Kept s0 (State.bandJudge s line sel m) := by
  unfold State.bandJudge
  repeat' first
    | with_reducible assumption
    | intro _
    | with_reducible apply setBand_kept
    | with_reducible apply when_kept
    | with_reducible apply bandEnd_kept
    | with_reducible apply emit_kept
    | with_reducible apply evt_kept
    | with_reducible apply ite_kept
    | split
    | dsimp only

theorem bandLine_kept (line : Nat) (smps : List Smp) (h : Kept s0 s) : Kept s0 (State.bandLine s line smps) := by
  unfold State.bandLine
  repeat' first
    | with_reducible assumption
    | intro _
    | with_reducible apply forN_kept
    | with_reducible apply bandJudge_kept
    | with_reducible apply ite_kept
    | split
    | dsimp only

theorem streakOut_kept (due : Nat × List Nat → Bool) (h : Kept s0 s) : Kept s0 (State.streakOut s due) := by
  unfold State.streakOut
  repeat' first
    | with_reducible assumption
    | intro _
    | with_reducible apply foldS_kept
    | with_reducible apply phoRecord_kept
    | with_reducible apply ite_kept
    | split
    | dsimp only
    | with_reducible refine mk_kept ?_ (SecKept.refl _)

theorem phoFinish_kept (line : Nat) (h : Kept s0 s) : Kept s0 (State.phoFinish s line) := by
  unfold State.phoFinish
  exact bandLine_kept _ _ (streakOut_kept _ (foldl_kept _ (winDrop_kept _ h) (fun p x hp => winLine_kept p _ _ _ _ _ hp)))

theorem lineTidy_kept (line : Nat) (h : Kept s0 s) : Kept s0 (State.lineTidy s line) := by
  unfold State.lineTidy
  repeat' first
    | with_reducible assumption
    | intro _
    | with_reducible apply ite_kept
    | split
    | dsimp only
    | with_reducible refine mk_kept ?_ (SecKept.refl _)
    | with_reducible refine mk_pend ?_ (sorted_erase _ _) (SecKept.refl _)

theorem execLineComplete_kept (line : Nat) (t : Nat) (h : Kept s0 s) : KeptOut s0 (execLineComplete line t s) := by
  unfold execLineComplete
  repeat' first
    | with_reducible assumption
    | intro _
    | with_reducible apply upto_kept
    | with_reducible apply phoFinish_kept
    | with_reducible apply lineTidy_kept
    | with_reducible apply setLine_kept
    | with_reducible apply ite_out
    | with_reducible apply out_next
    | with_reducible apply out_fault
    | with_reducible apply ite_kept
    | split
    | dsimp only
    | with_reducible refine mk_kept ?_ (SecKept.refl _)
    | with_reducible refine mk_pend ?_ (sorted_erase _ _) (SecKept.refl _)

theorem bandOver_kept (sel : Nat) (h : Kept s0 s) : Kept s0 (State.bandOver s sel) := by
  unfold State.bandOver
  repeat' first
    | with_reducible assumption
    | intro _
    | with_reducible apply setFlag_kept
    | with_reducible apply ite_kept
    | split
    | dsimp only
    | with_reducible refine mk_kept ?_ (SecKept.refl _)
    | with_reducible refine mk_pend ?_ (sorted_erase _ _) (SecKept.refl _)

theorem winLast_kept  (h : Kept s0 s) : Kept s0 (State.winLast s) := by
  unfold State.winLast
  repeat' first
    | with_reducible assumption
    | intro _
    | with_reducible apply winDrop_kept
    | with_reducible apply ite_kept
    | split
    | dsimp only
    | with_reducible refine mk_kept ?_ (SecKept.refl _)

theorem phoJobEnd_kept (h : Kept s0 s) : Kept s0 (State.phoJobEnd s) := by
  have h0 : Kept s0 s.winLast := winLast_kept h
  unfold State.phoJobEnd
  generalize s.winLast = q at h0 ⊢
  dsimp only
  apply forN_kept
  · exact streakOut_kept _ (mk_kept
      (foldl_kept _ h0 (fun p x hp => ite_fst hp (winResult_kept _ _ _ _ _ hp))) (SecKept.refl _))
  · intro t x ht
    exact bandOver_kept _ (when_kept _ ht (fun u hu => bandEnd_kept _ _ _ _ _ hu))

theorem execStreakScanStart_kept (t : Nat) (h : Kept s0 s) : KeptOut s0 (execStreakScanStart t s) := by
  unfold execStreakScanStart
  repeat' first
    | with_reducible assumption
    | intro _
    | with_reducible apply upto_kept
    | with_reducible apply ite_out
    | with_reducible apply out_next
    | with_reducible apply out_fault
    | with_reducible apply ite_kept
    | split
    | dsimp only
    | with_reducible refine mk_kept ?_ (SecKept.refl _)

theorem streakRecord_kept (w : List Nat) (h : Kept s0 s) : Kept s0 (State.streakRecord s w) := by
  unfold State.streakRecord
  repeat' first
    | with_reducible assumption
    | intro _
    | with_reducible apply streakOut_kept
    | with_reducible apply ite_kept
    | split
    | dsimp only
    | with_reducible refine mk_kept ?_ (SecKept.refl _)

theorem scanSel_kept (p : State × Bool) (sel : Nat) (h : Kept s0 p.1) : Kept s0 (State.scanSel p sel).1 := by
  unfold State.scanSel
  extract_lets s acc hh devs thr runs best dmax s1 s2
  have h1 : Kept s0 s1 := setReg_kept _ _ (setReg_kept _ _ h)
  have h2 : Kept s0 s2 := by
    show Kept s0 (if _ then _ else _)
    split
    · exact foldS_kept _ (useFree_kept h1) (fun t x ht => useFree_kept (streakRecord_kept _ ht))
    · exact useFree_kept h1
  split
  · exact h2
  · exact h

theorem execStreakScanDone_kept (t : Nat) (h : Kept s0 s) : KeptOut s0 (execStreakScanDone t s) := by
  unfold execStreakScanDone
  split
  · have h1 : Kept s0 ((List.range 4).foldl State.scanSel (s.upto t, false)).1 :=
      foldl_kept _ (upto_kept _ h) (fun p x hp => scanSel_kept p x hp)
    generalize (List.range 4).foldl State.scanSel (s.upto t, false) = q at h1 ⊢
    obtain ⟨s1, found⟩ := q
    exact out_next (when_kept _ (evt_kept _ _ (mk_kept h1 (SecKept.refl _))) (fun u hu => emit_kept _ (evt_kept _ _ hu)))
  · exact out_next h

theorem phoSoftReset_kept  (h : Kept s0 s) : Kept s0 (State.phoSoftReset s) := by
  unfold State.phoSoftReset
  repeat' first
    | with_reducible assumption
    | intro _
    | with_reducible apply ite_kept
    | split
    | dsimp only
    | with_reducible refine mk_kept ?_ (SecKept.refl _)

/-! ## Machine/Dma.lean -/

theorem setChan_kept (ch : Nat) (c : Dch) (h : Kept s0 s) : Kept s0 (State.setChan s ch c) := by
  unfold State.setChan
  repeat' first
    | with_reducible assumption
    | intro _
    | with_reducible apply ite_kept
    | split
    | dsimp only
    | with_reducible refine mk_kept ?_ (SecKept.refl _)

theorem setNext_kept (ch : Nat) (a : Nat) (h : Kept s0 s) : Kept s0 (State.setNext s ch a) := by
  unfold State.setNext
  repeat' first
    | with_reducible assumption
    | intro _
    | with_reducible apply setReg64_kept
    | with_reducible apply ite_kept
    | split
    | dsimp only

theorem markHost_kept (ch : Nat) (h : Kept s0 s) : Kept s0 (State.markHost s ch) := by
  unfold State.markHost
  repeat' first
    | with_reducible assumption
    | intro _
    | with_reducible apply setJob_kept
    | with_reducible apply setSsc_kept
    | with_reducible apply ite_kept
    | split
    | dsimp only

theorem waitIn_kept (ch : Nat) (st : Nat) (h : Kept s0 s) : Kept s0 (State.waitIn s ch st) := by
  unfold State.waitIn
  repeat' first
    | with_reducible assumption
    | intro _
    | with_reducible apply markHost_kept
    | with_reducible apply evt_kept
    | with_reducible apply setChan_kept
    | with_reducible apply ite_kept
    | split
    | dsimp only

theorem readReq_kept (ch : Nat) (addr : Nat) (len : Nat) (tries : Nat) (h : Kept s0 s) : Kept s0 (State.readReq s ch addr len tries) := by
  unfold State.readReq
  repeat' first
    | with_reducible assumption
    | intro _
    | with_reducible apply send_kept
    | with_reducible apply setChan_kept
    | with_reducible apply ite_kept
    | split
    | dsimp only

theorem fetchDesc_kept (ch : Nat) (h : Kept s0 s) : Kept s0 (State.fetchDesc s ch) := by
  unfold State.fetchDesc
  repeat' first
    | with_reducible assumption
    | intro _
    | with_reducible apply applyPage_kept
    | with_reducible apply readReq_kept
    | with_reducible apply setChan_kept
    | with_reducible apply ite_kept
    | split
    | dsimp only

theorem proceed_kept (ch : Nat) (h : Kept s0 s) : Kept s0 (State.proceed s ch) := by
  unfold State.proceed
  repeat' first
    | with_reducible assumption
    | intro _
    | with_reducible apply setChan_kept
    | with_reducible apply fetchDesc_kept
    | with_reducible apply ite_kept
    | split
    | dsimp only

theorem setCq_kept (q : Nat) (v : Nat × Bool × Nat) (h : Kept s0 s) : Kept s0 (State.setCq s q v) := by
  unfold State.setCq
  repeat' first
    | with_reducible assumption
    | intro _
    | with_reducible apply setReg_kept
    | with_reducible apply ite_kept
    | split
    | dsimp only
    | with_reducible refine mk_kept ?_ (SecKept.refl _)
    | with_reducible refine mk_pend ?_ (sorted_ins _ _ _) (SecKept.refl _)

theorem cqEnable_kept (q : Nat) (h : Kept s0 s) : Kept s0 (State.cqEnable s q) := by
  unfold State.cqEnable
  repeat' first
    | with_reducible assumption
    | intro _
    | with_reducible apply setCq_kept
    | with_reducible apply ite_kept
    | split
    | dsimp only
    | with_reducible refine mk_kept ?_ (SecKept.refl _)

theorem cqMoved_kept (old : State) (q : Nat) (h : Kept s0 s) : Kept s0 (State.cqMoved s old q) := by
  unfold State.cqMoved
  repeat' first
    | with_reducible assumption
    | intro _
    | with_reducible apply when_kept
    | with_reducible apply ite_kept
    | split
    | dsimp only
    | with_reducible refine mk_kept ?_ (SecKept.refl _)

theorem cqWrite_kept (ch : Nat) (q : Nat) (body : List Sys2Proof.Byte) (h : Kept s0 s) : Kept s0 (State.cqWrite s ch q body) := by
  unfold State.cqWrite
  repeat' first
    | with_reducible assumption
    | intro _
    | with_reducible apply send_kept
    | with_reducible apply when_kept
    | with_reducible apply useFree_kept
    | with_reducible apply setCq_kept
    | with_reducible apply sendVector_kept
    | with_reducible apply ite_kept
    | split
    | dsimp only

theorem cqDue_kept (ch : Nat) (status : Nat) (d : Desc) (h : Kept s0 s) : Kept s0 (State.cqDue s ch status d) := by
  unfold State.cqDue
  repeat' first
    | with_reducible assumption
    | intro _
    | with_reducible apply evt_kept
    | with_reducible apply setChan_kept
    | with_reducible apply bump_kept
    | with_reducible apply cqWrite_kept
    | with_reducible apply ite_kept
    | split
    | dsimp only

theorem haltAt_kept (ch : Nat) (status : Nat) (addr : Nat) (h : Kept s0 s) : Kept s0 (State.haltAt s ch status addr) := by
  unfold State.haltAt
  repeat' first
    | with_reducible assumption
    | intro _
    | with_reducible apply setChan_kept
    | with_reducible apply setNext_kept
    | with_reducible apply setFld_kept
    | with_reducible apply ite_kept
    | split
    | dsimp only

theorem halt_kept (ch : Nat) (status : Nat) (addr : Nat) (d : Option Desc) (h : Kept s0 s) : Kept s0 (State.halt s ch status addr d) := by
  unfold State.halt
  repeat' first
    | with_reducible assumption
    | intro _
    | with_reducible apply cqDue_kept
    | with_reducible apply evt_kept
    | with_reducible apply markHost_kept
    | with_reducible apply haltAt_kept
    | with_reducible apply fault_kept
    | with_reducible apply ite_kept
    | split
    | dsimp only

theorem ringState_kept (ch : Nat) (h : Kept s0 s) : Kept s0 (State.ringState s ch) := by
  unfold State.ringState
  repeat' first
    | with_reducible assumption
    | intro _
    | with_reducible apply waitIn_kept
    | with_reducible apply setChan_kept
    | with_reducible apply markHost_kept
    | with_reducible apply ite_kept
    | split
    | dsimp only

theorem showEst_kept  (h : Kept s0 s) : Kept s0 (State.showEst s) := by
  unfold State.showEst
  repeat' first
    | with_reducible assumption
    | intro _
    | with_reducible apply setReg_kept
    | with_reducible apply when_kept
    | with_reducible apply ite_kept
    | split
    | dsimp only

theorem unstore_kept (r : Record) (l : List Record) (h : Kept s0 s) : Kept s0 (State.unstore s r l) := by
  unfold State.unstore
  repeat' first
    | with_reducible assumption
    | intro _
    | with_reducible apply evtIf_kept
    | with_reducible apply showEst_kept
    | with_reducible apply ite_kept
    | split
    | dsimp only
    | with_reducible refine mk_kept ?_ (SecKept.refl _)

theorem feed_kept (ch : Nat) (h : Kept s0 s) : Kept s0 (State.feed s ch) := by
  unfold State.feed
  repeat' first
    | with_reducible assumption
    | intro _
    | with_reducible apply ringState_kept
    | with_reducible apply setChan_kept
    | with_reducible apply unstore_kept
    | with_reducible apply setReg_kept
    | with_reducible apply ite_kept
    | split
    | dsimp only
    | with_reducible refine mk_kept ?_ (SecKept.refl _)

theorem askMore_kept (ch : Nat) (h : Kept s0 s) : Kept s0 (State.askMore s ch) := by
  unfold State.askMore
  repeat' first
    | with_reducible assumption
    | intro _
    | with_reducible apply readReq_kept
    | with_reducible apply setChan_kept
    | with_reducible apply ite_kept
    | split
    | dsimp only

theorem runDesc_kept (ch : Nat) (d : Desc) (h : Kept s0 s) : Kept s0 (State.runDesc s ch d) := by
  unfold State.runDesc
  repeat' first
    | with_reducible assumption
    | intro _
    | with_reducible apply waitIn_kept
    | with_reducible apply setChan_kept
    | with_reducible apply setReg64_kept
    | with_reducible apply halt_kept
    | with_reducible apply setNext_kept
    | with_reducible apply setFld_kept
    | with_reducible apply setReg_kept
    | with_reducible apply askMore_kept
    | with_reducible apply feed_kept
    | with_reducible apply ite_kept
    | split
    | dsimp only

theorem execDescriptorFetch_kept (ch : Nat) (b : List Sys2Proof.Byte) (t : Nat) (h : Kept s0 s) : KeptOut s0 (execDescriptorFetch ch b t s) := by
  unfold execDescriptorFetch
  repeat' first
    | with_reducible assumption
    | intro _
    | with_reducible apply upto_kept
    | with_reducible apply runDesc_kept
    | with_reducible apply ite_out
    | with_reducible apply out_next
    | with_reducible apply out_fault
    | with_reducible apply ite_kept
    | split
    | dsimp only

theorem readRange_kept (a : Nat) (n : Nat) (h : Kept s0 s) : Kept s0 (State.readRange s a n) := by
  unfold State.readRange
  repeat' first
    | with_reducible assumption
    | intro _
    | with_reducible apply foldS_kept
    | with_reducible apply readEntry_kept
    | with_reducible apply ite_kept
    | split
    | dsimp only

theorem lineGone_kept (line : Nat) (lost : Bool) (h : Kept s0 s) : Kept s0 (State.lineGone s line lost) := by
  unfold State.lineGone
  repeat' first
    | with_reducible assumption
    | intro _
    | with_reducible apply setJob_kept
    | with_reducible apply when_kept
    | with_reducible apply setFlag_kept
    | with_reducible apply setFld_kept
    | with_reducible apply setReg64_kept
    | with_reducible apply ite_kept
    | split
    | dsimp only

theorem recLeft_kept (r : Record) (h : Kept s0 s) : Kept s0 (State.recLeft s r) := by
  unfold State.recLeft
  repeat' first
    | with_reducible assumption
    | intro _
    | with_reducible apply lineGone_kept
    | with_reducible apply setJob_kept
    | with_reducible apply ite_kept
    | split
    | dsimp only

theorem recLost_kept (r : Record) (h : Kept s0 s) : Kept s0 (State.recLost s r) := by
  unfold State.recLost
  repeat' first
    | with_reducible assumption
    | intro _
    | with_reducible apply lineGone_kept
    | with_reducible apply setJob_kept
    | with_reducible apply ite_kept
    | split
    | dsimp only

theorem recDone_kept (ch : Nat) (h : Kept s0 s) : Kept s0 (State.recDone s ch) := by
  unfold State.recDone
  repeat' first
    | with_reducible assumption
    | intro _
    | with_reducible apply setReg_kept
    | with_reducible apply setChan_kept
    | with_reducible apply feed_kept
    | with_reducible apply recLeft_kept
    | with_reducible apply ite_kept
    | split
    | dsimp only

theorem leave_kept (ch : Nat) (w : Nat × Nat × Nat) (h : Kept s0 s) : Kept s0 (State.leave s ch w) := by
  unfold State.leave
  repeat' first
    | with_reducible assumption
    | intro _
    | with_reducible apply count64_kept
    | with_reducible apply send_kept
    | with_reducible apply skipFree_kept
    | with_reducible apply readRange_kept
    | with_reducible apply setChan_kept
    | with_reducible apply recDone_kept
    | with_reducible apply askMore_kept
    | with_reducible apply ite_kept
    | split
    | dsimp only

theorem useCredit_kept  (h : Kept s0 s) : Kept s0 (State.useCredit s) := by
  unfold State.useCredit
  repeat' first
    | with_reducible assumption
    | intro _
    | with_reducible apply ite_kept
    | split
    | dsimp only
    | with_reducible refine mk_kept ?_ (SecKept.refl _)

theorem serve_kept (phase : Nat) (ch : Nat) (w : Nat × Nat × Nat) (h : Kept s0 s) : Kept s0 (State.serve s phase ch w) := by
  unfold State.serve
  repeat' first
    | with_reducible assumption
    | intro _
    | with_reducible apply setChan_kept
    | with_reducible apply leave_kept
    | with_reducible apply useCredit_kept
    | with_reducible apply ite_kept
    | split
    | dsimp only
    | with_reducible refine mk_kept ?_ (SecKept.refl _)

theorem pump_kept (phase n : Nat) (h : Kept s0 s) : Kept s0 (State.pump s phase n) := by
  induction n generalizing s with
  | zero => exact h
  | succ n ih =>
    unfold State.pump
    split
    · exact h
    · split
      · exact h
      · split
        · exact ih (serve_kept _ _ _ h)
        · exact h

theorem creditWaits_kept  (h : Kept s0 s) : Kept s0 (State.creditWaits s) := by
  unfold State.creditWaits
  repeat' first
    | with_reducible assumption
    | intro _
    | with_reducible apply forN_kept
    | with_reducible apply markHost_kept
    | with_reducible apply setChan_kept
    | with_reducible apply ite_kept
    | split
    | dsimp only

theorem refill_kept  (h : Kept s0 s) : Kept s0 (State.refill s) := by
  unfold State.refill
  repeat' first
    | with_reducible assumption
    | intro _
    | with_reducible apply forN_kept
    | with_reducible apply setChan_kept
    | with_reducible apply ite_kept
    | split
    | dsimp only
    | with_reducible refine mk_kept ?_ (SecKept.refl _)

theorem shortCounts_kept  (h : Kept s0 s) : Kept s0 (State.shortCounts s) := by
  unfold State.shortCounts
  repeat' first
    | with_reducible assumption
    | intro _
    | with_reducible apply forN_kept
    | with_reducible apply bump_kept
    | with_reducible apply ite_kept
    | split
    | dsimp only

theorem sendWrites_kept  (h : Kept s0 s) : Kept s0 (State.sendWrites s) := by
  unfold State.sendWrites
  repeat' first
    | with_reducible assumption
    | intro _
    | with_reducible apply creditWaits_kept
    | with_reducible apply shortCounts_kept
    | with_reducible apply pump_kept
    | with_reducible apply ite_kept
    | split
    | dsimp only

theorem storeHit_kept (a1 : Sys2Proof.StoreHit) (h : Kept s0 s) : Kept s0 (State.storeHit s a1) := by
  unfold State.storeHit
  repeat' first
    | with_reducible assumption
    | intro _
    | with_reducible apply setChan_kept
    | with_reducible apply fault_kept
    | with_reducible apply evt_kept
    | with_reducible apply bump_kept
    | with_reducible apply ite_kept
    | split
    | dsimp only

theorem execTokenRefill_kept (u : List Sys2Proof.StoreHit) (t : Nat) (h : Kept s0 s) : KeptOut s0 (execTokenRefill u t s) := by
  unfold execTokenRefill
  repeat' first
    | with_reducible assumption
    | intro _
    | with_reducible apply upto_kept
    | with_reducible apply forN_kept
    | with_reducible apply feed_kept
    | with_reducible apply sendWrites_kept
    | with_reducible apply refill_kept
    | with_reducible apply foldS_kept
    | with_reducible apply storeHit_kept
    | with_reducible apply setSsc_kept
    | with_reducible apply ite_out
    | with_reducible apply out_next
    | with_reducible apply out_fault
    | with_reducible apply ite_kept
    | split
    | dsimp only

theorem execPostedWriteCredits_kept (n : Nat) (t : Nat) (h : Kept s0 s) : KeptOut s0 (execPostedWriteCredits n t s) := by
  unfold execPostedWriteCredits
  repeat' first
    | with_reducible assumption
    | intro _
    | with_reducible apply upto_kept
    | with_reducible apply forN_kept
    | with_reducible apply markHost_kept
    | with_reducible apply setChan_kept
    | with_reducible apply sendWrites_kept
    | with_reducible apply ite_out
    | with_reducible apply out_next
    | with_reducible apply out_fault
    | with_reducible apply ite_kept
    | split
    | dsimp only
    | with_reducible refine mk_kept ?_ (SecKept.refl _)

theorem descDone_kept (ch : Nat) (h : Kept s0 s) : Kept s0 (State.descDone s ch) := by
  unfold State.descDone
  repeat' first
    | with_reducible assumption
    | intro _
    | with_reducible apply emit_kept
    | with_reducible apply evtIf_kept
    | with_reducible apply setReg_kept
    | with_reducible apply cqDue_kept
    | with_reducible apply waitIn_kept
    | with_reducible apply proceed_kept
    | with_reducible apply ite_kept
    | split
    | dsimp only

theorem execDescriptorDone_kept (ch : Nat) (t : Nat) (h : Kept s0 s) : KeptOut s0 (execDescriptorDone ch t s) := by
  unfold execDescriptorDone
  repeat' first
    | with_reducible assumption
    | intro _
    | with_reducible apply upto_kept
    | with_reducible apply descDone_kept
    | with_reducible apply ite_out
    | with_reducible apply out_next
    | with_reducible apply out_fault
    | with_reducible apply ite_kept
    | split
    | dsimp only

theorem cqRelease_kept (q : Nat) (ch : Nat) (h : Kept s0 s) : Kept s0 (State.cqRelease s q ch) := by
  unfold State.cqRelease
  repeat' first
    | with_reducible assumption
    | intro _
    | with_reducible apply setChan_kept
    | with_reducible apply cqWrite_kept
    | with_reducible apply proceed_kept
    | with_reducible apply markHost_kept
    | with_reducible apply ite_kept
    | split
    | dsimp only

theorem cqRiWrite_kept (q : Nat) (w : Sys2Proof.Word) (h : Kept s0 s) : Kept s0 (State.cqRiWrite s q w) := by
  unfold State.cqRiWrite
  repeat' first
    | with_reducible assumption
    | intro _
    | with_reducible apply forN_kept
    | with_reducible apply cqRelease_kept
    | with_reducible apply setReg_kept
    | with_reducible apply ite_kept
    | split
    | dsimp only

theorem execCqRiWrite_kept (q : Nat) (w : Sys2Proof.Word) (h : Kept s0 s) : KeptOut s0 (execCqRiWrite q w s) := by
  unfold execCqRiWrite
  repeat' first
    | with_reducible assumption
    | intro _
    | with_reducible apply hostWrite_kept
    | with_reducible apply cqRiWrite_kept
    | with_reducible apply ite_out
    | with_reducible apply out_next
    | with_reducible apply out_fault
    | with_reducible apply ite_kept
    | split
    | dsimp only

theorem loadBlocks_kept (ch n : Nat) (h : Kept s0 s) : Kept s0 (State.loadBlocks s ch n) := by
  induction n generalizing s with
  | zero => exact h
  | succ n ih =>
    unfold State.loadBlocks
    dsimp only
    split
    · exact h
    · split
      · exact h
      · apply ih
        apply setChan_kept
        apply count64_kept
        split
        · exact when_kept _ (tabWrite_kept _ _ _ _ h) (fun _ h => skipFree_kept _ h)
        · exact useFree_kept (tabWrite_kept _ _ _ _ h)

theorem dataIn_kept (ch : Nat) (b : List Sys2Proof.Byte) (h : Kept s0 s) : Kept s0 (State.dataIn s ch b) := by
  unfold State.dataIn
  repeat' first
    | with_reducible assumption
    | intro _
    | with_reducible apply setChan_kept
    | with_reducible apply askMore_kept
    | with_reducible apply loadBlocks_kept
    | with_reducible apply ite_kept
    | split
    | dsimp only

theorem reissue_kept (ch : Nat) (status : Nat) (h : Kept s0 s) : Kept s0 (State.reissue s ch status) := by
  unfold State.reissue
  repeat' first
    | with_reducible assumption
    | intro _
    | with_reducible apply readReq_kept
    | with_reducible apply bump_kept
    | with_reducible apply halt_kept
    | with_reducible apply ite_kept
    | split
    | dsimp only

theorem execReadCompletion_kept (ch : Nat) (ok : Bool) (b : List Sys2Proof.Byte) (t : Nat) (h : Kept s0 s) : KeptOut s0 (execReadCompletion ch ok b t s) := by
  unfold execReadCompletion
  repeat' first
    | with_reducible assumption
    | intro _
    | with_reducible apply upto_kept
    | with_reducible apply reissue_kept
    | with_reducible apply dataIn_kept
    | with_reducible apply ite_out
    | with_reducible apply out_next
    | with_reducible apply out_fault
    | with_reducible apply ite_kept
    | split
    | dsimp only

theorem execReadTimeout_kept (ch : Nat) (t : Nat) (h : Kept s0 s) : KeptOut s0 (execReadTimeout ch t s) := by
  unfold execReadTimeout
  repeat' first
    | with_reducible assumption
    | intro _
    | with_reducible apply upto_kept
    | with_reducible apply reissue_kept
    | with_reducible apply evt_kept
    | with_reducible apply bumpFld_kept
    | with_reducible apply ite_out
    | with_reducible apply out_next
    | with_reducible apply out_fault
    | with_reducible apply ite_kept
    | split
    | dsimp only

theorem dmaKick_kept (ch : Nat) (h : Kept s0 s) : Kept s0 (State.dmaKick s ch) := by
  unfold State.dmaKick
  repeat' first
    | with_reducible assumption
    | intro _
    | with_reducible apply setFld_kept
    | with_reducible apply proceed_kept
    | with_reducible apply markHost_kept
    | with_reducible apply fetchDesc_kept
    | with_reducible apply ite_kept
    | split
    | dsimp only

theorem execDmaKick_kept (ch : Nat) (h : Kept s0 s) : KeptOut s0 (execDmaKick ch s) := by
  unfold execDmaKick
  repeat' first
    | with_reducible assumption
    | intro _
    | with_reducible apply hostWrite_kept
    | with_reducible apply dmaKick_kept
    | with_reducible apply ite_out
    | with_reducible apply out_next
    | with_reducible apply out_fault
    | with_reducible apply ite_kept
    | split
    | dsimp only

theorem dmaNext_kept (ch : Nat) (a : Nat) (h : Kept s0 s) : Kept s0 (State.dmaNext s ch a) := by
  unfold State.dmaNext
  repeat' first
    | with_reducible assumption
    | intro _
    | with_reducible apply proceed_kept
    | with_reducible apply setNext_kept
    | with_reducible apply setChan_kept
    | with_reducible apply markHost_kept
    | with_reducible apply evt_kept
    | with_reducible apply ite_kept
    | split
    | dsimp only

theorem execDmaNextWrite_kept (ch : Nat) (a : Nat) (h : Kept s0 s) : KeptOut s0 (execDmaNextWrite ch a s) := by
  unfold execDmaNextWrite
  repeat' first
    | with_reducible assumption
    | intro _
    | with_reducible apply hostWrite_kept
    | with_reducible apply dmaNext_kept
    | with_reducible apply ite_out
    | with_reducible apply out_next
    | with_reducible apply out_fault
    | with_reducible apply ite_kept
    | split
    | dsimp only

theorem execDmaPoll_kept (ch : Nat) (t : Nat) (h : Kept s0 s) : KeptOut s0 (execDmaPoll ch t s) := by
  unfold execDmaPoll
  repeat' first
    | with_reducible assumption
    | intro _
    | with_reducible apply upto_kept
    | with_reducible apply fetchDesc_kept
    | with_reducible apply markHost_kept
    | with_reducible apply ite_out
    | with_reducible apply out_next
    | with_reducible apply out_fault
    | with_reducible apply ite_kept
    | split
    | dsimp only

theorem rrpWrite_kept (ch : Nat) (w : Sys2Proof.Word) (h : Kept s0 s) : Kept s0 (State.rrpWrite s ch w) := by
  unfold State.rrpWrite
  repeat' first
    | with_reducible assumption
    | intro _
    | with_reducible apply ringState_kept
    | with_reducible apply setReg_kept
    | with_reducible apply when_kept
    | with_reducible apply setChan_kept
    | with_reducible apply ite_kept
    | split
    | dsimp only

theorem execRrpWrite_kept (ch : Nat) (w : Sys2Proof.Word) (h : Kept s0 s) : KeptOut s0 (execRrpWrite ch w s) := by
  unfold execRrpWrite
  repeat' first
    | with_reducible assumption
    | intro _
    | with_reducible apply hostWrite_kept
    | with_reducible apply rrpWrite_kept
    | with_reducible apply ite_out
    | with_reducible apply out_next
    | with_reducible apply out_fault
    | with_reducible apply ite_kept
    | split
    | dsimp only

theorem freeReg_kept (a : Nat) (h : Kept s0 s) : Kept s0 (State.freeReg s a) := by
  unfold State.freeReg
  repeat' first
    | with_reducible assumption
    | intro _
    | with_reducible apply useFree_kept
    | with_reducible apply setReg_kept
    | with_reducible apply ite_kept
    | split
    | dsimp only

theorem dmaDisable_kept (ch : Nat) (h : Kept s0 s) : Kept s0 (State.dmaDisable s ch) := by
  unfold State.dmaDisable
  repeat' first
    | with_reducible assumption
    | intro _
    | with_reducible apply foldS_kept
    | with_reducible apply recLost_kept
    | with_reducible apply setChan_kept
    | with_reducible apply setNext_kept
    | with_reducible apply markHost_kept
    | with_reducible apply setHdr_kept
    | with_reducible apply setFld_kept
    | with_reducible apply freeReg_kept
    | with_reducible apply ite_kept
    | split
    | dsimp only

theorem execDmaDisable_kept (ch : Nat) (t : Nat) (h : Kept s0 s) : KeptOut s0 (execDmaDisable ch t s) := by
  unfold execDmaDisable
  repeat' first
    | with_reducible assumption
    | intro _
    | with_reducible apply hostWrite_kept
    | with_reducible apply upto_kept
    | with_reducible apply dmaDisable_kept
    | with_reducible apply ite_out
    | with_reducible apply out_next
    | with_reducible apply out_fault
    | with_reducible apply ite_kept
    | split
    | dsimp only

theorem dmaEnable_kept (ch : Nat) (h : Kept s0 s) : Kept s0 (State.dmaEnable s ch) := by
  unfold State.dmaEnable
  repeat' first
    | with_reducible assumption
    | intro _
    | with_reducible apply setHdr_kept
    | with_reducible apply foldS_kept
    | with_reducible apply setReg_kept
    | with_reducible apply setFld_kept
    | with_reducible apply proceed_kept
    | with_reducible apply setChan_kept
    | with_reducible apply ite_kept
    | split
    | dsimp only

theorem execDmaEnable_kept (ch : Nat) (t : Nat) (h : Kept s0 s) : KeptOut s0 (execDmaEnable ch t s) := by
  unfold execDmaEnable
  repeat' first
    | with_reducible assumption
    | intro _
    | with_reducible apply hostWrite_kept
    | with_reducible apply upto_kept
    | with_reducible apply dmaEnable_kept
    | with_reducible apply ite_out
    | with_reducible apply out_next
    | with_reducible apply out_fault
    | with_reducible apply ite_kept
    | split
    | dsimp only

/-! ## Machine/Trig.lean -/

theorem setMer_kept (f : Mer → Mer) (h : Kept s0 s) : Kept s0 (State.setMer s f) := by
  unfold State.setMer
  repeat' first
    | with_reducible assumption
    | intro _
    | with_reducible apply ite_kept
    | split
    | dsimp only
    | with_reducible refine mk_kept ?_ (SecKept.refl _)

theorem oweClose_kept  (h : Kept s0 s) : Kept s0 (State.oweClose s) := by
  unfold State.oweClose
  repeat' first
    | with_reducible assumption
    | intro _
    | with_reducible apply setJob_kept
    | with_reducible apply ite_kept
    | split
    | dsimp only

theorem oweLine_kept (line : Nat) (h : Kept s0 s) : Kept s0 (State.oweLine s line) := by
  unfold State.oweLine
  repeat' first
    | with_reducible assumption
    | intro _
    | with_reducible apply setJob_kept
    | with_reducible apply oweClose_kept
    | with_reducible apply foldS_kept
    | with_reducible apply ite_kept
    | split
    | dsimp only

theorem endJob_kept  (h : Kept s0 s) : Kept s0 (State.endJob s) := by
  unfold State.endJob
  repeat' first
    | with_reducible assumption
    | intro _
    | with_reducible apply setSsc_kept
    | with_reducible apply setMer_kept
    | with_reducible apply cstop_kept
    | with_reducible apply oweClose_kept
    | with_reducible apply ite_kept
    | split
    | dsimp only

theorem skipTrigger_kept (n : Nat) (h : Kept s0 s) : Kept s0 (State.skipTrigger s n) := by
  unfold State.skipTrigger
  repeat' first
    | with_reducible assumption
    | intro _
    | with_reducible apply loseLine_kept
    | with_reducible apply faultLine_kept
    | with_reducible apply emit_kept
    | with_reducible apply evt_kept
    | with_reducible apply bump_kept
    | with_reducible apply ite_kept
    | split
    | dsimp only

theorem restarted_kept (n : Nat) (h : Kept s0 s) : Kept s0 (State.restarted s n) := by
  unfold State.restarted
  repeat' first
    | with_reducible assumption
    | intro _
    | with_reducible apply setSsc_kept
    | with_reducible apply emit_kept
    | with_reducible apply evt_kept
    | with_reducible apply ite_kept
    | split
    | dsimp only

theorem latchReal_kept (t : Trig) (h : Kept s0 s) : Kept s0 (State.latchReal s t) := by
  unfold State.latchReal
  repeat' first
    | with_reducible assumption
    | intro _
    | with_reducible apply setSsc_kept
    | with_reducible apply restarted_kept
    | with_reducible apply loseLine_kept
    | with_reducible apply skipTrigger_kept
    | with_reducible apply setMer_kept
    | with_reducible apply oweClose_kept
    | with_reducible apply endJob_kept
    | with_reducible apply ite_kept
    | split
    | dsimp only
    | with_reducible refine mk_kept ?_ (SecKept.refl _)

theorem latchPre_kept (t : Trig) (h : Kept s0 s) : Kept s0 (State.latchPre s t) := by
  unfold State.latchPre
  repeat' first
    | with_reducible assumption
    | intro _
    | with_reducible apply bump_kept
    | with_reducible apply setMer_kept
    | with_reducible apply ite_kept
    | split
    | dsimp only

theorem latchTrig_kept (t : Trig) (h : Kept s0 s) : Kept s0 (State.latchTrig s t) := by
  unfold State.latchTrig
  repeat' first
    | with_reducible assumption
    | intro _
    | with_reducible apply latchPre_kept
    | with_reducible apply latchReal_kept
    | with_reducible apply ite_kept
    | split
    | dsimp only

theorem execLineTrigger_kept (t : Nat) (h : Kept s0 s) : KeptOut s0 (execLineTrigger t s) := by
  unfold execLineTrigger
  repeat' first
    | with_reducible assumption
    | intro _
    | with_reducible apply upto_kept
    | with_reducible apply latchTrig_kept
    | with_reducible apply setMer_kept
    | with_reducible apply ite_out
    | with_reducible apply out_next
    | with_reducible apply out_fault
    | with_reducible apply ite_kept
    | split
    | dsimp only

theorem execLineTimerExpiry_kept  (h : Kept s0 s) : KeptOut s0 (execLineTimerExpiry s) := by
  unfold execLineTimerExpiry
  repeat' first
    | with_reducible assumption
    | intro _
    | with_reducible apply upto_kept
    | with_reducible apply setMer_kept
    | with_reducible apply latchTrig_kept
    | with_reducible apply ite_out
    | with_reducible apply out_next
    | with_reducible apply out_fault
    | with_reducible apply ite_kept
    | split
    | dsimp only

/-! ## Machine/Derive.lean -/

theorem derive_kept (a : Nat) (f : Fld) (v : Nat) (h : Kept s0 s) : Kept s0 (State.derive s a f v) := by
  unfold State.derive
  repeat' first
    | with_reducible assumption
    | intro _
    | with_reducible apply activate_kept
    | with_reducible apply ite_kept
    | split
    | dsimp only
    | with_reducible refine mk_kept ?_ (SecKept.refl _)
    | with_reducible refine mk_pend ?_ (sorted_ins _ _ _) (SecKept.refl _)
    | with_reducible refine mk_pend ?_ (sorted_erase _ _) (SecKept.refl _)

theorem deriveMer_kept  (h : Kept s0 s) : Kept s0 (State.deriveMer s) := by
  unfold State.deriveMer
  repeat' first
    | with_reducible assumption
    | intro _
    | with_reducible apply foldS_kept
    | with_reducible apply derive_kept
    | with_reducible apply ite_kept
    | split
    | dsimp only

theorem deriveChan_kept (c : Nat) (h : Kept s0 s) : Kept s0 (State.deriveChan s c) := by
  unfold State.deriveChan
  repeat' first
    | with_reducible assumption
    | intro _
    | with_reducible apply derive_kept
    | with_reducible apply ite_kept
    | split
    | dsimp only

theorem deriveOut_kept  (h : Kept s0 s) : Kept s0 (State.deriveOut s) := by
  unfold State.deriveOut
  repeat' first
    | with_reducible assumption
    | intro _
    | with_reducible apply derive_kept
    | with_reducible apply foldS_kept
    | with_reducible apply ite_kept
    | split
    | dsimp only

theorem deriveTimes_kept  (h : Kept s0 s) : Kept s0 (State.deriveTimes s) := by
  unfold State.deriveTimes
  repeat' first
    | with_reducible assumption
    | intro _
    | with_reducible apply derive_kept
    | with_reducible apply ite_kept
    | split
    | dsimp only

theorem deriveAll_kept  (h : Kept s0 s) : Kept s0 (State.deriveAll s) := by
  unfold State.deriveAll
  repeat' first
    | with_reducible assumption
    | intro _
    | with_reducible apply skipFree_kept
    | with_reducible apply deriveTimes_kept
    | with_reducible apply deriveOut_kept
    | with_reducible apply forN_kept
    | with_reducible apply deriveChan_kept
    | with_reducible apply deriveMer_kept
    | with_reducible apply ite_kept
    | split
    | dsimp only

theorem derivePage_kept (page : Nat) (h : Kept s0 s) : Kept s0 (State.derivePage s page) := by
  have h1 : Kept s0 { s with
      fv := s.deriveAll.fv
      ssc := { s.ssc with jHold := s.deriveAll.ssc.jHold.filter (fun a => s.ssc.jHold.contains a || pageBase a == page) } } :=
    mk_kept h (SecKept.refl _)
  have h2 := pend_kept (l := State.derivePage.foldlIns (tabKeep (fun a => pageBase a != page) s.pend)
    (tabKeep (fun a => !(pageBase a != page)) s.deriveAll.pend)) h1 (fun hs => sorted_foldl _ _ (sorted_keep _ _ hs))
  have h3 := regs_kept h2 (l := State.derivePage.foldlIns (tabKeep (fun a => pageBase a != page) s.regs)
    (tabKeep (fun a => !(pageBase a != page)) s.deriveAll.regs)) (fun hs => sorted_foldl _ _ (sorted_keep _ _ hs))
  unfold State.derivePage
  simp only [bne, Bool.not_not] at h3 ⊢
  exact h3

/-! ## Machine/Adm.lean -/

theorem admCopy_kept  (h : Kept s0 s) : Kept s0 (State.admCopy s) := by
  unfold State.admCopy
  repeat' first
    | with_reducible assumption
    | intro _
    | with_reducible apply applyBnd_kept
    | with_reducible apply deriveAll_kept
    | with_reducible apply ite_kept
    | split
    | dsimp only

theorem admShow_kept (c : State) (h : Kept s0 s) : Kept s0 (State.admShow s c) := by
  unfold State.admShow
  repeat' first
    | with_reducible assumption
    | intro _
    | with_reducible apply setReg_kept
    | with_reducible apply foldS_kept
    | with_reducible apply setFld_kept
    | with_reducible apply skipFree_kept
    | with_reducible apply when_kept
    | with_reducible apply ite_kept
    | split
    | dsimp only

theorem admRows_kept (l : List (Nat × Nat)) (h : Kept s0 s) : Kept s0 (State.admRows s l) := by
  unfold State.admRows
  repeat' first
    | with_reducible assumption
    | intro _
    | with_reducible apply setReg_kept
    | with_reducible apply setFld_kept
    | with_reducible apply foldS_kept
    | with_reducible apply fault_kept
    | with_reducible apply evt_kept
    | with_reducible apply ite_kept
    | split
    | dsimp only
    | with_reducible refine mk_kept ?_ (SecKept.refl _)

theorem admAccept_kept (h : Kept s0 s) : Kept s0 (State.admAccept s) := by
  unfold State.admAccept
  have ha := evt_kept P.SSC 8 (setSsc_kept (fun x => { x with st := 2, job := {}, seam := false, seamFor := none, jHold := [] }) h)
  have hb := admRows_kept s.admMethods (actArm_kept (idleStop_kept ha))
  exact ite_kept (setCores_kept _ (mk_kept hb (SecKept.refl _)))
    (ite_kept (mk_kept hb (SecKept.refl _)) (setCores_kept _ (mk_kept hb (SecKept.refl _))))

theorem admission_kept (h : Kept s0 s) : Kept s0 (State.admission s) := by
  unfold State.admission
  have hd : Kept s0 s.deriveAll := deriveAll_kept h
  have hc : Kept s0 s.admCopy := admCopy_kept h
  refine ite_kept h (ite_kept (admAccept_kept (admShow_kept _ hc)) ?_)
  exact evt_kept _ _ (setSsc_kept _ (admShow_kept _ hd))

theorem execAdmission_kept (t : Nat) (h : Kept s0 s) : KeptOut s0 (execAdmission t s) := by
  unfold execAdmission
  repeat' first
    | with_reducible assumption
    | intro _
    | with_reducible apply admission_kept
    | with_reducible apply upto_kept
    | with_reducible apply ite_out
    | with_reducible apply out_next
    | with_reducible apply out_fault
    | with_reducible apply ite_kept
    | split
    | dsimp only

/-! ## Machine/Cdr.lean -/

theorem push_kept (x : Nat) (w : Sys2Proof.Word) (h : Kept s0 s) : Kept s0 (State.push s x w) := by
  unfold State.push
  repeat' first
    | with_reducible assumption
    | intro _
    | with_reducible apply evtIf_kept
    | with_reducible apply setAxis_kept
    | with_reducible apply ite_kept
    | split
    | dsimp only

theorem mctlWrite_kept (x : Nat) (w : Sys2Proof.Word) (h : Kept s0 s) : Kept s0 (State.mctlWrite s x w) := by
  unfold State.mctlWrite
  repeat' first
    | with_reducible assumption
    | intro _
    | with_reducible apply when_kept
    | with_reducible apply setReg_kept
    | with_reducible apply push_kept
    | with_reducible apply ite_kept
    | split
    | dsimp only

theorem execMovePush_kept (x : Nat) (w : Sys2Proof.Word) (h : Kept s0 s) : KeptOut s0 (execMovePush x w s) := by
  unfold execMovePush
  repeat' first
    | with_reducible assumption
    | intro _
    | with_reducible apply hostWrite_kept
    | with_reducible apply mctlWrite_kept
    | with_reducible apply ite_out
    | with_reducible apply out_next
    | with_reducible apply out_fault
    | with_reducible apply ite_kept
    | split
    | dsimp only

theorem startOne_kept (x : Nat) (m : Move) (h : Kept s0 s) : Kept s0 (State.startOne s x m) := by
  unfold State.startOne
  repeat' first
    | with_reducible assumption
    | intro _
    | with_reducible apply applyPage_kept
    | with_reducible apply setAxis_kept
    | with_reducible apply ite_kept
    | split
    | dsimp only

theorem groupBegin_kept (g : Nat) (l : List (Nat × Move)) (t0 : Rat) (v0 : Rat) (h : Kept s0 s) : Kept s0 (State.groupBegin s g l t0 v0) := by
  unfold State.groupBegin
  repeat' first
    | with_reducible assumption
    | intro _
    | with_reducible apply foldS_kept
    | with_reducible apply startOne_kept
    | with_reducible apply setAxis_kept
    | with_reducible apply ite_kept
    | split
    | dsimp only
    | with_reducible refine mk_kept ?_ (SecKept.refl _)
    | with_reducible refine mk_pend ?_ (sorted_ins _ _ _) (SecKept.refl _)

theorem tryStart_kept (x : Nat) (h : Kept s0 s) : Kept s0 (State.tryStart s x) := by
  unfold State.tryStart
  repeat' first
    | with_reducible assumption
    | intro _
    | with_reducible apply groupBegin_kept
    | with_reducible apply startOne_kept
    | with_reducible apply setAxis_kept
    | with_reducible apply ite_kept
    | split
    | dsimp only

theorem driveAxis_kept (x : Nat) (m : Move) (p : Plan) (h : Kept s0 s) : Kept s0 (State.driveAxis s x m p) := by
  unfold State.driveAxis
  repeat' first
    | with_reducible assumption
    | intro _
    | with_reducible apply startOne_kept
    | with_reducible apply setAxis_kept
    | with_reducible apply ite_kept
    | split
    | dsimp only

theorem decideJoint_kept (x : Nat) (h : Kept s0 s) : Kept s0 (State.decideJoint s x) := by
  unfold State.decideJoint
  repeat' first
    | with_reducible assumption
    | intro _
    | with_reducible apply setAxis_kept
    | with_reducible apply ite_kept
    | split
    | dsimp only

theorem endOne_kept (x : Nat) (joint : Bool) (h : Kept s0 s) : Kept s0 (State.endOne s x joint) := by
  unfold State.endOne
  repeat' first
    | with_reducible assumption
    | intro _
    | with_reducible apply setAxis_kept
    | with_reducible apply emit_kept
    | with_reducible apply evt_kept
    | with_reducible apply fault_kept
    | with_reducible apply ite_kept
    | split
    | dsimp only

theorem stoppedOne_kept (x : Nat) (h : Kept s0 s) : Kept s0 (State.stoppedOne s x) := by
  unfold State.stoppedOne
  repeat' first
    | with_reducible assumption
    | intro _
    | with_reducible apply evt_kept
    | with_reducible apply setAxis_kept
    | with_reducible apply ite_kept
    | split
    | dsimp only

theorem dropGroup_kept (x : Nat) (h : Kept s0 s) : Kept s0 (State.dropGroup s x) := by
  unfold State.dropGroup
  repeat' first
    | with_reducible assumption
    | intro _
    | with_reducible apply ite_kept
    | split
    | dsimp only
    | with_reducible refine mk_kept ?_ (SecKept.refl _)
    | with_reducible refine mk_pend ?_ (sorted_erase _ _) (SecKept.refl _)

theorem jointStop_kept (xs : List Nat) (x : Nat) (p : Plan) (c : Move) (h : Kept s0 s) : Kept s0 (State.jointStop s xs x p c) := by
  unfold State.jointStop
  repeat' first
    | with_reducible assumption
    | intro _
    | with_reducible apply foldS_kept
    | with_reducible apply setAxis_kept
    | with_reducible apply ite_kept
    | split
    | dsimp only

theorem planEnd_kept (x : Nat) (p : Plan) (h : Kept s0 s) : Kept s0 (State.planEnd s x p) := by
  unfold State.planEnd
  repeat' first
    | with_reducible assumption
    | intro _
    | with_reducible apply setAxis_kept
    | with_reducible apply dropGroup_kept
    | with_reducible apply foldS_kept
    | with_reducible apply stoppedOne_kept
    | with_reducible apply endOne_kept
    | with_reducible apply groupBegin_kept
    | with_reducible apply jointStop_kept
    | with_reducible apply startOne_kept
    | with_reducible apply ite_kept
    | split
    | dsimp only

theorem advance_kept (x n : Nat) (h : Kept s0 s) : Kept s0 (State.advance s x n) := by
  induction n generalizing s with
  | zero => exact h
  | succ n ih =>
    unfold State.advance
    dsimp only
    split
    · split
      · exact stoppedOne_kept _ h
      · exact h
    · split
      · exact h
      · split
        · exact ih (decideJoint_kept _ h)
        · split
          · exact setAxis_kept _ _ h
          · exact ih (planEnd_kept _ _ h)

theorem follow_kept (g : Nat × GroupRun) (h : Kept s0 s) : Kept s0 (State.follow s g) := by
  unfold State.follow
  repeat' first
    | with_reducible assumption
    | intro _
    | with_reducible apply foldS_kept
    | with_reducible apply setAxis_kept
    | with_reducible apply ite_kept
    | split
    | dsimp only

theorem stepAddr_kept (x : Nat) (old : Int) (h : Kept s0 s) : Kept s0 (State.stepAddr s x old) := by
  unfold State.stepAddr
  repeat' first
    | with_reducible assumption
    | intro _
    | with_reducible apply setAxis_kept
    | with_reducible apply ite_kept
    | split
    | dsimp only

theorem scaleStep_kept (x : Nat) (h : Kept s0 s) : Kept s0 (State.scaleStep s x) := by
  unfold State.scaleStep
  repeat' first
    | with_reducible assumption
    | intro _
    | with_reducible apply setAxis_kept
    | with_reducible apply evtIf_kept
    | with_reducible apply ite_kept
    | split
    | dsimp only

theorem vtTick_kept (x : Nat) (h : Kept s0 s) : Kept s0 (State.vtTick s x) := by
  unfold State.vtTick
  repeat' first
    | with_reducible assumption
    | intro _
    | with_reducible apply setAxis_kept
    | with_reducible apply ite_kept
    | split
    | dsimp only

theorem chopTick_kept (x : Nat) (h : Kept s0 s) : Kept s0 (State.chopTick s x) := by
  unfold State.chopTick
  repeat' first
    | with_reducible assumption
    | intro _
    | with_reducible apply setAxis_kept
    | with_reducible apply ite_kept
    | split
    | dsimp only

theorem devTick_kept (x : Nat) (h : Kept s0 s) : Kept s0 (State.devTick s x) := by
  unfold State.devTick
  repeat' first
    | with_reducible assumption
    | intro _
    | with_reducible apply setAxis_kept
    | with_reducible apply ite_kept
    | split
    | dsimp only

theorem tickTail_kept (x : Nat) (old : Int) (h : Kept s0 s) : Kept s0 (State.tickTail s x old) := by
  unfold State.tickTail
  repeat' first
    | with_reducible assumption
    | intro _
    | with_reducible apply devTick_kept
    | with_reducible apply scaleStep_kept
    | with_reducible apply stepAddr_kept
    | with_reducible apply vtTick_kept
    | with_reducible apply setAxis_kept
    | with_reducible apply when_kept
    | with_reducible apply chopTick_kept
    | with_reducible apply gridMove_kept
    | with_reducible apply ite_kept
    | split
    | dsimp only

theorem groupStops_kept  (h : Kept s0 s) : Kept s0 (State.groupStops s) := by
  unfold State.groupStops
  repeat' first
    | with_reducible assumption
    | intro _
    | with_reducible apply foldS_kept
    | with_reducible apply evt_kept
    | with_reducible apply ite_kept
    | split
    | dsimp only
    | with_reducible refine mk_kept ?_ (SecKept.refl _)

theorem profileTick_kept  (h : Kept s0 s) : Kept s0 (State.profileTick s) := by
  unfold State.profileTick
  repeat' first
    | with_reducible assumption
    | intro _
    | with_reducible apply foldS_kept
    | with_reducible apply advance_kept
    | with_reducible apply tryStart_kept
    | with_reducible apply follow_kept
    | with_reducible apply tickTail_kept
    | with_reducible apply groupStops_kept
    | with_reducible apply ite_kept
    | split
    | dsimp only

theorem execProfileTick_kept (t : Nat) (h : Kept s0 s) : KeptOut s0 (execProfileTick t s) := by
  unfold execProfileTick
  repeat' first
    | with_reducible assumption
    | intro _
    | with_reducible apply profileTick_kept
    | with_reducible apply upto_kept
    | with_reducible apply ite_out
    | with_reducible apply out_next
    | with_reducible apply out_fault
    | with_reducible apply ite_kept
    | split
    | dsimp only

theorem execControlledStop_kept (x : Nat) (h : Kept s0 s) : KeptOut s0 (execControlledStop x s) := by
  unfold execControlledStop
  repeat' first
    | with_reducible assumption
    | intro _
    | with_reducible apply cstop_kept
    | with_reducible apply ite_out
    | with_reducible apply out_next
    | with_reducible apply out_fault
    | with_reducible apply ite_kept
    | split
    | dsimp only

theorem execImmediateStop_kept (x : Nat) (h : Kept s0 s) : KeptOut s0 (execImmediateStop x s) := by
  unfold execImmediateStop
  repeat' first
    | with_reducible assumption
    | intro _
    | with_reducible apply freeze_kept
    | with_reducible apply ite_out
    | with_reducible apply out_next
    | with_reducible apply out_fault
    | with_reducible apply ite_kept
    | split
    | dsimp only

theorem execQueueFlush_kept (x : Nat) (h : Kept s0 s) : KeptOut s0 (execQueueFlush x s) := by
  unfold execQueueFlush
  repeat' first
    | with_reducible assumption
    | intro _
    | with_reducible apply hostWrite_kept
    | with_reducible apply queueFlush_kept
    | with_reducible apply ite_out
    | with_reducible apply out_next
    | with_reducible apply out_fault
    | with_reducible apply ite_kept
    | split
    | dsimp only

theorem groupCstop_kept (g : Nat) (h : Kept s0 s) : Kept s0 (State.groupCstop s g) := by
  unfold State.groupCstop
  repeat' first
    | with_reducible assumption
    | intro _
    | with_reducible apply foldS_kept
    | with_reducible apply cstop_kept
    | with_reducible apply evt_kept
    | with_reducible apply ite_kept
    | split
    | dsimp only
    | with_reducible refine mk_kept ?_ (SecKept.refl _)

theorem execGroupCstop_kept (g : Nat) (h : Kept s0 s) : KeptOut s0 (execGroupCstop g s) := by
  unfold execGroupCstop
  repeat' first
    | with_reducible assumption
    | intro _
    | with_reducible apply hostWrite_kept
    | with_reducible apply groupCstop_kept
    | with_reducible apply ite_out
    | with_reducible apply out_next
    | with_reducible apply out_fault
    | with_reducible apply ite_kept
    | split
    | dsimp only

theorem groupIstop_kept (g : Nat) (h : Kept s0 s) : Kept s0 (State.groupIstop s g) := by
  unfold State.groupIstop
  repeat' first
    | with_reducible assumption
    | intro _
    | with_reducible apply foldS_kept
    | with_reducible apply freeze_kept
    | with_reducible apply evtIf_kept
    | with_reducible apply ite_kept
    | split
    | dsimp only

theorem execGroupIstop_kept (g : Nat) (h : Kept s0 s) : KeptOut s0 (execGroupIstop g s) := by
  unfold execGroupIstop
  repeat' first
    | with_reducible assumption
    | intro _
    | with_reducible apply hostWrite_kept
    | with_reducible apply groupIstop_kept
    | with_reducible apply ite_out
    | with_reducible apply out_next
    | with_reducible apply out_fault
    | with_reducible apply ite_kept
    | split
    | dsimp only

theorem cdrCtl_kept (x : Nat) (w : Nat) (h : Kept s0 s) : Kept s0 (State.cdrCtl s x w) := by
  unfold State.cdrCtl
  repeat' first
    | with_reducible assumption
    | intro _
    | with_reducible apply queueFlush_kept
    | with_reducible apply freeze_kept
    | with_reducible apply cstop_kept
    | with_reducible apply ite_kept
    | split
    | dsimp only

theorem cdrGcmd_kept (w : Nat) (h : Kept s0 s) : Kept s0 (State.cdrGcmd s w) := by
  unfold State.cdrGcmd
  repeat' first
    | with_reducible assumption
    | intro _
    | with_reducible apply foldS_kept
    | with_reducible apply groupIstop_kept
    | with_reducible apply groupCstop_kept
    | with_reducible apply ite_kept
    | split
    | dsimp only

theorem stopTask_kept (x : Nat) (imm : Bool) (h : Kept s0 s) : Kept s0 (State.stopTask s x imm) := by
  unfold State.stopTask
  repeat' first
    | with_reducible assumption
    | intro _
    | with_reducible apply freeze_kept
    | with_reducible apply cstop_kept
    | with_reducible apply ite_kept
    | split
    | dsimp only

theorem cdrEnable_kept (x : Nat) (en : Bool) (h : Kept s0 s) : Kept s0 (State.cdrEnable s x en) := by
  unfold State.cdrEnable
  repeat' first
    | with_reducible assumption
    | intro _
    | with_reducible apply freeze_kept
    | with_reducible apply setAxis_kept
    | with_reducible apply ite_kept
    | split
    | dsimp only

theorem setChop_kept (x : Nat) (b : Bool) (c : Chop) (h : Kept s0 s) : Kept s0 (State.setChop s x b c) := by
  unfold State.setChop
  repeat' first
    | with_reducible assumption
    | intro _
    | with_reducible apply setAxis_kept
    | with_reducible apply ite_kept
    | split
    | dsimp only

theorem execChopperSwitch_kept (x : Nat) (b : Bool) (sense : Nat) (mean : Int) (t : Nat) (h : Kept s0 s) : KeptOut s0 (execChopperSwitch x b sense mean t s) := by
  unfold execChopperSwitch
  repeat' first
    | with_reducible assumption
    | intro _
    | with_reducible apply upto_kept
    | with_reducible apply setChop_kept
    | with_reducible apply ite_out
    | with_reducible apply out_next
    | with_reducible apply out_fault
    | with_reducible apply ite_kept
    | split
    | dsimp only

theorem execChopperOffTimeEnd_kept (x : Nat) (b : Bool) (sense : Nat) (mean : Int) (t : Nat) (h : Kept s0 s) : KeptOut s0 (execChopperOffTimeEnd x b sense mean t s) := by
  unfold execChopperOffTimeEnd
  repeat' first
    | with_reducible assumption
    | intro _
    | with_reducible apply upto_kept
    | with_reducible apply setChop_kept
    | with_reducible apply ite_out
    | with_reducible apply out_next
    | with_reducible apply out_fault
    | with_reducible apply ite_kept
    | split
    | dsimp only

theorem execHoldDelayExpiry_kept (x : Nat) (t : Nat) (h : Kept s0 s) : KeptOut s0 (execHoldDelayExpiry x t s) := by
  unfold execHoldDelayExpiry
  repeat' first
    | with_reducible assumption
    | intro _
    | with_reducible apply upto_kept
    | with_reducible apply setAxis_kept
    | with_reducible apply ite_out
    | with_reducible apply out_next
    | with_reducible apply out_fault
    | with_reducible apply ite_kept
    | split
    | dsimp only

theorem execWakeDelayExpiry_kept (x : Nat) (t : Nat) (h : Kept s0 s) : KeptOut s0 (execWakeDelayExpiry x t s) := by
  unfold execWakeDelayExpiry
  repeat' first
    | with_reducible assumption
    | intro _
    | with_reducible apply upto_kept
    | with_reducible apply setAxis_kept
    | with_reducible apply ite_out
    | with_reducible apply out_next
    | with_reducible apply out_fault
    | with_reducible apply ite_kept
    | split
    | dsimp only

theorem execOvercurrent_kept (x : Sys2Proof.OcIn) (t : Nat) (h : Kept s0 s) : KeptOut s0 (execOvercurrent x t s) := by
  unfold execOvercurrent
  repeat' first
    | with_reducible assumption
    | intro _
    | with_reducible apply upto_kept
    | with_reducible apply fault_kept
    | with_reducible apply evt_kept
    | with_reducible apply freeze_kept
    | with_reducible apply ite_out
    | with_reducible apply out_next
    | with_reducible apply out_fault
    | with_reducible apply ite_kept
    | split
    | dsimp only

theorem execStall_kept (x : Nat) (t : Nat) (h : Kept s0 s) : KeptOut s0 (execStall x t s) := by
  unfold execStall
  repeat' first
    | with_reducible assumption
    | intro _
    | with_reducible apply upto_kept
    | with_reducible apply fault_kept
    | with_reducible apply emit_kept
    | with_reducible apply evt_kept
    | with_reducible apply freeze_kept
    | with_reducible apply ite_out
    | with_reducible apply out_next
    | with_reducible apply out_fault
    | with_reducible apply ite_kept
    | split
    | dsimp only

theorem axisBad_kept (x : Nat) (h : Kept s0 s) : Kept s0 (State.axisBad s x) := by
  unfold State.axisBad
  repeat' first
    | with_reducible assumption
    | intro _
    | with_reducible apply bump_kept
    | with_reducible apply setAxis_kept
    | with_reducible apply freeze_kept
    | with_reducible apply fault_kept
    | with_reducible apply evt_kept
    | with_reducible apply ite_kept
    | split
    | dsimp only
    | with_reducible refine mk_kept ?_ (SecKept.refl _)

theorem followBad_kept  (h : Kept s0 s) : Kept s0 (State.followBad s) := by
  unfold State.followBad
  repeat' first
    | with_reducible assumption
    | intro _
    | with_reducible apply bump_kept
    | with_reducible apply fault_kept
    | with_reducible apply evt_kept
    | with_reducible apply ite_kept
    | split
    | dsimp only
    | with_reducible refine mk_kept ?_ (SecKept.refl _)

theorem encoderEdge_kept (src : Nat) (a : Bool) (b : Bool) (h : Kept s0 s) : Kept s0 (State.encoderEdge s src a b) := by
  unfold State.encoderEdge
  repeat' first
    | with_reducible assumption
    | intro _
    | with_reducible apply setAxis_kept
    | with_reducible apply axisBad_kept
    | with_reducible apply when_kept
    | with_reducible apply gridMove_kept
    | with_reducible apply followBad_kept
    | with_reducible apply followMove_kept
    | with_reducible apply ite_kept
    | split
    | dsimp only
    | with_reducible refine mk_kept ?_ (SecKept.refl _)

theorem execEncoderEdge_kept (src : Sys2Proof.EncIn) (a : Bool) (b : Bool) (t : Nat) (h : Kept s0 s) : KeptOut s0 (execEncoderEdge src a b t s) := by
  unfold execEncoderEdge
  repeat' first
    | with_reducible assumption
    | intro _
    | with_reducible apply upto_kept
    | with_reducible apply encoderEdge_kept
    | with_reducible apply ite_out
    | with_reducible apply out_next
    | with_reducible apply out_fault
    | with_reducible apply ite_kept
    | split
    | dsimp only

theorem homeEvent_kept (x : Nat) (task : Bool) (h : Kept s0 s) : Kept s0 (State.homeEvent s x task) := by
  unfold State.homeEvent
  repeat' first
    | with_reducible assumption
    | intro _
    | with_reducible apply setAxis_kept
    | with_reducible apply cstop_kept
    | with_reducible apply evt_kept
    | with_reducible apply gridLost_kept
    | with_reducible apply ite_kept
    | split
    | dsimp only

theorem execHomeEvent_kept (x : Sys2Proof.EncIn) (t : Nat) (h : Kept s0 s) : KeptOut s0 (execHomeEvent x t s) := by
  unfold execHomeEvent
  repeat' first
    | with_reducible assumption
    | intro _
    | with_reducible apply upto_kept
    | with_reducible apply homeEvent_kept
    | with_reducible apply ite_out
    | with_reducible apply out_next
    | with_reducible apply out_fault
    | with_reducible apply ite_kept
    | split
    | dsimp only

end Sys2Proof.Laws
end

