-- ==== Sys2Proof/Laws/KeptLines.lean ====
section
/-! SUPPORT. Every operation of Machine/Pass.lean, Ssc.lean, Stg.lean, Meridian.lean, Image.lean, Link.lean, Chr.lean, Safe.lean keeps what no operation undoes (Kept.lean). -/

namespace Sys2Proof.Laws

set_option Elab.async false

open Sys2Proof.Machine

variable {s0 s t : State}

/-! ## Machine/Pass.lean -/

theorem setNextNum_kept (k : Nat) (n : Nat) (h : Kept s0 s) : Kept s0 (State.setNextNum s k n) := by
  unfold State.setNextNum
  repeat' first
    | with_reducible assumption
    | intro _
    | with_reducible apply setJob_kept
    | with_reducible apply ite_kept
    | split
    | dsimp only

theorem passDirect_kept (r : Record) (h : Kept s0 s) : Kept s0 (State.passDirect s r) := by
  unfold State.passDirect
  repeat' first
    | with_reducible assumption
    | intro _
    | with_reducible apply feed_kept
    | with_reducible apply setChan_kept
    | with_reducible apply ite_kept
    | split
    | dsimp only

theorem hwmCheck_kept  (h : Kept s0 s) : Kept s0 (State.hwmCheck s) := by
  unfold State.hwmCheck
  repeat' first
    | with_reducible assumption
    | intro _
    | with_reducible apply trackStop_kept
    | with_reducible apply evt_kept
    | with_reducible apply ite_kept
    | split
    | dsimp only

theorem passStore_kept (r : Record) (h : Kept s0 s) : Kept s0 (State.passStore s r) := by
  unfold State.passStore
  repeat' first
    | with_reducible assumption
    | intro _
    | with_reducible apply hwmCheck_kept
    | with_reducible apply feed_kept
    | with_reducible apply showEst_kept
    | with_reducible apply ite_kept
    | split
    | dsimp only
    | with_reducible refine mk_kept ?_ (SecKept.refl _)

theorem divert_kept  (h : Kept s0 s) : Kept s0 (State.divert s) := by
  unfold State.divert
  repeat' first
    | with_reducible assumption
    | intro _
    | with_reducible apply setAttn_kept
    | with_reducible apply evt_kept
    | with_reducible apply ite_kept
    | split
    | dsimp only
    | with_reducible refine mk_kept ?_ (SecKept.refl _)

theorem passVia_kept (store : Bool) (r : Record) (h : Kept s0 s) : Kept s0 (State.passVia s store r) := by
  unfold State.passVia
  repeat' first
    | with_reducible assumption
    | intro _
    | with_reducible apply passStore_kept
    | with_reducible apply passDirect_kept
    | with_reducible apply ite_kept
    | split
    | dsimp only

theorem backToKept_kept  (h : Kept s0 s) : Kept s0 (State.backToKept s) := by
  unfold State.backToKept
  repeat' first
    | with_reducible assumption
    | intro _
    | with_reducible apply setReg64_kept
    | with_reducible apply setSsc_kept
    | with_reducible apply ite_kept
    | split
    | dsimp only

theorem dropStored_kept (line : Nat) (h : Kept s0 s) : Kept s0 (State.dropStored s line) := by
  unfold State.dropStored
  repeat' first
    | with_reducible assumption
    | intro _
    | with_reducible apply loseLine_kept
    | with_reducible apply evt_kept
    | with_reducible apply setAttn_kept
    | with_reducible apply lineTidy_kept
    | with_reducible apply setLine_kept
    | with_reducible apply when_kept
    | with_reducible apply backToKept_kept
    | with_reducible apply ite_kept
    | split
    | dsimp only
    | with_reducible refine mk_kept ?_ (SecKept.refl _)

theorem chooseRoute_kept (line : Nat) (h : Kept s0 s) : Kept s0 (State.chooseRoute s line).1 := by
  unfold State.chooseRoute
  repeat' first
    | with_reducible assumption
    | intro _
    | with_reducible apply setJob_kept
    | with_reducible apply divert_kept
    | with_reducible apply dropStored_kept
    | with_reducible apply ite_kept
    | split
    | dsimp only
    | with_reducible exact Kept.refl _

theorem passGaps_kept (store : Bool) (k : Nat) (l : List (Nat × Nat)) (h : Kept s0 s) : Kept s0 (State.passGaps s store k l) := by
  unfold State.passGaps
  repeat' first
    | with_reducible assumption
    | intro _
    | with_reducible apply foldS_kept
    | with_reducible apply passVia_kept
    | with_reducible apply ite_kept
    | split
    | dsimp only

theorem markSent_kept (k : Nat) (n : Nat) (h : Kept s0 s) : Kept s0 (State.markSent s k n) := by
  unfold State.markSent
  repeat' first
    | with_reducible assumption
    | intro _
    | with_reducible apply setJob_kept
    | with_reducible apply lineTidy_kept
    | with_reducible apply setLine_kept
    | with_reducible apply ite_kept
    | split
    | dsimp only

theorem passGroup_kept (k : Nat) (p : Nat) (g : Nat) (ls : List Nat) (store : Bool) (h : Kept s0 s) : Kept s0 (State.passGroup s k p g ls store) := by
  unfold State.passGroup
  repeat' first
    | with_reducible assumption
    | intro _
    | with_reducible apply passGaps_kept
    | with_reducible apply passVia_kept
    | with_reducible apply setNextNum_kept
    | with_reducible apply setJob_kept
    | with_reducible apply skipFree_kept
    | with_reducible apply foldS_kept
    | with_reducible apply markSent_kept
    | with_reducible apply ite_kept
    | split
    | dsimp only

theorem passTail_kept (k : Nat) (p : Nat) (h : Kept s0 s) : Kept s0 (State.passTail s k p) := by
  unfold State.passTail
  repeat' first
    | with_reducible assumption
    | intro _
    | with_reducible apply setNextNum_kept
    | with_reducible apply passGaps_kept
    | with_reducible apply when_kept
    | with_reducible apply divert_kept
    | with_reducible apply ite_kept
    | split
    | dsimp only

theorem recordPass_kept (k : Nat) (h : Kept s0 s) : Kept s0 (State.recordPass s k) := by
  unfold State.recordPass
  repeat' first
    | with_reducible assumption
    | intro _
    | with_reducible apply passTail_kept
    | with_reducible apply chooseRoute_kept
    | with_reducible apply passGroup_kept
    | with_reducible apply ite_kept
    | split
    | dsimp only
    | with_reducible refine of_fst ?_ ‹_ = (_, _)›

theorem execRecordPass_kept (stream : Nat) (t : Nat) (h : Kept s0 s) : KeptOut s0 (execRecordPass stream t s) := by
  unfold execRecordPass
  repeat' first
    | with_reducible assumption
    | intro _
    | with_reducible apply upto_kept
    | with_reducible apply recordPass_kept
    | with_reducible apply ite_out
    | with_reducible apply out_next
    | with_reducible apply out_fault
    | with_reducible apply ite_kept
    | split
    | dsimp only

theorem execStoreDrained_kept (t : Nat) (h : Kept s0 s) : KeptOut s0 (execStoreDrained t s) := by
  unfold execStoreDrained
  repeat' first
    | with_reducible assumption
    | intro _
    | with_reducible apply upto_kept
    | with_reducible apply evt_kept
    | with_reducible apply ite_out
    | with_reducible apply out_next
    | with_reducible apply out_fault
    | with_reducible apply ite_kept
    | split
    | dsimp only
    | with_reducible refine mk_kept ?_ (SecKept.refl _)

/-! ## Machine/Ssc.lean -/

theorem cmdIgnored_kept  (h : Kept s0 s) : Kept s0 (State.cmdIgnored s) := by
  unfold State.cmdIgnored
  repeat' first
    | with_reducible assumption
    | intro _
    | with_reducible apply evt_kept
    | with_reducible apply ite_kept
    | split
    | dsimp only

theorem arm_kept  (h : Kept s0 s) : Kept s0 (State.arm s) := by
  unfold State.arm
  repeat' first
    | with_reducible assumption
    | intro _
    | with_reducible apply setSsc_kept
    | with_reducible apply cmdIgnored_kept
    | with_reducible apply ite_kept
    | split
    | dsimp only

theorem execSscArm_kept  (h : Kept s0 s) : KeptOut s0 (execSscArm s) := by
  unfold execSscArm
  repeat' first
    | with_reducible assumption
    | intro _
    | with_reducible apply hostWrite_kept
    | with_reducible apply arm_kept
    | with_reducible apply ite_out
    | with_reducible apply out_next
    | with_reducible apply out_fault
    | with_reducible apply ite_kept
    | split
    | dsimp only

theorem driveForward_kept (x : Nat) (h : Kept s0 s) : Kept s0 (State.driveForward s x) := by
  unfold State.driveForward
  repeat' first
    | with_reducible assumption
    | intro _
    | with_reducible apply driveAxis_kept
    | with_reducible apply ite_kept
    | split
    | dsimp only

theorem backUp_kept  (h : Kept s0 s) : Kept s0 (State.backUp s) := by
  unfold State.backUp
  repeat' first
    | with_reducible assumption
    | intro _
    | with_reducible apply setSsc_kept
    | with_reducible apply setReg_kept
    | with_reducible apply useFree_kept
    | with_reducible apply driveAxis_kept
    | with_reducible apply ite_kept
    | split
    | dsimp only

theorem anchorGrid_kept (x : Nat) (h : Kept s0 s) : Kept s0 (State.anchorGrid s x) := by
  unfold State.anchorGrid
  repeat' first
    | with_reducible assumption
    | intro _
    | with_reducible apply useFree_kept
    | with_reducible apply setSsc_kept
    | with_reducible apply ite_kept
    | split
    | dsimp only

theorem jobStart_kept  (h : Kept s0 s) : Kept s0 (State.jobStart s) := by
  unfold State.jobStart
  repeat' first
    | with_reducible assumption
    | intro _
    | with_reducible apply setReg64_kept
    | with_reducible apply setSsc_kept
    | with_reducible apply setMer_kept
    | with_reducible apply stgIdle_kept
    | with_reducible apply ite_kept
    | split
    | dsimp only
    | with_reducible refine mk_kept ?_ (SecKept.refl _)

theorem start_kept  (h : Kept s0 s) : Kept s0 (State.start s) := by
  unfold State.start
  repeat' first
    | with_reducible assumption
    | intro _
    | with_reducible apply cmdIgnored_kept
    | with_reducible apply jobStart_kept
    | with_reducible apply driveForward_kept
    | with_reducible apply anchorGrid_kept
    | with_reducible apply setMer_kept
    | with_reducible apply latchTrig_kept
    | with_reducible apply ite_kept
    | split
    | dsimp only

theorem execSscStart_kept  (h : Kept s0 s) : KeptOut s0 (execSscStart s) := by
  unfold execSscStart
  repeat' first
    | with_reducible assumption
    | intro _
    | with_reducible apply hostWrite_kept
    | with_reducible apply start_kept
    | with_reducible apply ite_out
    | with_reducible apply out_next
    | with_reducible apply out_fault
    | with_reducible apply ite_kept
    | split
    | dsimp only

theorem endCmd_kept  (h : Kept s0 s) : Kept s0 (State.endCmd s) := by
  unfold State.endCmd
  repeat' first
    | with_reducible assumption
    | intro _
    | with_reducible apply cmdIgnored_kept
    | with_reducible apply endJob_kept
    | with_reducible apply setSsc_kept
    | with_reducible apply ite_kept
    | split
    | dsimp only

theorem execSscEnd_kept  (h : Kept s0 s) : KeptOut s0 (execSscEnd s) := by
  unfold execSscEnd
  repeat' first
    | with_reducible assumption
    | intro _
    | with_reducible apply hostWrite_kept
    | with_reducible apply endCmd_kept
    | with_reducible apply ite_out
    | with_reducible apply out_next
    | with_reducible apply out_fault
    | with_reducible apply ite_kept
    | split
    | dsimp only

theorem idleHel_kept  (h : Kept s0 s) : Kept s0 (State.idleHel s) := by
  unfold State.idleHel
  repeat' first
    | with_reducible assumption
    | intro _
    | with_reducible apply setFld_kept
    | with_reducible apply setReg_kept
    | with_reducible apply ite_kept
    | split
    | dsimp only
    | with_reducible refine mk_kept ?_ (SecKept.refl _)

theorem idleStore_kept  (h : Kept s0 s) : Kept s0 (State.idleStore s) := by
  unfold State.idleStore
  repeat' first
    | with_reducible assumption
    | intro _
    | with_reducible apply when_kept
    | with_reducible apply ite_kept
    | split
    | dsimp only
    | with_reducible refine mk_kept ?_ (SecKept.refl _)

theorem idleCores_kept  (h : Kept s0 s) : Kept s0 (State.idleCores s) := by
  unfold State.idleCores
  repeat' first
    | with_reducible assumption
    | intro _
    | with_reducible apply coresReady_kept
    | with_reducible apply ite_kept
    | split
    | dsimp only
    | with_reducible refine mk_kept ?_ (SecKept.refl _)

theorem toIdle_kept  (h : Kept s0 s) : Kept s0 (State.toIdle s) := by
  unfold State.toIdle
  repeat' first
    | with_reducible assumption
    | intro _
    | with_reducible apply setSsc_kept
    | with_reducible apply idleHel_kept
    | with_reducible apply idleStore_kept
    | with_reducible apply helHold_kept
    | with_reducible apply phoJobEnd_kept
    | with_reducible apply darkCommit_kept
    | with_reducible apply setMer_kept
    | with_reducible apply stgIdle_kept
    | with_reducible apply evt_kept
    | with_reducible apply idleCores_kept
    | with_reducible apply ite_kept
    | split
    | dsimp only

theorem jobIdle_kept  (h : Kept s0 s) : Kept s0 (State.jobIdle s) := by
  unfold State.jobIdle
  repeat' first
    | with_reducible assumption
    | intro _
    | with_reducible apply setSsc_kept
    | with_reducible apply toIdle_kept
    | with_reducible apply ite_kept
    | split
    | dsimp only

theorem execJobIdle_kept (t : Nat) (h : Kept s0 s) : KeptOut s0 (execJobIdle t s) := by
  unfold execJobIdle
  repeat' first
    | with_reducible assumption
    | intro _
    | with_reducible apply jobIdle_kept
    | with_reducible apply upto_kept
    | with_reducible apply ite_out
    | with_reducible apply out_next
    | with_reducible apply out_fault
    | with_reducible apply ite_kept
    | split
    | dsimp only

theorem cutCapture_kept  (h : Kept s0 s) : Kept s0 (State.cutCapture s) := by
  unfold State.cutCapture
  repeat' first
    | with_reducible assumption
    | intro _
    | with_reducible apply setMer_kept
    | with_reducible apply stgIdle_kept
    | with_reducible apply noRow_kept
    | with_reducible apply ite_kept
    | split
    | dsimp only
    | with_reducible refine mk_kept ?_ (SecKept.refl _)

theorem dropRecords_kept  (h : Kept s0 s) : Kept s0 (State.dropRecords s) := by
  unfold State.dropRecords
  repeat' first
    | with_reducible assumption
    | intro _
    | with_reducible apply setJob_kept
    | with_reducible apply showEst_kept
    | with_reducible apply ite_kept
    | split
    | dsimp only
    | with_reducible refine mk_kept ?_ (SecKept.refl _)

theorem abortJob_kept  (h : Kept s0 s) : Kept s0 (State.abortJob s) := by
  unfold State.abortJob
  repeat' first
    | with_reducible assumption
    | intro _
    | with_reducible apply evt_kept
    | with_reducible apply setSsc_kept
    | with_reducible apply freeze_kept
    | with_reducible apply toIdle_kept
    | with_reducible apply dropRecords_kept
    | with_reducible apply cutCapture_kept
    | with_reducible apply ite_kept
    | split
    | dsimp only

theorem execSscAbort_kept  (h : Kept s0 s) : KeptOut s0 (execSscAbort s) := by
  unfold execSscAbort
  repeat' first
    | with_reducible assumption
    | intro _
    | with_reducible apply hostWrite_kept
    | with_reducible apply abortJob_kept
    | with_reducible apply ite_out
    | with_reducible apply out_next
    | with_reducible apply out_fault
    | with_reducible apply ite_kept
    | split
    | dsimp only

theorem jobStopped_kept  (h : Kept s0 s) : Kept s0 (State.jobStopped s) := by
  unfold State.jobStopped
  repeat' first
    | with_reducible assumption
    | intro _
    | with_reducible apply setSsc_kept
    | with_reducible apply helHold_kept
    | with_reducible apply backUp_kept
    | with_reducible apply setReg64_kept
    | with_reducible apply ite_kept
    | split
    | dsimp only

theorem execJobStopped_kept (t : Nat) (h : Kept s0 s) : KeptOut s0 (execJobStopped t s) := by
  unfold execJobStopped
  repeat' first
    | with_reducible assumption
    | intro _
    | with_reducible apply jobStopped_kept
    | with_reducible apply upto_kept
    | with_reducible apply ite_out
    | with_reducible apply out_next
    | with_reducible apply out_fault
    | with_reducible apply ite_kept
    | split
    | dsimp only

theorem trackingPause_kept  (h : Kept s0 s) : Kept s0 (State.trackingPause s) := by
  unfold State.trackingPause
  repeat' first
    | with_reducible assumption
    | intro _
    | with_reducible apply setSsc_kept
    | with_reducible apply helHold_kept
    | with_reducible apply setReg64_kept
    | with_reducible apply ite_kept
    | split
    | dsimp only

theorem execTrackingPause_kept (t : Nat) (h : Kept s0 s) : KeptOut s0 (execTrackingPause t s) := by
  unfold execTrackingPause
  repeat' first
    | with_reducible assumption
    | intro _
    | with_reducible apply trackingPause_kept
    | with_reducible apply upto_kept
    | with_reducible apply ite_out
    | with_reducible apply out_next
    | with_reducible apply out_fault
    | with_reducible apply ite_kept
    | split
    | dsimp only

theorem backupDone_kept  (h : Kept s0 s) : Kept s0 (State.backupDone s) := by
  unfold State.backupDone
  repeat' first
    | with_reducible assumption
    | intro _
    | with_reducible apply setSsc_kept
    | with_reducible apply ite_kept
    | split
    | dsimp only

theorem execBackupDone_kept (t : Nat) (h : Kept s0 s) : KeptOut s0 (execBackupDone t s) := by
  unfold execBackupDone
  repeat' first
    | with_reducible assumption
    | intro _
    | with_reducible apply backupDone_kept
    | with_reducible apply upto_kept
    | with_reducible apply ite_out
    | with_reducible apply out_next
    | with_reducible apply out_fault
    | with_reducible apply ite_kept
    | split
    | dsimp only

theorem restartBegin_kept  (h : Kept s0 s) : Kept s0 (State.restartBegin s) := by
  unfold State.restartBegin
  repeat' first
    | with_reducible assumption
    | intro _
    | with_reducible apply setSsc_kept
    | with_reducible apply driveForward_kept
    | with_reducible apply setReg_kept
    | with_reducible apply ite_kept
    | split
    | dsimp only

theorem execRestartBegin_kept (t : Nat) (h : Kept s0 s) : KeptOut s0 (execRestartBegin t s) := by
  unfold execRestartBegin
  repeat' first
    | with_reducible assumption
    | intro _
    | with_reducible apply restartBegin_kept
    | with_reducible apply upto_kept
    | with_reducible apply ite_out
    | with_reducible apply out_next
    | with_reducible apply out_fault
    | with_reducible apply ite_kept
    | split
    | dsimp only

theorem resume_kept  (h : Kept s0 s) : Kept s0 (State.resume s) := by
  unfold State.resume
  repeat' first
    | with_reducible assumption
    | intro _
    | with_reducible apply cmdIgnored_kept
    | with_reducible apply setSsc_kept
    | with_reducible apply backUp_kept
    | with_reducible apply ite_kept
    | split
    | dsimp only

theorem execSscResume_kept  (h : Kept s0 s) : KeptOut s0 (execSscResume s) := by
  unfold execSscResume
  repeat' first
    | with_reducible assumption
    | intro _
    | with_reducible apply hostWrite_kept
    | with_reducible apply resume_kept
    | with_reducible apply ite_out
    | with_reducible apply out_next
    | with_reducible apply out_fault
    | with_reducible apply ite_kept
    | split
    | dsimp only

theorem sscCmd_kept (w : Nat) (h : Kept s0 s) : Kept s0 (State.sscCmd s w) := by
  unfold State.sscCmd
  repeat' first
    | with_reducible assumption
    | intro _
    | with_reducible apply when_kept
    | with_reducible apply arm_kept
    | with_reducible apply start_kept
    | with_reducible apply endCmd_kept
    | with_reducible apply abortJob_kept
    | with_reducible apply resume_kept
    | with_reducible apply ite_kept
    | split
    | dsimp only

theorem estSoftReset_kept (hwm : Sys2Proof.Word) (h : Kept s0 s) : Kept s0 (State.estSoftReset s hwm) := by
  unfold State.estSoftReset
  repeat' first
    | with_reducible assumption
    | intro _
    | with_reducible apply setReg_kept
    | with_reducible apply ite_kept
    | split
    | dsimp only

/-! ## Machine/Stg.lean -/

theorem stgSlotEnd_kept  (h : Kept s0 s) : Kept s0 (State.stgSlotEnd s) := by
  unfold State.stgSlotEnd
  repeat' first
    | with_reducible assumption
    | intro _
    | with_reducible apply useFree_kept
    | with_reducible apply setMer_kept
    | with_reducible apply ite_kept
    | split
    | dsimp only

/-! ## Machine/Meridian.lean -/

theorem streakClear_kept  (h : Kept s0 s) : Kept s0 (State.streakClear s) := by
  unfold State.streakClear
  repeat' first
    | with_reducible assumption
    | intro _
    | with_reducible apply foldS_kept
    | with_reducible apply scanTouch_kept
    | with_reducible apply setFlag_kept
    | with_reducible apply ite_kept
    | split
    | dsimp only
    | with_reducible refine mk_kept ?_ (SecKept.refl _)

theorem warmBack_kept (g : Nat) (goal : Nat × Nat) (h : Kept s0 s) : Kept s0 (State.warmBack s g goal) := by
  unfold State.warmBack
  repeat' first
    | with_reducible assumption
    | intro _
    | with_reducible apply setCh_kept
    | with_reducible apply ite_kept
    | split
    | dsimp only

theorem spareFollow_kept (g : Nat) (h : Kept s0 s) : Kept s0 (State.spareFollow s g) := by
  unfold State.spareFollow
  repeat' first
    | with_reducible assumption
    | intro _
    | with_reducible apply stepAbandon_kept
    | with_reducible apply warmBack_kept
    | with_reducible apply setSpare_kept
    | with_reducible apply ite_kept
    | split
    | dsimp only

theorem lineApply_kept  (h : Kept s0 s) : Kept s0 (State.lineApply s) := by
  unfold State.lineApply
  repeat' first
    | with_reducible assumption
    | intro _
    | with_reducible apply colFollow_kept
    | with_reducible apply applyPend_kept
    | with_reducible apply rowenApply_kept
    | with_reducible apply foldS_kept
    | with_reducible apply commit_kept
    | with_reducible apply when_kept
    | with_reducible apply darkClear_kept
    | with_reducible apply streakClear_kept
    | with_reducible apply forN_kept
    | with_reducible apply spareFollow_kept
    | with_reducible apply ite_kept
    | split
    | dsimp only
    | with_reducible refine mk_kept ?_ (SecKept.refl _)
    | with_reducible refine mk_pend ?_ (sorted_erase _ _) (SecKept.refl _)

theorem timerKeep_kept (period : Nat) (h : Kept s0 s) : Kept s0 (State.timerKeep s period) := by
  unfold State.timerKeep
  repeat' first
    | with_reducible assumption
    | intro _
    | with_reducible apply setMer_kept
    | with_reducible apply ite_kept
    | split
    | dsimp only

theorem timerBefore_kept  (h : Kept s0 s) : Kept s0 (State.timerBefore s) := by
  unfold State.timerBefore
  repeat' first
    | with_reducible assumption
    | intro _
    | with_reducible apply timerKeep_kept
    | with_reducible apply ite_kept
    | split
    | dsimp only

theorem timerAfter_kept  (h : Kept s0 s) : Kept s0 (State.timerAfter s) := by
  unfold State.timerAfter
  repeat' first
    | with_reducible assumption
    | intro _
    | with_reducible apply timerKeep_kept
    | with_reducible apply ite_kept
    | split
    | dsimp only

theorem exposeSlot_kept (j : Nat) (read : Option Exposure) (h : Kept s0 s) : Kept s0 (State.exposeSlot s j read) := by
  unfold State.exposeSlot
  repeat' first
    | with_reducible assumption
    | intro _
    | with_reducible apply setMer_kept
    | with_reducible apply emit_kept
    | with_reducible apply snapRow_kept
    | with_reducible apply noRow_kept
    | with_reducible apply colSlot_kept
    | with_reducible apply readBegin_kept
    | with_reducible apply ite_kept
    | split
    | dsimp only

theorem tailSlot_kept (e : Exposure) (h : Kept s0 s) : Kept s0 (State.tailSlot s e) := by
  unfold State.tailSlot
  repeat' first
    | with_reducible assumption
    | intro _
    | with_reducible apply setMer_kept
    | with_reducible apply colSlot_kept
    | with_reducible apply readBegin_kept
    | with_reducible apply noRow_kept
    | with_reducible apply ite_kept
    | split
    | dsimp only

theorem flushSlot_kept  (h : Kept s0 s) : Kept s0 (State.flushSlot s) := by
  unfold State.flushSlot
  repeat' first
    | with_reducible assumption
    | intro _
    | with_reducible apply noRow_kept
    | with_reducible apply setMer_kept
    | with_reducible apply ite_kept
    | split
    | dsimp only

theorem slotsOver_kept  (h : Kept s0 s) : Kept s0 (State.slotsOver s) := by
  unfold State.slotsOver
  repeat' first
    | with_reducible assumption
    | intro _
    | with_reducible apply noRow_kept
    | with_reducible apply setMer_kept
    | with_reducible apply ite_kept
    | split
    | dsimp only

theorem diagStrobe_kept  (h : Kept s0 s) : Kept s0 (State.diagStrobe s) := by
  unfold State.diagStrobe
  repeat' first
    | with_reducible assumption
    | intro _
    | with_reducible apply slotsOver_kept
    | with_reducible apply setMer_kept
    | with_reducible apply selectRow_kept
    | with_reducible apply ite_kept
    | split
    | dsimp only
    | with_reducible refine mk_kept ?_ (SecKept.refl _)

theorem afterTail_kept  (h : Kept s0 s) : Kept s0 (State.afterTail s) := by
  unfold State.afterTail
  repeat' first
    | with_reducible assumption
    | intro _
    | with_reducible apply diagStrobe_kept
    | with_reducible apply slotsOver_kept
    | with_reducible apply ite_kept
    | split
    | dsimp only

theorem passPclk_kept (n : Nat) (h : Kept s0 s) : Kept s0 (State.passPclk s n) := by
  unfold State.passPclk
  repeat' first
    | with_reducible assumption
    | intro _
    | with_reducible apply upto_kept
    | with_reducible apply setMer_kept
    | with_reducible apply ite_kept
    | split
    | dsimp only

theorem diagEnd_kept  (h : Kept s0 s) : Kept s0 (State.diagEnd s) := by
  unfold State.diagEnd
  repeat' first
    | with_reducible assumption
    | intro _
    | with_reducible apply flushSlot_kept
    | with_reducible apply passPclk_kept
    | with_reducible apply ite_kept
    | split
    | dsimp only

theorem execDiagStrobeEnd_kept  (h : Kept s0 s) : KeptOut s0 (execDiagStrobeEnd s) := by
  unfold execDiagStrobeEnd
  repeat' first
    | with_reducible assumption
    | intro _
    | with_reducible apply diagEnd_kept
    | with_reducible apply ite_out
    | with_reducible apply out_next
    | with_reducible apply out_fault
    | with_reducible apply ite_kept
    | split
    | dsimp only

theorem lateStart_kept (tr : Trig) (idle : Bool) (h : Kept s0 s) : Kept s0 (State.lateStart s tr idle) := by
  unfold State.lateStart
  repeat' first
    | with_reducible assumption
    | intro _
    | with_reducible apply evtIf_kept
    | with_reducible apply bump_kept
    | with_reducible apply setReg_kept
    | with_reducible apply ite_kept
    | split
    | dsimp only

theorem newLine_kept (n : Nat) (tr : Trig) (h : Kept s0 s) : Kept s0 (State.newLine s n tr) := by
  unfold State.newLine
  repeat' first
    | with_reducible assumption
    | intro _
    | with_reducible apply when_kept
    | with_reducible apply setSsc_kept
    | with_reducible apply setLine_kept
    | with_reducible apply ite_kept
    | split
    | dsimp only
    | with_reducible refine mk_kept ?_ (SecKept.refl _)

theorem senseLine_kept  (h : Kept s0 s) : Kept s0 (State.senseLine s) := by
  unfold State.senseLine
  repeat' first
    | with_reducible assumption
    | intro _
    | with_reducible apply ite_kept
    | split
    | dsimp only
    | with_reducible refine mk_kept ?_ (SecKept.refl _)

theorem capturedLine_kept (n : Nat) (tr : Trig) (go : Bool) (h : Kept s0 s) : Kept s0 (State.capturedLine s n tr go) := by
  unfold State.capturedLine
  repeat' first
    | with_reducible assumption
    | intro _
    | with_reducible apply newLine_kept
    | with_reducible apply fftLine_kept
    | with_reducible apply darkCommit_kept
    | with_reducible apply phoLine_kept
    | with_reducible apply colLine_kept
    | with_reducible apply colServe_kept
    | with_reducible apply emit_kept
    | with_reducible apply ite_kept
    | split
    | dsimp only

theorem prerollLine_kept (k : Nat) (tr : Trig) (h : Kept s0 s) : Kept s0 (State.prerollLine s k tr) := by
  unfold State.prerollLine
  repeat' first
    | with_reducible assumption
    | intro _
    | with_reducible apply phoPreroll_kept
    | with_reducible apply bumpFld_kept
    | with_reducible apply setLine_kept
    | with_reducible apply ite_kept
    | split
    | dsimp only

theorem lineBoundary_kept (tr : Trig) (h : Kept s0 s) : Kept s0 (State.lineBoundary s tr) := by
  unfold State.lineBoundary
  repeat' first
    | with_reducible assumption
    | intro _
    | with_reducible apply timerBefore_kept
    | with_reducible apply keepUse_kept
    | with_reducible apply setMer_kept
    | with_reducible apply colWatch_kept
    | with_reducible apply timerAfter_kept
    | with_reducible apply lineApply_kept
    | with_reducible apply senseLine_kept
    | with_reducible apply prerollLine_kept
    | with_reducible apply capturedLine_kept
    | with_reducible apply helLine_kept
    | with_reducible apply holdCut_kept
    | with_reducible apply acqLine_kept
    | with_reducible apply lineFlagIf_kept
    | with_reducible apply exposeSlot_kept
    | with_reducible apply ite_kept
    | split
    | dsimp only
    | with_reducible refine mk_kept ?_ (SecKept.refl _)
    | with_reducible refine mk_pend ?_ (sorted_erase _ _) (SecKept.refl _)

theorem endAtLine_kept  (h : Kept s0 s) : Kept s0 (State.endAtLine s) := by
  unfold State.endAtLine
  repeat' first
    | with_reducible assumption
    | intro _
    | with_reducible apply endJob_kept
    | with_reducible apply ite_kept
    | split
    | dsimp only

theorem idleStart_kept (tr : Trig) (h : Kept s0 s) : Kept s0 (State.idleStart s tr) := by
  unfold State.idleStart
  repeat' first
    | with_reducible assumption
    | intro _
    | with_reducible apply setMer_kept
    | with_reducible apply ite_kept
    | split
    | dsimp only

theorem lineStart_kept (t : Nat) (h : Kept s0 s) : Kept s0 (State.lineStart s t) := by
  unfold State.lineStart
  repeat' first
    | with_reducible assumption
    | intro _
    | with_reducible apply idleStart_kept
    | with_reducible apply upto_kept
    | with_reducible apply endAtLine_kept
    | with_reducible apply lineBoundary_kept
    | with_reducible apply lateStart_kept
    | with_reducible apply ite_kept
    | split
    | dsimp only

theorem execLineStart_kept (t : Nat) (h : Kept s0 s) : KeptOut s0 (execLineStart t s) := by
  unfold execLineStart
  repeat' first
    | with_reducible assumption
    | intro _
    | with_reducible apply lineStart_kept
    | with_reducible apply ite_out
    | with_reducible apply out_next
    | with_reducible apply out_fault
    | with_reducible apply ite_kept
    | split
    | dsimp only

theorem captureEnd_kept (line : Nat) (h : Kept s0 s) : Kept s0 (State.captureEnd s line) := by
  unfold State.captureEnd
  repeat' first
    | with_reducible assumption
    | intro _
    | with_reducible apply setMer_kept
    | with_reducible apply emit_kept
    | with_reducible apply oweLine_kept
    | with_reducible apply setLine_kept
    | with_reducible apply ite_kept
    | split
    | dsimp only

theorem lastReadOut_kept  (h : Kept s0 s) : Kept s0 (State.lastReadOut s) := by
  unfold State.lastReadOut
  repeat' first
    | with_reducible assumption
    | intro _
    | with_reducible apply captureEnd_kept
    | with_reducible apply setMer_kept
    | with_reducible apply ite_kept
    | split
    | dsimp only

theorem exposureEnd_kept  (h : Kept s0 s) : Kept s0 (State.exposureEnd s) := by
  unfold State.exposureEnd
  repeat' first
    | with_reducible assumption
    | intro _
    | with_reducible apply actSlotEnd_kept
    | with_reducible apply cutStrobes_kept
    | with_reducible apply acqReadout_kept
    | with_reducible apply lastReadOut_kept
    | with_reducible apply exposeSlot_kept
    | with_reducible apply slotsOver_kept
    | with_reducible apply noRow_kept
    | with_reducible apply setMer_kept
    | with_reducible apply tailSlot_kept
    | with_reducible apply ite_kept
    | split
    | dsimp only

theorem slotBoundary_kept  (h : Kept s0 s) : Kept s0 (State.slotBoundary s) := by
  unfold State.slotBoundary
  repeat' first
    | with_reducible assumption
    | intro _
    | with_reducible apply exposureEnd_kept
    | with_reducible apply stgSlotEnd_kept
    | with_reducible apply applyBnd_kept
    | with_reducible apply passPclk_kept
    | with_reducible apply afterTail_kept
    | with_reducible apply lastReadOut_kept
    | with_reducible apply slotsOver_kept
    | with_reducible apply tailSlot_kept
    | with_reducible apply setMer_kept
    | with_reducible apply ite_kept
    | split
    | dsimp only

theorem execSlotBoundary_kept  (h : Kept s0 s) : KeptOut s0 (execSlotBoundary s) := by
  unfold execSlotBoundary
  repeat' first
    | with_reducible assumption
    | intro _
    | with_reducible apply slotBoundary_kept
    | with_reducible apply ite_out
    | with_reducible apply out_next
    | with_reducible apply out_fault
    | with_reducible apply ite_kept
    | split
    | dsimp only

theorem pclkLock_kept  (h : Kept s0 s) : Kept s0 (State.pclkLock s) := by
  unfold State.pclkLock
  repeat' first
    | with_reducible assumption
    | intro _
    | with_reducible apply setMer_kept
    | with_reducible apply ite_kept
    | split
    | dsimp only

theorem execPclkLock_kept (t : Nat) (h : Kept s0 s) : KeptOut s0 (execPclkLock t s) := by
  unfold execPclkLock
  repeat' first
    | with_reducible assumption
    | intro _
    | with_reducible apply pclkLock_kept
    | with_reducible apply upto_kept
    | with_reducible apply ite_out
    | with_reducible apply out_next
    | with_reducible apply out_fault
    | with_reducible apply ite_kept
    | split
    | dsimp only

theorem dropHeld_kept (ls : List Nat) (h : Kept s0 s) : Kept s0 (State.dropHeld s ls) := by
  unfold State.dropHeld
  repeat' first
    | with_reducible assumption
    | intro _
    | with_reducible apply ite_kept
    | split
    | dsimp only
    | with_reducible refine mk_kept ?_ (SecKept.refl _)

theorem cutLines_kept  (h : Kept s0 s) : Kept s0 (State.cutLines s) := by
  unfold State.cutLines
  repeat' first
    | with_reducible assumption
    | intro _
    | with_reducible apply setMer_kept
    | with_reducible apply dropHeld_kept
    | with_reducible apply acqReadout_kept
    | with_reducible apply noRow_kept
    | with_reducible apply foldS_kept
    | with_reducible apply dropLine_kept
    | with_reducible apply ite_kept
    | split
    | dsimp only
    | with_reducible refine mk_kept ?_ (SecKept.refl _)

theorem pclkUnlock_kept  (h : Kept s0 s) : Kept s0 (State.pclkUnlock s) := by
  unfold State.pclkUnlock
  repeat' first
    | with_reducible assumption
    | intro _
    | with_reducible apply setMer_kept
    | with_reducible apply fault_kept
    | with_reducible apply evt_kept
    | with_reducible apply cutLines_kept
    | with_reducible apply stgIdle_kept
    | with_reducible apply ite_kept
    | split
    | dsimp only

theorem execPclkUnlock_kept (t : Nat) (h : Kept s0 s) : KeptOut s0 (execPclkUnlock t s) := by
  unfold execPclkUnlock
  repeat' first
    | with_reducible assumption
    | intro _
    | with_reducible apply pclkUnlock_kept
    | with_reducible apply upto_kept
    | with_reducible apply ite_out
    | with_reducible apply out_next
    | with_reducible apply out_fault
    | with_reducible apply ite_kept
    | split
    | dsimp only

/-! ## Machine/Image.lean -/

theorem setSec_kept {f : Sec → Sec} (hf : SecKept s.sec (f s.sec)) (h : Kept s0 s) : Kept s0 (State.setSec s f) :=
  mk_kept h hf

theorem setSlot_kept (i : Nat) (x : Slot) (h : Kept s0 s) : Kept s0 (State.setSlot s i x) := by
  unfold State.setSlot
  repeat' first
    | with_reducible assumption
    | intro _
    | with_reducible refine setSec_kept ⟨Nat.le_refl _, id⟩ ?_
    | with_reducible apply setSec_kept
    | with_reducible apply ite_kept
    | split
    | dsimp only

theorem opIgnored_kept  (h : Kept s0 s) : Kept s0 (State.opIgnored s) := by
  unfold State.opIgnored
  repeat' first
    | with_reducible assumption
    | intro _
    | with_reducible apply evt_kept
    | with_reducible apply ite_kept
    | split
    | dsimp only

theorem secResult_kept (op : Nat) (slot : Nat) (reason : Nat) (h : Kept s0 s) : Kept s0 (State.secResult s op slot reason) := by
  unfold State.secResult
  repeat' first
    | with_reducible assumption
    | intro _
    | with_reducible apply setReg_kept
    | with_reducible apply ite_kept
    | split
    | dsimp only

theorem imageRejected_kept (slot : Nat) (h : Kept s0 s) : Kept s0 (State.imageRejected s slot) := by
  unfold State.imageRejected
  repeat' first
    | with_reducible assumption
    | intro _
    | with_reducible apply fault_kept
    | with_reducible apply evt_kept
    | with_reducible apply ite_kept
    | split
    | dsimp only

theorem showVersion_kept (slot : Nat) (reason : Nat) (h : Kept s0 s) : Kept s0 (State.showVersion s slot reason) := by
  unfold State.showVersion
  repeat' first
    | with_reducible assumption
    | intro _
    | with_reducible apply setReg_kept
    | with_reducible apply ite_kept
    | split
    | dsimp only

theorem bootRecord_kept (slot : Nat) (h : Kept s0 s) : Kept s0 (State.bootRecord s slot) := by
  unfold State.bootRecord
  repeat' first
    | with_reducible assumption
    | intro _
    | with_reducible refine setSec_kept ⟨Nat.le_refl _, id⟩ ?_
    | with_reducible apply setSec_kept
    | with_reducible apply ite_kept
    | split
    | dsimp only

theorem loadEnd_kept  (h : Kept s0 s) : Kept s0 (State.loadEnd s) := by
  unfold State.loadEnd
  repeat' first
    | with_reducible assumption
    | intro _
    | with_reducible refine setSec_kept ⟨Nat.le_refl _, id⟩ ?_
    | with_reducible apply setSec_kept
    | with_reducible apply when_kept
    | with_reducible apply histSave_kept
    | with_reducible apply ite_kept
    | split
    | dsimp only

theorem imageBegin_kept (slot : Nat) (h : Kept s0 s) : Kept s0 (State.imageBegin s slot) := by
  unfold State.imageBegin
  repeat' first
    | with_reducible assumption
    | intro _
    | with_reducible refine setSec_kept ⟨Nat.le_refl _, id⟩ ?_
    | with_reducible apply opIgnored_kept
    | with_reducible apply setSec_kept
    | with_reducible apply setSlot_kept
    | with_reducible apply ite_kept
    | split
    | dsimp only

theorem execImageBegin_kept (w : Sys2Proof.Word) (h : Kept s0 s) : KeptOut s0 (execImageBegin w s) := by
  unfold execImageBegin
  repeat' first
    | with_reducible assumption
    | intro _
    | with_reducible apply hostWrite_kept
    | with_reducible apply guarded_kept
    | with_reducible apply imageBegin_kept
    | with_reducible apply ite_out
    | with_reducible apply out_next
    | with_reducible apply out_fault
    | with_reducible apply ite_kept
    | split
    | dsimp only

theorem execFlashEraseDone_kept (t : Nat) (h : Kept s0 s) : KeptOut s0 (execFlashEraseDone t s) := by
  unfold execFlashEraseDone
  repeat' first
    | with_reducible assumption
    | intro _
    | with_reducible refine setSec_kept ⟨Nat.le_refl _, id⟩ ?_
    | with_reducible apply setSec_kept
    | with_reducible apply upto_kept
    | with_reducible apply ite_out
    | with_reducible apply out_next
    | with_reducible apply out_fault
    | with_reducible apply ite_kept
    | split
    | dsimp only

theorem imageWord_kept (w : Sys2Proof.Word) (h : Kept s0 s) : Kept s0 (State.imageWord s w) := by
  unfold State.imageWord
  repeat' first
    | with_reducible assumption
    | intro _
    | with_reducible refine setSec_kept ⟨Nat.le_refl _, id⟩ ?_
    | with_reducible apply opIgnored_kept
    | with_reducible apply setSlot_kept
    | with_reducible apply setSec_kept
    | with_reducible apply ite_kept
    | split
    | dsimp only

theorem execImageWord_kept (w : Sys2Proof.Word) (h : Kept s0 s) : KeptOut s0 (execImageWord w s) := by
  unfold execImageWord
  repeat' first
    | with_reducible assumption
    | intro _
    | with_reducible apply hostWrite_kept
    | with_reducible apply imageWord_kept
    | with_reducible apply ite_out
    | with_reducible apply out_next
    | with_reducible apply out_fault
    | with_reducible apply ite_kept
    | split
    | dsimp only

theorem bufferDrain_kept (n : Nat) (h : Kept s0 s) : Kept s0 (State.bufferDrain s n) := by
  unfold State.bufferDrain
  repeat' first
    | with_reducible assumption
    | intro _
    | with_reducible refine setSec_kept ⟨Nat.le_refl _, id⟩ ?_
    | with_reducible apply setSec_kept
    | with_reducible apply setSlot_kept
    | with_reducible apply ite_kept
    | split
    | dsimp only

theorem execBufferDrain_kept (n : Nat) (t : Nat) (h : Kept s0 s) : KeptOut s0 (execBufferDrain n t s) := by
  unfold execBufferDrain
  repeat' first
    | with_reducible assumption
    | intro _
    | with_reducible apply bufferDrain_kept
    | with_reducible apply upto_kept
    | with_reducible apply ite_out
    | with_reducible apply out_next
    | with_reducible apply out_fault
    | with_reducible apply ite_kept
    | split
    | dsimp only

theorem imageVerify_kept (slot : Nat) (h : Kept s0 s) : Kept s0 (State.imageVerify s slot) := by
  unfold State.imageVerify
  repeat' first
    | with_reducible assumption
    | intro _
    | with_reducible refine setSec_kept ⟨Nat.le_refl _, id⟩ ?_
    | with_reducible apply opIgnored_kept
    | with_reducible apply setSec_kept
    | with_reducible apply ite_kept
    | split
    | dsimp only

theorem execImageVerify_kept (w : Sys2Proof.Word) (h : Kept s0 s) : KeptOut s0 (execImageVerify w s) := by
  unfold execImageVerify
  repeat' first
    | with_reducible assumption
    | intro _
    | with_reducible apply hostWrite_kept
    | with_reducible apply imageVerify_kept
    | with_reducible apply ite_out
    | with_reducible apply out_next
    | with_reducible apply out_fault
    | with_reducible apply ite_kept
    | split
    | dsimp only

theorem imageAbort_kept  (h : Kept s0 s) : Kept s0 (State.imageAbort s) := by
  unfold State.imageAbort
  repeat' first
    | with_reducible assumption
    | intro _
    | with_reducible apply loadEnd_kept
    | with_reducible apply ite_kept
    | split
    | dsimp only

theorem execImageAbort_kept  (h : Kept s0 s) : KeptOut s0 (execImageAbort s) := by
  unfold execImageAbort
  repeat' first
    | with_reducible assumption
    | intro _
    | with_reducible apply hostWrite_kept
    | with_reducible apply imageAbort_kept
    | with_reducible apply ite_out
    | with_reducible apply out_next
    | with_reducible apply out_fault
    | with_reducible apply ite_kept
    | split
    | dsimp only

theorem imageRuns_kept (slot : Nat) (h : Kept s0 s) : Kept s0 (State.imageRuns s slot) := by
  unfold State.imageRuns
  repeat' first
    | with_reducible assumption
    | intro _
    | with_reducible refine setSec_kept ⟨Nat.le_refl _, id⟩ ?_
    | with_reducible apply setSec_kept
    | with_reducible apply ite_kept
    | split
    | dsimp only

theorem deferredDo_kept (d : Deferred) (h : Kept s0 s) : Kept s0 (State.deferredDo s d) := by
  unfold State.deferredDo
  repeat' first
    | with_reducible assumption
    | intro _
    | with_reducible apply lampRunDone_kept
    | with_reducible apply calRunDone_kept
    | with_reducible apply idleSweep_kept
    | with_reducible apply clockStep_kept
    | with_reducible apply voltageStep_kept
    | with_reducible apply marginHour_kept
    | with_reducible apply ite_kept
    | split
    | dsimp only

theorem servicesServe_kept  (h : Kept s0 s) : Kept s0 (State.servicesServe s) := by
  unfold State.servicesServe
  repeat' first
    | with_reducible assumption
    | intro _
    | with_reducible refine setSec_kept ⟨Nat.le_refl _, id⟩ ?_
    | with_reducible apply foldS_kept
    | with_reducible apply deferredDo_kept
    | with_reducible apply setSec_kept
    | with_reducible apply when_kept
    | with_reducible apply colServe_kept
    | with_reducible apply histSave_kept
    | with_reducible apply ite_kept
    | split
    | dsimp only

theorem imageStart_kept (slot : Nat) (ack : Bool) (h : Kept s0 s) : Kept s0 (State.imageStart s slot ack) := by
  unfold State.imageStart
  repeat' first
    | with_reducible assumption
    | intro _
    | with_reducible apply imageRuns_kept
    | with_reducible apply voutCommand_kept
    | with_reducible apply send_kept
    | with_reducible apply histRestore_kept
    | with_reducible apply deriveAll_kept
    | with_reducible apply servicesServe_kept
    | with_reducible apply ite_kept
    | split
    | dsimp only
    | with_reducible refine mk_kept ?_ (SecKept.refl _)

theorem verifyDone_kept (readOk : Bool) (ack : Bool) (h : Kept s0 s) : Kept s0 (State.verifyDone s readOk ack) := by
  unfold State.verifyDone
  repeat' first
    | with_reducible assumption
    | intro _
    | with_reducible refine setSec_kept ⟨Nat.le_refl _, id⟩ ?_
    | with_reducible apply setSec_kept
    | with_reducible apply setSlot_kept
    | with_reducible apply loadEnd_kept
    | with_reducible apply showVersion_kept
    | with_reducible apply evt_kept
    | with_reducible apply secResult_kept
    | with_reducible apply imageRejected_kept
    | with_reducible apply imageStart_kept
    | with_reducible apply ite_kept
    | split
    | dsimp only

theorem execVerifyDone_kept (readOk : Bool) (ack : Bool) (t : Nat) (h : Kept s0 s) : KeptOut s0 (execVerifyDone readOk ack t s) := by
  unfold execVerifyDone
  repeat' first
    | with_reducible assumption
    | intro _
    | with_reducible apply verifyDone_kept
    | with_reducible apply upto_kept
    | with_reducible apply ite_out
    | with_reducible apply out_next
    | with_reducible apply out_fault
    | with_reducible apply ite_kept
    | split
    | dsimp only

theorem otpCommit_kept (h : Kept s0 s) : Kept s0 (State.otpCommit s) :=
  ite_kept h (setSec_kept ⟨Nat.le_max_left _ _, id⟩ h)

theorem execOtpCommit_kept  (h : Kept s0 s) : KeptOut s0 (execOtpCommit s) := by
  unfold execOtpCommit
  repeat' first
    | with_reducible assumption
    | intro _
    | with_reducible apply hostWrite_kept
    | with_reducible apply guarded_kept
    | with_reducible apply otpCommit_kept
    | with_reducible apply ite_out
    | with_reducible apply out_next
    | with_reducible apply out_fault
    | with_reducible apply ite_kept
    | split
    | dsimp only

theorem firmwareSwap_kept (slot : Nat) (same : Bool) (h : Kept s0 s) : Kept s0 (State.firmwareSwap s slot same) := by
  unfold State.firmwareSwap
  repeat' first
    | with_reducible assumption
    | intro _
    | with_reducible refine setSec_kept ⟨Nat.le_refl _, id⟩ ?_
    | with_reducible apply opIgnored_kept
    | with_reducible apply imageRejected_kept
    | with_reducible apply secResult_kept
    | with_reducible apply setSec_kept
    | with_reducible apply ite_kept
    | split
    | dsimp only

theorem execFirmwareSwap_kept (w : Sys2Proof.Word) (same : Bool) (h : Kept s0 s) : KeptOut s0 (execFirmwareSwap w same s) := by
  unfold execFirmwareSwap
  repeat' first
    | with_reducible assumption
    | intro _
    | with_reducible apply hostWrite_kept
    | with_reducible apply guarded_kept
    | with_reducible apply firmwareSwap_kept
    | with_reducible apply ite_out
    | with_reducible apply out_next
    | with_reducible apply out_fault
    | with_reducible apply ite_kept
    | split
    | dsimp only

theorem swapHandover_kept  (h : Kept s0 s) : Kept s0 (State.swapHandover s) := by
  unfold State.swapHandover
  repeat' first
    | with_reducible assumption
    | intro _
    | with_reducible refine setSec_kept ⟨Nat.le_refl _, id⟩ ?_
    | with_reducible apply setSec_kept
    | with_reducible apply ite_kept
    | split
    | dsimp only

theorem execSwapHandover_kept (t : Nat) (h : Kept s0 s) : KeptOut s0 (execSwapHandover t s) := by
  unfold execSwapHandover
  repeat' first
    | with_reducible assumption
    | intro _
    | with_reducible apply swapHandover_kept
    | with_reducible apply upto_kept
    | with_reducible apply ite_out
    | with_reducible apply out_next
    | with_reducible apply out_fault
    | with_reducible apply ite_kept
    | split
    | dsimp only

theorem swapTimeout_kept  (h : Kept s0 s) : Kept s0 (State.swapTimeout s) := by
  unfold State.swapTimeout
  repeat' first
    | with_reducible assumption
    | intro _
    | with_reducible refine setSec_kept ⟨Nat.le_refl _, id⟩ ?_
    | with_reducible apply setSec_kept
    | with_reducible apply imageRejected_kept
    | with_reducible apply secResult_kept
    | with_reducible apply ite_kept
    | split
    | dsimp only

theorem execSwapTimeout_kept (t : Nat) (h : Kept s0 s) : KeptOut s0 (execSwapTimeout t s) := by
  unfold execSwapTimeout
  repeat' first
    | with_reducible assumption
    | intro _
    | with_reducible apply swapTimeout_kept
    | with_reducible apply upto_kept
    | with_reducible apply ite_out
    | with_reducible apply out_next
    | with_reducible apply out_fault
    | with_reducible apply ite_kept
    | split
    | dsimp only

theorem pauseOver_kept  (h : Kept s0 s) : Kept s0 (State.pauseOver s) := by
  unfold State.pauseOver
  repeat' first
    | with_reducible assumption
    | intro _
    | with_reducible refine setSec_kept ⟨Nat.le_refl _, id⟩ ?_
    | with_reducible apply setSec_kept
    | with_reducible apply ite_kept
    | split
    | dsimp only

theorem coreResume_kept  (h : Kept s0 s) : Kept s0 (State.coreResume s) := by
  unfold State.coreResume
  repeat' first
    | with_reducible assumption
    | intro _
    | with_reducible refine setSec_kept ⟨Nat.le_refl _, id⟩ ?_
    | with_reducible apply pauseOver_kept
    | with_reducible apply setAttn_kept
    | with_reducible apply evt_kept
    | with_reducible apply imageStart_kept
    | with_reducible apply servicesServe_kept
    | with_reducible apply bootRecord_kept
    | with_reducible apply setSec_kept
    | with_reducible apply imageRuns_kept
    | with_reducible apply ite_kept
    | split
    | dsimp only

theorem execCoreResume_kept (t : Nat) (h : Kept s0 s) : KeptOut s0 (execCoreResume t s) := by
  unfold execCoreResume
  repeat' first
    | with_reducible assumption
    | intro _
    | with_reducible apply coreResume_kept
    | with_reducible apply upto_kept
    | with_reducible apply ite_out
    | with_reducible apply out_next
    | with_reducible apply out_fault
    | with_reducible apply ite_kept
    | split
    | dsimp only

/-! ## Machine/Link.lean -/

theorem setHlk_kept (f : Hlk → Hlk) (h : Kept s0 s) : Kept s0 (State.setHlk s f) := by
  unfold State.setHlk
  repeat' first
    | with_reducible assumption
    | intro _
    | with_reducible apply ite_kept
    | split
    | dsimp only
    | with_reducible refine mk_kept ?_ (SecKept.refl _)

theorem showLink_kept (up : Bool) (speed : Nat) (width : Nat) (h : Kept s0 s) : Kept s0 (State.showLink s up speed width) := by
  unfold State.showLink
  repeat' first
    | with_reducible assumption
    | intro _
    | with_reducible apply setReg_kept
    | with_reducible apply ite_kept
    | split
    | dsimp only

theorem dmaAllOff_kept  (h : Kept s0 s) : Kept s0 (State.dmaAllOff s) := by
  unfold State.dmaAllOff
  repeat' first
    | with_reducible assumption
    | intro _
    | with_reducible apply forN_kept
    | with_reducible apply dmaDisable_kept
    | with_reducible apply ite_kept
    | split
    | dsimp only

theorem dlDown_kept  (h : Kept s0 s) : Kept s0 (State.dlDown s) := by
  unfold State.dlDown
  repeat' first
    | with_reducible assumption
    | intro _
    | with_reducible apply setHlk_kept
    | with_reducible apply showLink_kept
    | with_reducible apply dmaAllOff_kept
    | with_reducible apply setReg_kept
    | with_reducible apply fault_kept
    | with_reducible apply evt_kept
    | with_reducible apply ite_kept
    | split
    | dsimp only

theorem execDlDown_kept (t : Nat) (h : Kept s0 s) : KeptOut s0 (execDlDown t s) := by
  unfold execDlDown
  repeat' first
    | with_reducible assumption
    | intro _
    | with_reducible apply upto_kept
    | with_reducible apply dlDown_kept
    | with_reducible apply ite_out
    | with_reducible apply out_next
    | with_reducible apply out_fault
    | with_reducible apply ite_kept
    | split
    | dsimp only

theorem execLinkUp_kept (speed : Nat) (width : Nat) (t : Nat) (h : Kept s0 s) : KeptOut s0 (execLinkUp speed width t s) := by
  unfold execLinkUp
  repeat' first
    | with_reducible assumption
    | intro _
    | with_reducible apply upto_kept
    | with_reducible apply evt_kept
    | with_reducible apply setHlk_kept
    | with_reducible apply showLink_kept
    | with_reducible apply ite_out
    | with_reducible apply out_next
    | with_reducible apply out_fault
    | with_reducible apply ite_kept
    | split
    | dsimp only

theorem execLinkRetrain_kept (speed : Nat) (width : Nat) (t : Nat) (h : Kept s0 s) : KeptOut s0 (execLinkRetrain speed width t s) := by
  unfold execLinkRetrain
  repeat' first
    | with_reducible assumption
    | intro _
    | with_reducible apply upto_kept
    | with_reducible apply evt_kept
    | with_reducible apply bumpFld_kept
    | with_reducible apply showLink_kept
    | with_reducible apply ite_out
    | with_reducible apply out_next
    | with_reducible apply out_fault
    | with_reducible apply ite_kept
    | split
    | dsimp only

theorem partnerError_kept (a : Nat) (f : Fld) (h : Kept s0 s) : Kept s0 (State.partnerError s a f) := by
  unfold State.partnerError
  repeat' first
    | with_reducible assumption
    | intro _
    | with_reducible apply evt_kept
    | with_reducible apply bumpFld_kept
    | with_reducible apply ite_kept
    | split
    | dsimp only

theorem rxError_kept (kind : Nat) (posted : Bool) (h : Kept s0 s) : Kept s0 (State.rxError s kind posted) := by
  unfold State.rxError
  repeat' first
    | with_reducible assumption
    | intro _
    | with_reducible apply send_kept
    | with_reducible apply partnerError_kept
    | with_reducible apply when_kept
    | with_reducible apply ite_kept
    | split
    | dsimp only

theorem execPcieRxError_kept (kind : Nat) (posted : Bool) (t : Nat) (h : Kept s0 s) : KeptOut s0 (execPcieRxError kind posted t s) := by
  unfold execPcieRxError
  repeat' first
    | with_reducible assumption
    | intro _
    | with_reducible apply upto_kept
    | with_reducible apply rxError_kept
    | with_reducible apply ite_out
    | with_reducible apply out_next
    | with_reducible apply out_fault
    | with_reducible apply ite_kept
    | split
    | dsimp only

theorem msixFlush_kept (v : Nat) (h : Kept s0 s) : Kept s0 (State.msixFlush s v) := by
  unfold State.msixFlush
  repeat' first
    | with_reducible assumption
    | intro _
    | with_reducible apply send_kept
    | with_reducible apply setHlk_kept
    | with_reducible apply ite_kept
    | split
    | dsimp only

theorem msixCtl_kept (v : Nat) (w : Sys2Proof.Word) (h : Kept s0 s) : Kept s0 (State.msixCtl s v w) := by
  unfold State.msixCtl
  repeat' first
    | with_reducible assumption
    | intro _
    | with_reducible apply msixFlush_kept
    | with_reducible apply setHlk_kept
    | with_reducible apply ite_kept
    | split
    | dsimp only

theorem execMsixUnmask_kept (v : Nat) (h : Kept s0 s) : KeptOut s0 (execMsixUnmask v s) := by
  unfold execMsixUnmask
  repeat' first
    | with_reducible assumption
    | intro _
    | with_reducible apply msixCtl_kept
    | with_reducible apply ite_out
    | with_reducible apply out_next
    | with_reducible apply out_fault
    | with_reducible apply ite_kept
    | split
    | dsimp only

theorem msixWrite_kept (a : Nat) (w : Sys2Proof.Word) (h : Kept s0 s) : Kept s0 (State.msixWrite s a w) := by
  unfold State.msixWrite
  repeat' first
    | with_reducible assumption
    | intro _
    | with_reducible apply msixCtl_kept
    | with_reducible apply setHlk_kept
    | with_reducible apply ite_kept
    | split
    | dsimp only

theorem wlockWrite_kept (link : Nat) (w : Nat) (h : Kept s0 s) : Kept s0 (State.wlockWrite s link w) := by
  unfold State.wlockWrite
  repeat' first
    | with_reducible assumption
    | intro _
    | with_reducible apply setReg_kept
    | with_reducible apply ite_kept
    | split
    | dsimp only

theorem execWlockWrite_kept (link : Nat) (w : Sys2Proof.Word) (h : Kept s0 s) : KeptOut s0 (execWlockWrite link w s) := by
  unfold execWlockWrite
  repeat' first
    | with_reducible assumption
    | intro _
    | with_reducible apply hostWrite_kept
    | with_reducible apply wlockWrite_kept
    | with_reducible apply ite_out
    | with_reducible apply out_next
    | with_reducible apply out_fault
    | with_reducible apply ite_kept
    | split
    | dsimp only

theorem cfgPut_kept (off : Nat) (w : Sys2Proof.Word) (h : Kept s0 s) : Kept s0 (State.cfgPut s off w) := by
  unfold State.cfgPut
  repeat' first
    | with_reducible assumption
    | intro _
    | with_reducible apply setHlk_kept
    | with_reducible apply ite_kept
    | split
    | dsimp only

theorem cfgWrite_kept (off : Nat) (w : Sys2Proof.Word) (h : Kept s0 s) : Kept s0 (State.cfgWrite s off w) := by
  unfold State.cfgWrite
  repeat' first
    | with_reducible assumption
    | intro _
    | with_reducible apply cfgPut_kept
    | with_reducible apply showLink_kept
    | with_reducible apply setHlk_kept
    | with_reducible apply forN_kept
    | with_reducible apply msixFlush_kept
    | with_reducible apply ite_kept
    | split
    | dsimp only

theorem cfgReset_kept  (h : Kept s0 s) : Kept s0 (State.cfgReset s) := by
  unfold State.cfgReset
  repeat' first
    | with_reducible assumption
    | intro _
    | with_reducible apply setHlk_kept
    | with_reducible apply ite_kept
    | split
    | dsimp only

/-! ## Machine/Chr.lean -/

theorem setChr_kept (f : Chr → Chr) (h : Kept s0 s) : Kept s0 (State.setChr s f) := by
  unfold State.setChr
  repeat' first
    | with_reducible assumption
    | intro _
    | with_reducible apply ite_kept
    | split
    | dsimp only
    | with_reducible refine mk_kept ?_ (SecKept.refl _)

theorem faultAck_kept (w : Nat) (h : Kept s0 s) : Kept s0 (State.faultAck s w) := by
  unfold State.faultAck
  repeat' first
    | with_reducible assumption
    | intro _
    | with_reducible apply setChr_kept
    | with_reducible apply ite_kept
    | split
    | dsimp only

theorem execFaultAck_kept (w : Sys2Proof.Word) (h : Kept s0 s) : KeptOut s0 (execFaultAck w s) := by
  unfold execFaultAck
  repeat' first
    | with_reducible assumption
    | intro _
    | with_reducible apply hostWrite_kept
    | with_reducible apply faultAck_kept
    | with_reducible apply ite_out
    | with_reducible apply out_next
    | with_reducible apply out_fault
    | with_reducible apply ite_kept
    | split
    | dsimp only

theorem ackCritical_kept  (h : Kept s0 s) : Kept s0 (State.ackCritical s) := by
  unfold State.ackCritical
  repeat' first
    | with_reducible assumption
    | intro _
    | with_reducible apply setChr_kept
    | with_reducible apply ite_kept
    | split
    | dsimp only

theorem logClear_kept  (h : Kept s0 s) : Kept s0 (State.logClear s) := by
  unfold State.logClear
  repeat' first
    | with_reducible assumption
    | intro _
    | with_reducible apply setChr_kept
    | with_reducible apply ite_kept
    | split
    | dsimp only

theorem execLogClear_kept  (h : Kept s0 s) : KeptOut s0 (execLogClear s) := by
  unfold execLogClear
  repeat' first
    | with_reducible assumption
    | intro _
    | with_reducible apply hostWrite_kept
    | with_reducible apply logClear_kept
    | with_reducible apply ite_out
    | with_reducible apply out_next
    | with_reducible apply out_fault
    | with_reducible apply ite_kept
    | split
    | dsimp only

theorem logSelect_kept (w : Nat) (h : Kept s0 s) : Kept s0 (State.logSelect s w) := by
  unfold State.logSelect
  repeat' first
    | with_reducible assumption
    | intro _
    | with_reducible apply forN_kept
    | with_reducible apply setReg_kept
    | with_reducible apply ite_kept
    | split
    | dsimp only

theorem execLogSelect_kept (w : Sys2Proof.Word) (h : Kept s0 s) : KeptOut s0 (execLogSelect w s) := by
  unfold execLogSelect
  repeat' first
    | with_reducible assumption
    | intro _
    | with_reducible apply hostWrite_kept
    | with_reducible apply logSelect_kept
    | with_reducible apply ite_out
    | with_reducible apply out_next
    | with_reducible apply out_fault
    | with_reducible apply ite_kept
    | split
    | dsimp only

theorem tsLoad_kept (v : Nat) (h : Kept s0 s) : Kept s0 (State.tsLoad s v) := by
  unfold State.tsLoad
  repeat' first
    | with_reducible assumption
    | intro _
    | with_reducible apply evt_kept
    | with_reducible apply setChr_kept
    | with_reducible apply setReg64_kept
    | with_reducible apply ite_kept
    | split
    | dsimp only

theorem execTsloadWrite_kept (v : Nat) (h : Kept s0 s) : KeptOut s0 (execTsloadWrite v s) := by
  unfold execTsloadWrite
  repeat' first
    | with_reducible assumption
    | intro _
    | with_reducible apply hostWrite_kept
    | with_reducible apply tsLoad_kept
    | with_reducible apply ite_out
    | with_reducible apply out_next
    | with_reducible apply out_fault
    | with_reducible apply ite_kept
    | split
    | dsimp only

theorem lineLoad_kept (v : Nat) (h : Kept s0 s) : Kept s0 (State.lineLoad s v) := by
  unfold State.lineLoad
  repeat' first
    | with_reducible assumption
    | intro _
    | with_reducible apply evt_kept
    | with_reducible apply setChr_kept
    | with_reducible apply ite_kept
    | split
    | dsimp only

theorem execLineCounterWrite_kept (v : Nat) (h : Kept s0 s) : KeptOut s0 (execLineCounterWrite v s) := by
  unfold execLineCounterWrite
  repeat' first
    | with_reducible assumption
    | intro _
    | with_reducible apply hostWrite_kept
    | with_reducible apply lineLoad_kept
    | with_reducible apply ite_out
    | with_reducible apply out_next
    | with_reducible apply out_fault
    | with_reducible apply ite_kept
    | split
    | dsimp only

theorem capture_kept (i : Nat) (h : Kept s0 s) : Kept s0 (State.capture s i) := by
  unfold State.capture
  repeat' first
    | with_reducible assumption
    | intro _
    | with_reducible apply setReg64_kept
    | with_reducible apply useFree_kept
    | with_reducible apply setReg_kept
    | with_reducible apply ite_kept
    | split
    | dsimp only

theorem deadlineMiss_kept (line : Nat) (h : Kept s0 s) : Kept s0 (State.deadlineMiss s line) := by
  unfold State.deadlineMiss
  repeat' first
    | with_reducible assumption
    | intro _
    | with_reducible apply setJob_kept
    | with_reducible apply bumpFld_kept
    | with_reducible apply faultLine_kept
    | with_reducible apply emit_kept
    | with_reducible apply evt_kept
    | with_reducible apply ite_kept
    | split
    | dsimp only

theorem execDeadlineExpiry_kept (line : Nat) (t : Nat) (h : Kept s0 s) : KeptOut s0 (execDeadlineExpiry line t s) := by
  unfold execDeadlineExpiry
  repeat' first
    | with_reducible assumption
    | intro _
    | with_reducible apply deadlineMiss_kept
    | with_reducible apply upto_kept
    | with_reducible apply ite_out
    | with_reducible apply out_next
    | with_reducible apply out_fault
    | with_reducible apply ite_kept
    | split
    | dsimp only

/-! ## Machine/Safe.lean -/

theorem helSafe_kept  (h : Kept s0 s) : Kept s0 (State.helSafe s) := by
  unfold State.helSafe
  repeat' first
    | with_reducible assumption
    | intro _
    | with_reducible apply setFlag_kept
    | with_reducible apply setLam_kept
    | with_reducible apply setHelSt_kept
    | with_reducible apply lampsDark_kept
    | with_reducible apply ite_kept
    | split
    | dsimp only

theorem dmaSafe_kept (ch : Nat) (h : Kept s0 s) : Kept s0 (State.dmaSafe s ch) := by
  unfold State.dmaSafe
  repeat' first
    | with_reducible assumption
    | intro _
    | with_reducible apply markHost_kept
    | with_reducible apply haltAt_kept
    | with_reducible apply setChan_kept
    | with_reducible apply ite_kept
    | split
    | dsimp only

theorem safeEntry_kept (code : Nat) (h : Kept s0 s) : Kept s0 (State.safeEntry s code) := by
  unfold State.safeEntry
  repeat' first
    | with_reducible assumption
    | intro _
    | with_reducible apply setChr_kept
    | with_reducible apply abortJob_kept
    | with_reducible apply forN_kept
    | with_reducible apply dmaSafe_kept
    | with_reducible apply helSafe_kept
    | with_reducible apply evt_kept
    | with_reducible apply foldS_kept
    | with_reducible apply freeze_kept
    | with_reducible apply ite_kept
    | split
    | dsimp only

theorem critical_kept (code : Nat) (item : Nat) (h : Kept s0 s) : Kept s0 (State.critical s code item) := by
  unfold State.critical
  repeat' first
    | with_reducible assumption
    | intro _
    | with_reducible apply fault_kept
    | with_reducible apply safeEntry_kept
    | with_reducible apply ite_kept
    | split
    | dsimp only

theorem execSafeRequest_kept  (h : Kept s0 s) : KeptOut s0 (execSafeRequest s) := by
  unfold execSafeRequest
  repeat' first
    | with_reducible assumption
    | intro _
    | with_reducible apply hostWrite_kept
    | with_reducible apply guarded_kept
    | with_reducible apply critical_kept
    | with_reducible apply ite_out
    | with_reducible apply out_next
    | with_reducible apply out_fault
    | with_reducible apply ite_kept
    | split
    | dsimp only

theorem safeExit_kept  (h : Kept s0 s) : Kept s0 (State.safeExit s) := by
  unfold State.safeExit
  repeat' first
    | with_reducible assumption
    | intro _
    | with_reducible apply setChr_kept
    | with_reducible apply ackCritical_kept
    | with_reducible apply setHelSt_kept
    | with_reducible apply ite_kept
    | split
    | dsimp only

theorem safeClear_kept  (h : Kept s0 s) : Kept s0 (State.safeClear s) := by
  unfold State.safeClear
  repeat' first
    | with_reducible assumption
    | intro _
    | with_reducible apply evt_kept
    | with_reducible apply safeExit_kept
    | with_reducible apply ite_kept
    | split
    | dsimp only

theorem execSafeClear_kept (hot : Nat) (bad : Nat) (h : Kept s0 s) : KeptOut s0 (execSafeClear hot bad s) := by
  unfold execSafeClear
  repeat' first
    | with_reducible assumption
    | intro _
    | with_reducible apply hostWrite_kept
    | with_reducible apply guarded_kept
    | with_reducible apply safeClear_kept
    | with_reducible apply ite_out
    | with_reducible apply out_next
    | with_reducible apply out_fault
    | with_reducible apply ite_kept
    | split
    | dsimp only
    | with_reducible refine mk_kept ?_ (SecKept.refl _)

end Sys2Proof.Laws
end

