-- ==== Sys2Proof/Laws/KeptLinks.lean ====
section
/-! SUPPORT. Every operation of Machine/Hka.lean, Lut.lean, Evf.lean, Sec.lean, Pwr.lean, BusRead.lean, BusReset.lean, Bus.lean, Hlk.lean, Raise.lean keeps what no operation undoes (Kept.lean). -/

namespace Sys2Proof.Laws

set_option Elab.async false

open Sys2Proof.Machine

variable {s0 s t : State}

/-! ## Machine/Hka.lean -/

theorem setOpen_kept (i : Nat) (b : Bool) (h : Kept s0 s) : Kept s0 (State.setOpen s i b) := by
  unfold State.setOpen
  repeat' first
    | with_reducible assumption
    | intro _
    | with_reducible apply setFld_kept
    | with_reducible apply setFlag_kept
    | with_reducible apply ite_kept
    | split
    | dsimp only

theorem hkPut_kept (i : Nat) (v : Int) (h : Kept s0 s) : Kept s0 (State.hkPut s i v) := by
  unfold State.hkPut
  repeat' first
    | with_reducible assumption
    | intro _
    | with_reducible apply setFld_kept
    | with_reducible apply when_kept
    | with_reducible apply fault_kept
    | with_reducible apply evt_kept
    | with_reducible apply tempCheck_kept
    | with_reducible apply ite_kept
    | split
    | dsimp only

theorem hkReport_kept (kind i : Nat) (mean : Int) (h : Kept s0 s) : Kept s0 (State.hkReport s kind i mean).2 := by
  unfold State.hkReport
  split
  · exact h
  · split
    · exact useFree_kept h
    · exact h

theorem hkResult_kept (kind i : Nat) (codes : List Int) (h : Kept s0 s) : Kept s0 (State.hkResult s kind i codes) := by
  have h1 := setFlag_kept (R.HKA_RESi i) F.HKA_RESi.OVR (codes.any hkOver) (setFlag_kept (R.HKA_RESi i) F.HKA_RESi.STALE false h)
  generalize hs1 : (s.setFlag (R.HKA_RESi i) F.HKA_RESi.STALE false).setFlag (R.HKA_RESi i) F.HKA_RESi.OVR (codes.any hkOver) = s1 at h1
  unfold State.hkResult
  simp only [hs1]
  have h2 : Kept s0 { s1 with hka := { s1.hka with lastAt := tabIns s1.hka.lastAt i s1.now } } := mk_kept h1 (SecKept.refl _)
  generalize ({ s1 with hka := { s1.hka with lastAt := tabIns s1.hka.lastAt i s1.now } } : State) = s2 at h2 ⊢
  have h3 (c : Prop) [Decidable c] : Kept s0 (if c then s2.setOpen i false else s2) := ite_kept (setOpen_kept i false h2) h2
  refine ite_kept (fault_kept _ _ (evt_kept _ _ (setOpen_kept _ _ h2))) (ite_kept (h3 _) (ite_kept (h3 _) ?_))
  exact hkPut_kept _ _ (ite_kept (mk_kept (hkReport_kept _ _ _ (h3 _)) (SecKept.refl _)) (hkReport_kept _ _ _ (h3 _)))

theorem hkStart_kept  (h : Kept s0 s) : Kept s0 (State.hkStart s) := by
  unfold State.hkStart
  repeat' first
    | with_reducible assumption
    | intro _
    | with_reducible apply ite_kept
    | split
    | dsimp only
    | with_reducible refine mk_kept ?_ (SecKept.refl _)

theorem hkTurn_kept  (h : Kept s0 s) : Kept s0 (State.hkTurn s) := by
  unfold State.hkTurn
  repeat' first
    | with_reducible assumption
    | intro _
    | with_reducible apply setFld_kept
    | with_reducible apply evt_kept
    | with_reducible apply ite_kept
    | split
    | dsimp only
    | with_reducible refine mk_kept ?_ (SecKept.refl _)

theorem hkNext_kept  (h : Kept s0 s) : Kept s0 (State.hkNext s) := by
  unfold State.hkNext
  repeat' first
    | with_reducible assumption
    | intro _
    | with_reducible apply hkTurn_kept
    | with_reducible apply hkStart_kept
    | with_reducible apply urgentTake_kept
    | with_reducible apply ite_kept
    | split
    | dsimp only
    | with_reducible refine mk_kept ?_ (SecKept.refl _)

theorem execHkEntryDone_kept (x : Sys2Proof.HkIn) (t : Nat) (h : Kept s0 s) : KeptOut s0 (execHkEntryDone x t s) := by
  unfold execHkEntryDone
  repeat' first
    | with_reducible assumption
    | intro _
    | with_reducible apply hkTake_kept
    | with_reducible apply upto_kept
    | with_reducible apply hkNext_kept
    | with_reducible apply hkResult_kept
    | with_reducible apply ite_out
    | with_reducible apply out_next
    | with_reducible apply out_fault
    | with_reducible apply ite_kept
    | split
    | dsimp only

theorem urgent_kept (u : Urgent) (h : Kept s0 s) : Kept s0 (State.urgent s u) := by
  unfold State.urgent
  repeat' first
    | with_reducible assumption
    | intro _
    | with_reducible apply urgentPut_kept
    | with_reducible apply hkTake_kept
    | with_reducible apply evt_kept
    | with_reducible apply ite_kept
    | split
    | dsimp only

theorem urgentFirst_kept (u : Urgent) (h : Kept s0 s) : Kept s0 (State.urgentFirst s u) := by
  unfold State.urgentFirst
  repeat' first
    | with_reducible assumption
    | intro _
    | with_reducible apply hkTake_kept
    | with_reducible apply evtIf_kept
    | with_reducible apply urgentPull_kept
    | with_reducible apply ite_kept
    | split
    | dsimp only
    | with_reducible refine mk_kept ?_ (SecKept.refl _)

theorem urgentTask_kept  (h : Kept s0 s) : Kept s0 (State.urgentTask s) := by
  unfold State.urgentTask
  repeat' first
    | with_reducible assumption
    | intro _
    | with_reducible apply urgentFirst_kept
    | with_reducible apply evt_kept
    | with_reducible apply setFlag_kept
    | with_reducible apply ite_kept
    | split
    | dsimp only

theorem execUrgentRequest_kept (w : Sys2Proof.Word) (task : Bool) (h : Kept s0 s) : KeptOut s0 (execUrgentRequest w task s) := by
  unfold execUrgentRequest
  repeat' first
    | with_reducible assumption
    | intro _
    | with_reducible apply urgentTask_kept
    | with_reducible apply hostWrite_kept
    | with_reducible apply urgent_kept
    | with_reducible apply ite_out
    | with_reducible apply out_next
    | with_reducible apply out_fault
    | with_reducible apply ite_kept
    | split
    | dsimp only

theorem urgentNext_kept  (h : Kept s0 s) : Kept s0 (State.urgentNext s) := by
  unfold State.urgentNext
  repeat' first
    | with_reducible assumption
    | intro _
    | with_reducible apply urgentTake_kept
    | with_reducible apply hkStart_kept
    | with_reducible apply ite_kept
    | split
    | dsimp only
    | with_reducible refine mk_kept ?_ (SecKept.refl _)

theorem execUrgentDone_kept (x : Sys2Proof.HkIn) (t : Nat) (h : Kept s0 s) : KeptOut s0 (execUrgentDone x t s) := by
  unfold execUrgentDone
  repeat' first
    | with_reducible assumption
    | intro _
    | with_reducible apply hkTake_kept
    | with_reducible apply upto_kept
    | with_reducible apply hkResult_kept
    | with_reducible apply setReg_kept
    | with_reducible apply emit_kept
    | with_reducible apply evt_kept
    | with_reducible apply urgentNext_kept
    | with_reducible apply dacPoint_kept
    | with_reducible apply dacPump_kept
    | with_reducible apply ite_out
    | with_reducible apply out_next
    | with_reducible apply out_fault
    | with_reducible apply ite_kept
    | split
    | dsimp only

theorem execHkStale_kept (i : Nat) (t : Nat) (h : Kept s0 s) : KeptOut s0 (execHkStale i t s) := by
  unfold execHkStale
  repeat' first
    | with_reducible assumption
    | intro _
    | with_reducible apply upto_kept
    | with_reducible apply when_kept
    | with_reducible apply setFlag_kept
    | with_reducible apply ite_out
    | with_reducible apply out_next
    | with_reducible apply out_fault
    | with_reducible apply ite_kept
    | split
    | dsimp only

/-! ## Machine/Lut.lean -/

theorem setEvf_kept (f : Evf → Evf) (h : Kept s0 s) : Kept s0 (State.setEvf s f) := by
  unfold State.setEvf
  repeat' first
    | with_reducible assumption
    | intro _
    | with_reducible apply ite_kept
    | split
    | dsimp only
    | with_reducible refine mk_kept ?_ (SecKept.refl _)

theorem setCell_kept (n : Nat) (c : Cell) (h : Kept s0 s) : Kept s0 (State.setCell s n c) := by
  unfold State.setCell
  repeat' first
    | with_reducible assumption
    | intro _
    | with_reducible apply setEvf_kept
    | with_reducible apply ite_kept
    | split
    | dsimp only

theorem setQ_kept (n : Nat) (q : Bool) (h : Kept s0 s) : Kept s0 (State.setQ s n q) := by
  unfold State.setQ
  repeat' first
    | with_reducible assumption
    | intro _
    | with_reducible apply when_kept
    | with_reducible apply setCell_kept
    | with_reducible apply emit_kept
    | with_reducible apply ite_kept
    | split
    | dsimp only

theorem setG_kept (n : Nat) (g : Bool) (h : Kept s0 s) : Kept s0 (State.setG s n g) := by
  unfold State.setG
  repeat' first
    | with_reducible assumption
    | intro _
    | with_reducible apply setCell_kept
    | with_reducible apply setQ_kept
    | with_reducible apply useFree_kept
    | with_reducible apply ite_kept
    | split
    | dsimp only

theorem cellStep_kept (n : Nat) (h : Kept s0 s) : Kept s0 (State.cellStep s n) := by
  unfold State.cellStep
  repeat' first
    | with_reducible assumption
    | intro _
    | with_reducible apply setCell_kept
    | with_reducible apply setG_kept
    | with_reducible apply ite_kept
    | split
    | dsimp only

theorem lutPass_kept  (h : Kept s0 s) : Kept s0 (State.lutPass s) := by
  unfold State.lutPass
  repeat' first
    | with_reducible assumption
    | intro _
    | with_reducible apply forN_kept
    | with_reducible apply cellStep_kept
    | with_reducible apply ite_kept
    | split
    | dsimp only

theorem execLutFilterExpiry_kept (n : Nat) (t : Nat) (h : Kept s0 s) : KeptOut s0 (execLutFilterExpiry n t s) := by
  unfold execLutFilterExpiry
  repeat' first
    | with_reducible assumption
    | intro _
    | with_reducible apply upto_kept
    | with_reducible apply lutPass_kept
    | with_reducible apply setG_kept
    | with_reducible apply ite_out
    | with_reducible apply out_next
    | with_reducible apply out_fault
    | with_reducible apply ite_kept
    | split
    | dsimp only

theorem execLutInputChange_kept (ended : List Nat) (t : Nat) (h : Kept s0 s) : KeptOut s0 (execLutInputChange ended t s) := by
  unfold execLutInputChange
  repeat' first
    | with_reducible assumption
    | intro _
    | with_reducible apply upto_kept
    | with_reducible apply lutPass_kept
    | with_reducible apply setEvf_kept
    | with_reducible apply ite_out
    | with_reducible apply out_next
    | with_reducible apply out_fault
    | with_reducible apply ite_kept
    | split
    | dsimp only

theorem cellClock_kept (n : Nat) (h : Kept s0 s) : Kept s0 (State.cellClock s n) := by
  unfold State.cellClock
  repeat' first
    | with_reducible assumption
    | intro _
    | with_reducible apply setCell_kept
    | with_reducible apply lutPass_kept
    | with_reducible apply setQ_kept
    | with_reducible apply useFree_kept
    | with_reducible apply ite_kept
    | split
    | dsimp only

theorem cellCfg_kept (n : Nat) (w : Nat) (h : Kept s0 s) : Kept s0 (State.cellCfg s n w) := by
  unfold State.cellCfg
  repeat' first
    | with_reducible assumption
    | intro _
    | with_reducible apply setReg_kept
    | with_reducible apply cellStep_kept
    | with_reducible apply setQ_kept
    | with_reducible apply lutPass_kept
    | with_reducible apply ite_kept
    | split
    | dsimp only

theorem cellInputs_kept (n : Nat) (w : Sys2Proof.Word) (h : Kept s0 s) : Kept s0 (State.cellInputs s n w) := by
  unfold State.cellInputs
  repeat' first
    | with_reducible assumption
    | intro _
    | with_reducible apply lutPass_kept
    | with_reducible apply setReg_kept
    | with_reducible apply ite_kept
    | split
    | dsimp only

theorem eviEdge_kept (k : Nat) (level : Bool) (h : Kept s0 s) : Kept s0 (State.eviEdge s k level) := by
  unfold State.eviEdge
  repeat' first
    | with_reducible assumption
    | intro _
    | with_reducible apply lutPass_kept
    | with_reducible apply when_kept
    | with_reducible apply setEvf_kept
    | with_reducible apply emit_kept
    | with_reducible apply ite_kept
    | split
    | dsimp only

theorem execEviEdge_kept (k : Nat) (level : Bool) (t : Nat) (h : Kept s0 s) : KeptOut s0 (execEviEdge k level t s) := by
  unfold execEviEdge
  repeat' first
    | with_reducible assumption
    | intro _
    | with_reducible apply eviEdge_kept
    | with_reducible apply upto_kept
    | with_reducible apply ite_out
    | with_reducible apply out_next
    | with_reducible apply out_fault
    | with_reducible apply ite_kept
    | split
    | dsimp only

theorem setEvo_kept (k : Nat) (v : Bool × Option Nat) (h : Kept s0 s) : Kept s0 (State.setEvo s k v) := by
  unfold State.setEvo
  repeat' first
    | with_reducible assumption
    | intro _
    | with_reducible apply setEvf_kept
    | with_reducible apply ite_kept
    | split
    | dsimp only

theorem evoEvent_kept (k : Nat) (h : Kept s0 s) : Kept s0 (State.evoEvent s k) := by
  unfold State.evoEvent
  repeat' first
    | with_reducible assumption
    | intro _
    | with_reducible apply setEvo_kept
    | with_reducible apply ite_kept
    | split
    | dsimp only

theorem execEvoPulseEnd_kept (k : Nat) (t : Nat) (h : Kept s0 s) : KeptOut s0 (execEvoPulseEnd k t s) := by
  unfold execEvoPulseEnd
  repeat' first
    | with_reducible assumption
    | intro _
    | with_reducible apply upto_kept
    | with_reducible apply setEvo_kept
    | with_reducible apply ite_out
    | with_reducible apply out_next
    | with_reducible apply out_fault
    | with_reducible apply ite_kept
    | split
    | dsimp only

theorem evoWrite_kept (k : Nat) (w : Sys2Proof.Word) (h : Kept s0 s) : Kept s0 (State.evoWrite s k w) := by
  unfold State.evoWrite
  repeat' first
    | with_reducible assumption
    | intro _
    | with_reducible apply setReg_kept
    | with_reducible apply setEvo_kept
    | with_reducible apply ite_kept
    | split
    | dsimp only

/-! ## Machine/Evf.lean -/

theorem wake_kept (src : Nat) (h : Kept s0 s) : Kept s0 (State.wake s src) := by
  unfold State.wake
  repeat' first
    | with_reducible assumption
    | intro _
    | with_reducible apply ite_kept
    | split
    | dsimp only
    | with_reducible refine mk_kept ?_ (SecKept.refl _)

theorem runaway_kept (c : Nat) (h : Kept s0 s) : Kept s0 (State.runaway s c) := by
  unfold State.runaway
  repeat' first
    | with_reducible assumption
    | intro _
    | with_reducible apply fault_kept
    | with_reducible apply evt_kept
    | with_reducible apply setFlag_kept
    | with_reducible apply ite_kept
    | split
    | dsimp only

theorem unmask_kept (c : Nat) (h : Kept s0 s) : Kept s0 (State.unmask s c) := by
  unfold State.unmask
  repeat' first
    | with_reducible assumption
    | intro _
    | with_reducible apply setEvf_kept
    | with_reducible apply setFlag_kept
    | with_reducible apply ite_kept
    | split
    | dsimp only

theorem execRunawayWindow_kept (t : Nat) (h : Kept s0 s) : KeptOut s0 (execRunawayWindow t s) := by
  unfold execRunawayWindow
  repeat' first
    | with_reducible assumption
    | intro _
    | with_reducible apply upto_kept
    | with_reducible apply setEvf_kept
    | with_reducible apply ite_out
    | with_reducible apply out_next
    | with_reducible apply out_fault
    | with_reducible apply ite_kept
    | split
    | dsimp only

theorem runTask_kept (t : Nat) (h : Kept s0 s) : Kept s0 (State.runTask s t) := by
  unfold State.runTask
  repeat' first
    | with_reducible assumption
    | intro _
    | with_reducible apply evoEvent_kept
    | with_reducible apply trigger_kept
    | with_reducible apply urgentTask_kept
    | with_reducible apply stopTask_kept
    | with_reducible apply homeEvent_kept
    | with_reducible apply setEvf_kept
    | with_reducible apply capture_kept
    | with_reducible apply endCmd_kept
    | with_reducible apply wake_kept
    | with_reducible apply cellClock_kept
    | with_reducible apply evt_kept
    | with_reducible apply bump_kept
    | with_reducible apply ite_kept
    | split
    | dsimp only

theorem taskOverrun_kept (t : Nat) (h : Kept s0 s) : Kept s0 (State.taskOverrun s t) := by
  unfold State.taskOverrun
  repeat' first
    | with_reducible assumption
    | intro _
    | with_reducible apply urgentTask_kept
    | with_reducible apply evt_kept
    | with_reducible apply setFlag_kept
    | with_reducible apply ite_kept
    | split
    | dsimp only

theorem taskEvent_kept (t : Nat) (h : Kept s0 s) : Kept s0 (State.taskEvent s t) := by
  unfold State.taskEvent
  repeat' first
    | with_reducible assumption
    | intro _
    | with_reducible apply taskOverrun_kept
    | with_reducible apply runTask_kept
    | with_reducible apply setEvf_kept
    | with_reducible apply evt_kept
    | with_reducible apply setFlag_kept
    | with_reducible apply useFree_kept
    | with_reducible apply ite_kept
    | split
    | dsimp only

theorem passEvent_kept (c : Nat) (h : Kept s0 s) : Kept s0 (State.passEvent s c) := by
  unfold State.passEvent
  repeat' first
    | with_reducible assumption
    | intro _
    | with_reducible apply lutPass_kept
    | with_reducible apply setEvf_kept
    | with_reducible apply foldS_kept
    | with_reducible apply taskEvent_kept
    | with_reducible apply runaway_kept
    | with_reducible apply ite_kept
    | split
    | dsimp only

theorem chanEvent_kept (c : Nat) (soft : Bool) (h : Kept s0 s) : Kept s0 (State.chanEvent s c soft) := by
  unfold State.chanEvent
  repeat' first
    | with_reducible assumption
    | intro _
    | with_reducible apply setFlag_kept
    | with_reducible apply passEvent_kept
    | with_reducible apply ite_kept
    | split
    | dsimp only

theorem publish_kept (p : Nat) (h : Kept s0 s) : Kept s0 (State.publish s p) := by
  unfold State.publish
  repeat' first
    | with_reducible assumption
    | intro _
    | with_reducible apply chanEvent_kept
    | with_reducible apply ite_kept
    | split
    | dsimp only
    | with_reducible refine mk_kept ?_ (SecKept.refl _)

theorem execEventPublish_kept (p : Nat) (t : Nat) (h : Kept s0 s) : KeptOut s0 (execEventPublish p t s) := by
  unfold execEventPublish
  repeat' first
    | with_reducible assumption
    | intro _
    | with_reducible apply publish_kept
    | with_reducible apply upto_kept
    | with_reducible apply ite_out
    | with_reducible apply out_next
    | with_reducible apply out_fault
    | with_reducible apply ite_kept
    | split
    | dsimp only

theorem softPulse_kept (w : Nat) (h : Kept s0 s) : Kept s0 (State.softPulse s w) := by
  unfold State.softPulse
  repeat' first
    | with_reducible assumption
    | intro _
    | with_reducible apply forN_kept
    | with_reducible apply emit_kept
    | with_reducible apply ite_kept
    | split
    | dsimp only

theorem execSoftwarePulse_kept (w : Sys2Proof.Word) (h : Kept s0 s) : KeptOut s0 (execSoftwarePulse w s) := by
  unfold execSoftwarePulse
  repeat' first
    | with_reducible assumption
    | intro _
    | with_reducible apply hostWrite_kept
    | with_reducible apply softPulse_kept
    | with_reducible apply ite_out
    | with_reducible apply out_next
    | with_reducible apply out_fault
    | with_reducible apply ite_kept
    | split
    | dsimp only

theorem lockIgnored_kept  (h : Kept s0 s) : Kept s0 (State.lockIgnored s) := by
  unfold State.lockIgnored
  repeat' first
    | with_reducible assumption
    | intro _
    | with_reducible apply evt_kept
    | with_reducible apply bump_kept
    | with_reducible apply ite_kept
    | split
    | dsimp only

theorem chWrite_kept (c : Nat) (w : Nat) (h : Kept s0 s) : Kept s0 (State.chWrite s c w) := by
  unfold State.chWrite
  repeat' first
    | with_reducible assumption
    | intro _
    | with_reducible apply when_kept
    | with_reducible apply lockIgnored_kept
    | with_reducible apply setReg_kept
    | with_reducible apply setFlag_kept
    | with_reducible apply unmask_kept
    | with_reducible apply ite_kept
    | split
    | dsimp only

theorem execRunawayUnmask_kept (c : Nat) (h : Kept s0 s) : KeptOut s0 (execRunawayUnmask c s) := by
  unfold execRunawayUnmask
  repeat' first
    | with_reducible assumption
    | intro _
    | with_reducible apply hostWrite_kept
    | with_reducible apply chWrite_kept
    | with_reducible apply ite_out
    | with_reducible apply out_next
    | with_reducible apply out_fault
    | with_reducible apply ite_kept
    | split
    | dsimp only

theorem pubWrite_kept (p : Nat) (w : Nat) (h : Kept s0 s) : Kept s0 (State.pubWrite s p w) := by
  unfold State.pubWrite
  repeat' first
    | with_reducible assumption
    | intro _
    | with_reducible apply lockIgnored_kept
    | with_reducible apply setReg_kept
    | with_reducible apply ite_kept
    | split
    | dsimp only

theorem subWrite_kept (t : Nat) (w : Nat) (h : Kept s0 s) : Kept s0 (State.subWrite s t w) := by
  unfold State.subWrite
  repeat' first
    | with_reducible assumption
    | intro _
    | with_reducible apply setReg_kept
    | with_reducible apply lockIgnored_kept
    | with_reducible apply ite_kept
    | split
    | dsimp only

theorem cellCfgWrite_kept (n : Nat) (w : Nat) (h : Kept s0 s) : Kept s0 (State.cellCfgWrite s n w) := by
  unfold State.cellCfgWrite
  repeat' first
    | with_reducible assumption
    | intro _
    | with_reducible apply when_kept
    | with_reducible apply lockIgnored_kept
    | with_reducible apply cellCfg_kept
    | with_reducible apply ite_kept
    | split
    | dsimp only

theorem cellInWrite_kept (n : Nat) (w : Sys2Proof.Word) (h : Kept s0 s) : Kept s0 (State.cellInWrite s n w) := by
  unfold State.cellInWrite
  repeat' first
    | with_reducible assumption
    | intro _
    | with_reducible apply lockIgnored_kept
    | with_reducible apply cellInputs_kept
    | with_reducible apply ite_kept
    | split
    | dsimp only

theorem chLock_kept (c : Nat) (h : Kept s0 s) : Kept s0 (State.chLock s c) := by
  unfold State.chLock
  repeat' first
    | with_reducible assumption
    | intro _
    | with_reducible apply lockIgnored_kept
    | with_reducible apply setFlag_kept
    | with_reducible apply ite_kept
    | split
    | dsimp only

theorem execChannelLock_kept (c : Nat) (h : Kept s0 s) : KeptOut s0 (execChannelLock c s) := by
  unfold execChannelLock
  repeat' first
    | with_reducible assumption
    | intro _
    | with_reducible apply hostWrite_kept
    | with_reducible apply guarded_kept
    | with_reducible apply chLock_kept
    | with_reducible apply ite_out
    | with_reducible apply out_next
    | with_reducible apply out_fault
    | with_reducible apply ite_kept
    | split
    | dsimp only

theorem execCellLock_kept (n : Nat) (h : Kept s0 s) : KeptOut s0 (execCellLock n s) := by
  unfold execCellLock
  repeat' first
    | with_reducible assumption
    | intro _
    | with_reducible apply hostWrite_kept
    | with_reducible apply guarded_kept
    | with_reducible apply setFlag_kept
    | with_reducible apply ite_out
    | with_reducible apply out_next
    | with_reducible apply out_fault
    | with_reducible apply ite_kept
    | split
    | dsimp only

theorem evfSoftReset_kept  (h : Kept s0 s) : Kept s0 (State.evfSoftReset s) := by
  unfold State.evfSoftReset
  repeat' first
    | with_reducible assumption
    | intro _
    | with_reducible apply foldS_kept
    | with_reducible apply setReg_kept
    | with_reducible apply setEvf_kept
    | with_reducible apply lutPass_kept
    | with_reducible apply forN_kept
    | with_reducible apply setQ_kept
    | with_reducible apply ite_kept
    | split
    | dsimp only

/-! ## Machine/Sec.lean -/

theorem mbxWrite_kept (w : Sys2Proof.Word) (h : Kept s0 s) : Kept s0 (State.mbxWrite s w) := by
  unfold State.mbxWrite
  repeat' first
    | with_reducible assumption
    | intro _
    | with_reducible refine setSec_kept ⟨Nat.le_refl _, id⟩ ?_
    | with_reducible apply evt_kept
    | with_reducible apply setFlag_kept
    | with_reducible apply setReg_kept
    | with_reducible apply setSec_kept
    | with_reducible apply ite_kept
    | split
    | dsimp only

theorem execMbxVersion_kept (seq : Nat) (h : Kept s0 s) : KeptOut s0 (execMbxVersion seq s) := by
  unfold execMbxVersion
  repeat' first
    | with_reducible assumption
    | intro _
    | with_reducible apply hostWrite_kept
    | with_reducible apply mbxWrite_kept
    | with_reducible apply ite_out
    | with_reducible apply out_next
    | with_reducible apply out_fault
    | with_reducible apply ite_kept
    | split
    | dsimp only

theorem execMbxPreadmit_kept (seq : Nat) (h : Kept s0 s) : KeptOut s0 (execMbxPreadmit seq s) := by
  unfold execMbxPreadmit
  repeat' first
    | with_reducible assumption
    | intro _
    | with_reducible apply hostWrite_kept
    | with_reducible apply mbxWrite_kept
    | with_reducible apply ite_out
    | with_reducible apply out_next
    | with_reducible apply out_fault
    | with_reducible apply ite_kept
    | split
    | dsimp only

theorem execMbxCorestat_kept (seq : Nat) (h : Kept s0 s) : KeptOut s0 (execMbxCorestat seq s) := by
  unfold execMbxCorestat
  repeat' first
    | with_reducible assumption
    | intro _
    | with_reducible apply hostWrite_kept
    | with_reducible apply mbxWrite_kept
    | with_reducible apply ite_out
    | with_reducible apply out_next
    | with_reducible apply out_fault
    | with_reducible apply ite_kept
    | split
    | dsimp only

theorem execMbxUnknown_kept (seq : Nat) (cmd : Nat) (h : Kept s0 s) : KeptOut s0 (execMbxUnknown seq cmd s) := by
  unfold execMbxUnknown
  repeat' first
    | with_reducible assumption
    | intro _
    | with_reducible apply hostWrite_kept
    | with_reducible apply mbxWrite_kept
    | with_reducible apply ite_out
    | with_reducible apply out_next
    | with_reducible apply out_fault
    | with_reducible apply ite_kept
    | split
    | dsimp only

theorem mbxDone_kept  (h : Kept s0 s) : Kept s0 (State.mbxDone s) := by
  unfold State.mbxDone
  repeat' first
    | with_reducible assumption
    | intro _
    | with_reducible refine setSec_kept ⟨Nat.le_refl _, id⟩ ?_
    | with_reducible apply foldS_kept
    | with_reducible apply setReg_kept
    | with_reducible apply evt_kept
    | with_reducible apply skipFree_kept
    | with_reducible apply setSec_kept
    | with_reducible apply ite_kept
    | split
    | dsimp only

theorem execMbxReply_kept (t : Nat) (h : Kept s0 s) : KeptOut s0 (execMbxReply t s) := by
  unfold execMbxReply
  repeat' first
    | with_reducible assumption
    | intro _
    | with_reducible apply mbxDone_kept
    | with_reducible apply upto_kept
    | with_reducible apply ite_out
    | with_reducible apply out_next
    | with_reducible apply out_fault
    | with_reducible apply ite_kept
    | split
    | dsimp only

theorem fieldLock_kept (h : Kept s0 s) : Kept s0 (State.fieldLock s) :=
  setSec_kept ⟨Nat.le_refl _, fun _ => rfl⟩ h

theorem execFieldLock_kept  (h : Kept s0 s) : KeptOut s0 (execFieldLock s) := by
  unfold execFieldLock
  repeat' first
    | with_reducible assumption
    | intro _
    | with_reducible apply hostWrite_kept
    | with_reducible apply guarded_kept
    | with_reducible apply fieldLock_kept
    | with_reducible apply ite_out
    | with_reducible apply out_next
    | with_reducible apply out_fault
    | with_reducible apply ite_kept
    | split
    | dsimp only

theorem debugOpen_kept  (h : Kept s0 s) : Kept s0 (State.debugOpen s) := by
  unfold State.debugOpen
  repeat' first
    | with_reducible assumption
    | intro _
    | with_reducible refine setSec_kept ⟨Nat.le_refl _, id⟩ ?_
    | with_reducible apply setSec_kept
    | with_reducible apply ite_kept
    | split
    | dsimp only

theorem execDebugOpen_kept (w : Sys2Proof.Word) (h : Kept s0 s) : KeptOut s0 (execDebugOpen w s) := by
  unfold execDebugOpen
  repeat' first
    | with_reducible assumption
    | intro _
    | with_reducible apply hostWrite_kept
    | with_reducible apply guarded_kept
    | with_reducible apply setFld_kept
    | with_reducible apply debugOpen_kept
    | with_reducible apply ite_out
    | with_reducible apply out_next
    | with_reducible apply out_fault
    | with_reducible apply ite_kept
    | split
    | dsimp only

theorem debugClose_kept  (h : Kept s0 s) : Kept s0 (State.debugClose s) := by
  unfold State.debugClose
  repeat' first
    | with_reducible assumption
    | intro _
    | with_reducible refine setSec_kept ⟨Nat.le_refl _, id⟩ ?_
    | with_reducible apply setSec_kept
    | with_reducible apply ite_kept
    | split
    | dsimp only

theorem execDebugClose_kept  (h : Kept s0 s) : KeptOut s0 (execDebugClose s) := by
  unfold execDebugClose
  repeat' first
    | with_reducible assumption
    | intro _
    | with_reducible apply hostWrite_kept
    | with_reducible apply debugClose_kept
    | with_reducible apply ite_out
    | with_reducible apply out_next
    | with_reducible apply out_fault
    | with_reducible apply ite_kept
    | split
    | dsimp only

theorem debugNonce_kept (nonce : List Sys2Proof.Word) (h : Kept s0 s) : Kept s0 (State.debugNonce s nonce) := by
  unfold State.debugNonce
  repeat' first
    | with_reducible assumption
    | intro _
    | with_reducible refine setSec_kept ⟨Nat.le_refl _, id⟩ ?_
    | with_reducible apply opIgnored_kept
    | with_reducible apply setSec_kept
    | with_reducible apply forN_kept
    | with_reducible apply setReg_kept
    | with_reducible apply ite_kept
    | split
    | dsimp only

theorem execDebugNonce_kept (nonce : List Sys2Proof.Word) (t : Nat) (h : Kept s0 s) : KeptOut s0 (execDebugNonce nonce t s) := by
  unfold execDebugNonce
  repeat' first
    | with_reducible assumption
    | intro _
    | with_reducible apply hostWrite_kept
    | with_reducible apply upto_kept
    | with_reducible apply debugNonce_kept
    | with_reducible apply ite_out
    | with_reducible apply out_next
    | with_reducible apply out_fault
    | with_reducible apply ite_kept
    | split
    | dsimp only

theorem debugUnlock_kept  (h : Kept s0 s) : Kept s0 (State.debugUnlock s) := by
  unfold State.debugUnlock
  repeat' first
    | with_reducible assumption
    | intro _
    | with_reducible refine setSec_kept ⟨Nat.le_refl _, id⟩ ?_
    | with_reducible apply setSec_kept
    | with_reducible apply setAttn_kept
    | with_reducible apply evt_kept
    | with_reducible apply fault_kept
    | with_reducible apply ite_kept
    | split
    | dsimp only

theorem execDebugUnlock_kept (t : Nat) (h : Kept s0 s) : KeptOut s0 (execDebugUnlock t s) := by
  unfold execDebugUnlock
  repeat' first
    | with_reducible assumption
    | intro _
    | with_reducible apply hostWrite_kept
    | with_reducible apply upto_kept
    | with_reducible apply debugUnlock_kept
    | with_reducible apply ite_out
    | with_reducible apply out_next
    | with_reducible apply out_fault
    | with_reducible apply ite_kept
    | split
    | dsimp only

theorem attest_kept  (h : Kept s0 s) : Kept s0 (State.attest s) := by
  unfold State.attest
  repeat' first
    | with_reducible assumption
    | intro _
    | with_reducible refine setSec_kept ⟨Nat.le_refl _, id⟩ ?_
    | with_reducible apply setSec_kept
    | with_reducible apply ite_kept
    | split
    | dsimp only
    | with_reducible refine mk_kept ?_ (SecKept.refl _)

theorem execAttest_kept  (h : Kept s0 s) : KeptOut s0 (execAttest s) := by
  unfold execAttest
  repeat' first
    | with_reducible assumption
    | intro _
    | with_reducible apply hostWrite_kept
    | with_reducible apply attest_kept
    | with_reducible apply ite_out
    | with_reducible apply out_next
    | with_reducible apply out_fault
    | with_reducible apply ite_kept
    | split
    | dsimp only

theorem attestDone_kept  (h : Kept s0 s) : Kept s0 (State.attestDone s) := by
  unfold State.attestDone
  repeat' first
    | with_reducible assumption
    | intro _
    | with_reducible refine setSec_kept ⟨Nat.le_refl _, id⟩ ?_
    | with_reducible apply setSec_kept
    | with_reducible apply ite_kept
    | split
    | dsimp only
    | with_reducible refine mk_kept ?_ (SecKept.refl _)

theorem execAttestDone_kept (t : Nat) (h : Kept s0 s) : KeptOut s0 (execAttestDone t s) := by
  unfold execAttestDone
  repeat' first
    | with_reducible assumption
    | intro _
    | with_reducible apply attestDone_kept
    | with_reducible apply upto_kept
    | with_reducible apply ite_out
    | with_reducible apply out_next
    | with_reducible apply out_fault
    | with_reducible apply ite_kept
    | split
    | dsimp only

theorem reportRead_kept  (h : Kept s0 s) : Kept s0 (State.reportRead s).1 := by
  unfold State.reportRead
  repeat' first
    | with_reducible assumption
    | intro _
    | with_reducible refine setSec_kept ⟨Nat.le_refl _, id⟩ ?_
    | with_reducible apply setSec_kept
    | with_reducible apply ite_kept
    | split
    | dsimp only
    | with_reducible exact Kept.refl _

theorem execReportWordRead_kept  (h : Kept s0 s) : KeptOut s0 (execReportWordRead s) := by
  unfold execReportWordRead
  repeat' first
    | with_reducible assumption
    | intro _
    | with_reducible apply reportRead_kept
    | with_reducible apply send_kept
    | with_reducible apply ite_out
    | with_reducible apply out_next
    | with_reducible apply out_fault
    | with_reducible apply ite_kept
    | split
    | dsimp only
    | with_reducible refine of_fst ?_ ‹_ = (_, _)›

theorem secOp_kept (w : Nat) (nonce : List Sys2Proof.Word) (h : Kept s0 s) : Kept s0 (State.secOp s w nonce) := by
  unfold State.secOp
  repeat' first
    | with_reducible assumption
    | intro _
    | with_reducible apply imageVerify_kept
    | with_reducible apply imageAbort_kept
    | with_reducible apply debugNonce_kept
    | with_reducible apply debugUnlock_kept
    | with_reducible apply attest_kept
    | with_reducible apply opIgnored_kept
    | with_reducible apply ite_kept
    | split
    | dsimp only

theorem secKop_kept (w : Nat) (h : Kept s0 s) : Kept s0 (State.secKop s w) := by
  unfold State.secKop
  repeat' first
    | with_reducible assumption
    | intro _
    | with_reducible apply imageBegin_kept
    | with_reducible apply otpCommit_kept
    | with_reducible apply firmwareSwap_kept
    | with_reducible apply fieldLock_kept
    | with_reducible apply opIgnored_kept
    | with_reducible apply ite_kept
    | split
    | dsimp only

theorem secSoftReset_kept  (h : Kept s0 s) : Kept s0 (State.secSoftReset s) := by
  unfold State.secSoftReset
  repeat' first
    | with_reducible assumption
    | intro _
    | with_reducible refine setSec_kept ⟨Nat.le_refl _, id⟩ ?_
    | with_reducible apply setSec_kept
    | with_reducible apply loadEnd_kept
    | with_reducible apply foldS_kept
    | with_reducible apply setReg_kept
    | with_reducible apply ite_kept
    | split
    | dsimp only

/-! ## Machine/Pwr.lean -/

theorem setPwr_kept (f : Pwr → Pwr) (h : Kept s0 s) : Kept s0 (State.setPwr s f) := by
  unfold State.setPwr
  repeat' first
    | with_reducible assumption
    | intro _
    | with_reducible apply ite_kept
    | split
    | dsimp only
    | with_reducible refine mk_kept ?_ (SecKept.refl _)

theorem outside_queue (s r : State) : (s.outside r).pending = s.pending := rfl

theorem powerOn_kept (h : Kept s0 s) : Kept s0 (State.powerOn s) :=
  h.trans ⟨rfl, fun _ => rfl, fun _ => rfl, fun _ => rfl, fun _ => rfl, Nat.le_refl _, id⟩

theorem execPowerOnReset_kept  (h : Kept s0 s) : KeptOut s0 (execPowerOnReset s) := by
  unfold execPowerOnReset
  repeat' first
    | with_reducible assumption
    | intro _
    | with_reducible apply powerOn_kept
    | with_reducible apply ite_out
    | with_reducible apply out_next
    | with_reducible apply out_fault
    | with_reducible apply ite_kept
    | split
    | dsimp only

theorem warmBase_kept (cause : Nat) (h : Kept s0 s) : Kept s0 (State.warmBase s cause) := by
  refine h.trans ?_
  unfold State.warmBase
  have k {w : State} (hq : w.pending = s.pending) (hb : w.bar2 = s.bar2) (hr : w.regs = []) (hp : w.pend = [])
      (hh : w.hdrs = []) (ho : w.sec.otp = s.sec.otp) (hf : w.sec.field = s.sec.field) : Kept s w :=
    ⟨hq, fun m => hb ▸ m, fun _ => hr ▸ rfl, fun _ => hp ▸ rfl, fun _ => hh ▸ rfl, Nat.le_of_eq ho.symm, fun m => hf ▸ m⟩
  exact k rfl rfl rfl rfl rfl rfl rfl

theorem warmed_kept (cause : Nat) (h : Kept s0 s) : Kept s0 (State.warmed s cause) := by
  unfold State.warmed
  repeat' first
    | with_reducible assumption
    | intro _
    | with_reducible apply showFft_kept
    | with_reducible apply when_kept
    | with_reducible apply setReg_kept
    | with_reducible apply warmBase_kept
    | with_reducible apply ite_kept
    | split
    | dsimp only

theorem warmReset_kept (cause : Nat) (h : Kept s0 s) : Kept s0 (State.warmReset s cause) := by
  unfold State.warmReset
  repeat' first
    | with_reducible assumption
    | intro _
    | with_reducible apply warmed_kept
    | with_reducible apply ackCritical_kept
    | with_reducible apply foldS_kept
    | with_reducible apply freeze_kept
    | with_reducible apply abortJob_kept
    | with_reducible apply ite_kept
    | split
    | dsimp only

theorem execGlobalSoftReset_kept  (h : Kept s0 s) : KeptOut s0 (execGlobalSoftReset s) := by
  unfold execGlobalSoftReset
  repeat' first
    | with_reducible assumption
    | intro _
    | with_reducible apply hostWrite_kept
    | with_reducible apply guarded_kept
    | with_reducible apply warmReset_kept
    | with_reducible apply ite_out
    | with_reducible apply out_next
    | with_reducible apply out_fault
    | with_reducible apply ite_kept
    | split
    | dsimp only

theorem perstFall_kept  (h : Kept s0 s) : Kept s0 (State.perstFall s) := by
  unfold State.perstFall
  repeat' first
    | with_reducible assumption
    | intro _
    | with_reducible apply warmReset_kept
    | with_reducible apply setHlk_kept
    | with_reducible apply showLink_kept
    | with_reducible apply cfgReset_kept
    | with_reducible apply ite_kept
    | split
    | dsimp only

theorem execPerstFall_kept (t : Nat) (h : Kept s0 s) : KeptOut s0 (execPerstFall t s) := by
  unfold execPerstFall
  repeat' first
    | with_reducible assumption
    | intro _
    | with_reducible apply perstFall_kept
    | with_reducible apply upto_kept
    | with_reducible apply ite_out
    | with_reducible apply out_next
    | with_reducible apply out_fault
    | with_reducible apply ite_kept
    | split
    | dsimp only

theorem perstRise_kept  (h : Kept s0 s) : Kept s0 (State.perstRise s) := by
  unfold State.perstRise
  repeat' first
    | with_reducible assumption
    | intro _
    | with_reducible apply setHlk_kept
    | with_reducible apply ite_kept
    | split
    | dsimp only

theorem execPerstRise_kept (t : Nat) (h : Kept s0 s) : KeptOut s0 (execPerstRise t s) := by
  unfold execPerstRise
  repeat' first
    | with_reducible assumption
    | intro _
    | with_reducible apply perstRise_kept
    | with_reducible apply upto_kept
    | with_reducible apply ite_out
    | with_reducible apply out_next
    | with_reducible apply out_fault
    | with_reducible apply ite_kept
    | split
    | dsimp only

theorem hotReset_kept  (h : Kept s0 s) : Kept s0 (State.hotReset s) := by
  unfold State.hotReset
  repeat' first
    | with_reducible assumption
    | intro _
    | with_reducible apply setHlk_kept
    | with_reducible apply cfgReset_kept
    | with_reducible apply dlDown_kept
    | with_reducible apply ite_kept
    | split
    | dsimp only

theorem execHotReset_kept (t : Nat) (h : Kept s0 s) : KeptOut s0 (execHotReset t s) := by
  unfold execHotReset
  repeat' first
    | with_reducible assumption
    | intro _
    | with_reducible apply hotReset_kept
    | with_reducible apply upto_kept
    | with_reducible apply ite_out
    | with_reducible apply out_next
    | with_reducible apply out_fault
    | with_reducible apply ite_kept
    | split
    | dsimp only

theorem bootStart_kept (straps : Nat) (h : Kept s0 s) : Kept s0 (State.bootStart s straps) := by
  unfold State.bootStart
  repeat' first
    | with_reducible assumption
    | intro _
    | with_reducible refine setSec_kept ⟨Nat.le_refl _, id⟩ ?_
    | with_reducible apply setFlag_kept
    | with_reducible apply setPwr_kept
    | with_reducible apply setSec_kept
    | with_reducible apply setHlk_kept
    | with_reducible apply ite_kept
    | split
    | dsimp only
    | with_reducible refine mk_kept ?_ (SecKept.refl _)

theorem execBootStart_kept (straps : Nat) (h : Kept s0 s) : KeptOut s0 (execBootStart straps s) := by
  unfold execBootStart
  repeat' first
    | with_reducible assumption
    | intro _
    | with_reducible apply bootStart_kept
    | with_reducible apply ite_out
    | with_reducible apply out_next
    | with_reducible apply out_fault
    | with_reducible apply ite_kept
    | split
    | dsimp only

theorem storeTrained_kept (gb : Nat) (mts : Nat) (h : Kept s0 s) : Kept s0 (State.storeTrained s gb mts) := by
  unfold State.storeTrained
  repeat' first
    | with_reducible assumption
    | intro _
    | with_reducible apply setPwr_kept
    | with_reducible apply fault_kept
    | with_reducible apply setFld_kept
    | with_reducible apply ite_kept
    | split
    | dsimp only

theorem execStoreTrained_kept (gb : Nat) (mts : Nat) (t : Nat) (h : Kept s0 s) : KeptOut s0 (execStoreTrained gb mts t s) := by
  unfold execStoreTrained
  repeat' first
    | with_reducible assumption
    | intro _
    | with_reducible apply storeTrained_kept
    | with_reducible apply upto_kept
    | with_reducible apply ite_out
    | with_reducible apply out_next
    | with_reducible apply out_fault
    | with_reducible apply ite_kept
    | split
    | dsimp only

theorem bootJudge_kept (i : Nat) (r : Nat) (h : Kept s0 s) : Kept s0 (State.bootJudge s i r) := by
  unfold State.bootJudge
  repeat' first
    | with_reducible assumption
    | intro _
    | with_reducible apply imageRejected_kept
    | with_reducible apply ite_kept
    | split
    | dsimp only

theorem bootImage_kept (okA : Bool) (okB : Bool) (ack : Bool) (h : Kept s0 s) : Kept s0 (State.bootImage s okA okB ack) := by
  unfold State.bootImage
  repeat' first
    | with_reducible assumption
    | intro _
    | with_reducible refine setSec_kept ⟨Nat.le_refl _, id⟩ ?_
    | with_reducible apply setSec_kept
    | with_reducible apply showVersion_kept
    | with_reducible apply imageStart_kept
    | with_reducible apply bootJudge_kept
    | with_reducible apply ite_kept
    | split
    | dsimp only

theorem execBootImageVerified_kept (okA : Bool) (okB : Bool) (ack : Bool) (t : Nat) (h : Kept s0 s) : KeptOut s0 (execBootImageVerified okA okB ack t s) := by
  unfold execBootImageVerified
  repeat' first
    | with_reducible assumption
    | intro _
    | with_reducible apply bootImage_kept
    | with_reducible apply upto_kept
    | with_reducible apply ite_out
    | with_reducible apply out_next
    | with_reducible apply out_fault
    | with_reducible apply ite_kept
    | split
    | dsimp only

theorem ready_kept  (h : Kept s0 s) : Kept s0 (State.ready s) := by
  unfold State.ready
  repeat' first
    | with_reducible assumption
    | intro _
    | with_reducible apply coresReady_kept
    | with_reducible apply setReg_kept
    | with_reducible apply setPwr_kept
    | with_reducible apply evt_kept
    | with_reducible apply when_kept
    | with_reducible apply setFld_kept
    | with_reducible apply ite_kept
    | split
    | dsimp only

theorem execReady_kept (t : Nat) (h : Kept s0 s) : KeptOut s0 (execReady t s) := by
  unfold execReady
  repeat' first
    | with_reducible assumption
    | intro _
    | with_reducible apply ready_kept
    | with_reducible apply upto_kept
    | with_reducible apply ite_out
    | with_reducible apply out_next
    | with_reducible apply out_fault
    | with_reducible apply ite_kept
    | split
    | dsimp only

theorem showReq_kept (q : Nat) (h : Kept s0 s) : Kept s0 (State.showReq s q) := by
  unfold State.showReq
  repeat' first
    | with_reducible assumption
    | intro _
    | with_reducible apply setFld_kept
    | with_reducible apply ite_kept
    | split
    | dsimp only

theorem sleepRequest_kept (q : Nat) (d3 : Bool) (h : Kept s0 s) : Kept s0 (State.sleepRequest s q d3) := by
  unfold State.sleepRequest
  repeat' first
    | with_reducible assumption
    | intro _
    | with_reducible apply evt_kept
    | with_reducible apply showReq_kept
    | with_reducible apply setPwr_kept
    | with_reducible apply ite_kept
    | split
    | dsimp only

theorem pwrRequest_kept (q : Nat) (h : Kept s0 s) : Kept s0 (State.pwrRequest s q) := by
  unfold State.pwrRequest
  repeat' first
    | with_reducible assumption
    | intro _
    | with_reducible apply sleepRequest_kept
    | with_reducible apply wake_kept
    | with_reducible apply showReq_kept
    | with_reducible apply ite_kept
    | split
    | dsimp only

theorem execStandbyRequest_kept  (h : Kept s0 s) : KeptOut s0 (execStandbyRequest s) := by
  unfold execStandbyRequest
  repeat' first
    | with_reducible assumption
    | intro _
    | with_reducible apply hostWrite_kept
    | with_reducible apply pwrRequest_kept
    | with_reducible apply ite_out
    | with_reducible apply out_next
    | with_reducible apply out_fault
    | with_reducible apply ite_kept
    | split
    | dsimp only

theorem execDeepSleepRequest_kept  (h : Kept s0 s) : KeptOut s0 (execDeepSleepRequest s) := by
  unfold execDeepSleepRequest
  repeat' first
    | with_reducible assumption
    | intro _
    | with_reducible apply hostWrite_kept
    | with_reducible apply pwrRequest_kept
    | with_reducible apply ite_out
    | with_reducible apply out_next
    | with_reducible apply out_fault
    | with_reducible apply ite_kept
    | split
    | dsimp only

theorem execReadyRequest_kept  (h : Kept s0 s) : KeptOut s0 (execReadyRequest s) := by
  unfold execReadyRequest
  repeat' first
    | with_reducible assumption
    | intro _
    | with_reducible apply hostWrite_kept
    | with_reducible apply pwrRequest_kept
    | with_reducible apply ite_out
    | with_reducible apply out_next
    | with_reducible apply out_fault
    | with_reducible apply ite_kept
    | split
    | dsimp only

theorem d3Entry_kept  (h : Kept s0 s) : Kept s0 (State.d3Entry s) := by
  unfold State.d3Entry
  repeat' first
    | with_reducible assumption
    | intro _
    | with_reducible apply setHlk_kept
    | with_reducible apply sleepRequest_kept
    | with_reducible apply ite_kept
    | split
    | dsimp only

theorem execD3hotEntry_kept  (h : Kept s0 s) : KeptOut s0 (execD3hotEntry s) := by
  unfold execD3hotEntry
  repeat' first
    | with_reducible assumption
    | intro _
    | with_reducible apply d3Entry_kept
    | with_reducible apply ite_out
    | with_reducible apply out_next
    | with_reducible apply out_fault
    | with_reducible apply ite_kept
    | split
    | dsimp only

theorem d0Return_kept  (h : Kept s0 s) : Kept s0 (State.d0Return s) := by
  unfold State.d0Return
  repeat' first
    | with_reducible assumption
    | intro _
    | with_reducible apply setHlk_kept
    | with_reducible apply wake_kept
    | with_reducible apply showReq_kept
    | with_reducible apply ite_kept
    | split
    | dsimp only

theorem execD0Return_kept  (h : Kept s0 s) : KeptOut s0 (execD0Return s) := by
  unfold execD0Return
  repeat' first
    | with_reducible assumption
    | intro _
    | with_reducible apply d0Return_kept
    | with_reducible apply ite_out
    | with_reducible apply out_next
    | with_reducible apply out_fault
    | with_reducible apply ite_kept
    | split
    | dsimp only

theorem sleepNow_kept  (h : Kept s0 s) : Kept s0 (State.sleepNow s) := by
  unfold State.sleepNow
  repeat' first
    | with_reducible assumption
    | intro _
    | with_reducible apply setCores_kept
    | with_reducible apply dlDown_kept
    | with_reducible apply setPwr_kept
    | with_reducible apply setHlk_kept
    | with_reducible apply ite_kept
    | split
    | dsimp only

theorem stepDone_kept  (h : Kept s0 s) : Kept s0 (State.stepDone s) := by
  unfold State.stepDone
  repeat' first
    | with_reducible assumption
    | intro _
    | with_reducible apply setPwr_kept
    | with_reducible apply ite_kept
    | split
    | dsimp only

theorem sleepStep_kept  (h : Kept s0 s) : Kept s0 (State.sleepStep s) := by
  unfold State.sleepStep
  repeat' first
    | with_reducible assumption
    | intro _
    | with_reducible apply stepDone_kept
    | with_reducible apply idleStop_kept
    | with_reducible apply lampDisable_kept
    | with_reducible apply foldS_kept
    | with_reducible apply freeze_kept
    | with_reducible apply sleepNow_kept
    | with_reducible apply ite_kept
    | split
    | dsimp only

theorem execSleepEntryStep_kept (t : Nat) (h : Kept s0 s) : KeptOut s0 (execSleepEntryStep t s) := by
  unfold execSleepEntryStep
  repeat' first
    | with_reducible assumption
    | intro _
    | with_reducible apply sleepStep_kept
    | with_reducible apply upto_kept
    | with_reducible apply ite_out
    | with_reducible apply out_next
    | with_reducible apply out_fault
    | with_reducible apply ite_kept
    | split
    | dsimp only

theorem wakeDone_kept  (h : Kept s0 s) : Kept s0 (State.wakeDone s) := by
  unfold State.wakeDone
  repeat' first
    | with_reducible assumption
    | intro _
    | with_reducible apply setPwr_kept
    | with_reducible apply coresReady_kept
    | with_reducible apply showReq_kept
    | with_reducible apply setFld_kept
    | with_reducible apply setHlk_kept
    | with_reducible apply evt_kept
    | with_reducible apply ite_kept
    | split
    | dsimp only

theorem execWakeDone_kept (t : Nat) (h : Kept s0 s) : KeptOut s0 (execWakeDone t s) := by
  unfold execWakeDone
  repeat' first
    | with_reducible assumption
    | intro _
    | with_reducible apply wakeDone_kept
    | with_reducible apply upto_kept
    | with_reducible apply ite_out
    | with_reducible apply out_next
    | with_reducible apply out_fault
    | with_reducible apply ite_kept
    | split
    | dsimp only

theorem warmCh_kept (c : Nat) (h : Kept s0 s) : Kept s0 (State.warmCh s c) := by
  unfold State.warmCh
  repeat' first
    | with_reducible assumption
    | intro _
    | with_reducible apply setCh_kept
    | with_reducible apply ite_kept
    | split
    | dsimp only

theorem vsens_kept (b : Nat) (up : Bool) (h : Kept s0 s) : Kept s0 (State.vsens s b up) := by
  unfold State.vsens
  repeat' first
    | with_reducible assumption
    | intro _
    | with_reducible apply setFld_kept
    | with_reducible apply when_kept
    | with_reducible apply forN_kept
    | with_reducible apply warmCh_kept
    | with_reducible apply evt_kept
    | with_reducible apply ite_kept
    | split
    | dsimp only

theorem execVsensChange_kept (b : Nat) (up : Bool) (t : Nat) (h : Kept s0 s) : KeptOut s0 (execVsensChange b up t s) := by
  unfold execVsensChange
  repeat' first
    | with_reducible assumption
    | intro _
    | with_reducible apply vsens_kept
    | with_reducible apply upto_kept
    | with_reducible apply ite_out
    | with_reducible apply out_next
    | with_reducible apply out_fault
    | with_reducible apply ite_kept
    | split
    | dsimp only

theorem refLoss_kept  (h : Kept s0 s) : Kept s0 (State.refLoss s) := by
  unfold State.refLoss
  repeat' first
    | with_reducible assumption
    | intro _
    | with_reducible apply evt_kept
    | with_reducible apply setFlag_kept
    | with_reducible apply setMer_kept
    | with_reducible apply pclkUnlock_kept
    | with_reducible apply ite_kept
    | split
    | dsimp only

theorem execRefLoss_kept (t : Nat) (h : Kept s0 s) : KeptOut s0 (execRefLoss t s) := by
  unfold execRefLoss
  repeat' first
    | with_reducible assumption
    | intro _
    | with_reducible apply refLoss_kept
    | with_reducible apply upto_kept
    | with_reducible apply ite_out
    | with_reducible apply out_next
    | with_reducible apply out_fault
    | with_reducible apply ite_kept
    | split
    | dsimp only

theorem refReturn_kept  (h : Kept s0 s) : Kept s0 (State.refReturn s) := by
  unfold State.refReturn
  repeat' first
    | with_reducible assumption
    | intro _
    | with_reducible apply evt_kept
    | with_reducible apply setMer_kept
    | with_reducible apply setFlag_kept
    | with_reducible apply ite_kept
    | split
    | dsimp only

theorem execRefReturn_kept (t : Nat) (h : Kept s0 s) : KeptOut s0 (execRefReturn t s) := by
  unfold execRefReturn
  repeat' first
    | with_reducible assumption
    | intro _
    | with_reducible apply refReturn_kept
    | with_reducible apply upto_kept
    | with_reducible apply ite_out
    | with_reducible apply out_next
    | with_reducible apply out_fault
    | with_reducible apply ite_kept
    | split
    | dsimp only

theorem supplyBad_kept (i : Nat) (h : Kept s0 s) : Kept s0 (State.supplyBad s i) := by
  unfold State.supplyBad
  repeat' first
    | with_reducible assumption
    | intro _
    | with_reducible apply critical_kept
    | with_reducible apply setPwr_kept
    | with_reducible apply ite_kept
    | split
    | dsimp only

theorem execSupplyOutOfRange_kept (i : Nat) (t : Nat) (h : Kept s0 s) : KeptOut s0 (execSupplyOutOfRange i t s) := by
  unfold execSupplyOutOfRange
  repeat' first
    | with_reducible assumption
    | intro _
    | with_reducible apply supplyBad_kept
    | with_reducible apply upto_kept
    | with_reducible apply ite_out
    | with_reducible apply out_next
    | with_reducible apply out_fault
    | with_reducible apply ite_kept
    | split
    | dsimp only

theorem dieHot_kept (i : Nat) (h : Kept s0 s) : Kept s0 (State.dieHot s i) := by
  unfold State.dieHot
  repeat' first
    | with_reducible assumption
    | intro _
    | with_reducible apply critical_kept
    | with_reducible apply setPwr_kept
    | with_reducible apply ite_kept
    | split
    | dsimp only

theorem execDieOvertemp_kept (i : Nat) (t : Nat) (h : Kept s0 s) : KeptOut s0 (execDieOvertemp i t s) := by
  unfold execDieOvertemp
  repeat' first
    | with_reducible assumption
    | intro _
    | with_reducible apply dieHot_kept
    | with_reducible apply upto_kept
    | with_reducible apply ite_out
    | with_reducible apply out_next
    | with_reducible apply out_fault
    | with_reducible apply ite_kept
    | split
    | dsimp only

/-! ## Machine/BusRead.lean -/

theorem readEffect_kept (a : Nat) (h : Kept s0 s) : Kept s0 (State.readEffect s a) := by
  unfold State.readEffect
  repeat' first
    | with_reducible assumption
    | intro _
    | with_reducible apply reportRead_kept
    | with_reducible apply useFree_kept
    | with_reducible apply ite_kept
    | split
    | dsimp only
    | with_reducible refine of_fst ?_ ‹_ = (_, _)›

theorem busRead_kept (a : Nat) (h : Kept s0 s) : Kept s0 (State.busRead s a).1 := by
  unfold State.busRead
  repeat' first
    | with_reducible assumption
    | intro _
    | with_reducible apply readEffect_kept
    | with_reducible apply ite_kept
    | split
    | dsimp only
    | with_reducible exact Kept.refl _

/-! ## Machine/BusReset.lean -/

theorem colReset_kept (c : Nat) (h : Kept s0 s) : Kept s0 (State.colReset s c) := by
  unfold State.colReset
  repeat' first
    | with_reducible assumption
    | intro _
    | with_reducible apply hdrmClear_kept
    | with_reducible apply verdictClear_kept
    | with_reducible apply setFlag_kept
    | with_reducible apply when_kept
    | with_reducible apply unitStart_kept
    | with_reducible apply ite_kept
    | split
    | dsimp only

theorem resetBefore_kept (k : PageKind) (n : Nat) (h : Kept s0 s) : Kept s0 (State.resetBefore s k n) := by
  unfold State.resetBefore
  repeat' first
    | with_reducible assumption
    | intro _
    | with_reducible apply fftSoftReset_kept
    | with_reducible apply when_kept
    | with_reducible apply runStop_kept
    | with_reducible apply rowenApply_kept
    | with_reducible apply forN_kept
    | with_reducible apply colReset_kept
    | with_reducible apply colCtlWrite_kept
    | with_reducible apply phoSoftReset_kept
    | with_reducible apply cdrEnable_kept
    | with_reducible apply setAxis_kept
    | with_reducible apply abortJob_kept
    | with_reducible apply dmaDisable_kept
    | with_reducible apply evfSoftReset_kept
    | with_reducible apply secSoftReset_kept
    | with_reducible apply ite_kept
    | split
    | dsimp only
    | with_reducible refine mk_kept ?_ (SecKept.refl _)

theorem resetAfter_kept (k : PageKind) (n : Nat) (h : Kept s0 s) : Kept s0 (State.resetAfter s k n) := by
  unfold State.resetAfter
  repeat' first
    | with_reducible assumption
    | intro _
    | with_reducible apply setFlag_kept
    | with_reducible apply setFld_kept
    | with_reducible apply when_kept
    | with_reducible apply forN_kept
    | with_reducible apply wireForget_kept
    | with_reducible apply lampDisable_kept
    | with_reducible apply estSoftReset_kept
    | with_reducible apply setChan_kept
    | with_reducible apply ite_kept
    | split
    | dsimp only
    | with_reducible refine mk_kept ?_ (SecKept.refl _)

theorem resetRegs_kept (k : PageKind) (p : Nat) (h : Kept s0 s) : Kept s0 (State.resetRegs s k p) := by
  unfold State.resetRegs
  repeat' first
    | with_reducible assumption
    | intro _
    | with_reducible apply foldS_kept
    | with_reducible apply activate_kept
    | with_reducible apply ite_kept
    | split
    | dsimp only

theorem pageSoftReset_kept (p : Nat) (h : Kept s0 s) : Kept s0 (State.pageSoftReset s p) := by
  unfold State.pageSoftReset
  repeat' first
    | with_reducible assumption
    | intro _
    | with_reducible apply resetBefore_kept
    | with_reducible apply resetAfter_kept
    | with_reducible apply resetRegs_kept
    | with_reducible apply setHdr_kept
    | with_reducible apply ite_kept
    | split
    | dsimp only
    | with_reducible refine mk_kept ?_ (SecKept.refl _)
    | with_reducible refine mk_pend ?_ (sorted_keep _ _) (SecKept.refl _)

theorem execPageSoftReset_kept (page : Nat) (h : Kept s0 s) : KeptOut s0 (execPageSoftReset page s) := by
  unfold execPageSoftReset
  repeat' first
    | with_reducible assumption
    | intro _
    | with_reducible apply hostWrite_kept
    | with_reducible apply pageSoftReset_kept
    | with_reducible apply ite_out
    | with_reducible apply out_next
    | with_reducible apply out_fault
    | with_reducible apply ite_kept
    | split
    | dsimp only

theorem execSoftResetDone_kept (page : Nat) (h : Kept s0 s) : KeptOut s0 (execSoftResetDone page s) := by
  unfold execSoftResetDone
  repeat' first
    | with_reducible assumption
    | intro _
    | with_reducible apply setHdr_kept
    | with_reducible apply ite_out
    | with_reducible apply out_next
    | with_reducible apply out_fault
    | with_reducible apply ite_kept
    | split
    | dsimp only

theorem expertSet_kept (p : Nat) (h : Kept s0 s) : Kept s0 (State.expertSet s p) := by
  unfold State.expertSet
  repeat' first
    | with_reducible assumption
    | intro _
    | with_reducible apply setHdr_kept
    | with_reducible apply ite_kept
    | split
    | dsimp only

theorem discardXw_kept (p : Nat) (h : Kept s0 s) : Kept s0 (State.discardXw s p) := by
  unfold State.discardXw
  repeat' first
    | with_reducible assumption
    | intro _
    | with_reducible apply foldS_kept
    | with_reducible apply ite_kept
    | split
    | dsimp only
    | with_reducible refine mk_kept ?_ (SecKept.refl _)
    | with_reducible refine mk_pend ?_ (sorted_ins _ _ _) (SecKept.refl _)
    | with_reducible refine mk_pend ?_ (sorted_erase _ _) (SecKept.refl _)

theorem expertClear_kept (p : Nat) (h : Kept s0 s) : Kept s0 (State.expertClear s p) := by
  unfold State.expertClear
  repeat' first
    | with_reducible assumption
    | intro _
    | with_reducible apply discardXw_kept
    | with_reducible apply setHdr_kept
    | with_reducible apply ite_kept
    | split
    | dsimp only

theorem execExpertSet_kept (page : Nat) (h : Kept s0 s) : KeptOut s0 (execExpertSet page s) := by
  unfold execExpertSet
  repeat' first
    | with_reducible assumption
    | intro _
    | with_reducible apply hostWrite_kept
    | with_reducible apply expertSet_kept
    | with_reducible apply ite_out
    | with_reducible apply out_next
    | with_reducible apply out_fault
    | with_reducible apply ite_kept
    | split
    | dsimp only

theorem execExpertClear_kept (page : Nat) (h : Kept s0 s) : KeptOut s0 (execExpertClear page s) := by
  unfold execExpertClear
  repeat' first
    | with_reducible assumption
    | intro _
    | with_reducible apply hostWrite_kept
    | with_reducible apply expertClear_kept
    | with_reducible apply ite_out
    | with_reducible apply out_next
    | with_reducible apply out_fault
    | with_reducible apply ite_kept
    | split
    | dsimp only

theorem rewritePage_kept (p : Nat) (h : Kept s0 s) : Kept s0 (State.rewritePage s p) := by
  unfold State.rewritePage
  repeat' first
    | with_reducible assumption
    | intro _
    | with_reducible apply derivePage_kept
    | with_reducible apply setHdr_kept
    | with_reducible apply ite_kept
    | split
    | dsimp only

theorem profileDerive_kept  (h : Kept s0 s) : Kept s0 (State.profileDerive s) := by
  unfold State.profileDerive
  repeat' first
    | with_reducible assumption
    | intro _
    | with_reducible apply when_kept
    | with_reducible apply foldS_kept
    | with_reducible apply rewritePage_kept
    | with_reducible apply deriveAll_kept
    | with_reducible apply ite_kept
    | split
    | dsimp only

theorem execProfileDerive_kept (t : Nat) (h : Kept s0 s) : KeptOut s0 (execProfileDerive t s) := by
  unfold execProfileDerive
  repeat' first
    | with_reducible assumption
    | intro _
    | with_reducible apply profileDerive_kept
    | with_reducible apply upto_kept
    | with_reducible apply ite_out
    | with_reducible apply out_next
    | with_reducible apply out_fault
    | with_reducible apply ite_kept
    | split
    | dsimp only

theorem commitRequest_kept (p : Nat) (h : Kept s0 s) : Kept s0 (State.commitRequest s p) := by
  unfold State.commitRequest
  repeat' first
    | with_reducible assumption
    | intro _
    | with_reducible apply setHdr_kept
    | with_reducible apply ite_kept
    | split
    | dsimp only

theorem execPcommitGo_kept (page : Nat) (h : Kept s0 s) : KeptOut s0 (execPcommitGo page s) := by
  unfold execPcommitGo
  repeat' first
    | with_reducible assumption
    | intro _
    | with_reducible apply hostWrite_kept
    | with_reducible apply commitRequest_kept
    | with_reducible apply ite_out
    | with_reducible apply out_next
    | with_reducible apply out_fault
    | with_reducible apply ite_kept
    | split
    | dsimp only

theorem idleActs_kept (k : PageKind) (n : Nat) (h : Kept s0 s) : Kept s0 (State.idleActs s k n) := by
  unfold State.idleActs
  repeat' first
    | with_reducible assumption
    | intro _
    | with_reducible apply forN_kept
    | with_reducible apply wireForget_kept
    | with_reducible apply rowenApply_kept
    | with_reducible apply when_kept
    | with_reducible apply switchIdle_kept
    | with_reducible apply ite_kept
    | split
    | dsimp only
    | with_reducible refine mk_kept ?_ (SecKept.refl _)
    | with_reducible refine mk_pend ?_ (sorted_erase _ _) (SecKept.refl _)

theorem pendingIdle_kept (p : Nat) (h : Kept s0 s) : Kept s0 (State.pendingIdle s p) := by
  unfold State.pendingIdle
  repeat' first
    | with_reducible assumption
    | intro _
    | with_reducible apply when_kept
    | with_reducible apply applyPend_kept
    | with_reducible apply colFollow_kept
    | with_reducible apply idleActs_kept
    | with_reducible apply darkClear_kept
    | with_reducible apply streakClear_kept
    | with_reducible apply commit_kept
    | with_reducible apply forN_kept
    | with_reducible apply spareFollow_kept
    | with_reducible apply ite_kept
    | split
    | dsimp only

theorem execPendingApplyIdle_kept (page : Nat) (h : Kept s0 s) : KeptOut s0 (execPendingApplyIdle page s) := by
  unfold execPendingApplyIdle
  repeat' first
    | with_reducible assumption
    | intro _
    | with_reducible apply pendingIdle_kept
    | with_reducible apply ite_out
    | with_reducible apply out_next
    | with_reducible apply out_fault
    | with_reducible apply ite_kept
    | split
    | dsimp only

/-! ## Machine/Bus.lean -/

theorem pkeyWrite_kept (p : Nat) (key : Sys2Proof.Word) (h : Kept s0 s) : Kept s0 (State.pkeyWrite s p key) := by
  unfold State.pkeyWrite
  repeat' first
    | with_reducible assumption
    | intro _
    | with_reducible apply setHdr_kept
    | with_reducible apply ite_kept
    | split
    | dsimp only

theorem execPkeyWrite_kept (page : Nat) (key : Sys2Proof.Word) (h : Kept s0 s) : KeptOut s0 (execPkeyWrite page key s) := by
  unfold execPkeyWrite
  repeat' first
    | with_reducible assumption
    | intro _
    | with_reducible apply hostWrite_kept
    | with_reducible apply pkeyWrite_kept
    | with_reducible apply ite_out
    | with_reducible apply out_next
    | with_reducible apply out_fault
    | with_reducible apply ite_kept
    | split
    | dsimp only

theorem plockWrite_kept (p : Nat) (h : Kept s0 s) : Kept s0 (State.plockWrite s p) := by
  unfold State.plockWrite
  repeat' first
    | with_reducible assumption
    | intro _
    | with_reducible apply guarded_kept
    | with_reducible apply setHdr_kept
    | with_reducible apply ite_kept
    | split
    | dsimp only

theorem execPlockLock_kept (page : Nat) (h : Kept s0 s) : KeptOut s0 (execPlockLock page s) := by
  unfold execPlockLock
  repeat' first
    | with_reducible assumption
    | intro _
    | with_reducible apply hostWrite_kept
    | with_reducible apply plockWrite_kept
    | with_reducible apply ite_out
    | with_reducible apply out_next
    | with_reducible apply out_fault
    | with_reducible apply ite_kept
    | split
    | dsimp only

theorem pageEnable_kept (k : PageKind) (n : Nat) (p : Nat) (en : Bool) (h : Kept s0 s) : Kept s0 (State.pageEnable s k n p en) := by
  unfold State.pageEnable
  repeat' first
    | with_reducible assumption
    | intro _
    | with_reducible apply cdrEnable_kept
    | with_reducible apply setHdr_kept
    | with_reducible apply dmaEnable_kept
    | with_reducible apply dmaDisable_kept
    | with_reducible apply ite_kept
    | split
    | dsimp only

theorem pctlWrite_kept (k : PageKind) (n : Nat) (p : Nat) (w : Nat) (h : Kept s0 s) : Kept s0 (State.pctlWrite s k n p w) := by
  unfold State.pctlWrite
  repeat' first
    | with_reducible assumption
    | intro _
    | with_reducible apply pageSoftReset_kept
    | with_reducible apply expertSet_kept
    | with_reducible apply when_kept
    | with_reducible apply expertClear_kept
    | with_reducible apply pageEnable_kept
    | with_reducible apply ite_kept
    | split
    | dsimp only

theorem pevtWrite_kept (p : Nat) (w : Sys2Proof.Word) (h : Kept s0 s) : Kept s0 (State.pevtWrite s p w) := by
  unfold State.pevtWrite
  repeat' first
    | with_reducible assumption
    | intro _
    | with_reducible apply setHdr_kept
    | with_reducible apply ite_kept
    | split
    | dsimp only

theorem pevenWrite_kept (p : Nat) (w : Sys2Proof.Word) (h : Kept s0 s) : Kept s0 (State.pevenWrite s p w) := by
  unfold State.pevenWrite
  repeat' first
    | with_reducible assumption
    | intro _
    | with_reducible apply setHdr_kept
    | with_reducible apply irq_kept
    | with_reducible apply ite_kept
    | split
    | dsimp only

theorem hdrWrite_kept (k : PageKind) (n : Nat) (p : Nat) (off : Nat) (w : Sys2Proof.Word) (h : Kept s0 s) : Kept s0 (State.hdrWrite s k n p off w) := by
  unfold State.hdrWrite
  repeat' first
    | with_reducible assumption
    | intro _
    | with_reducible apply pctlWrite_kept
    | with_reducible apply pevtWrite_kept
    | with_reducible apply pevenWrite_kept
    | with_reducible apply when_kept
    | with_reducible apply commitRequest_kept
    | with_reducible apply pkeyWrite_kept
    | with_reducible apply plockWrite_kept
    | with_reducible apply ite_kept
    | split
    | dsimp only

theorem xwIgnored_kept (p : Nat) (h : Kept s0 s) : Kept s0 (State.xwIgnored s p) := by
  unfold State.xwIgnored
  repeat' first
    | with_reducible assumption
    | intro _
    | with_reducible apply evt_kept
    | with_reducible apply setHdr_kept
    | with_reducible apply ite_kept
    | split
    | dsimp only

theorem putReg_kept (r : RegRow) (a v : Nat) (h : Kept s0 s) : Kept s0 (State.putReg s r a v) := by
  have h := setSsc_kept (fun x => { x with jHold := x.jHold.filter (· != a) }) h
  unfold State.putReg
  split
  · split
    · exact setReg64_kept _ _ h
    · exact setReg_kept _ _ h
  · split
    · exact pend_kept h (fun hs => sorted_ins _ _ _ (sorted_ins _ _ _ hs))
    · exact pend_kept h (sorted_ins _ _ _)

theorem fieldWrite_kept (p : Nat) (r : RegRow) (a : Nat) (w : Nat) (h : Kept s0 s) : Kept s0 (State.fieldWrite s p r a w).1 := by
  unfold State.fieldWrite
  repeat' first
    | with_reducible assumption
    | intro _
    | with_reducible apply when_kept
    | with_reducible apply kwSpend_kept
    | with_reducible apply xwIgnored_kept
    | with_reducible apply putReg_kept
    | with_reducible apply ite_kept
    | split
    | dsimp only
    | with_reducible exact Kept.refl _

theorem glbWrite_kept (off : Nat) (w : Nat) (h : Kept s0 s) : KeptOpt s0 (State.glbWrite s off w) := by
  unfold State.glbWrite
  repeat' first
    | with_reducible assumption
    | intro _
    | with_reducible apply when_kept
    | with_reducible apply guarded_kept
    | with_reducible apply warmReset_kept
    | with_reducible apply mbxWrite_kept
    | with_reducible apply ite_opt
    | with_reducible apply opt_some
    | with_reducible apply opt_none
    | with_reducible apply ite_kept
    | split
    | dsimp only
    | with_reducible refine mk_kept ?_ (SecKept.refl _)

theorem helgWrite_kept (off : Nat) (w : Nat) (h : Kept s0 s) : KeptOpt s0 (State.helgWrite s off w) := by
  unfold State.helgWrite
  repeat' first
    | with_reducible assumption
    | intro _
    | with_reducible apply when_kept
    | with_reducible apply guarded_kept
    | with_reducible apply safeWrite_kept
    | with_reducible apply uvWrite_kept
    | with_reducible apply rowenWrite_kept
    | with_reducible apply ilkClear_kept
    | with_reducible apply ite_opt
    | with_reducible apply opt_some
    | with_reducible apply opt_none
    | with_reducible apply ite_kept
    | split
    | dsimp only

theorem helWrite_kept (c : Nat) (row : Nat) (a : Nat) (w : Nat) (h : Kept s0 s) : KeptOpt s0 (State.helWrite s c row a w) := by
  unfold State.helWrite
  repeat' first
    | with_reducible assumption
    | intro _
    | with_reducible apply when_kept
    | with_reducible apply columnReen_kept
    | with_reducible apply hdrmClear_kept
    | with_reducible apply verdictClear_kept
    | with_reducible apply ite_opt
    | with_reducible apply opt_some
    | with_reducible apply opt_none
    | with_reducible apply ite_kept
    | split
    | dsimp only
    | with_reducible refine mk_kept ?_ (SecKept.refl _)
    | with_reducible refine mk_pend ?_ (sorted_ins _ _ _) (SecKept.refl _)

theorem colReqWrite_kept (w : Nat) (h : Kept s0 s) : Kept s0 (State.colReqWrite s w) := by
  unfold State.colReqWrite
  repeat' first
    | with_reducible assumption
    | intro _
    | with_reducible apply foldS_kept
    | with_reducible apply colRequest_kept
    | with_reducible apply when_kept
    | with_reducible apply rotRestart_kept
    | with_reducible apply ite_kept
    | split
    | dsimp only

theorem colWrite_kept (off : Nat) (w : Nat) (h : Kept s0 s) : KeptOpt s0 (State.colWrite s off w) := by
  unfold State.colWrite
  repeat' first
    | with_reducible assumption
    | intro _
    | with_reducible apply colCtlWrite_kept
    | with_reducible apply colPermWrite_kept
    | with_reducible apply colReqWrite_kept
    | with_reducible apply sigmaSelect_kept
    | with_reducible apply ite_opt
    | with_reducible apply opt_some
    | with_reducible apply opt_none
    | with_reducible apply ite_kept
    | split
    | dsimp only

theorem cdrWrite_kept (x : Nat) (off : Nat) (w : Nat) (h : Kept s0 s) : KeptOpt s0 (State.cdrWrite s x off w) := by
  unfold State.cdrWrite
  repeat' first
    | with_reducible assumption
    | intro _
    | with_reducible apply cdrCtl_kept
    | with_reducible apply mctlWrite_kept
    | with_reducible apply ite_opt
    | with_reducible apply opt_some
    | with_reducible apply opt_none
    | with_reducible apply ite_kept
    | split
    | dsimp only

theorem dmaWrite_kept (ch : Nat) (off : Nat) (w : Nat) (h : Kept s0 s) : KeptOpt s0 (State.dmaWrite s ch off w) := by
  unfold State.dmaWrite
  repeat' first
    | with_reducible assumption
    | intro _
    | with_reducible apply when_kept
    | with_reducible apply dmaKick_kept
    | with_reducible apply dmaNext_kept
    | with_reducible apply rrpWrite_kept
    | with_reducible apply ite_opt
    | with_reducible apply opt_some
    | with_reducible apply opt_none
    | with_reducible apply ite_kept
    | split
    | dsimp only

theorem evfChannel_kept (c : Nat) (w : Nat) (h : Kept s0 s) : Kept s0 (State.evfChannel s c w) := by
  unfold State.evfChannel
  repeat' first
    | with_reducible assumption
    | intro _
    | with_reducible apply chWrite_kept
    | with_reducible apply when_kept
    | with_reducible apply guarded_kept
    | with_reducible apply chLock_kept
    | with_reducible apply ite_kept
    | split
    | dsimp only

theorem evfCell_kept (n : Nat) (w : Nat) (h : Kept s0 s) : Kept s0 (State.evfCell s n w) := by
  unfold State.evfCell
  repeat' first
    | with_reducible assumption
    | intro _
    | with_reducible apply cellCfgWrite_kept
    | with_reducible apply when_kept
    | with_reducible apply guarded_kept
    | with_reducible apply setFlag_kept
    | with_reducible apply ite_kept
    | split
    | dsimp only

theorem evfWrite_kept (row : Nat) (i : Nat) (w : Nat) (h : Kept s0 s) : KeptOpt s0 (State.evfWrite s row i w) := by
  unfold State.evfWrite
  repeat' first
    | with_reducible assumption
    | intro _
    | with_reducible apply softPulse_kept
    | with_reducible apply evfChannel_kept
    | with_reducible apply pubWrite_kept
    | with_reducible apply subWrite_kept
    | with_reducible apply cellInWrite_kept
    | with_reducible apply evfCell_kept
    | with_reducible apply evoWrite_kept
    | with_reducible apply ite_opt
    | with_reducible apply opt_some
    | with_reducible apply opt_none
    | with_reducible apply ite_kept
    | split
    | dsimp only

theorem chrSafeWrite_kept (w : Nat) (h : Kept s0 s) : Kept s0 (State.chrSafeWrite s w) := by
  unfold State.chrSafeWrite
  repeat' first
    | with_reducible assumption
    | intro _
    | with_reducible apply when_kept
    | with_reducible apply guarded_kept
    | with_reducible apply safeClear_kept
    | with_reducible apply critical_kept
    | with_reducible apply ite_kept
    | split
    | dsimp only

theorem chrWrite_kept (off : Nat) (w : Nat) (h : Kept s0 s) : KeptOpt s0 (State.chrWrite s off w) := by
  unfold State.chrWrite
  repeat' first
    | with_reducible assumption
    | intro _
    | with_reducible apply tsLoad_kept
    | with_reducible apply lineLoad_kept
    | with_reducible apply faultAck_kept
    | with_reducible apply chrSafeWrite_kept
    | with_reducible apply when_kept
    | with_reducible apply logClear_kept
    | with_reducible apply logSelect_kept
    | with_reducible apply ite_opt
    | with_reducible apply opt_some
    | with_reducible apply opt_none
    | with_reducible apply ite_kept
    | split
    | dsimp only

theorem secDebug_kept (w : Nat) (h : Kept s0 s) : Kept s0 (State.secDebug s w) := by
  unfold State.secDebug
  repeat' first
    | with_reducible assumption
    | intro _
    | with_reducible apply setFld_kept
    | with_reducible apply when_kept
    | with_reducible apply debugClose_kept
    | with_reducible apply guarded_kept
    | with_reducible apply debugOpen_kept
    | with_reducible apply ite_kept
    | split
    | dsimp only

theorem secWrite_kept (off : Nat) (w : Nat) (h : Kept s0 s) : KeptOpt s0 (State.secWrite s off w) := by
  unfold State.secWrite
  repeat' first
    | with_reducible assumption
    | intro _
    | with_reducible apply secOp_kept
    | with_reducible apply guarded_kept
    | with_reducible apply secKop_kept
    | with_reducible apply imageWord_kept
    | with_reducible apply secDebug_kept
    | with_reducible apply ite_opt
    | with_reducible apply opt_some
    | with_reducible apply opt_none
    | with_reducible apply ite_kept
    | split
    | dsimp only
    | with_reducible refine mk_kept ?_ (SecKept.refl _)

theorem specialWrite_kept (link : Nat) (k : PageKind) (n : Nat) (row : Nat) (i : Nat) (a : Nat) (w : Nat) (h : Kept s0 s) : KeptOpt s0 (State.specialWrite s link k n row i a w) := by
  unfold State.specialWrite
  repeat' first
    | with_reducible assumption
    | intro _
    | with_reducible apply glbWrite_kept
    | with_reducible apply helgWrite_kept
    | with_reducible apply helWrite_kept
    | with_reducible apply lampSelect_kept
    | with_reducible apply urgent_kept
    | with_reducible apply colWrite_kept
    | with_reducible apply cdrGcmd_kept
    | with_reducible apply cdrWrite_kept
    | with_reducible apply sscCmd_kept
    | with_reducible apply cqRiWrite_kept
    | with_reducible apply dmaWrite_kept
    | with_reducible apply wlockWrite_kept
    | with_reducible apply evfWrite_kept
    | with_reducible apply chrWrite_kept
    | with_reducible apply secWrite_kept
    | with_reducible apply pwrRequest_kept
    | with_reducible apply ite_opt
    | with_reducible apply opt_some
    | with_reducible apply opt_none
    | with_reducible apply ite_kept
    | split
    | dsimp only
    | with_reducible refine of_some ?_ ‹_ = some _›

theorem maskFollow_kept (old : State) (h : Kept s0 s) : Kept s0 (State.maskFollow s old) := by
  unfold State.maskFollow
  repeat' first
    | with_reducible assumption
    | intro _
    | with_reducible apply sendVector_kept
    | with_reducible apply ite_kept
    | split
    | dsimp only

theorem afterWrite_kept (old : State) (k : PageKind) (n : Nat) (row : Nat) (i : Nat) (w : Nat) (kw : Bool) (h : Kept s0 s) : Kept s0 (State.afterWrite s old k n row i w kw) := by
  unfold State.afterWrite
  repeat' first
    | with_reducible assumption
    | intro _
    | with_reducible apply maskFollow_kept
    | with_reducible apply when_kept
    | with_reducible apply setFlag_kept
    | with_reducible apply lampEnable_kept
    | with_reducible apply lampDisable_kept
    | with_reducible apply hkStart_kept
    | with_reducible apply cqMoved_kept
    | with_reducible apply cqEnable_kept
    | with_reducible apply setChan_kept
    | with_reducible apply send_kept
    | with_reducible apply ite_kept
    | split
    | dsimp only
    | with_reducible refine mk_kept ?_ (SecKept.refl _)

theorem rowWrite_kept (link : Nat) (k : PageKind) (n : Nat) (p : Nat) (r : RegRow) (i : Nat) (a : Nat) (w : Nat) (h : Kept s0 s) : Kept s0 (State.rowWrite s link k n p r i a w) := by
  unfold State.rowWrite
  repeat' first
    | with_reducible assumption
    | intro _
    | with_reducible apply specialWrite_kept
    | with_reducible apply fieldWrite_kept
    | with_reducible apply afterWrite_kept
    | with_reducible apply ite_kept
    | split
    | dsimp only
    | with_reducible refine of_some ?_ ‹_ = some _›
    | with_reducible refine of_fst ?_ ‹_ = (_, _)›

theorem blockWrite_kept (link : Nat) (k : PageKind) (n : Nat) (p : Nat) (off : Nat) (w : Sys2Proof.Word) (h : Kept s0 s) : Kept s0 (State.blockWrite s link k n p off w) := by
  unfold State.blockWrite
  repeat' first
    | with_reducible assumption
    | intro _
    | with_reducible apply rowWrite_kept
    | with_reducible apply ite_kept
    | split
    | dsimp only
    | with_reducible refine mk_kept ?_ (SecKept.refl _)
    | with_reducible refine mk_pend ?_ (sorted_ins _ _ _) (SecKept.refl _)
    | with_reducible refine mk_pend ?_ (sorted_erase _ _) (SecKept.refl _)

theorem pageWrite_kept (link : Nat) (k : PageKind) (n : Nat) (off : Nat) (a : Nat) (w : Sys2Proof.Word) (h : Kept s0 s) : Kept s0 (State.pageWrite s link k n off a w) := by
  unfold State.pageWrite
  repeat' first
    | with_reducible assumption
    | intro _
    | with_reducible apply ignored_kept
    | with_reducible apply hdrWrite_kept
    | with_reducible apply blockWrite_kept
    | with_reducible apply ite_kept
    | split
    | dsimp only

theorem busWrite_kept (link : Nat) (a : Nat) (w : Sys2Proof.Word) (h : Kept s0 s) : Kept s0 (State.busWrite s link a w) := by
  unfold State.busWrite
  repeat' first
    | with_reducible assumption
    | intro _
    | with_reducible apply ignored_kept
    | with_reducible apply msixWrite_kept
    | with_reducible apply pageWrite_kept
    | with_reducible apply ite_kept
    | split
    | dsimp only

theorem execRegisterWrite_kept (a : Nat) (w : Sys2Proof.Word) (h : Kept s0 s) : KeptOut s0 (execRegisterWrite a w s) := by
  unfold execRegisterWrite
  repeat' first
    | with_reducible assumption
    | intro _
    | with_reducible apply busWrite_kept
    | with_reducible apply ite_out
    | with_reducible apply out_next
    | with_reducible apply out_fault
    | with_reducible apply ite_kept
    | split
    | dsimp only

/-! ## Machine/Hlk.lean -/

theorem pcieDword_kept (a : Nat) (be : Nat) (w : Sys2Proof.Word) (h : Kept s0 s) : KeptOpt s0 (State.pcieDword s a be w) := by
  unfold State.pcieDword
  repeat' first
    | with_reducible assumption
    | intro _
    | with_reducible apply ignored_kept
    | with_reducible apply busWrite_kept
    | with_reducible apply ite_opt
    | with_reducible apply opt_some
    | with_reducible apply opt_none
    | with_reducible apply ite_kept
    | split
    | dsimp only

theorem pcieDwords_kept (a : Nat) (l : List Nat) (ws : List Word) (h : Kept s0 s) : KeptOpt s0 (State.pcieDwords s a l ws) := by
  induction l generalizing s a ws with
  | nil => exact opt_some h
  | cons be l ih =>
    unfold State.pcieDwords
    split
    · exact opt_none
    · rename_i s' e
      exact ih _ _ (of_some (pcieDword_kept _ _ _ h) e)

theorem readDwords_kept (a n : Nat) (h : Kept s0 s) : Kept s0 (State.readDwords s a n).1 := by
  induction n generalizing s a with
  | zero => exact h
  | succ n ih => exact ih _ (busRead_kept _ h)

theorem execPcieBar0Request_kept (write : Bool) (a : Nat) (be : List Nat) (data : List Sys2Proof.Word) (t : Nat) (h : Kept s0 s) : KeptOut s0 (execPcieBar0Request write a be data t s) := by
  unfold execPcieBar0Request
  repeat' first
    | with_reducible assumption
    | intro _
    | with_reducible apply upto_kept
    | with_reducible apply rxError_kept
    | with_reducible apply ignored_kept
    | with_reducible apply send_kept
    | with_reducible apply partnerError_kept
    | with_reducible apply pcieDwords_kept
    | with_reducible apply readDwords_kept
    | with_reducible apply ite_out
    | with_reducible apply out_next
    | with_reducible apply out_fault
    | with_reducible apply ite_kept
    | split
    | dsimp only
    | with_reducible refine of_some ?_ ‹_ = some _›
    | with_reducible refine of_fst ?_ ‹_ = (_, _)›

theorem tabValue_kept (be : Nat) (w : Sys2Proof.Word) (h : Kept s0 s) : Kept s0 (State.tabValue s be w).1 := by
  unfold State.tabValue
  repeat' first
    | with_reducible assumption
    | intro _
    | with_reducible apply useFree_kept
    | with_reducible apply ite_kept
    | split
    | dsimp only
    | with_reducible exact Kept.refl _

theorem linkTabWrite_kept (link : Nat) (a : Nat) (wide : Bool) (v : Nat) (h : Kept s0 s) : Kept s0 (State.linkTabWrite s link a wide v) := by
  unfold State.linkTabWrite
  repeat' first
    | with_reducible assumption
    | intro _
    | with_reducible apply ignored_kept
    | with_reducible apply tabWrite_kept
    | with_reducible apply ite_kept
    | split
    | dsimp only

theorem tabWrites_bound (a n : Nat) (l : List (Nat × Word)) (hn : l.length ≤ n) (h : Kept s0 s) :
    Kept s0 (State.tabWrites s a l) := by
  induction n generalizing s a l with
  | zero =>
    cases l with
    | nil => exact h
    | cons x l => simp at hn
  | succ n ih =>
    match l, hn with
    | [], _ => exact h
    | [x], _ => exact linkTabWrite_kept _ _ _ _ (tabValue_kept _ _ h)
    | x :: y :: l, hn =>
      simp only [List.length_cons] at hn
      unfold State.tabWrites
      dsimp only
      split
      · exact ih _ _ (by simp only [List.length_cons]; omega) (linkTabWrite_kept _ _ _ _ (tabValue_kept _ _ h))
      · exact ih _ _ (by omega) (linkTabWrite_kept _ _ _ _ (tabValue_kept _ _ (tabValue_kept _ _ h)))

theorem tabWrites_kept (a : Nat) (l : List (Nat × Word)) (h : Kept s0 s) : Kept s0 (State.tabWrites s a l) :=
  tabWrites_bound a l.length l (Nat.le_refl _) h

theorem linkTabRead_kept (a : Nat) (wide : Bool) (u : List Sys2Proof.Upset) (h : Kept s0 s) : Kept s0 (State.linkTabRead s a wide u).1 := by
  unfold State.linkTabRead
  repeat' first
    | with_reducible assumption
    | intro _
    | with_reducible apply tabRead_kept
    | with_reducible apply ite_kept
    | split
    | dsimp only
    | with_reducible refine of_fst ?_ ‹_ = (_, _)›
    | with_reducible exact Kept.refl _

theorem tabReads_kept (u : List Upset) (n a : Nat) (h : Kept s0 s) : Kept s0 (State.tabReads s u a n).1 := by
  induction n using Nat.strongRecOn generalizing s a with
  | _ n ih =>
    match n with
    | 0 => exact h
    | 1 => exact linkTabRead_kept _ _ _ h
    | n + 2 =>
      unfold State.tabReads
      split
      · exact ih (n + 1) (by omega) _ (linkTabRead_kept _ _ _ h)
      · exact ih n (by omega) _ (linkTabRead_kept _ _ _ h)

theorem execPcieBar2Request_kept (write : Bool) (a : Nat) (be : List Nat) (data : List Sys2Proof.Word) (u : List Sys2Proof.Upset) (t : Nat) (h : Kept s0 s) : KeptOut s0 (execPcieBar2Request write a be data u t s) := by
  unfold execPcieBar2Request
  repeat' first
    | with_reducible assumption
    | intro _
    | with_reducible apply upto_kept
    | with_reducible apply rxError_kept
    | with_reducible apply tabWrites_kept
    | with_reducible apply tabReads_kept
    | with_reducible apply send_kept
    | with_reducible apply ite_out
    | with_reducible apply out_next
    | with_reducible apply out_fault
    | with_reducible apply ite_kept
    | split
    | dsimp only
    | with_reducible refine of_fst ?_ ‹_ = (_, _)›

theorem spiWrites_kept (bar2 : Bool) (l : List (Nat × Word)) (h : Kept s0 s) : KeptOpt s0 (State.spiWrites s bar2 l) := by
  induction l generalizing s with
  | nil => exact opt_some h
  | cons x l ih =>
    unfold State.spiWrites
    split
    · exact ih (linkTabWrite_kept _ _ _ _ h)
    · split
      · exact opt_none
      · exact ih (busWrite_kept _ _ _ h)

theorem spiReads_kept (bar2 : Bool) (l : List Nat) (h : Kept s0 s) : Kept s0 (State.spiReads s bar2 l).1 := by
  induction l generalizing s with
  | nil => exact h
  | cons a l ih =>
    unfold State.spiReads
    apply ih
    split
    · exact linkTabRead_kept _ _ _ h
    · exact busRead_kept _ h

theorem countFrame_kept (nak : Nat) (h : Kept s0 s) : Kept s0 (State.countFrame s nak) := by
  unfold State.countFrame
  repeat' first
    | with_reducible assumption
    | intro _
    | with_reducible apply setFld_kept
    | with_reducible apply evt_kept
    | with_reducible apply bumpFld_kept
    | with_reducible apply ite_kept
    | split
    | dsimp only

theorem spiShort_kept (bytes : Nat) (h : Kept s0 s) : Kept s0 (State.spiShort s bytes) := by
  unfold State.spiShort
  repeat' first
    | with_reducible assumption
    | intro _
    | with_reducible apply bumpFld_kept
    | with_reducible apply send_kept
    | with_reducible apply ite_kept
    | split
    | dsimp only

theorem frameAccess_kept (f : List Byte) (nak : Nat) (x : State × List Word) (h : Kept s0 s)
    (e : State.frameAccess s f nak = some x) : Kept s0 x.1 := by
  unfold State.frameAccess at e
  dsimp only at e
  split at e
  · cases e
    exact spiReads_kept _ _ h
  · split at e
    · split at e
      · cases e
      · rename_i s' e'
        cases e
        exact of_some (spiWrites_kept _ _ h) e'
    · split at e
      · cases e
        exact foldS_kept _ h (fun t y ht => ite_kept (ignored_kept _ _ _ _ ht) ht)
      · cases e
        exact h

theorem spiFrame_kept (f : List Byte) (late : Bool) (h : Kept s0 s) : KeptOpt s0 (State.spiFrame s f late) := by
  unfold State.spiFrame
  dsimp only
  split
  · exact opt_some h
  · split
    · exact opt_some (spiShort_kept _ h)
    · split
      · exact opt_none
      · rename_i s' data e
        exact opt_some (send_kept _ (countFrame_kept _ (frameAccess_kept _ _ _ h e)))

theorem spiOutcome_kept (o : Option State) (h : KeptOpt s0 o) : KeptOut s0 (spiOutcome o) := by
  cases o with
  | none => exact out_fault _
  | some s => exact out_next (h.out _ rfl)

theorem execSpiRead_kept (frame : List Sys2Proof.Byte) (late : Bool) (t : Nat) (h : Kept s0 s) : KeptOut s0 (execSpiRead frame late t s) := by
  unfold execSpiRead
  repeat' first
    | with_reducible assumption
    | intro _
    | with_reducible apply spiOutcome_kept
    | with_reducible apply spiFrame_kept
    | with_reducible apply upto_kept
    | with_reducible apply ite_out
    | with_reducible apply out_next
    | with_reducible apply out_fault
    | with_reducible apply ite_kept
    | split
    | dsimp only
    | with_reducible refine of_some ?_ ‹_ = some _›

theorem execSpiWrite_kept (frame : List Sys2Proof.Byte) (late : Bool) (t : Nat) (h : Kept s0 s) : KeptOut s0 (execSpiWrite frame late t s) := by
  unfold execSpiWrite
  repeat' first
    | with_reducible assumption
    | intro _
    | with_reducible apply spiOutcome_kept
    | with_reducible apply spiFrame_kept
    | with_reducible apply upto_kept
    | with_reducible apply ite_out
    | with_reducible apply out_next
    | with_reducible apply out_fault
    | with_reducible apply ite_kept
    | split
    | dsimp only
    | with_reducible refine of_some ?_ ‹_ = some _›

theorem execSpiNoAccess_kept (frame : List Sys2Proof.Byte) (late : Bool) (t : Nat) (h : Kept s0 s) : KeptOut s0 (execSpiNoAccess frame late t s) := by
  unfold execSpiNoAccess
  repeat' first
    | with_reducible assumption
    | intro _
    | with_reducible apply spiOutcome_kept
    | with_reducible apply spiFrame_kept
    | with_reducible apply upto_kept
    | with_reducible apply ite_out
    | with_reducible apply out_next
    | with_reducible apply out_fault
    | with_reducible apply ite_kept
    | split
    | dsimp only
    | with_reducible refine of_some ?_ ‹_ = some _›

theorem execSpiShortFrame_kept (bytes : Nat) (h : Kept s0 s) : KeptOut s0 (execSpiShortFrame bytes s) := by
  unfold execSpiShortFrame
  repeat' first
    | with_reducible assumption
    | intro _
    | with_reducible apply spiShort_kept
    | with_reducible apply ite_out
    | with_reducible apply out_next
    | with_reducible apply out_fault
    | with_reducible apply ite_kept
    | split
    | dsimp only

theorem pmWrite_kept (w : Nat) (h : Kept s0 s) : Kept s0 (State.pmWrite s w) := by
  unfold State.pmWrite
  repeat' first
    | with_reducible assumption
    | intro _
    | with_reducible apply when_kept
    | with_reducible apply d3Entry_kept
    | with_reducible apply d0Return_kept
    | with_reducible apply ite_kept
    | split
    | dsimp only

theorem cfgAccess_kept (write : Bool) (off : Nat) (w : Sys2Proof.Word) (h : Kept s0 s) : Kept s0 (State.cfgAccess s write off w) := by
  unfold State.cfgAccess
  repeat' first
    | with_reducible assumption
    | intro _
    | with_reducible apply send_kept
    | with_reducible apply when_kept
    | with_reducible apply cfgWrite_kept
    | with_reducible apply pmWrite_kept
    | with_reducible apply ite_kept
    | split
    | dsimp only

theorem execConfigRequest_kept (write : Bool) (off : Nat) (w : Sys2Proof.Word) (t : Nat) (h : Kept s0 s) : KeptOut s0 (execConfigRequest write off w t s) := by
  unfold execConfigRequest
  repeat' first
    | with_reducible assumption
    | intro _
    | with_reducible apply upto_kept
    | with_reducible apply cfgAccess_kept
    | with_reducible apply useFree_kept
    | with_reducible apply send_kept
    | with_reducible apply ite_out
    | with_reducible apply out_next
    | with_reducible apply out_fault
    | with_reducible apply ite_kept
    | split
    | dsimp only

/-! ## Machine/Raise.lean -/

theorem raiseAxis_kept (code : Nat) (x : Nat) (h : Kept s0 s) : Kept s0 (State.raiseAxis s code x) := by
  unfold State.raiseAxis
  repeat' first
    | with_reducible assumption
    | intro _
    | with_reducible apply fault_kept
    | with_reducible apply evt_kept
    | with_reducible apply freeze_kept
    | with_reducible apply emit_kept
    | with_reducible apply when_kept
    | with_reducible apply ite_kept
    | split
    | dsimp only

theorem raiseLamp_kept (code : Nat) (item : Nat) (h : Kept s0 s) : Kept s0 (State.raiseLamp s code item) := by
  unfold State.raiseLamp
  repeat' first
    | with_reducible assumption
    | intro _
    | with_reducible apply rowShutdown_kept
    | with_reducible apply ilkFall_kept
    | with_reducible apply columnStop_kept
    | with_reducible apply fault_kept
    | with_reducible apply evt_kept
    | with_reducible apply lampVerdict_kept
    | with_reducible apply ite_kept
    | split
    | dsimp only

theorem raiseEvt_kept (code : Nat) (h : Kept s0 s) : Kept s0 (State.raiseEvt s code) := by
  unfold State.raiseEvt
  repeat' first
    | with_reducible assumption
    | intro _
    | with_reducible apply evt_kept
    | with_reducible apply ite_kept
    | split
    | dsimp only

theorem raise_kept (code : Nat) (item : Nat) (h : Kept s0 s) : Kept s0 (State.raise s code item) := by
  unfold State.raise
  repeat' first
    | with_reducible assumption
    | intro _
    | with_reducible apply pclkUnlock_kept
    | with_reducible apply raiseAxis_kept
    | with_reducible apply raiseLamp_kept
    | with_reducible apply halt_kept
    | with_reducible apply dlDown_kept
    | with_reducible apply runaway_kept
    | with_reducible apply imageRejected_kept
    | with_reducible apply pmbusFault_kept
    | with_reducible apply critical_kept
    | with_reducible apply fault_kept
    | with_reducible apply raiseEvt_kept
    | with_reducible apply ite_kept
    | split
    | dsimp only

theorem execFaultRaise_kept (code : Nat) (item : Nat) (t : Nat) (h : Kept s0 s) : KeptOut s0 (execFaultRaise code item t s) := by
  unfold execFaultRaise
  repeat' first
    | with_reducible assumption
    | intro _
    | with_reducible apply upto_kept
    | with_reducible apply raise_kept
    | with_reducible apply ite_out
    | with_reducible apply out_next
    | with_reducible apply out_fault
    | with_reducible apply ite_kept
    | split
    | dsimp only

end Sys2Proof.Laws
end

