-- ==== Sys2Proof/Laws/Runs.lean ====
section
/-! SUPPORT. The commands that never stop: each answers a next state from every state. The six others are REGISTER_WRITE,
PCIE_BAR0_REQUEST, the three SPI frames and LINE_START. -/

namespace Sys2Proof.Laws

set_option Elab.async false

open Sys2Proof.Machine

theorem exec_pendingApplyIdle_next (page : Nat) (s : State) : ∃ r, exec (.pendingApplyIdle page) s = .next r := ⟨_, rfl⟩
theorem exec_pcommitGo_next (page : Nat) (s : State) : ∃ r, exec (.pcommitGo page) s = .next r := ⟨_, rfl⟩
theorem exec_pkeyWrite_next (page : Nat) (key : Word) (s : State) : ∃ r, exec (.pkeyWrite page key) s = .next r := ⟨_, rfl⟩
theorem exec_plockLock_next (page : Nat) (s : State) : ∃ r, exec (.plockLock page) s = .next r := ⟨_, rfl⟩
theorem exec_pageSoftReset_next (page : Nat) (s : State) : ∃ r, exec (.pageSoftReset page) s = .next r := ⟨_, rfl⟩
theorem exec_softResetDone_next (page : Nat) (s : State) : ∃ r, exec (.softResetDone page) s = .next r := ⟨_, rfl⟩
theorem exec_expertSet_next (page : Nat) (s : State) : ∃ r, exec (.expertSet page) s = .next r := ⟨_, rfl⟩
theorem exec_expertClear_next (page : Nat) (s : State) : ∃ r, exec (.expertClear page) s = .next r := ⟨_, rfl⟩
theorem exec_profileDerive_next (t : Nat) (s : State) : ∃ r, exec (.profileDerive t) s = .next r := ⟨_, rfl⟩
theorem exec_globalSoftReset_next (s : State) : ∃ r, exec .globalSoftReset s = .next r := ⟨_, rfl⟩
theorem exec_tableWrite_next (a : Nat) (wide : Bool) (v : Nat) (s : State) : ∃ r, exec (.tableWrite a wide v) s = .next r := by
  rw [exec_tableWrite]
  unfold execTableWrite
  repeat' split
  all_goals exact ⟨_, rfl⟩

theorem exec_tableRead_next (a : Nat) (wide : Bool) (u : List Upset) (s : State) : ∃ r, exec (.tableRead a wide u) s = .next r := by
  rw [exec_tableRead]
  unfold execTableRead
  dsimp only
  repeat' split
  all_goals exact ⟨_, rfl⟩

theorem exec_lineTrigger_next (t : Nat) (s : State) : ∃ r, exec (.lineTrigger t) s = .next r := by
  rw [exec_lineTrigger]
  unfold execLineTrigger
  dsimp only
  repeat' split
  all_goals exact ⟨_, rfl⟩

theorem exec_slotBoundary_next (s : State) : ∃ r, exec .slotBoundary s = .next r := ⟨_, rfl⟩
theorem exec_lineTimerExpiry_next (s : State) : ∃ r, exec .lineTimerExpiry s = .next r := by
  rw [exec_lineTimerExpiry]
  unfold execLineTimerExpiry
  dsimp only
  repeat' split
  all_goals exact ⟨_, rfl⟩

theorem exec_pclkLock_next (t : Nat) (s : State) : ∃ r, exec (.pclkLock t) s = .next r := ⟨_, rfl⟩
theorem exec_pclkUnlock_next (t : Nat) (s : State) : ∃ r, exec (.pclkUnlock t) s = .next r := ⟨_, rfl⟩
theorem exec_diagStrobeEnd_next (s : State) : ∃ r, exec .diagStrobeEnd s = .next r := ⟨_, rfl⟩
theorem exec_conversion_next (c : Nat) (x : ConvIn) (s : State) : ∃ r, exec (.conversion c x) s = .next r := by
  rw [exec_conversion]
  unfold execConversion
  dsimp only
  repeat' split
  all_goals exact ⟨_, rfl⟩

theorem exec_wireCheck_next (c : Nat) (x : WireIn) (s : State) : ∃ r, exec (.wireCheck c x) s = .next r := ⟨_, rfl⟩
theorem exec_coresSettled_next (t : Nat) (s : State) : ∃ r, exec (.coresSettled t) s = .next r := by
  rw [exec_coresSettled]
  unfold execCoresSettled
  repeat' split
  all_goals exact ⟨_, rfl⟩

theorem exec_fabricWord_next (c : Nat) (u : List Upset) (s : State) : ∃ r, exec (.fabricWord c u) s = .next r := by
  rw [exec_fabricWord]
  unfold execFabricWord
  dsimp only
  repeat' split
  all_goals exact ⟨_, rfl⟩

theorem exec_readoutRelease_next (g : Nat) (t : Nat) (s : State) : ∃ r, exec (.readoutRelease g t) s = .next r := by
  rw [exec_readoutRelease]
  unfold execReadoutRelease
  dsimp only
  repeat' split
  all_goals exact ⟨_, rfl⟩

theorem exec_recordPass_next (stream : Nat) (t : Nat) (s : State) : ∃ r, exec (.recordPass stream t) s = .next r := ⟨_, rfl⟩
theorem exec_scrubRead_next (u : List Upset) (s : State) : ∃ r, exec (.scrubRead u) s = .next r := by
  rw [exec_scrubRead]
  unfold execScrubRead
  dsimp only
  repeat' split
  all_goals exact ⟨_, rfl⟩

theorem exec_calCopyDone_next (t : Nat) (s : State) : ∃ r, exec (.calCopyDone t) s = .next r := by
  rw [exec_calCopyDone]
  unfold execCalCopyDone
  dsimp only
  repeat' split
  all_goals exact ⟨_, rfl⟩

theorem exec_calRunDone_next (t : Nat) (s : State) : ∃ r, exec (.calRunDone t) s = .next r := by
  rw [exec_calRunDone]
  unfold execCalRunDone
  dsimp only
  repeat' split
  all_goals exact ⟨_, rfl⟩

theorem exec_lampEnable_next (s : State) : ∃ r, exec .lampEnable s = .next r := ⟨_, rfl⟩
theorem exec_lampDisable_next (s : State) : ∃ r, exec .lampDisable s = .next r := ⟨_, rfl⟩
theorem exec_fadeTick_next (t : Nat) (s : State) : ∃ r, exec (.fadeTick t) s = .next r := ⟨_, rfl⟩
theorem exec_strobeStart_next (pulse : Nat) (col : Option Nat) (s : State) : ∃ r, exec (.strobeStart pulse col) s = .next r := by
  rw [exec_strobeStart]
  unfold execStrobeStart
  repeat' split
  all_goals exact ⟨_, rfl⟩

theorem exec_strobeEnd_next (c : Nat) (s : State) : ∃ r, exec (.strobeEnd c) s = .next r := by
  rw [exec_strobeEnd]
  unfold execStrobeEnd
  dsimp only
  repeat' split
  all_goals exact ⟨_, rfl⟩

theorem exec_regulatorVerdict_next (k : Nat) (c : Nat) (short : Bool) (t : Nat) (s : State) : ∃ r, exec (.regulatorVerdict k c short t) s = .next r := by
  rw [exec_regulatorVerdict]
  unfold execRegulatorVerdict
  dsimp only
  repeat' split
  all_goals exact ⟨_, rfl⟩

theorem exec_columnFault_next (c : Nat) (t : Nat) (s : State) : ∃ r, exec (.columnFault c t) s = .next r := by
  rw [exec_columnFault]
  unfold execColumnFault
  repeat' split
  all_goals exact ⟨_, rfl⟩

theorem exec_lampVerdictClear_next (c : Nat) (w : Word) (s : State) : ∃ r, exec (.lampVerdictClear c w) s = .next r := by
  rw [exec_lampVerdictClear]
  unfold execLampVerdictClear
  repeat' split
  all_goals exact ⟨_, rfl⟩

theorem exec_columnReen_next (c : Nat) (s : State) : ∃ r, exec (.columnReen c) s = .next r := by
  rw [exec_columnReen]
  unfold execColumnReen
  repeat' split
  all_goals exact ⟨_, rfl⟩

theorem exec_columnRecovered_next (c : Nat) (s : State) : ∃ r, exec (.columnRecovered c) s = .next r := by
  rw [exec_columnRecovered]
  unfold execColumnRecovered
  dsimp only
  repeat' split
  all_goals exact ⟨_, rfl⟩

theorem exec_hdrmClear_next (c : Nat) (s : State) : ∃ r, exec (.hdrmClear c) s = .next r := by
  rw [exec_hdrmClear]
  unfold execHdrmClear
  repeat' split
  all_goals exact ⟨_, rfl⟩

theorem exec_ilkFall_next (x : IlkIn) (s : State) : ∃ r, exec (.ilkFall x) s = .next r := ⟨_, rfl⟩
theorem exec_ilkLatchClear_next (pin : Bool) (s : State) : ∃ r, exec (.ilkLatchClear pin) s = .next r := ⟨_, rfl⟩
theorem exec_rowEnable_next (k : Nat) (s : State) : ∃ r, exec (.rowEnable k) s = .next r := by
  rw [exec_rowEnable]
  unfold execRowEnable
  repeat' split
  all_goals exact ⟨_, rfl⟩

theorem exec_safeRowMark_next (k : Nat) (uv : Bool) (s : State) : ∃ r, exec (.safeRowMark k uv) s = .next r := by
  rw [exec_safeRowMark]
  unfold execSafeRowMark
  repeat' split
  all_goals exact ⟨_, rfl⟩

theorem exec_strobeMeasure_next (x : List MeasIn) (t : Nat) (s : State) : ∃ r, exec (.strobeMeasure x t) s = .next r := by
  rw [exec_strobeMeasure]
  unfold execStrobeMeasure
  dsimp only
  repeat' split
  all_goals exact ⟨_, rfl⟩

theorem exec_baselineInterval_next (t : Nat) (s : State) : ∃ r, exec (.baselineInterval t) s = .next r := by
  rw [exec_baselineInterval]
  unfold execBaselineInterval
  dsimp only
  repeat' split
  all_goals exact ⟨_, rfl⟩

theorem exec_lampSelect_next (w : Word) (s : State) : ∃ r, exec (.lampSelect w) s = .next r := ⟨_, rfl⟩
theorem exec_hkEntryDone_next (x : HkIn) (t : Nat) (s : State) : ∃ r, exec (.hkEntryDone x t) s = .next r := by
  rw [exec_hkEntryDone]
  unfold execHkEntryDone
  dsimp only
  repeat' split
  all_goals exact ⟨_, rfl⟩

theorem exec_urgentRequest_next (w : Word) (task : Bool) (s : State) : ∃ r, exec (.urgentRequest w task) s = .next r := by
  rw [exec_urgentRequest]
  unfold execUrgentRequest
  repeat' split
  all_goals exact ⟨_, rfl⟩

theorem exec_urgentDone_next (x : HkIn) (t : Nat) (s : State) : ∃ r, exec (.urgentDone x t) s = .next r := by
  rw [exec_urgentDone]
  unfold execUrgentDone
  dsimp only
  repeat' split
  all_goals exact ⟨_, rfl⟩

theorem exec_hkStale_next (n : Nat) (t : Nat) (s : State) : ∃ r, exec (.hkStale n t) s = .next r := by
  rw [exec_hkStale]
  unfold execHkStale
  dsimp only
  repeat' split
  all_goals exact ⟨_, rfl⟩

theorem exec_rotationStepStart_next (t : Nat) (s : State) : ∃ r, exec (.rotationStepStart t) s = .next r := by
  rw [exec_rotationStepStart]
  unfold execRotationStepStart
  dsimp only
  repeat' split
  all_goals exact ⟨_, rfl⟩

theorem exec_idleSweep_next (t : Nat) (s : State) : ∃ r, exec (.idleSweep t) s = .next r := by
  rw [exec_idleSweep]
  unfold execIdleSweep
  dsimp only
  repeat' split
  all_goals exact ⟨_, rfl⟩

theorem exec_colReqLamp_next (s : State) : ∃ r, exec .colReqLamp s = .next r := ⟨_, rfl⟩
theorem exec_colReqFlux_next (s : State) : ∃ r, exec .colReqFlux s = .next r := ⟨_, rfl⟩
theorem exec_colReqDark_next (s : State) : ∃ r, exec .colReqDark s = .next r := ⟨_, rfl⟩
theorem exec_colReqWhite_next (s : State) : ∃ r, exec .colReqWhite s = .next r := ⟨_, rfl⟩
theorem exec_colReqRotrst_next (s : State) : ∃ r, exec .colReqRotrst s = .next r := ⟨_, rfl⟩
theorem exec_colDisable_next (reg : Nat) (w : Word) (s : State) : ∃ r, exec (.colDisable reg w) s = .next r := ⟨_, rfl⟩
theorem exec_lampRunDone_next (t : Nat) (s : State) : ∃ r, exec (.lampRunDone t) s = .next r := by
  rw [exec_lampRunDone]
  unfold execLampRunDone
  dsimp only
  repeat' split
  all_goals exact ⟨_, rfl⟩

theorem exec_calPeriodExpiry_next (t : Nat) (s : State) : ∃ r, exec (.calPeriodExpiry t) s = .next r := ⟨_, rfl⟩
theorem exec_whitePeriodExpiry_next (t : Nat) (s : State) : ∃ r, exec (.whitePeriodExpiry t) s = .next r := ⟨_, rfl⟩
theorem exec_sigmaSelect_next (w : Word) (s : State) : ∃ r, exec (.sigmaSelect w) s = .next r := ⟨_, rfl⟩
theorem exec_slackMeasure_next (l : List Nat) (t : Nat) (s : State) : ∃ r, exec (.slackMeasure l t) s = .next r := ⟨_, rfl⟩
theorem exec_clockStep_next (t : Nat) (s : State) : ∃ r, exec (.clockStep t) s = .next r := by
  rw [exec_clockStep]
  unfold execClockStep
  dsimp only
  repeat' split
  all_goals exact ⟨_, rfl⟩

theorem exec_voltageStep_next (ack : Bool) (t : Nat) (s : State) : ∃ r, exec (.voltageStep ack t) s = .next r := by
  rw [exec_voltageStep]
  unfold execVoltageStep
  dsimp only
  repeat' split
  all_goals exact ⟨_, rfl⟩

theorem exec_marginProjection_next (t : Nat) (s : State) : ∃ r, exec (.marginProjection t) s = .next r := by
  rw [exec_marginProjection]
  unfold execMarginProjection
  generalize s.upto t = s0
  obtain ⟨s1, m1⟩ := s0.projectKind 1
  try dsimp only
  obtain ⟨s2, m2⟩ := s1.projectKind 2
  try dsimp only
  obtain ⟨s3, m3⟩ := s2.projectKind 3
  try dsimp only
  obtain ⟨s4, m4⟩ := s3.projectKind 4
  exact ⟨_, rfl⟩

theorem exec_historySave_next (t : Nat) (s : State) : ∃ r, exec (.historySave t) s = .next r := by
  rw [exec_historySave]
  unfold execHistorySave
  dsimp only
  repeat' split
  all_goals exact ⟨_, rfl⟩

theorem exec_lineComplete_next (line : Nat) (t : Nat) (s : State) : ∃ r, exec (.lineComplete line t) s = .next r := by
  rw [exec_lineComplete]
  unfold execLineComplete
  dsimp only
  repeat' split
  all_goals exact ⟨_, rfl⟩

theorem exec_streakScanStart_next (t : Nat) (s : State) : ∃ r, exec (.streakScanStart t) s = .next r := by
  rw [exec_streakScanStart]
  unfold execStreakScanStart
  dsimp only
  repeat' split
  all_goals exact ⟨_, rfl⟩

theorem exec_streakScanDone_next (t : Nat) (s : State) : ∃ r, exec (.streakScanDone t) s = .next r := by
  rw [exec_streakScanDone]
  unfold execStreakScanDone
  dsimp only
  repeat' split
  all_goals exact ⟨_, rfl⟩

theorem exec_movePush_next (x : Nat) (w : Word) (s : State) : ∃ r, exec (.movePush x w) s = .next r := ⟨_, rfl⟩
theorem exec_profileTick_next (t : Nat) (s : State) : ∃ r, exec (.profileTick t) s = .next r := ⟨_, rfl⟩
theorem exec_controlledStop_next (x : Nat) (s : State) : ∃ r, exec (.controlledStop x) s = .next r := ⟨_, rfl⟩
theorem exec_immediateStop_next (x : Nat) (s : State) : ∃ r, exec (.immediateStop x) s = .next r := ⟨_, rfl⟩
theorem exec_queueFlush_next (x : Nat) (s : State) : ∃ r, exec (.queueFlush x) s = .next r := ⟨_, rfl⟩
theorem exec_groupCstop_next (g : Nat) (s : State) : ∃ r, exec (.groupCstop g) s = .next r := ⟨_, rfl⟩
theorem exec_groupIstop_next (g : Nat) (s : State) : ∃ r, exec (.groupIstop g) s = .next r := ⟨_, rfl⟩
theorem exec_chopperSwitch_next (x : Nat) (b : Bool) (sense : Nat) (err : Int) (t : Nat) (s : State) : ∃ r, exec (.chopperSwitch x b sense err t) s = .next r := by
  rw [exec_chopperSwitch]
  unfold execChopperSwitch
  dsimp only
  repeat' split
  all_goals exact ⟨_, rfl⟩

theorem exec_chopperOffTimeEnd_next (x : Nat) (b : Bool) (sense : Nat) (err : Int) (t : Nat) (s : State) : ∃ r, exec (.chopperOffTimeEnd x b sense err t) s = .next r := by
  rw [exec_chopperOffTimeEnd]
  unfold execChopperOffTimeEnd
  dsimp only
  repeat' split
  all_goals exact ⟨_, rfl⟩

theorem exec_holdDelayExpiry_next (x : Nat) (t : Nat) (s : State) : ∃ r, exec (.holdDelayExpiry x t) s = .next r := by
  rw [exec_holdDelayExpiry]
  unfold execHoldDelayExpiry
  dsimp only
  repeat' split
  all_goals exact ⟨_, rfl⟩

theorem exec_wakeDelayExpiry_next (x : Nat) (t : Nat) (s : State) : ∃ r, exec (.wakeDelayExpiry x t) s = .next r := by
  rw [exec_wakeDelayExpiry]
  unfold execWakeDelayExpiry
  dsimp only
  repeat' split
  all_goals exact ⟨_, rfl⟩

theorem exec_overcurrent_next (x : OcIn) (t : Nat) (s : State) : ∃ r, exec (.overcurrent x t) s = .next r := ⟨_, rfl⟩

theorem exec_encoderEdge_next (src : EncIn) (a : Bool) (b : Bool) (t : Nat) (s : State) : ∃ r, exec (.encoderEdge src a b t) s = .next r := ⟨_, rfl⟩
theorem exec_stall_next (x : Nat) (t : Nat) (s : State) : ∃ r, exec (.stall x t) s = .next r := by
  rw [exec_stall]
  unfold execStall
  dsimp only
  repeat' split
  all_goals exact ⟨_, rfl⟩

theorem exec_homeEvent_next (x : EncIn) (t : Nat) (s : State) : ∃ r, exec (.homeEvent x t) s = .next r := ⟨_, rfl⟩
theorem exec_sscArm_next (s : State) : ∃ r, exec .sscArm s = .next r := ⟨_, rfl⟩
theorem exec_admission_next (t : Nat) (s : State) : ∃ r, exec (.admission t) s = .next r := ⟨_, rfl⟩
theorem exec_sscStart_next (s : State) : ∃ r, exec .sscStart s = .next r := ⟨_, rfl⟩
theorem exec_sscEnd_next (s : State) : ∃ r, exec .sscEnd s = .next r := ⟨_, rfl⟩
theorem exec_sscAbort_next (s : State) : ∃ r, exec .sscAbort s = .next r := ⟨_, rfl⟩
theorem exec_sscResume_next (s : State) : ∃ r, exec .sscResume s = .next r := ⟨_, rfl⟩
theorem exec_jobStopped_next (t : Nat) (s : State) : ∃ r, exec (.jobStopped t) s = .next r := ⟨_, rfl⟩
theorem exec_trackingPause_next (t : Nat) (s : State) : ∃ r, exec (.trackingPause t) s = .next r := ⟨_, rfl⟩
theorem exec_backupDone_next (t : Nat) (s : State) : ∃ r, exec (.backupDone t) s = .next r := ⟨_, rfl⟩
theorem exec_restartBegin_next (t : Nat) (s : State) : ∃ r, exec (.restartBegin t) s = .next r := ⟨_, rfl⟩
theorem exec_jobIdle_next (t : Nat) (s : State) : ∃ r, exec (.jobIdle t) s = .next r := ⟨_, rfl⟩
theorem exec_storeDrained_next (t : Nat) (s : State) : ∃ r, exec (.storeDrained t) s = .next r := by
  rw [exec_storeDrained]
  unfold execStoreDrained
  dsimp only
  repeat' split
  all_goals exact ⟨_, rfl⟩

theorem exec_descriptorFetch_next (ch : Nat) (b : List Byte) (t : Nat) (s : State) : ∃ r, exec (.descriptorFetch ch b t) s = .next r := by
  rw [exec_descriptorFetch]
  unfold execDescriptorFetch
  dsimp only
  repeat' split
  all_goals exact ⟨_, rfl⟩

theorem exec_tokenRefill_next (u : List StoreHit) (t : Nat) (s : State) : ∃ r, exec (.tokenRefill u t) s = .next r := by
  rw [exec_tokenRefill]
  unfold execTokenRefill
  dsimp only
  split
  all_goals exact ⟨_, rfl⟩

theorem exec_descriptorDone_next (ch : Nat) (t : Nat) (s : State) : ∃ r, exec (.descriptorDone ch t) s = .next r := by
  rw [exec_descriptorDone]
  unfold execDescriptorDone
  dsimp only
  repeat' split
  all_goals exact ⟨_, rfl⟩

theorem exec_readCompletion_next (ch : Nat) (ok : Bool) (b : List Byte) (t : Nat) (s : State) : ∃ r, exec (.readCompletion ch ok b t) s = .next r := by
  rw [exec_readCompletion]
  unfold execReadCompletion
  dsimp only
  repeat' split
  all_goals exact ⟨_, rfl⟩

theorem exec_readTimeout_next (ch : Nat) (t : Nat) (s : State) : ∃ r, exec (.readTimeout ch t) s = .next r := by
  rw [exec_readTimeout]
  unfold execReadTimeout
  dsimp only
  repeat' split
  all_goals exact ⟨_, rfl⟩

theorem exec_dmaKick_next (ch : Nat) (s : State) : ∃ r, exec (.dmaKick ch) s = .next r := ⟨_, rfl⟩
theorem exec_dmaNextWrite_next (ch : Nat) (a : Nat) (s : State) : ∃ r, exec (.dmaNextWrite ch a) s = .next r := ⟨_, rfl⟩
theorem exec_dmaPoll_next (ch : Nat) (t : Nat) (s : State) : ∃ r, exec (.dmaPoll ch t) s = .next r := by
  rw [exec_dmaPoll]
  unfold execDmaPoll
  dsimp only
  repeat' split
  all_goals exact ⟨_, rfl⟩

theorem exec_rrpWrite_next (ch : Nat) (w : Word) (s : State) : ∃ r, exec (.rrpWrite ch w) s = .next r := ⟨_, rfl⟩
theorem exec_cqRiWrite_next (q : Nat) (w : Word) (s : State) : ∃ r, exec (.cqRiWrite q w) s = .next r := ⟨_, rfl⟩
theorem exec_dmaDisable_next (ch : Nat) (t : Nat) (s : State) : ∃ r, exec (.dmaDisable ch t) s = .next r := ⟨_, rfl⟩
theorem exec_dmaEnable_next (ch : Nat) (t : Nat) (s : State) : ∃ r, exec (.dmaEnable ch t) s = .next r := ⟨_, rfl⟩
theorem exec_msixUnmask_next (v : Nat) (s : State) : ∃ r, exec (.msixUnmask v) s = .next r := ⟨_, rfl⟩
theorem exec_pcieBar2Request_next (write : Bool) (a : Nat) (be : List Nat) (data : List Word) (u : List Upset) (t : Nat) (s : State) : ∃ r, exec (.pcieBar2Request write a be data u t) s = .next r := by
  rw [exec_pcieBar2Request]
  unfold execPcieBar2Request
  dsimp only
  repeat' split
  all_goals exact ⟨_, rfl⟩

theorem exec_pcieRxError_next (kind : Nat) (posted : Bool) (t : Nat) (s : State) : ∃ r, exec (.pcieRxError kind posted t) s = .next r := ⟨_, rfl⟩
theorem exec_dlDown_next (t : Nat) (s : State) : ∃ r, exec (.dlDown t) s = .next r := ⟨_, rfl⟩
theorem exec_linkUp_next (speed : Nat) (width : Nat) (t : Nat) (s : State) : ∃ r, exec (.linkUp speed width t) s = .next r := by
  rw [exec_linkUp]
  unfold execLinkUp
  dsimp only
  repeat' split
  all_goals exact ⟨_, rfl⟩

theorem exec_spiShortFrame_next (bytes : Nat) (s : State) : ∃ r, exec (.spiShortFrame bytes) s = .next r := ⟨_, rfl⟩
theorem exec_wlockWrite_next (link : Nat) (w : Word) (s : State) : ∃ r, exec (.wlockWrite link w) s = .next r := ⟨_, rfl⟩
theorem exec_eventPublish_next (p : Nat) (t : Nat) (s : State) : ∃ r, exec (.eventPublish p t) s = .next r := ⟨_, rfl⟩
theorem exec_runawayWindow_next (t : Nat) (s : State) : ∃ r, exec (.runawayWindow t) s = .next r := ⟨_, rfl⟩
theorem exec_eviEdge_next (k : Nat) (level : Bool) (t : Nat) (s : State) : ∃ r, exec (.eviEdge k level t) s = .next r := ⟨_, rfl⟩
theorem exec_lutInputChange_next (ended : List Nat) (t : Nat) (s : State) : ∃ r, exec (.lutInputChange ended t) s = .next r := ⟨_, rfl⟩
theorem exec_lutFilterExpiry_next (n : Nat) (t : Nat) (s : State) : ∃ r, exec (.lutFilterExpiry n t) s = .next r := by
  rw [exec_lutFilterExpiry]
  unfold execLutFilterExpiry
  dsimp only
  repeat' split
  all_goals exact ⟨_, rfl⟩

theorem exec_evoPulseEnd_next (k : Nat) (t : Nat) (s : State) : ∃ r, exec (.evoPulseEnd k t) s = .next r := by
  rw [exec_evoPulseEnd]
  unfold execEvoPulseEnd
  dsimp only
  repeat' split
  all_goals exact ⟨_, rfl⟩

theorem exec_softwarePulse_next (w : Word) (s : State) : ∃ r, exec (.softwarePulse w) s = .next r := ⟨_, rfl⟩
theorem exec_runawayUnmask_next (c : Nat) (s : State) : ∃ r, exec (.runawayUnmask c) s = .next r := ⟨_, rfl⟩
theorem exec_channelLock_next (c : Nat) (s : State) : ∃ r, exec (.channelLock c) s = .next r := ⟨_, rfl⟩
theorem exec_cellLock_next (n : Nat) (s : State) : ∃ r, exec (.cellLock n) s = .next r := ⟨_, rfl⟩
theorem exec_tsloadWrite_next (v : Nat) (s : State) : ∃ r, exec (.tsloadWrite v) s = .next r := ⟨_, rfl⟩
theorem exec_lineCounterWrite_next (v : Nat) (s : State) : ∃ r, exec (.lineCounterWrite v) s = .next r := ⟨_, rfl⟩
theorem exec_deadlineExpiry_next (line : Nat) (t : Nat) (s : State) : ∃ r, exec (.deadlineExpiry line t) s = .next r := ⟨_, rfl⟩
theorem exec_faultRaise_next (code : Nat) (item : Nat) (t : Nat) (s : State) : ∃ r, exec (.faultRaise code item t) s = .next r := ⟨_, rfl⟩
theorem exec_faultAck_next (w : Word) (s : State) : ∃ r, exec (.faultAck w) s = .next r := ⟨_, rfl⟩
theorem exec_logClear_next (s : State) : ∃ r, exec .logClear s = .next r := ⟨_, rfl⟩
theorem exec_logSelect_next (w : Word) (s : State) : ∃ r, exec (.logSelect w) s = .next r := ⟨_, rfl⟩
theorem exec_safeRequest_next (s : State) : ∃ r, exec .safeRequest s = .next r := ⟨_, rfl⟩
theorem exec_safeClear_next (hot : Nat) (bad : Nat) (s : State) : ∃ r, exec (.safeClear hot bad) s = .next r := ⟨_, rfl⟩
theorem exec_mbxVersion_next (seq : Nat) (s : State) : ∃ r, exec (.mbxVersion seq) s = .next r := ⟨_, rfl⟩
theorem exec_mbxPreadmit_next (seq : Nat) (s : State) : ∃ r, exec (.mbxPreadmit seq) s = .next r := ⟨_, rfl⟩
theorem exec_mbxCorestat_next (seq : Nat) (s : State) : ∃ r, exec (.mbxCorestat seq) s = .next r := ⟨_, rfl⟩
theorem exec_mbxUnknown_next (seq : Nat) (cmd : Nat) (s : State) : ∃ r, exec (.mbxUnknown seq cmd) s = .next r := ⟨_, rfl⟩
theorem exec_mbxReply_next (t : Nat) (s : State) : ∃ r, exec (.mbxReply t) s = .next r := ⟨_, rfl⟩
theorem exec_coreResume_next (t : Nat) (s : State) : ∃ r, exec (.coreResume t) s = .next r := ⟨_, rfl⟩
theorem exec_imageBegin_next (w : Word) (s : State) : ∃ r, exec (.imageBegin w) s = .next r := ⟨_, rfl⟩
theorem exec_flashEraseDone_next (t : Nat) (s : State) : ∃ r, exec (.flashEraseDone t) s = .next r := ⟨_, rfl⟩
theorem exec_imageWord_next (w : Word) (s : State) : ∃ r, exec (.imageWord w) s = .next r := ⟨_, rfl⟩
theorem exec_imageVerify_next (w : Word) (s : State) : ∃ r, exec (.imageVerify w) s = .next r := ⟨_, rfl⟩
theorem exec_verifyDone_next (readOk : Bool) (ack : Bool) (t : Nat) (s : State) : ∃ r, exec (.verifyDone readOk ack t) s = .next r := ⟨_, rfl⟩
theorem exec_imageAbort_next (s : State) : ∃ r, exec .imageAbort s = .next r := ⟨_, rfl⟩
theorem exec_otpCommit_next (s : State) : ∃ r, exec .otpCommit s = .next r := ⟨_, rfl⟩
theorem exec_firmwareSwap_next (w : Word) (same : Bool) (s : State) : ∃ r, exec (.firmwareSwap w same) s = .next r := ⟨_, rfl⟩
theorem exec_swapHandover_next (t : Nat) (s : State) : ∃ r, exec (.swapHandover t) s = .next r := ⟨_, rfl⟩
theorem exec_swapTimeout_next (t : Nat) (s : State) : ∃ r, exec (.swapTimeout t) s = .next r := ⟨_, rfl⟩
theorem exec_fieldLock_next (s : State) : ∃ r, exec .fieldLock s = .next r := ⟨_, rfl⟩
theorem exec_debugOpen_next (w : Word) (s : State) : ∃ r, exec (.debugOpen w) s = .next r := ⟨_, rfl⟩
theorem exec_debugClose_next (s : State) : ∃ r, exec .debugClose s = .next r := ⟨_, rfl⟩
theorem exec_debugNonce_next (nonce : List Word) (t : Nat) (s : State) : ∃ r, exec (.debugNonce nonce t) s = .next r := ⟨_, rfl⟩
theorem exec_debugUnlock_next (t : Nat) (s : State) : ∃ r, exec (.debugUnlock t) s = .next r := ⟨_, rfl⟩
theorem exec_attest_next (s : State) : ∃ r, exec .attest s = .next r := ⟨_, rfl⟩
theorem exec_attestDone_next (t : Nat) (s : State) : ∃ r, exec (.attestDone t) s = .next r := ⟨_, rfl⟩
theorem exec_reportWordRead_next (s : State) : ∃ r, exec .reportWordRead s = .next r := ⟨_, rfl⟩
theorem exec_powerOnReset_next (s : State) : ∃ r, exec .powerOnReset s = .next r := ⟨_, rfl⟩
theorem exec_bootStart_next (straps : Nat) (s : State) : ∃ r, exec (.bootStart straps) s = .next r := ⟨_, rfl⟩
theorem exec_storeTrained_next (gb : Nat) (mts : Nat) (t : Nat) (s : State) : ∃ r, exec (.storeTrained gb mts t) s = .next r := ⟨_, rfl⟩
theorem exec_bootImageVerified_next (okA : Bool) (okB : Bool) (ack : Bool) (t : Nat) (s : State) : ∃ r, exec (.bootImageVerified okA okB ack t) s = .next r := ⟨_, rfl⟩
theorem exec_ready_next (t : Nat) (s : State) : ∃ r, exec (.ready t) s = .next r := ⟨_, rfl⟩
theorem exec_perstFall_next (t : Nat) (s : State) : ∃ r, exec (.perstFall t) s = .next r := ⟨_, rfl⟩
theorem exec_perstRise_next (t : Nat) (s : State) : ∃ r, exec (.perstRise t) s = .next r := ⟨_, rfl⟩
theorem exec_hotReset_next (t : Nat) (s : State) : ∃ r, exec (.hotReset t) s = .next r := ⟨_, rfl⟩
theorem exec_standbyRequest_next (s : State) : ∃ r, exec .standbyRequest s = .next r := ⟨_, rfl⟩
theorem exec_deepSleepRequest_next (s : State) : ∃ r, exec .deepSleepRequest s = .next r := ⟨_, rfl⟩
theorem exec_readyRequest_next (s : State) : ∃ r, exec .readyRequest s = .next r := ⟨_, rfl⟩
theorem exec_sleepEntryStep_next (t : Nat) (s : State) : ∃ r, exec (.sleepEntryStep t) s = .next r := ⟨_, rfl⟩
theorem exec_wakeDone_next (t : Nat) (s : State) : ∃ r, exec (.wakeDone t) s = .next r := ⟨_, rfl⟩
theorem exec_d3hotEntry_next (s : State) : ∃ r, exec .d3hotEntry s = .next r := ⟨_, rfl⟩
theorem exec_d0Return_next (s : State) : ∃ r, exec .d0Return s = .next r := ⟨_, rfl⟩
theorem exec_vsensChange_next (b : Nat) (up : Bool) (t : Nat) (s : State) : ∃ r, exec (.vsensChange b up t) s = .next r := ⟨_, rfl⟩
theorem exec_refLoss_next (t : Nat) (s : State) : ∃ r, exec (.refLoss t) s = .next r := ⟨_, rfl⟩
theorem exec_refReturn_next (t : Nat) (s : State) : ∃ r, exec (.refReturn t) s = .next r := ⟨_, rfl⟩
theorem exec_supplyOutOfRange_next (n : Nat) (t : Nat) (s : State) : ∃ r, exec (.supplyOutOfRange n t) s = .next r := ⟨_, rfl⟩
theorem exec_dieOvertemp_next (n : Nat) (t : Nat) (s : State) : ∃ r, exec (.dieOvertemp n t) s = .next r := ⟨_, rfl⟩
theorem exec_pmbusPoll_next (x : PmbIn) (t : Nat) (s : State) : ∃ r, exec (.pmbusPoll x t) s = .next r := by
  rw [exec_pmbusPoll]
  unfold execPmbusPoll
  dsimp only
  repeat' split
  all_goals exact ⟨_, rfl⟩

theorem exec_voutCheck_next (x : PmbIn) (t : Nat) (s : State) : ∃ r, exec (.voutCheck x t) s = .next r := by
  rw [exec_voutCheck]
  unfold execVoutCheck
  dsimp only
  repeat' split
  all_goals exact ⟨_, rfl⟩

theorem exec_holdWaitExpiry_next (t : Nat) (s : State) : ∃ r, exec (.holdWaitExpiry t) s = .next r := by
  rw [exec_holdWaitExpiry]
  unfold execHoldWaitExpiry
  dsimp only
  repeat' split
  all_goals exact ⟨_, rfl⟩

theorem exec_postedWriteCredits_next (n : Nat) (t : Nat) (s : State) : ∃ r, exec (.postedWriteCredits n t) s = .next r := ⟨_, rfl⟩
theorem exec_linkRetrain_next (speed : Nat) (width : Nat) (t : Nat) (s : State) : ∃ r, exec (.linkRetrain speed width t) s = .next r := by
  rw [exec_linkRetrain]
  unfold execLinkRetrain
  dsimp only
  repeat' split
  all_goals exact ⟨_, rfl⟩

theorem exec_configRequest_next (write : Bool) (off : Nat) (w : Word) (t : Nat) (s : State) : ∃ r, exec (.configRequest write off w t) s = .next r := by
  rw [exec_configRequest]
  unfold execConfigRequest
  dsimp only
  repeat' split
  all_goals exact ⟨_, rfl⟩

theorem exec_bufferDrain_next (n : Nat) (t : Nat) (s : State) : ∃ r, exec (.bufferDrain n t) s = .next r := ⟨_, rfl⟩

end Sys2Proof.Laws
end

