-- ==== Sys2Proof/Laws/Stay.lean ====
section
/-! SUPPORT. What the stops, the reactions and the end of a job leave alone (spec/12, spec/16): Safe state, every fault
that is unacknowledged, the security state, the resets in hand and the straps. -/

namespace Sys2Proof.Laws

set_option Elab.async false

open Sys2Proof.Machine

/-- t stays as s in what no stop and no reaction changes; faults are only added. -/
structure Stay (s t : State) : Prop where
  safe   : t.chr.safe = s.chr.safe
  unack  : ∀ u, u ∈ s.chr.unack → u ∈ t.chr.unack
  sec    : t.sec = s.sec
  heat   : t.pwr.dieHot = s.pwr.dieHot ∧ t.pwr.supBad = s.pwr.supBad
  live   : t.pwr.porst = s.pwr.porst ∧ t.pwr.dark = s.pwr.dark ∧ t.pwr.bootAt = s.pwr.bootAt
  straps : t.straps = s.straps

variable {s0 s t : State}

theorem Stay.refl (s : State) : Stay s s := ⟨rfl, fun _ h => h, rfl, ⟨rfl, rfl⟩, ⟨rfl, rfl, rfl⟩, rfl⟩

theorem Stay.trans {a b c : State} (h : Stay a b) (k : Stay b c) : Stay a c :=
  ⟨k.safe.trans h.safe, fun u x => k.unack u (h.unack u x), k.sec.trans h.sec,
    ⟨k.heat.1.trans h.heat.1, k.heat.2.trans h.heat.2⟩,
    ⟨k.live.1.trans h.live.1, k.live.2.1.trans h.live.2.1, k.live.2.2.trans h.live.2.2⟩, k.straps.trans h.straps⟩

/-- A fault that was unacknowledged still is. -/
theorem Stay.isUnack {a b : State} (h : Stay a b) (c i : Nat) (k : a.isUnack c i = true) : b.isUnack c i = true := by
  unfold State.isUnack at *
  obtain ⟨u, hu, hc⟩ := List.any_eq_true.1 k
  exact List.any_eq_true.2 ⟨u, h.unack u hu, hc⟩

theorem ite_stay {c : Prop} [Decidable c] {a b : State} (ha : Stay s0 a) (hb : Stay s0 b) :
    Stay s0 (if c then a else b) := by
  split <;> assumption

structure StayOpt (s : State) (o : Option State) : Prop where
  out : ∀ t, o = some t → Stay s t

theorem opt_some_stay (h : Stay s0 t) : StayOpt s0 (some t) := ⟨fun _ hu => by cases hu; exact h⟩
theorem opt_none_stay : StayOpt s0 none := ⟨fun _ hu => by cases hu⟩
theorem ite_opt_stay {c : Prop} [Decidable c] {a b : Option State} (ha : StayOpt s0 a) (hb : StayOpt s0 b) :
    StayOpt s0 (if c then a else b) := by
  split <;> assumption
theorem some_stay {o : Option State} (h : StayOpt s0 o) (e : o = some t) : Stay s0 t := h.out t e
theorem fst_stay {α : Type} {p : State × α} {x : α} (h : Stay s0 p.1) (e : p = (t, x)) : Stay s0 t := by
  subst e
  exact h
theorem ite_fst_stay {α : Type} {c : Prop} [Decidable c] {p q : State × α} (hp : Stay s0 p.1) (hq : Stay s0 q.1) :
    Stay s0 (if c then p else q).1 := by
  split <;> assumption

theorem mk_stay (h : Stay s0 t)
    {pending now fv regs pend hold64 hdrs bar2 holdTab attnL flight out mer lines acq plt fft hel act hka col alm pho cdr ssc est dma hlk evf} :
    Stay s0 (State.mk pending now fv t.straps regs pend hold64 hdrs bar2 holdTab attnL flight out mer lines acq plt
      fft hel act hka col alm pho cdr ssc est dma hlk evf t.chr t.sec t.pwr) :=
  ⟨h.safe, h.unack, h.sec, h.heat, h.live, h.straps⟩

/-- An update that changes the log too, and at most adds to what is unacknowledged. -/
theorem mk_chr_stay {chr : Chr} (h : Stay s0 t) (hs : chr.safe = t.chr.safe) (hu : ∀ u, u ∈ t.chr.unack → u ∈ chr.unack)
    {pending now fv regs pend hold64 hdrs bar2 holdTab attnL flight out mer lines acq plt fft hel act hka col alm pho cdr ssc est dma hlk evf} :
    Stay s0 (State.mk pending now fv t.straps regs pend hold64 hdrs bar2 holdTab attnL flight out mer lines acq plt
      fft hel act hka col alm pho cdr ssc est dma hlk evf chr t.sec t.pwr) :=
  ⟨hs.trans h.safe, fun u x => hu u (h.unack u x), h.sec, h.heat, h.live, h.straps⟩

theorem setReg_stay (a : Nat) (w : Word) (h : Stay s0 s) : Stay s0 (s.setReg a w) := mk_stay h
theorem setHdr_stay (p : Nat) (x : Hdr) (h : Stay s0 s) : Stay s0 (s.setHdr p x) := mk_stay h
theorem setByte_stay (a : Nat) (b : Byte) (h : Stay s0 s) : Stay s0 (s.setByte a b) := mk_stay h

theorem store_stay (a n v : Nat) (h : Stay s0 s) : Stay s0 (s.store a n v) := by
  induction n generalizing s a v with
  | zero => exact h
  | succ n ih => exact ih _ _ (setByte_stay _ _ h)

theorem when_stay (c : Bool) {f : State → State} (h : Stay s0 s) (hf : ∀ t, Stay s0 t → Stay s0 (f t)) :
    Stay s0 (s.when c f) := by
  unfold State.when
  exact ite_stay (hf _ h) h

theorem foldS_stay {α : Type} {f : State → α → State} (l : List α) (h : Stay s0 s)
    (hf : ∀ t x, Stay s0 t → Stay s0 (f t x)) : Stay s0 (foldS f s l) := by
  induction l generalizing s with
  | nil => exact h
  | cons x l ih => exact ih (hf _ _ h)

theorem forN_stay (n : Nat) {f : State → Nat → State} (h : Stay s0 s)
    (hf : ∀ t x, Stay s0 t → Stay s0 (f t x)) : Stay s0 (forN n f s) := foldS_stay _ h hf

theorem foldl_stay {α β : Type} {f : State × α → β → State × α} (l : List β) {p : State × α} (h : Stay s0 p.1)
    (hf : ∀ p x, Stay s0 p.1 → Stay s0 (f p x).1) : Stay s0 (l.foldl f p).1 := by
  induction l generalizing p with
  | nil => exact h
  | cons x l ih => exact ih (hf _ _ h)

theorem setFld_stay (a : Nat) (f : Fld) (v : Nat) (h : Stay s0 s) : Stay s0 (State.setFld s a f v) := by
  unfold State.setFld
  repeat' first
    | with_reducible assumption
    | intro _
    | with_reducible apply setReg_stay
    | with_reducible apply ite_stay
    | split
    | dsimp only

theorem setFlag_stay (a : Nat) (f : Fld) (b : Bool) (h : Stay s0 s) : Stay s0 (State.setFlag s a f b) := by
  unfold State.setFlag
  repeat' first
    | with_reducible assumption
    | intro _
    | with_reducible apply setFld_stay
    | with_reducible apply ite_stay
    | split
    | dsimp only

theorem setReg64_stay (a : Nat) (v : Nat) (h : Stay s0 s) : Stay s0 (State.setReg64 s a v) := by
  unfold State.setReg64
  repeat' first
    | with_reducible assumption
    | intro _
    | with_reducible apply setReg_stay
    | with_reducible apply ite_stay
    | split
    | dsimp only

theorem bump_stay (a : Nat) (n : Nat) (h : Stay s0 s) : Stay s0 (State.bump s a n) := by
  unfold State.bump
  repeat' first
    | with_reducible assumption
    | intro _
    | with_reducible apply setReg_stay
    | with_reducible apply ite_stay
    | split
    | dsimp only

theorem bumpFld_stay (a : Nat) (f : Fld) (n : Nat) (h : Stay s0 s) : Stay s0 (State.bumpFld s a f n) := by
  unfold State.bumpFld
  repeat' first
    | with_reducible assumption
    | intro _
    | with_reducible apply setFld_stay
    | with_reducible apply ite_stay
    | split
    | dsimp only

theorem useFree_stay  (h : Stay s0 s) : Stay s0 (State.useFree s) := by
  unfold State.useFree
  repeat' first
    | with_reducible assumption
    | intro _
    | with_reducible apply ite_stay
    | split
    | dsimp only
    | with_reducible refine mk_stay ?_

theorem skipFree_stay (n : Nat) (h : Stay s0 s) : Stay s0 (State.skipFree s n) := by
  unfold State.skipFree
  repeat' first
    | with_reducible assumption
    | intro _
    | with_reducible apply ite_stay
    | split
    | dsimp only
    | with_reducible refine mk_stay ?_

theorem upto_stay (t : Nat) (h : Stay s0 s) : Stay s0 (State.upto s t) := by
  unfold State.upto
  repeat' first
    | with_reducible assumption
    | intro _
    | with_reducible apply ite_stay
    | split
    | dsimp only
    | with_reducible refine mk_stay ?_

theorem send_stay (m : Msg) (h : Stay s0 s) : Stay s0 (State.send s m) := by
  unfold State.send
  repeat' first
    | with_reducible assumption
    | intro _
    | with_reducible apply ite_stay
    | split
    | dsimp only
    | with_reducible refine mk_stay ?_

theorem sendVector_stay (v : Nat) (h : Stay s0 s) : Stay s0 (State.sendVector s v) := by
  unfold State.sendVector
  repeat' first
    | with_reducible assumption
    | intro _
    | with_reducible apply send_stay
    | with_reducible apply ite_stay
    | split
    | dsimp only
    | with_reducible refine mk_stay ?_

theorem irq_stay (p : Nat) (h : Stay s0 s) : Stay s0 (State.irq s p) := by
  unfold State.irq
  repeat' first
    | with_reducible assumption
    | intro _
    | with_reducible apply sendVector_stay
    | with_reducible apply ite_stay
    | split
    | dsimp only

theorem evt_stay (p : Nat) (b : Nat) (h : Stay s0 s) : Stay s0 (State.evt s p b) := by
  unfold State.evt
  repeat' first
    | with_reducible assumption
    | intro _
    | with_reducible apply setHdr_stay
    | with_reducible apply irq_stay
    | with_reducible apply ite_stay
    | split
    | dsimp only

theorem evtIf_stay (c : Bool) (p : Nat) (b : Nat) (h : Stay s0 s) : Stay s0 (State.evtIf s c p b) := by
  unfold State.evtIf
  repeat' first
    | with_reducible assumption
    | intro _
    | with_reducible apply evt_stay
    | with_reducible apply ite_stay
    | split
    | dsimp only

theorem attnIrq_stay (a0 : State) (h : Stay s0 s) : Stay s0 (State.attnIrq a0 s) := by
  unfold State.attnIrq
  repeat' first
    | with_reducible assumption
    | intro _
    | with_reducible apply sendVector_stay
    | with_reducible apply ite_stay
    | split
    | dsimp only

theorem setAttn_stay (b : Nat) (h : Stay s0 s) : Stay s0 (State.setAttn s b) := by
  unfold State.setAttn
  repeat' first
    | with_reducible assumption
    | intro _
    | with_reducible apply attnIrq_stay
    | with_reducible apply ite_stay
    | split
    | dsimp only
    | with_reducible refine mk_stay ?_

theorem emit_stay (p : Nat) (h : Stay s0 s) : Stay s0 (State.emit s p) := by
  unfold State.emit
  repeat' first
    | with_reducible assumption
    | intro _
    | with_reducible apply ite_stay
    | split
    | dsimp only
    | with_reducible refine mk_stay ?_

theorem runvHook_stay (a : Nat) (w : Sys2Proof.Word) (h : Stay s0 s) : Stay s0 (State.runvHook s a w) := by
  unfold State.runvHook
  repeat' first
    | with_reducible assumption
    | intro _
    | with_reducible apply foldS_stay
    | with_reducible apply ite_stay
    | split
    | dsimp only
    | with_reducible refine mk_stay ?_

theorem warmHook_stay (a : Nat) (w : Sys2Proof.Word) (h : Stay s0 s) : Stay s0 (State.warmHook s a w) := by
  unfold State.warmHook
  repeat' first
    | with_reducible assumption
    | intro _
    | with_reducible apply ite_stay
    | split
    | dsimp only
    | with_reducible refine mk_stay ?_

theorem notchHook_stay (a : Nat) (w : Sys2Proof.Word) (h : Stay s0 s) : Stay s0 (State.notchHook s a w) := by
  unfold State.notchHook
  repeat' first
    | with_reducible assumption
    | intro _
    | with_reducible apply ite_stay
    | split
    | dsimp only
    | with_reducible refine mk_stay ?_

theorem setCores_stay (p : Nat) (h : Stay s0 s) : Stay s0 (State.setCores s p) := by
  unfold State.setCores
  repeat' first
    | with_reducible assumption
    | intro _
    | with_reducible apply setFlag_stay
    | with_reducible apply ite_stay
    | split
    | dsimp only
    | with_reducible refine mk_stay ?_

theorem coresReady_stay  (h : Stay s0 s) : Stay s0 (State.coresReady s) := by
  unfold State.coresReady
  repeat' first
    | with_reducible assumption
    | intro _
    | with_reducible apply setCores_stay
    | with_reducible apply ite_stay
    | split
    | dsimp only

theorem readyHook_stay (old : State) (a : Nat) (h : Stay s0 s) : Stay s0 (State.readyHook s old a) := by
  unfold State.readyHook
  repeat' first
    | with_reducible assumption
    | intro _
    | with_reducible apply when_stay
    | with_reducible apply coresReady_stay
    | with_reducible apply ite_stay
    | split
    | dsimp only

theorem pclkHook_stay (old : State) (h : Stay s0 s) : Stay s0 (State.pclkHook s old) := by
  unfold State.pclkHook
  repeat' first
    | with_reducible assumption
    | intro _
    | with_reducible apply ite_stay
    | split
    | dsimp only
    | with_reducible refine mk_stay ?_

theorem darkHook_stay (a : Nat) (w : Sys2Proof.Word) (h : Stay s0 s) : Stay s0 (State.darkHook s a w) := by
  unfold State.darkHook
  repeat' first
    | with_reducible assumption
    | intro _
    | with_reducible apply ite_stay
    | split
    | dsimp only
    | with_reducible refine mk_stay ?_

theorem activate_stay (a : Nat) (w : Sys2Proof.Word) (h : Stay s0 s) : Stay s0 (State.activate s a w) := by
  unfold State.activate
  repeat' first
    | with_reducible assumption
    | intro _
    | with_reducible apply pclkHook_stay
    | with_reducible apply readyHook_stay
    | with_reducible apply setReg_stay
    | with_reducible apply notchHook_stay
    | with_reducible apply warmHook_stay
    | with_reducible apply runvHook_stay
    | with_reducible apply darkHook_stay
    | with_reducible apply ite_stay
    | split
    | dsimp only

theorem applyPend_stay (sel : Nat → Bool) (h : Stay s0 s) : Stay s0 (State.applyPend s sel) := by
  unfold State.applyPend
  repeat' first
    | with_reducible assumption
    | intro _
    | with_reducible apply foldS_stay
    | with_reducible apply activate_stay
    | with_reducible apply ite_stay
    | split
    | dsimp only
    | with_reducible refine mk_stay ?_

theorem applyPage_stay (b : Bnd) (page : Nat) (h : Stay s0 s) : Stay s0 (State.applyPage s b page) := by
  unfold State.applyPage
  repeat' first
    | with_reducible assumption
    | intro _
    | with_reducible apply applyPend_stay
    | with_reducible apply ite_stay
    | split
    | dsimp only

theorem commit_stay (page : Nat) (h : Stay s0 s) : Stay s0 (State.commit s page) := by
  unfold State.commit
  repeat' first
    | with_reducible assumption
    | intro _
    | with_reducible apply applyPage_stay
    | with_reducible apply evt_stay
    | with_reducible apply setHdr_stay
    | with_reducible apply ite_stay
    | split
    | dsimp only

theorem setAxis_stay (x : Nat) (a : Axis) (h : Stay s0 s) : Stay s0 (State.setAxis s x a) := by
  unfold State.setAxis
  repeat' first
    | with_reducible assumption
    | intro _
    | with_reducible apply ite_stay
    | split
    | dsimp only
    | with_reducible refine mk_stay ?_

theorem freezeOne_stay (rel : Bool) (x : Nat) (h : Stay s0 s) : Stay s0 (State.freezeOne s rel x) := by
  unfold State.freezeOne
  repeat' first
    | with_reducible assumption
    | intro _
    | with_reducible apply setAxis_stay
    | with_reducible apply setAttn_stay
    | with_reducible apply evt_stay
    | with_reducible apply ite_stay
    | split
    | dsimp only

theorem scanFrozen_stay (xs : List Nat) (h : Stay s0 s) : Stay s0 (State.scanFrozen s xs) := by
  unfold State.scanFrozen
  repeat' first
    | with_reducible assumption
    | intro _
    | with_reducible apply ite_stay
    | split
    | dsimp only
    | with_reducible refine mk_stay ?_

theorem freeze_stay (x : Nat) (rel : Bool) (h : Stay s0 s) : Stay s0 (State.freeze s x rel) := by
  unfold State.freeze
  repeat' first
    | with_reducible assumption
    | intro _
    | with_reducible apply scanFrozen_stay
    | with_reducible apply foldS_stay
    | with_reducible apply freezeOne_stay
    | with_reducible apply ite_stay
    | split
    | dsimp only
    | with_reducible refine mk_stay ?_

theorem wakeStop_stay (x : Nat) (xs : List Nat) (h : Stay s0 s) : Stay s0 (State.wakeStop s x xs) := by
  unfold State.wakeStop
  repeat' first
    | with_reducible assumption
    | intro _
    | with_reducible apply foldS_stay
    | with_reducible apply setAxis_stay
    | with_reducible apply ite_stay
    | split
    | dsimp only
    | with_reducible refine mk_stay ?_

theorem cstop_stay (x : Nat) (h : Stay s0 s) : Stay s0 (State.cstop s x) := by
  unfold State.cstop
  repeat' first
    | with_reducible assumption
    | intro _
    | with_reducible apply evt_stay
    | with_reducible apply setAxis_stay
    | with_reducible apply wakeStop_stay
    | with_reducible apply foldS_stay
    | with_reducible apply ite_stay
    | split
    | dsimp only

theorem setSsc_stay (f : Ssc → Ssc) (h : Stay s0 s) : Stay s0 (State.setSsc s f) := by
  unfold State.setSsc
  repeat' first
    | with_reducible assumption
    | intro _
    | with_reducible apply ite_stay
    | split
    | dsimp only
    | with_reducible refine mk_stay ?_

theorem setJob_stay (f : Job → Job) (h : Stay s0 s) : Stay s0 (State.setJob s f) := by
  unfold State.setJob
  repeat' first
    | with_reducible assumption
    | intro _
    | with_reducible apply setSsc_stay
    | with_reducible apply ite_stay
    | split
    | dsimp only

theorem count64_stay (a : Nat) (n : Nat) (h : Stay s0 s) : Stay s0 (State.count64 s a n) := by
  unfold State.count64
  repeat' first
    | with_reducible assumption
    | intro _
    | with_reducible apply setReg64_stay
    | with_reducible apply ite_stay
    | split
    | dsimp only

theorem loseLine_stay (n : Nat) (h : Stay s0 s) : Stay s0 (State.loseLine s n) := by
  unfold State.loseLine
  repeat' first
    | with_reducible assumption
    | intro _
    | with_reducible apply count64_stay
    | with_reducible apply setJob_stay
    | with_reducible apply ite_stay
    | split
    | dsimp only

theorem dropLine_stay (n : Nat) (h : Stay s0 s) : Stay s0 (State.dropLine s n) := by
  unfold State.dropLine
  repeat' first
    | with_reducible assumption
    | intro _
    | with_reducible apply loseLine_stay
    | with_reducible apply ite_stay
    | split
    | dsimp only
    | with_reducible refine mk_stay ?_

theorem stopEvents_stay  (h : Stay s0 s) : Stay s0 (State.stopEvents s) := by
  unfold State.stopEvents
  repeat' first
    | with_reducible assumption
    | intro _
    | with_reducible apply bump_stay
    | with_reducible apply emit_stay
    | with_reducible apply setAttn_stay
    | with_reducible apply evt_stay
    | with_reducible apply ite_stay
    | split
    | dsimp only

theorem trackStop_stay  (h : Stay s0 s) : Stay s0 (State.trackStop s) := by
  unfold State.trackStop
  repeat' first
    | with_reducible assumption
    | intro _
    | with_reducible apply cstop_stay
    | with_reducible apply stopEvents_stay
    | with_reducible apply setSsc_stay
    | with_reducible apply ite_stay
    | split
    | dsimp only

theorem pauseFree_stay  (h : Stay s0 s) : Stay s0 (State.pauseFree s) := by
  unfold State.pauseFree
  repeat' first
    | with_reducible assumption
    | intro _
    | with_reducible apply setSsc_stay
    | with_reducible apply loseLine_stay
    | with_reducible apply ite_stay
    | split
    | dsimp only
    | with_reducible refine mk_stay ?_

theorem pauseJob_stay (code : Nat) (item : Nat) (h : Stay s0 s) : Stay s0 (State.pauseJob s code item) := by
  unfold State.pauseJob
  repeat' first
    | with_reducible assumption
    | intro _
    | with_reducible apply setSsc_stay
    | with_reducible apply trackStop_stay
    | with_reducible apply pauseFree_stay
    | with_reducible apply ite_stay
    | split
    | dsimp only

theorem react_stay (sev : Nat) (code : Nat) (item : Nat) (h : Stay s0 s) : Stay s0 (State.react s sev code item) := by
  unfold State.react
  repeat' first
    | with_reducible assumption
    | intro _
    | with_reducible apply pauseJob_stay
    | with_reducible apply ite_stay
    | split
    | dsimp only

theorem logNew_stay (e : LogEntry) (h : Stay s0 s) : Stay s0 (State.logNew s e) := by
  unfold State.logNew
  repeat' first
    | with_reducible assumption
    | intro _
    | with_reducible apply evt_stay
    | with_reducible apply bump_stay
    | with_reducible apply ite_stay
    | split
    | dsimp only
    | with_reducible refine mk_stay ?_
    | with_reducible refine mk_chr_stay ?_ ?_ ?_
    | rfl
    | exact List.mem_append_left _ ‹_›

theorem logFault_stay (code : Nat) (item : Nat) (line : Nat) (h : Stay s0 s) : Stay s0 (State.logFault s code item line) := by
  unfold State.logFault
  repeat' first
    | with_reducible assumption
    | intro _
    | with_reducible apply logNew_stay
    | with_reducible apply ite_stay
    | split
    | dsimp only
    | with_reducible refine mk_stay ?_
    | with_reducible refine mk_chr_stay ?_ ?_ ?_
    | rfl
    | exact List.mem_append_left _ ‹_›

theorem noteFault_stay (code : Nat) (item : Nat) (h : Stay s0 s) : Stay s0 (State.noteFault s code item) := by
  unfold State.noteFault
  repeat' first
    | with_reducible assumption
    | intro _
    | with_reducible apply ite_stay
    | split
    | dsimp only
    | with_reducible refine mk_stay ?_
    | with_reducible refine mk_chr_stay ?_ ?_ ?_
    | rfl
    | exact List.mem_append_left _ ‹_›

theorem recordFault_stay (code : Nat) (item : Nat) (line : Nat) (h : Stay s0 s) : Stay s0 (State.recordFault s code item line) := by
  unfold State.recordFault
  repeat' first
    | with_reducible assumption
    | intro _
    | with_reducible apply logFault_stay
    | with_reducible apply noteFault_stay
    | with_reducible apply setHdr_stay
    | with_reducible apply evt_stay
    | with_reducible apply attnIrq_stay
    | with_reducible apply ite_stay
    | split
    | dsimp only
    | with_reducible refine mk_stay ?_
    | with_reducible refine mk_chr_stay ?_ ?_ ?_
    | rfl
    | exact List.mem_append_left _ ‹_›

theorem faultLine_stay (code : Nat) (item : Nat) (line : Nat) (h : Stay s0 s) : Stay s0 (State.faultLine s code item line) := by
  unfold State.faultLine
  repeat' first
    | with_reducible assumption
    | intro _
    | with_reducible apply react_stay
    | with_reducible apply when_stay
    | with_reducible apply recordFault_stay
    | with_reducible apply emit_stay
    | with_reducible apply ite_stay
    | split
    | dsimp only

theorem fault_stay (code : Nat) (item : Nat) (h : Stay s0 s) : Stay s0 (State.fault s code item) := by
  unfold State.fault
  repeat' first
    | with_reducible assumption
    | intro _
    | with_reducible apply faultLine_stay
    | with_reducible apply ite_stay
    | split
    | dsimp only

theorem setCh_stay (c : Nat) (x : AcqCh) (h : Stay s0 s) : Stay s0 (State.setCh s c x) := by
  unfold State.setCh
  repeat' first
    | with_reducible assumption
    | intro _
    | with_reducible apply ite_stay
    | split
    | dsimp only
    | with_reducible refine mk_stay ?_

theorem setSpare_stay (g : Nat) (x : Spare) (h : Stay s0 s) : Stay s0 (State.setSpare s g x) := by
  unfold State.setSpare
  repeat' first
    | with_reducible assumption
    | intro _
    | with_reducible apply ite_stay
    | split
    | dsimp only
    | with_reducible refine mk_stay ?_

theorem showWarm_stay (c : Nat) (h : Stay s0 s) : Stay s0 (State.showWarm s c) := by
  unfold State.showWarm
  repeat' first
    | with_reducible assumption
    | intro _
    | with_reducible apply setFlag_stay
    | with_reducible apply setFld_stay
    | with_reducible apply ite_stay
    | split
    | dsimp only

theorem primBoundary_stay (c : Nat) (h : Stay s0 s) : Stay s0 (State.primBoundary s c) := by
  unfold State.primBoundary
  repeat' first
    | with_reducible assumption
    | intro _
    | with_reducible apply showWarm_stay
    | with_reducible apply setCh_stay
    | with_reducible apply when_stay
    | with_reducible apply evt_stay
    | with_reducible apply bump_stay
    | with_reducible apply ite_stay
    | split
    | dsimp only

theorem spareBoundary_stay (g : Nat) (h : Stay s0 s) : Stay s0 (State.spareBoundary s g) := by
  unfold State.spareBoundary
  repeat' first
    | with_reducible assumption
    | intro _
    | with_reducible apply setCh_stay
    | with_reducible apply ite_stay
    | split
    | dsimp only

theorem acqLine_stay  (h : Stay s0 s) : Stay s0 (State.acqLine s) := by
  unfold State.acqLine
  repeat' first
    | with_reducible assumption
    | intro _
    | with_reducible apply forN_stay
    | with_reducible apply spareBoundary_stay
    | with_reducible apply primBoundary_stay
    | with_reducible apply ite_stay
    | split
    | dsimp only
    | with_reducible refine mk_stay ?_

theorem clearLevels_stay (c : Nat) (h : Stay s0 s) : Stay s0 (State.clearLevels s c) := by
  unfold State.clearLevels
  repeat' first
    | with_reducible assumption
    | intro _
    | with_reducible apply ite_stay
    | split
    | dsimp only
    | with_reducible refine mk_stay ?_

theorem showWire_stay (c : Nat) (fail : Bool) (h : Stay s0 s) : Stay s0 (State.showWire s c fail) := by
  unfold State.showWire
  repeat' first
    | with_reducible assumption
    | intro _
    | with_reducible apply setFld_stay
    | with_reducible apply setFlag_stay
    | with_reducible apply ite_stay
    | split
    | dsimp only

theorem wireForget_stay (c : Nat) (h : Stay s0 s) : Stay s0 (State.wireForget s c) := by
  unfold State.wireForget
  repeat' first
    | with_reducible assumption
    | intro _
    | with_reducible apply when_stay
    | with_reducible apply showWire_stay
    | with_reducible apply setCh_stay
    | with_reducible apply ite_stay
    | split
    | dsimp only

theorem switchCh_stay (c : Nat) (h : Stay s0 s) : Stay s0 (State.switchCh s c) := by
  unfold State.switchCh
  repeat' first
    | with_reducible assumption
    | intro _
    | with_reducible apply wireForget_stay
    | with_reducible apply when_stay
    | with_reducible apply setCh_stay
    | with_reducible apply clearLevels_stay
    | with_reducible apply setFlag_stay
    | with_reducible apply setFld_stay
    | with_reducible apply ite_stay
    | split
    | dsimp only

theorem switchSpare_stay (g : Nat) (h : Stay s0 s) : Stay s0 (State.switchSpare s g) := by
  unfold State.switchSpare
  repeat' first
    | with_reducible assumption
    | intro _
    | with_reducible apply setSpare_stay
    | with_reducible apply setFld_stay
    | with_reducible apply ite_stay
    | split
    | dsimp only

theorem acqReadout_stay  (h : Stay s0 s) : Stay s0 (State.acqReadout s) := by
  unfold State.acqReadout
  repeat' first
    | with_reducible assumption
    | intro _
    | with_reducible apply forN_stay
    | with_reducible apply switchSpare_stay
    | with_reducible apply switchCh_stay
    | with_reducible apply ite_stay
    | split
    | dsimp only
    | with_reducible refine mk_stay ?_

theorem writeEntry_stay (e : Nat) (v : Nat) (h : Stay s0 s) : Stay s0 (State.writeEntry s e v) := by
  unfold State.writeEntry
  repeat' first
    | with_reducible assumption
    | intro _
    | with_reducible apply store_stay
    | with_reducible apply ite_stay
    | split
    | dsimp only
    | with_reducible refine mk_stay ?_

theorem showFft_stay  (h : Stay s0 s) : Stay s0 (State.showFft s) := by
  unfold State.showFft
  repeat' first
    | with_reducible assumption
    | intro _
    | with_reducible apply setFld_stay
    | with_reducible apply setReg_stay
    | with_reducible apply ite_stay
    | split
    | dsimp only

theorem switchServed_stay  (h : Stay s0 s) : Stay s0 (State.switchServed s) := by
  unfold State.switchServed
  repeat' first
    | with_reducible assumption
    | intro _
    | with_reducible apply setFld_stay
    | with_reducible apply ite_stay
    | split
    | dsimp only

theorem switchDone_stay  (h : Stay s0 s) : Stay s0 (State.switchDone s) := by
  unfold State.switchDone
  repeat' first
    | with_reducible assumption
    | intro _
    | with_reducible apply switchServed_stay
    | with_reducible apply evt_stay
    | with_reducible apply showFft_stay
    | with_reducible apply setFlag_stay
    | with_reducible apply ite_stay
    | split
    | dsimp only
    | with_reducible refine mk_stay ?_

theorem switchStart_stay  (h : Stay s0 s) : Stay s0 (State.switchStart s) := by
  unfold State.switchStart
  repeat' first
    | with_reducible assumption
    | intro _
    | with_reducible apply evt_stay
    | with_reducible apply setFlag_stay
    | with_reducible apply showFft_stay
    | with_reducible apply ite_stay
    | split
    | dsimp only
    | with_reducible refine mk_stay ?_

theorem blendStep_stay  (h : Stay s0 s) : Stay s0 (State.blendStep s) := by
  unfold State.blendStep
  repeat' first
    | with_reducible assumption
    | intro _
    | with_reducible apply showFft_stay
    | with_reducible apply switchDone_stay
    | with_reducible apply ite_stay
    | split
    | dsimp only
    | with_reducible refine mk_stay ?_

theorem fftLine_stay (go : Bool) (h : Stay s0 s) : Stay s0 (State.fftLine s go) := by
  unfold State.fftLine
  repeat' first
    | with_reducible assumption
    | intro _
    | with_reducible apply blendStep_stay
    | with_reducible apply switchStart_stay
    | with_reducible apply setFlag_stay
    | with_reducible apply useFree_stay
    | with_reducible apply evt_stay
    | with_reducible apply ite_stay
    | split
    | dsimp only

theorem darkCommit_stay  (h : Stay s0 s) : Stay s0 (State.darkCommit s) := by
  unfold State.darkCommit
  repeat' first
    | with_reducible assumption
    | intro _
    | with_reducible apply foldS_stay
    | with_reducible apply writeEntry_stay
    | with_reducible apply ite_stay
    | split
    | dsimp only
    | with_reducible refine mk_stay ?_

theorem darkClear_stay  (h : Stay s0 s) : Stay s0 (State.darkClear s) := by
  unfold State.darkClear
  repeat' first
    | with_reducible assumption
    | intro _
    | with_reducible apply setFlag_stay
    | with_reducible apply ite_stay
    | split
    | dsimp only
    | with_reducible refine mk_stay ?_

theorem runStart_stay (kind : Nat) (lines : Nat) (h : Stay s0 s) : Stay s0 (State.runStart s kind lines) := by
  unfold State.runStart
  repeat' first
    | with_reducible assumption
    | intro _
    | with_reducible apply showFft_stay
    | with_reducible apply ite_stay
    | split
    | dsimp only
    | with_reducible refine mk_stay ?_

theorem keepUse_stay  (h : Stay s0 s) : Stay s0 (State.keepUse s) := by
  unfold State.keepUse
  repeat' first
    | with_reducible assumption
    | intro _
    | with_reducible apply ite_stay
    | split
    | dsimp only
    | with_reducible refine mk_stay ?_

theorem setLine_stay (l : Nat) (i : LineInfo) (h : Stay s0 s) : Stay s0 (State.setLine s l i) := by
  unfold State.setLine
  repeat' first
    | with_reducible assumption
    | intro _
    | with_reducible apply ite_stay
    | split
    | dsimp only
    | with_reducible refine mk_stay ?_

theorem lineFlag_stay (l : Nat) (b : Nat) (h : Stay s0 s) : Stay s0 (State.lineFlag s l b) := by
  unfold State.lineFlag
  repeat' first
    | with_reducible assumption
    | intro _
    | with_reducible apply setLine_stay
    | with_reducible apply ite_stay
    | split
    | dsimp only

theorem lineFlagIf_stay (c : Bool) (l : Nat) (b : Nat) (h : Stay s0 s) : Stay s0 (State.lineFlagIf s c l b) := by
  unfold State.lineFlagIf
  repeat' first
    | with_reducible assumption
    | intro _
    | with_reducible apply lineFlag_stay
    | with_reducible apply ite_stay
    | split
    | dsimp only

theorem scanTouch_stay (key : Nat) (h : Stay s0 s) : Stay s0 (State.scanTouch s key) := by
  unfold State.scanTouch
  repeat' first
    | with_reducible assumption
    | intro _
    | with_reducible apply useFree_stay
    | with_reducible apply when_stay
    | with_reducible apply ite_stay
    | split
    | dsimp only
    | with_reducible refine mk_stay ?_

theorem readBegin_stay (e : Exposure) (h : Stay s0 s) : Stay s0 (State.readBegin s e) := by
  unfold State.readBegin
  repeat' first
    | with_reducible assumption
    | intro _
    | with_reducible apply ite_stay
    | split
    | dsimp only
    | with_reducible refine mk_stay ?_

theorem killCols_stay (p : Nat → ColRun → Bool) (h : Stay s0 s) : Stay s0 (State.killCols s p) := by
  unfold State.killCols
  repeat' first
    | with_reducible assumption
    | intro _
    | with_reducible apply foldS_stay
    | with_reducible apply setReg_stay
    | with_reducible apply ite_stay
    | split
    | dsimp only
    | with_reducible refine mk_stay ?_

theorem lampsDark_stay  (h : Stay s0 s) : Stay s0 (State.lampsDark s) := by
  unfold State.lampsDark
  repeat' first
    | with_reducible assumption
    | intro _
    | with_reducible apply killCols_stay
    | with_reducible apply ite_stay
    | split
    | dsimp only
    | with_reducible refine mk_stay ?_

theorem columnDark_stay (c : Nat) (h : Stay s0 s) : Stay s0 (State.columnDark s c) := by
  unfold State.columnDark
  repeat' first
    | with_reducible assumption
    | intro _
    | with_reducible apply killCols_stay
    | with_reducible apply ite_stay
    | split
    | dsimp only
    | with_reducible refine mk_stay ?_

theorem selectRow_stay (k : Nat) (cols : List (Nat × ColRun)) (h : Stay s0 s) : Stay s0 (State.selectRow s k cols) := by
  unfold State.selectRow
  repeat' first
    | with_reducible assumption
    | intro _
    | with_reducible apply ite_stay
    | split
    | dsimp only
    | with_reducible refine mk_stay ?_

theorem snapRow_stay (k : Nat) (hold : Bool) (h : Stay s0 s) : Stay s0 (State.snapRow s k hold) := by
  unfold State.snapRow
  repeat' first
    | with_reducible assumption
    | intro _
    | with_reducible apply selectRow_stay
    | with_reducible apply ite_stay
    | split
    | dsimp only

theorem noRow_stay  (h : Stay s0 s) : Stay s0 (State.noRow s) := by
  unfold State.noRow
  repeat' first
    | with_reducible assumption
    | intro _
    | with_reducible apply ite_stay
    | split
    | dsimp only
    | with_reducible refine mk_stay ?_

theorem lampLimit_stay (lamp : Nat) (h : Stay s0 s) : Stay s0 (State.lampLimit s lamp) := by
  unfold State.lampLimit
  repeat' first
    | with_reducible assumption
    | intro _
    | with_reducible apply evt_stay
    | with_reducible apply setFlag_stay
    | with_reducible apply fault_stay
    | with_reducible apply ite_stay
    | split
    | dsimp only
    | with_reducible refine mk_stay ?_

theorem lampCode_stay (lamp : Nat) (h : Stay s0 s) : Stay s0 (State.lampCode s lamp) := by
  unfold State.lampCode
  repeat' first
    | with_reducible assumption
    | intro _
    | with_reducible apply lampLimit_stay
    | with_reducible apply ite_stay
    | split
    | dsimp only
    | with_reducible refine mk_stay ?_

theorem codeStep_stay  (h : Stay s0 s) : Stay s0 (State.codeStep s) := by
  unfold State.codeStep
  repeat' first
    | with_reducible assumption
    | intro _
    | with_reducible apply foldS_stay
    | with_reducible apply lampCode_stay
    | with_reducible apply ite_stay
    | split
    | dsimp only

theorem setHelSt_stay (x : HelSt) (h : Stay s0 s) : Stay s0 (State.setHelSt s x) := by
  unfold State.setHelSt
  repeat' first
    | with_reducible assumption
    | intro _
    | with_reducible apply ite_stay
    | split
    | dsimp only
    | with_reducible refine mk_stay ?_

theorem setLam_stay (v : Nat) (h : Stay s0 s) : Stay s0 (State.setLam s v) := by
  unfold State.setLam
  repeat' first
    | with_reducible assumption
    | intro _
    | with_reducible apply setFld_stay
    | with_reducible apply ite_stay
    | split
    | dsimp only
    | with_reducible refine mk_stay ?_

theorem unitStart_stay (key : Nat) (h : Stay s0 s) : Stay s0 (State.unitStart s key) := by
  unfold State.unitStart
  repeat' first
    | with_reducible assumption
    | intro _
    | with_reducible apply ite_stay
    | split
    | dsimp only
    | with_reducible refine mk_stay ?_

theorem unitHold_stay (key : Nat) (h : Stay s0 s) : Stay s0 (State.unitHold s key) := by
  unfold State.unitHold
  repeat' first
    | with_reducible assumption
    | intro _
    | with_reducible apply ite_stay
    | split
    | dsimp only
    | with_reducible refine mk_stay ?_

theorem rowStart_stay (k : Nat) (h : Stay s0 s) : Stay s0 (State.rowStart s k) := by
  unfold State.rowStart
  repeat' first
    | with_reducible assumption
    | intro _
    | with_reducible apply unitStart_stay
    | with_reducible apply unitHold_stay
    | with_reducible apply ite_stay
    | split
    | dsimp only

theorem unitDrop_stay (key : Nat) (h : Stay s0 s) : Stay s0 (State.unitDrop s key) := by
  unfold State.unitDrop
  repeat' first
    | with_reducible assumption
    | intro _
    | with_reducible apply ite_stay
    | split
    | dsimp only
    | with_reducible refine mk_stay ?_

theorem unitLine_stay (line : Nat) (key : Nat) (h : Stay s0 s) : Stay s0 (State.unitLine s line key) := by
  unfold State.unitLine
  repeat' first
    | with_reducible assumption
    | intro _
    | with_reducible apply when_stay
    | with_reducible apply setReg64_stay
    | with_reducible apply unitDrop_stay
    | with_reducible apply evt_stay
    | with_reducible apply ite_stay
    | split
    | dsimp only
    | with_reducible refine mk_stay ?_

theorem recoverCols_stay  (h : Stay s0 s) : Stay s0 (State.recoverCols s) := by
  unfold State.recoverCols
  repeat' first
    | with_reducible assumption
    | intro _
    | with_reducible apply foldS_stay
    | with_reducible apply unitStart_stay
    | with_reducible apply ite_stay
    | split
    | dsimp only
    | with_reducible refine mk_stay ?_

theorem helLine_stay (line : Nat) (h : Stay s0 s) : Stay s0 (State.helLine s line) := by
  unfold State.helLine
  repeat' first
    | with_reducible assumption
    | intro _
    | with_reducible apply recoverCols_stay
    | with_reducible apply foldS_stay
    | with_reducible apply unitLine_stay
    | with_reducible apply codeStep_stay
    | with_reducible apply ite_stay
    | split
    | dsimp only
    | with_reducible refine mk_stay ?_

theorem helHold_stay  (h : Stay s0 s) : Stay s0 (State.helHold s) := by
  unfold State.helHold
  repeat' first
    | with_reducible assumption
    | intro _
    | with_reducible apply setHelSt_stay
    | with_reducible apply ite_stay
    | split
    | dsimp only

theorem endRows_stay (m : Nat) (h : Stay s0 s) : Stay s0 (State.endRows s m) := by
  unfold State.endRows
  repeat' first
    | with_reducible assumption
    | intro _
    | with_reducible apply killCols_stay
    | with_reducible apply ite_stay
    | split
    | dsimp only
    | with_reducible refine mk_stay ?_

theorem rowShutdown_stay (k : Nat) (h : Stay s0 s) : Stay s0 (State.rowShutdown s k) := by
  unfold State.rowShutdown
  repeat' first
    | with_reducible assumption
    | intro _
    | with_reducible apply endRows_stay
    | with_reducible apply setReg_stay
    | with_reducible apply evt_stay
    | with_reducible apply fault_stay
    | with_reducible apply unitDrop_stay
    | with_reducible apply ite_stay
    | split
    | dsimp only
    | with_reducible refine mk_stay ?_

theorem maskLamp_stay (k : Nat) (c : Nat) (h : Stay s0 s) : Stay s0 (State.maskLamp s k c) := by
  unfold State.maskLamp
  repeat' first
    | with_reducible assumption
    | intro _
    | with_reducible apply unitDrop_stay
    | with_reducible apply setFld_stay
    | with_reducible apply ite_stay
    | split
    | dsimp only

theorem lampVerdict_stay (k : Nat) (c : Nat) (short : Bool) (h : Stay s0 s) : Stay s0 (State.lampVerdict s k c short) := by
  unfold State.lampVerdict
  repeat' first
    | with_reducible assumption
    | intro _
    | with_reducible apply setFld_stay
    | with_reducible apply evt_stay
    | with_reducible apply bump_stay
    | with_reducible apply rowShutdown_stay
    | with_reducible apply fault_stay
    | with_reducible apply maskLamp_stay
    | with_reducible apply ite_stay
    | split
    | dsimp only

theorem columnStop_stay (c : Nat) (h : Stay s0 s) : Stay s0 (State.columnStop s c) := by
  unfold State.columnStop
  repeat' first
    | with_reducible assumption
    | intro _
    | with_reducible apply columnDark_stay
    | with_reducible apply setFlag_stay
    | with_reducible apply fault_stay
    | with_reducible apply evt_stay
    | with_reducible apply foldS_stay
    | with_reducible apply rowShutdown_stay
    | with_reducible apply ite_stay
    | split
    | dsimp only

theorem colFollow_stay (old : State) (h : Stay s0 s) : Stay s0 (State.colFollow s old) := by
  unfold State.colFollow
  repeat' first
    | with_reducible assumption
    | intro _
    | with_reducible apply forN_stay
    | with_reducible apply unitStart_stay
    | with_reducible apply columnDark_stay
    | with_reducible apply ite_stay
    | split
    | dsimp only

theorem rowHoldOff_stay (k : Nat) (h : Stay s0 s) : Stay s0 (State.rowHoldOff s k) := by
  unfold State.rowHoldOff
  repeat' first
    | with_reducible assumption
    | intro _
    | with_reducible apply unitHold_stay
    | with_reducible apply unitDrop_stay
    | with_reducible apply ite_stay
    | split
    | dsimp only

theorem ilkFall_stay (back : Option Nat) (h : Stay s0 s) : Stay s0 (State.ilkFall s back) := by
  unfold State.ilkFall
  repeat' first
    | with_reducible assumption
    | intro _
    | with_reducible apply endRows_stay
    | with_reducible apply setReg_stay
    | with_reducible apply forN_stay
    | with_reducible apply rowHoldOff_stay
    | with_reducible apply fault_stay
    | with_reducible apply emit_stay
    | with_reducible apply evt_stay
    | with_reducible apply ite_stay
    | split
    | dsimp only
    | with_reducible refine mk_stay ?_

theorem rowenApply_stay (w : Sys2Proof.Word) (h : Stay s0 s) : Stay s0 (State.rowenApply s w) := by
  unfold State.rowenApply
  repeat' first
    | with_reducible assumption
    | intro _
    | with_reducible apply setReg_stay
    | with_reducible apply forN_stay
    | with_reducible apply rowStart_stay
    | with_reducible apply unitDrop_stay
    | with_reducible apply endRows_stay
    | with_reducible apply ite_stay
    | split
    | dsimp only

theorem stgIdle_stay  (h : Stay s0 s) : Stay s0 (State.stgIdle s) := by
  unfold State.stgIdle
  repeat' first
    | with_reducible assumption
    | intro _
    | with_reducible apply ite_stay
    | split
    | dsimp only
    | with_reducible refine mk_stay ?_

theorem showCol_stay  (h : Stay s0 s) : Stay s0 (State.showCol s) := by
  unfold State.showCol
  repeat' first
    | with_reducible assumption
    | intro _
    | with_reducible apply setFld_stay
    | with_reducible apply ite_stay
    | split
    | dsimp only

theorem colResult_stay (kind : Nat) (outcome : Nat) (tries : Nat) (item : Nat) (h : Stay s0 s) : Stay s0 (State.colResult s kind outcome tries item) := by
  unfold State.colResult
  repeat' first
    | with_reducible assumption
    | intro _
    | with_reducible apply setReg_stay
    | with_reducible apply ite_stay
    | split
    | dsimp only

theorem colAccept_stay (kind : Nat) (tries : Nat) (item : Nat) (h : Stay s0 s) : Stay s0 (State.colAccept s kind tries item) := by
  unfold State.colAccept
  repeat' first
    | with_reducible assumption
    | intro _
    | with_reducible apply evt_stay
    | with_reducible apply colResult_stay
    | with_reducible apply ite_stay
    | split
    | dsimp only

theorem colReject_stay (kind : Nat) (tries : Nat) (item : Nat) (h : Stay s0 s) : Stay s0 (State.colReject s kind tries item) := by
  unfold State.colReject
  repeat' first
    | with_reducible assumption
    | intro _
    | with_reducible apply fault_stay
    | with_reducible apply colResult_stay
    | with_reducible apply setAttn_stay
    | with_reducible apply evt_stay
    | with_reducible apply bump_stay
    | with_reducible apply ite_stay
    | split
    | dsimp only

theorem runBegin_stay (kind : Nat) (h : Stay s0 s) : Stay s0 (State.runBegin s kind) := by
  unfold State.runBegin
  repeat' first
    | with_reducible assumption
    | intro _
    | with_reducible apply runStart_stay
    | with_reducible apply setFld_stay
    | with_reducible apply showCol_stay
    | with_reducible apply ite_stay
    | split
    | dsimp only
    | with_reducible refine mk_stay ?_

theorem colServe_stay  (h : Stay s0 s) : Stay s0 (State.colServe s) := by
  unfold State.colServe
  repeat' first
    | with_reducible assumption
    | intro _
    | with_reducible apply runBegin_stay
    | with_reducible apply ite_stay
    | split
    | dsimp only

theorem holdCut_stay  (h : Stay s0 s) : Stay s0 (State.holdCut s) := by
  unfold State.holdCut
  repeat' first
    | with_reducible assumption
    | intro _
    | with_reducible apply noRow_stay
    | with_reducible apply ite_stay
    | split
    | dsimp only
    | with_reducible refine mk_stay ?_

theorem pmbusFault_stay  (h : Stay s0 s) : Stay s0 (State.pmbusFault s) := by
  unfold State.pmbusFault
  repeat' first
    | with_reducible assumption
    | intro _
    | with_reducible apply evt_stay
    | with_reducible apply fault_stay
    | with_reducible apply ite_stay
    | split
    | dsimp only
    | with_reducible refine mk_stay ?_

theorem voutCommand_stay (mv : Nat) (ack : Bool) (h : Stay s0 s) : Stay s0 (State.voutCommand s mv ack) := by
  unfold State.voutCommand
  repeat' first
    | with_reducible assumption
    | intro _
    | with_reducible apply send_stay
    | with_reducible apply setFld_stay
    | with_reducible apply pmbusFault_stay
    | with_reducible apply ite_stay
    | split
    | dsimp only
    | with_reducible refine mk_stay ?_

theorem histSave_stay  (h : Stay s0 s) : Stay s0 (State.histSave s) := by
  unfold State.histSave
  repeat' first
    | with_reducible assumption
    | intro _
    | with_reducible apply ite_stay
    | split
    | dsimp only
    | with_reducible refine mk_stay ?_

theorem histRestore_stay  (h : Stay s0 s) : Stay s0 (State.histRestore s) := by
  unfold State.histRestore
  repeat' first
    | with_reducible assumption
    | intro _
    | with_reducible apply setReg_stay
    | with_reducible apply ite_stay
    | split
    | dsimp only
    | with_reducible refine mk_stay ?_

theorem spareGo_stay (g : Nat) (pos : Nat) (tgt : Nat) (h : Stay s0 s) : Stay s0 (State.spareGo s g pos tgt) := by
  unfold State.spareGo
  repeat' first
    | with_reducible assumption
    | intro _
    | with_reducible apply setSpare_stay
    | with_reducible apply when_stay
    | with_reducible apply spareBoundary_stay
    | with_reducible apply ite_stay
    | split
    | dsimp only

theorem showRep_stay (c : Nat) (h : Stay s0 s) : Stay s0 (State.showRep s c) := by
  unfold State.showRep
  repeat' first
    | with_reducible assumption
    | intro _
    | with_reducible apply setFld_stay
    | with_reducible apply ite_stay
    | split
    | dsimp only

theorem sweepAccept_stay (c : Nat) (g : Rat) (h : Stay s0 s) : Stay s0 (State.sweepAccept s c g) := by
  unfold State.sweepAccept
  repeat' first
    | with_reducible assumption
    | intro _
    | with_reducible apply when_stay
    | with_reducible apply setFld_stay
    | with_reducible apply ite_stay
    | split
    | dsimp only
    | with_reducible refine mk_stay ?_

theorem setTrims_stay (c : Nat) (h : Stay s0 s) : Stay s0 (State.setTrims s c) := by
  unfold State.setTrims
  repeat' first
    | with_reducible assumption
    | intro _
    | with_reducible apply setCh_stay
    | with_reducible apply when_stay
    | with_reducible apply setReg_stay
    | with_reducible apply ite_stay
    | split
    | dsimp only
    | with_reducible refine mk_stay ?_

theorem restorePrim_stay (c : Nat) (h : Stay s0 s) : Stay s0 (State.restorePrim s c) := by
  unfold State.restorePrim
  repeat' first
    | with_reducible assumption
    | intro _
    | with_reducible apply setCh_stay
    | with_reducible apply setFld_stay
    | with_reducible apply setReg_stay
    | with_reducible apply ite_stay
    | split
    | dsimp only

theorem stepEnd_stay (g : Nat) (pos : Nat) (tgt : Nat) (h : Stay s0 s) : Stay s0 (State.stepEnd s g pos tgt) := by
  unfold State.stepEnd
  repeat' first
    | with_reducible assumption
    | intro _
    | with_reducible apply spareGo_stay
    | with_reducible apply showCol_stay
    | with_reducible apply ite_stay
    | split
    | dsimp only
    | with_reducible refine mk_stay ?_

theorem rotPhase_stay (p : Nat) (h : Stay s0 s) : Stay s0 (State.rotPhase s p) := by
  unfold State.rotPhase
  repeat' first
    | with_reducible assumption
    | intro _
    | with_reducible apply showCol_stay
    | with_reducible apply ite_stay
    | split
    | dsimp only
    | with_reducible refine mk_stay ?_

theorem sweepPhase_stay (p : Nat) (h : Stay s0 s) : Stay s0 (State.sweepPhase s p) := by
  unfold State.sweepPhase
  repeat' first
    | with_reducible assumption
    | intro _
    | with_reducible apply showCol_stay
    | with_reducible apply ite_stay
    | split
    | dsimp only
    | with_reducible refine mk_stay ?_

theorem setSp_stay (c : Nat) (r : Int) (v : Int) (h : Stay s0 s) : Stay s0 (State.setSp s c r v) := by
  unfold State.setSp
  repeat' first
    | with_reducible assumption
    | intro _
    | with_reducible apply setFld_stay
    | with_reducible apply ite_stay
    | split
    | dsimp only

theorem markProbe_stay (line : Nat) (x : Int) (h : Stay s0 s) : Stay s0 (State.markProbe s line x) := by
  unfold State.markProbe
  repeat' first
    | with_reducible assumption
    | intro _
    | with_reducible apply setLine_stay
    | with_reducible apply ite_stay
    | split
    | dsimp only

theorem markHalf_stay (line : Nat) (h : Stay s0 s) : Stay s0 (State.markHalf s line) := by
  unfold State.markHalf
  repeat' first
    | with_reducible assumption
    | intro _
    | with_reducible apply setLine_stay
    | with_reducible apply ite_stay
    | split
    | dsimp only

theorem probeEnd_stay (c : Nat) (h : Stay s0 s) : Stay s0 (State.probeEnd s c) := by
  unfold State.probeEnd
  repeat' first
    | with_reducible assumption
    | intro _
    | with_reducible apply setFld_stay
    | with_reducible apply ite_stay
    | split
    | dsimp only
    | with_reducible refine mk_stay ?_

theorem slewSp_stay (sp : Nat) (r : Int) (v : Int) (h : Stay s0 s) : Stay s0 (State.slewSp s sp r v) := by
  unfold State.slewSp
  repeat' first
    | with_reducible assumption
    | intro _
    | with_reducible apply when_stay
    | with_reducible apply setSp_stay
    | with_reducible apply ite_stay
    | split
    | dsimp only

theorem rot1_stay (c : Nat) (line : Nat) (h : Stay s0 s) : Stay s0 (State.rot1 s c line) := by
  unfold State.rot1
  repeat' first
    | with_reducible assumption
    | intro _
    | with_reducible apply slewSp_stay
    | with_reducible apply rotPhase_stay
    | with_reducible apply markProbe_stay
    | with_reducible apply ite_stay
    | split
    | dsimp only
    | with_reducible refine mk_stay ?_

theorem rot3_stay (c : Nat) (line : Nat) (h : Stay s0 s) : Stay s0 (State.rot3 s c line) := by
  unfold State.rot3
  repeat' first
    | with_reducible assumption
    | intro _
    | with_reducible apply rotPhase_stay
    | with_reducible apply markHalf_stay
    | with_reducible apply setSp_stay
    | with_reducible apply slewSp_stay
    | with_reducible apply lineFlagIf_stay
    | with_reducible apply ite_stay
    | split
    | dsimp only
    | with_reducible refine mk_stay ?_

theorem rot2_stay (c : Nat) (line : Nat) (h : Stay s0 s) : Stay s0 (State.rot2 s c line) := by
  unfold State.rot2
  repeat' first
    | with_reducible assumption
    | intro _
    | with_reducible apply slewSp_stay
    | with_reducible apply markProbe_stay
    | with_reducible apply rot3_stay
    | with_reducible apply rotPhase_stay
    | with_reducible apply probeEnd_stay
    | with_reducible apply ite_stay
    | split
    | dsimp only
    | with_reducible refine mk_stay ?_

theorem swap_stay (c : Nat) (line : Nat) (p : Rat × Rat) (q : Rat × Rat) (h : Stay s0 s) : Stay s0 (State.swap s c line p q) := by
  unfold State.swap
  repeat' first
    | with_reducible assumption
    | intro _
    | with_reducible apply when_stay
    | with_reducible apply setFld_stay
    | with_reducible apply sweepPhase_stay
    | with_reducible apply lineFlag_stay
    | with_reducible apply spareGo_stay
    | with_reducible apply ite_stay
    | split
    | dsimp only
    | with_reducible refine mk_stay ?_

theorem stepReject_stay (c : Nat) (h : Stay s0 s) : Stay s0 (State.stepReject s c) := by
  unfold State.stepReject
  repeat' first
    | with_reducible assumption
    | intro _
    | with_reducible apply stepEnd_stay
    | with_reducible apply colReject_stay
    | with_reducible apply ite_stay
    | split
    | dsimp only

theorem rot4_again_stay (c line : Nat) (h : Stay s0 s) : Stay s0 (State.rot4.again c line s) := by
  unfold State.rot4.again
  split
  · exact markHalf_stay _ (mk_stay h)
  · exact stepReject_stay _ h

theorem rot4_stay (c line : Nat) (h : Stay s0 s) : Stay s0 (State.rot4 s c line) := by
  have h1 : Stay s0 { s with col := { s.col with lines := s.col.lines + 1 } } := mk_stay h
  unfold State.rot4
  refine ite_stay (markHalf_stay _ h1) (ite_stay (stepReject_stay _ h1) ?_)
  split
  · exact ite_stay (swap_stay _ _ _ _ h1) (rot4_again_stay _ _ h1)
  · exact rot4_again_stay _ _ h1

theorem overlapStart_stay (line : Nat) (h : Stay s0 s) : Stay s0 (State.overlapStart s line) := by
  unfold State.overlapStart
  repeat' first
    | with_reducible assumption
    | intro _
    | with_reducible apply rotPhase_stay
    | with_reducible apply markHalf_stay
    | with_reducible apply ite_stay
    | split
    | dsimp only
    | with_reducible refine mk_stay ?_

theorem rot5_stay (c : Nat) (line : Nat) (h : Stay s0 s) : Stay s0 (State.rot5 s c line) := by
  unfold State.rot5
  repeat' first
    | with_reducible assumption
    | intro _
    | with_reducible apply showRep_stay
    | with_reducible apply overlapStart_stay
    | with_reducible apply colReject_stay
    | with_reducible apply restorePrim_stay
    | with_reducible apply sweepAccept_stay
    | with_reducible apply sweepPhase_stay
    | with_reducible apply ite_stay
    | split
    | dsimp only
    | with_reducible refine mk_stay ?_

theorem rot6_stay (c : Nat) (line : Nat) (h : Stay s0 s) : Stay s0 (State.rot6 s c line) := by
  unfold State.rot6
  repeat' first
    | with_reducible assumption
    | intro _
    | with_reducible apply markHalf_stay
    | with_reducible apply sweepPhase_stay
    | with_reducible apply lineFlag_stay
    | with_reducible apply spareGo_stay
    | with_reducible apply colReject_stay
    | with_reducible apply restorePrim_stay
    | with_reducible apply stepEnd_stay
    | with_reducible apply ite_stay
    | split
    | dsimp only
    | with_reducible refine mk_stay ?_

theorem rot7_stay (c : Nat) (h : Stay s0 s) : Stay s0 (State.rot7 s c) := by
  unfold State.rot7
  repeat' first
    | with_reducible assumption
    | intro _
    | with_reducible apply showRep_stay
    | with_reducible apply stepEnd_stay
    | with_reducible apply colReject_stay
    | with_reducible apply setCh_stay
    | with_reducible apply colAccept_stay
    | with_reducible apply sweepAccept_stay
    | with_reducible apply sweepPhase_stay
    | with_reducible apply ite_stay
    | split
    | dsimp only
    | with_reducible refine mk_stay ?_

theorem stepAbandon_stay (c : Nat) (h : Stay s0 s) : Stay s0 (State.stepAbandon s c) := by
  unfold State.stepAbandon
  repeat' first
    | with_reducible assumption
    | intro _
    | with_reducible apply when_stay
    | with_reducible apply restorePrim_stay
    | with_reducible apply stepEnd_stay
    | with_reducible apply colResult_stay
    | with_reducible apply ite_stay
    | split
    | dsimp only
    | with_reducible refine mk_stay ?_

theorem standDown_stay (g : Nat) (h : Stay s0 s) : Stay s0 (State.standDown s g) := by
  unfold State.standDown
  repeat' first
    | with_reducible assumption
    | intro _
    | with_reducible apply spareGo_stay
    | with_reducible apply ite_stay
    | split
    | dsimp only

theorem colWatch_stay  (h : Stay s0 s) : Stay s0 (State.colWatch s) := by
  unfold State.colWatch
  repeat' first
    | with_reducible assumption
    | intro _
    | with_reducible apply stepAbandon_stay
    | with_reducible apply forN_stay
    | with_reducible apply standDown_stay
    | with_reducible apply ite_stay
    | split
    | dsimp only
    | with_reducible refine mk_stay ?_

theorem phaseRestart_stay  (h : Stay s0 s) : Stay s0 (State.phaseRestart s) := by
  unfold State.phaseRestart
  repeat' first
    | with_reducible assumption
    | intro _
    | with_reducible apply sweepPhase_stay
    | with_reducible apply showCol_stay
    | with_reducible apply ite_stay
    | split
    | dsimp only
    | with_reducible refine mk_stay ?_

theorem colLine_stay (line : Nat) (h : Stay s0 s) : Stay s0 (State.colLine s line) := by
  unfold State.colLine
  repeat' first
    | with_reducible assumption
    | intro _
    | with_reducible apply phaseRestart_stay
    | with_reducible apply rot1_stay
    | with_reducible apply rot2_stay
    | with_reducible apply rot3_stay
    | with_reducible apply rot4_stay
    | with_reducible apply rot5_stay
    | with_reducible apply rot6_stay
    | with_reducible apply rot7_stay
    | with_reducible apply ite_stay
    | split
    | dsimp only

theorem colSlot_stay (e : Exposure) (h : Stay s0 s) : Stay s0 (State.colSlot s e) := by
  unfold State.colSlot
  repeat' first
    | with_reducible assumption
    | intro _
    | with_reducible apply setTrims_stay
    | with_reducible apply ite_stay
    | split
    | dsimp only
    | with_reducible refine mk_stay ?_

theorem phoLine_stay (line : Nat) (h : Stay s0 s) : Stay s0 (State.phoLine s line) := by
  unfold State.phoLine
  repeat' first
    | with_reducible assumption
    | intro _
    | with_reducible apply ite_stay
    | split
    | dsimp only
    | with_reducible refine mk_stay ?_

theorem phoPreroll_stay  (h : Stay s0 s) : Stay s0 (State.phoPreroll s) := by
  unfold State.phoPreroll
  repeat' first
    | with_reducible assumption
    | intro _
    | with_reducible apply ite_stay
    | split
    | dsimp only
    | with_reducible refine mk_stay ?_

theorem phoRecord_stay (body : List Sys2Proof.Byte) (h : Stay s0 s) : Stay s0 (State.phoRecord s body) := by
  unfold State.phoRecord
  repeat' first
    | with_reducible assumption
    | intro _
    | with_reducible apply evt_stay
    | with_reducible apply bump_stay
    | with_reducible apply setReg_stay
    | with_reducible apply ite_stay
    | split
    | dsimp only
    | with_reducible refine mk_stay ?_

theorem winResult_stay (alarmed : Nat) (w : Nat) (r : WinRun) (part : Bool) (broken : Bool) (h : Stay s0 s) : Stay s0 (State.winResult s alarmed w r part broken).1 := by
  unfold State.winResult
  repeat' first
    | with_reducible assumption
    | intro _
    | with_reducible apply store_stay
    | with_reducible apply when_stay
    | with_reducible apply evt_stay
    | with_reducible apply bump_stay
    | with_reducible apply setFld_stay
    | with_reducible apply emit_stay
    | with_reducible apply phoRecord_stay
    | with_reducible apply ite_stay
    | split
    | dsimp only
    | with_reducible refine mk_stay ?_
    | with_reducible exact Stay.refl _

theorem winDrop_stay (l : List (Nat × List Nat)) (h : Stay s0 s) : Stay s0 (State.winDrop s l) := by
  unfold State.winDrop
  repeat' first
    | with_reducible assumption
    | intro _
    | with_reducible apply foldS_stay
    | with_reducible apply store_stay
    | with_reducible apply ite_stay
    | split
    | dsimp only
    | with_reducible refine mk_stay ?_

theorem bandEnd_stay (line : Nat) (sel : Nat) (b : BandRun) (long : Bool) (part : Bool) (h : Stay s0 s) : Stay s0 (State.bandEnd s line sel b long part) := by
  unfold State.bandEnd
  repeat' first
    | with_reducible assumption
    | intro _
    | with_reducible apply emit_stay
    | with_reducible apply evt_stay
    | with_reducible apply when_stay
    | with_reducible apply phoRecord_stay
    | with_reducible apply ite_stay
    | split
    | dsimp only

theorem streakOut_stay (due : Nat × List Nat → Bool) (h : Stay s0 s) : Stay s0 (State.streakOut s due) := by
  unfold State.streakOut
  repeat' first
    | with_reducible assumption
    | intro _
    | with_reducible apply foldS_stay
    | with_reducible apply phoRecord_stay
    | with_reducible apply ite_stay
    | split
    | dsimp only
    | with_reducible refine mk_stay ?_

theorem bandOver_stay (sel : Nat) (h : Stay s0 s) : Stay s0 (State.bandOver s sel) := by
  unfold State.bandOver
  repeat' first
    | with_reducible assumption
    | intro _
    | with_reducible apply setFlag_stay
    | with_reducible apply ite_stay
    | split
    | dsimp only
    | with_reducible refine mk_stay ?_

theorem winLast_stay  (h : Stay s0 s) : Stay s0 (State.winLast s) := by
  unfold State.winLast
  repeat' first
    | with_reducible assumption
    | intro _
    | with_reducible apply winDrop_stay
    | with_reducible apply ite_stay
    | split
    | dsimp only
    | with_reducible refine mk_stay ?_

theorem phoJobEnd_stay (h : Stay s0 s) : Stay s0 (State.phoJobEnd s) := by
  have h0 : Stay s0 s.winLast := winLast_stay h
  unfold State.phoJobEnd
  generalize s.winLast = q at h0 ⊢
  dsimp only
  apply forN_stay
  · exact streakOut_stay _ (mk_stay
      (foldl_stay _ h0 (fun p x hp => ite_fst_stay hp (winResult_stay _ _ _ _ _ hp))))
  · intro t x ht
    exact bandOver_stay _ (when_stay _ ht (fun u hu => bandEnd_stay _ _ _ _ _ hu))

theorem setChan_stay (ch : Nat) (c : Dch) (h : Stay s0 s) : Stay s0 (State.setChan s ch c) := by
  unfold State.setChan
  repeat' first
    | with_reducible assumption
    | intro _
    | with_reducible apply ite_stay
    | split
    | dsimp only
    | with_reducible refine mk_stay ?_

theorem setNext_stay (ch : Nat) (a : Nat) (h : Stay s0 s) : Stay s0 (State.setNext s ch a) := by
  unfold State.setNext
  repeat' first
    | with_reducible assumption
    | intro _
    | with_reducible apply setReg64_stay
    | with_reducible apply ite_stay
    | split
    | dsimp only

theorem markHost_stay (ch : Nat) (h : Stay s0 s) : Stay s0 (State.markHost s ch) := by
  unfold State.markHost
  repeat' first
    | with_reducible assumption
    | intro _
    | with_reducible apply setJob_stay
    | with_reducible apply setSsc_stay
    | with_reducible apply ite_stay
    | split
    | dsimp only

theorem readReq_stay (ch : Nat) (addr : Nat) (len : Nat) (tries : Nat) (h : Stay s0 s) : Stay s0 (State.readReq s ch addr len tries) := by
  unfold State.readReq
  repeat' first
    | with_reducible assumption
    | intro _
    | with_reducible apply send_stay
    | with_reducible apply setChan_stay
    | with_reducible apply ite_stay
    | split
    | dsimp only

theorem fetchDesc_stay (ch : Nat) (h : Stay s0 s) : Stay s0 (State.fetchDesc s ch) := by
  unfold State.fetchDesc
  repeat' first
    | with_reducible assumption
    | intro _
    | with_reducible apply applyPage_stay
    | with_reducible apply readReq_stay
    | with_reducible apply setChan_stay
    | with_reducible apply ite_stay
    | split
    | dsimp only

theorem proceed_stay (ch : Nat) (h : Stay s0 s) : Stay s0 (State.proceed s ch) := by
  unfold State.proceed
  repeat' first
    | with_reducible assumption
    | intro _
    | with_reducible apply setChan_stay
    | with_reducible apply fetchDesc_stay
    | with_reducible apply ite_stay
    | split
    | dsimp only

theorem setCq_stay (q : Nat) (v : Nat × Bool × Nat) (h : Stay s0 s) : Stay s0 (State.setCq s q v) := by
  unfold State.setCq
  repeat' first
    | with_reducible assumption
    | intro _
    | with_reducible apply setReg_stay
    | with_reducible apply ite_stay
    | split
    | dsimp only
    | with_reducible refine mk_stay ?_

theorem cqWrite_stay (ch : Nat) (q : Nat) (body : List Sys2Proof.Byte) (h : Stay s0 s) : Stay s0 (State.cqWrite s ch q body) := by
  unfold State.cqWrite
  repeat' first
    | with_reducible assumption
    | intro _
    | with_reducible apply send_stay
    | with_reducible apply when_stay
    | with_reducible apply useFree_stay
    | with_reducible apply setCq_stay
    | with_reducible apply sendVector_stay
    | with_reducible apply ite_stay
    | split
    | dsimp only

theorem cqDue_stay (ch : Nat) (status : Nat) (d : Desc) (h : Stay s0 s) : Stay s0 (State.cqDue s ch status d) := by
  unfold State.cqDue
  repeat' first
    | with_reducible assumption
    | intro _
    | with_reducible apply evt_stay
    | with_reducible apply setChan_stay
    | with_reducible apply bump_stay
    | with_reducible apply cqWrite_stay
    | with_reducible apply ite_stay
    | split
    | dsimp only

theorem haltAt_stay (ch : Nat) (status : Nat) (addr : Nat) (h : Stay s0 s) : Stay s0 (State.haltAt s ch status addr) := by
  unfold State.haltAt
  repeat' first
    | with_reducible assumption
    | intro _
    | with_reducible apply setChan_stay
    | with_reducible apply setNext_stay
    | with_reducible apply setFld_stay
    | with_reducible apply ite_stay
    | split
    | dsimp only

theorem halt_stay (ch : Nat) (status : Nat) (addr : Nat) (d : Option Desc) (h : Stay s0 s) : Stay s0 (State.halt s ch status addr d) := by
  unfold State.halt
  repeat' first
    | with_reducible assumption
    | intro _
    | with_reducible apply cqDue_stay
    | with_reducible apply evt_stay
    | with_reducible apply markHost_stay
    | with_reducible apply haltAt_stay
    | with_reducible apply fault_stay
    | with_reducible apply ite_stay
    | split
    | dsimp only

theorem showEst_stay  (h : Stay s0 s) : Stay s0 (State.showEst s) := by
  unfold State.showEst
  repeat' first
    | with_reducible assumption
    | intro _
    | with_reducible apply setReg_stay
    | with_reducible apply when_stay
    | with_reducible apply ite_stay
    | split
    | dsimp only

theorem lineGone_stay (line : Nat) (lost : Bool) (h : Stay s0 s) : Stay s0 (State.lineGone s line lost) := by
  unfold State.lineGone
  repeat' first
    | with_reducible assumption
    | intro _
    | with_reducible apply setJob_stay
    | with_reducible apply when_stay
    | with_reducible apply setFlag_stay
    | with_reducible apply setFld_stay
    | with_reducible apply setReg64_stay
    | with_reducible apply ite_stay
    | split
    | dsimp only

theorem recLost_stay (r : Record) (h : Stay s0 s) : Stay s0 (State.recLost s r) := by
  unfold State.recLost
  repeat' first
    | with_reducible assumption
    | intro _
    | with_reducible apply lineGone_stay
    | with_reducible apply setJob_stay
    | with_reducible apply ite_stay
    | split
    | dsimp only

theorem freeReg_stay (a : Nat) (h : Stay s0 s) : Stay s0 (State.freeReg s a) := by
  unfold State.freeReg
  repeat' first
    | with_reducible assumption
    | intro _
    | with_reducible apply useFree_stay
    | with_reducible apply setReg_stay
    | with_reducible apply ite_stay
    | split
    | dsimp only

theorem dmaDisable_stay (ch : Nat) (h : Stay s0 s) : Stay s0 (State.dmaDisable s ch) := by
  unfold State.dmaDisable
  repeat' first
    | with_reducible assumption
    | intro _
    | with_reducible apply foldS_stay
    | with_reducible apply recLost_stay
    | with_reducible apply setChan_stay
    | with_reducible apply setNext_stay
    | with_reducible apply markHost_stay
    | with_reducible apply setHdr_stay
    | with_reducible apply setFld_stay
    | with_reducible apply freeReg_stay
    | with_reducible apply ite_stay
    | split
    | dsimp only

theorem dmaEnable_stay (ch : Nat) (h : Stay s0 s) : Stay s0 (State.dmaEnable s ch) := by
  unfold State.dmaEnable
  repeat' first
    | with_reducible assumption
    | intro _
    | with_reducible apply setHdr_stay
    | with_reducible apply foldS_stay
    | with_reducible apply setReg_stay
    | with_reducible apply setFld_stay
    | with_reducible apply proceed_stay
    | with_reducible apply setChan_stay
    | with_reducible apply ite_stay
    | split
    | dsimp only

theorem setMer_stay (f : Mer → Mer) (h : Stay s0 s) : Stay s0 (State.setMer s f) := by
  unfold State.setMer
  repeat' first
    | with_reducible assumption
    | intro _
    | with_reducible apply ite_stay
    | split
    | dsimp only
    | with_reducible refine mk_stay ?_

theorem oweClose_stay  (h : Stay s0 s) : Stay s0 (State.oweClose s) := by
  unfold State.oweClose
  repeat' first
    | with_reducible assumption
    | intro _
    | with_reducible apply setJob_stay
    | with_reducible apply ite_stay
    | split
    | dsimp only

theorem endJob_stay  (h : Stay s0 s) : Stay s0 (State.endJob s) := by
  unfold State.endJob
  repeat' first
    | with_reducible assumption
    | intro _
    | with_reducible apply setSsc_stay
    | with_reducible apply setMer_stay
    | with_reducible apply cstop_stay
    | with_reducible apply oweClose_stay
    | with_reducible apply ite_stay
    | split
    | dsimp only

theorem derive_stay (a : Nat) (f : Fld) (v : Nat) (h : Stay s0 s) : Stay s0 (State.derive s a f v) := by
  unfold State.derive
  repeat' first
    | with_reducible assumption
    | intro _
    | with_reducible apply activate_stay
    | with_reducible apply ite_stay
    | split
    | dsimp only
    | with_reducible refine mk_stay ?_

theorem deriveMer_stay  (h : Stay s0 s) : Stay s0 (State.deriveMer s) := by
  unfold State.deriveMer
  repeat' first
    | with_reducible assumption
    | intro _
    | with_reducible apply foldS_stay
    | with_reducible apply derive_stay
    | with_reducible apply ite_stay
    | split
    | dsimp only

theorem deriveChan_stay (c : Nat) (h : Stay s0 s) : Stay s0 (State.deriveChan s c) := by
  unfold State.deriveChan
  repeat' first
    | with_reducible assumption
    | intro _
    | with_reducible apply derive_stay
    | with_reducible apply ite_stay
    | split
    | dsimp only

theorem deriveOut_stay  (h : Stay s0 s) : Stay s0 (State.deriveOut s) := by
  unfold State.deriveOut
  repeat' first
    | with_reducible assumption
    | intro _
    | with_reducible apply derive_stay
    | with_reducible apply foldS_stay
    | with_reducible apply ite_stay
    | split
    | dsimp only

theorem deriveTimes_stay  (h : Stay s0 s) : Stay s0 (State.deriveTimes s) := by
  unfold State.deriveTimes
  repeat' first
    | with_reducible assumption
    | intro _
    | with_reducible apply derive_stay
    | with_reducible apply ite_stay
    | split
    | dsimp only

theorem deriveAll_stay  (h : Stay s0 s) : Stay s0 (State.deriveAll s) := by
  unfold State.deriveAll
  repeat' first
    | with_reducible assumption
    | intro _
    | with_reducible apply skipFree_stay
    | with_reducible apply deriveTimes_stay
    | with_reducible apply deriveOut_stay
    | with_reducible apply forN_stay
    | with_reducible apply deriveChan_stay
    | with_reducible apply deriveMer_stay
    | with_reducible apply ite_stay
    | split
    | dsimp only

theorem idleHel_stay  (h : Stay s0 s) : Stay s0 (State.idleHel s) := by
  unfold State.idleHel
  repeat' first
    | with_reducible assumption
    | intro _
    | with_reducible apply setFld_stay
    | with_reducible apply setReg_stay
    | with_reducible apply ite_stay
    | split
    | dsimp only
    | with_reducible refine mk_stay ?_

theorem idleStore_stay  (h : Stay s0 s) : Stay s0 (State.idleStore s) := by
  unfold State.idleStore
  repeat' first
    | with_reducible assumption
    | intro _
    | with_reducible apply when_stay
    | with_reducible apply ite_stay
    | split
    | dsimp only
    | with_reducible refine mk_stay ?_

theorem idleCores_stay (h : Stay s0 s) : Stay s0 (State.idleCores s) := by
  unfold State.idleCores
  have h1 : Stay s0 { s with pwr := { s.pwr with st := 1 } } := ⟨h.safe, h.unack, h.sec, h.heat, h.live, h.straps⟩
  exact ite_stay (coresReady_stay h1) h

theorem toIdle_stay  (h : Stay s0 s) : Stay s0 (State.toIdle s) := by
  unfold State.toIdle
  repeat' first
    | with_reducible assumption
    | intro _
    | with_reducible apply setSsc_stay
    | with_reducible apply idleHel_stay
    | with_reducible apply idleStore_stay
    | with_reducible apply helHold_stay
    | with_reducible apply phoJobEnd_stay
    | with_reducible apply darkCommit_stay
    | with_reducible apply setMer_stay
    | with_reducible apply stgIdle_stay
    | with_reducible apply evt_stay
    | with_reducible apply idleCores_stay
    | with_reducible apply ite_stay
    | split
    | dsimp only

theorem jobIdle_stay  (h : Stay s0 s) : Stay s0 (State.jobIdle s) := by
  unfold State.jobIdle
  repeat' first
    | with_reducible assumption
    | intro _
    | with_reducible apply setSsc_stay
    | with_reducible apply toIdle_stay
    | with_reducible apply ite_stay
    | split
    | dsimp only

theorem cutCapture_stay  (h : Stay s0 s) : Stay s0 (State.cutCapture s) := by
  unfold State.cutCapture
  repeat' first
    | with_reducible assumption
    | intro _
    | with_reducible apply setMer_stay
    | with_reducible apply stgIdle_stay
    | with_reducible apply noRow_stay
    | with_reducible apply ite_stay
    | split
    | dsimp only
    | with_reducible refine mk_stay ?_

theorem dropRecords_stay  (h : Stay s0 s) : Stay s0 (State.dropRecords s) := by
  unfold State.dropRecords
  repeat' first
    | with_reducible assumption
    | intro _
    | with_reducible apply setJob_stay
    | with_reducible apply showEst_stay
    | with_reducible apply ite_stay
    | split
    | dsimp only
    | with_reducible refine mk_stay ?_

theorem abortJob_stay  (h : Stay s0 s) : Stay s0 (State.abortJob s) := by
  unfold State.abortJob
  repeat' first
    | with_reducible assumption
    | intro _
    | with_reducible apply evt_stay
    | with_reducible apply setSsc_stay
    | with_reducible apply freeze_stay
    | with_reducible apply toIdle_stay
    | with_reducible apply dropRecords_stay
    | with_reducible apply cutCapture_stay
    | with_reducible apply ite_stay
    | split
    | dsimp only

theorem streakClear_stay  (h : Stay s0 s) : Stay s0 (State.streakClear s) := by
  unfold State.streakClear
  repeat' first
    | with_reducible assumption
    | intro _
    | with_reducible apply foldS_stay
    | with_reducible apply scanTouch_stay
    | with_reducible apply setFlag_stay
    | with_reducible apply ite_stay
    | split
    | dsimp only
    | with_reducible refine mk_stay ?_

theorem warmBack_stay (g : Nat) (goal : Nat × Nat) (h : Stay s0 s) : Stay s0 (State.warmBack s g goal) := by
  unfold State.warmBack
  repeat' first
    | with_reducible assumption
    | intro _
    | with_reducible apply setCh_stay
    | with_reducible apply ite_stay
    | split
    | dsimp only

theorem spareFollow_stay (g : Nat) (h : Stay s0 s) : Stay s0 (State.spareFollow s g) := by
  unfold State.spareFollow
  repeat' first
    | with_reducible assumption
    | intro _
    | with_reducible apply stepAbandon_stay
    | with_reducible apply warmBack_stay
    | with_reducible apply setSpare_stay
    | with_reducible apply ite_stay
    | split
    | dsimp only

theorem lineApply_stay  (h : Stay s0 s) : Stay s0 (State.lineApply s) := by
  unfold State.lineApply
  repeat' first
    | with_reducible assumption
    | intro _
    | with_reducible apply colFollow_stay
    | with_reducible apply applyPend_stay
    | with_reducible apply rowenApply_stay
    | with_reducible apply foldS_stay
    | with_reducible apply commit_stay
    | with_reducible apply when_stay
    | with_reducible apply darkClear_stay
    | with_reducible apply streakClear_stay
    | with_reducible apply forN_stay
    | with_reducible apply spareFollow_stay
    | with_reducible apply ite_stay
    | split
    | dsimp only
    | with_reducible refine mk_stay ?_

theorem timerKeep_stay (period : Nat) (h : Stay s0 s) : Stay s0 (State.timerKeep s period) := by
  unfold State.timerKeep
  repeat' first
    | with_reducible assumption
    | intro _
    | with_reducible apply setMer_stay
    | with_reducible apply ite_stay
    | split
    | dsimp only

theorem timerBefore_stay  (h : Stay s0 s) : Stay s0 (State.timerBefore s) := by
  unfold State.timerBefore
  repeat' first
    | with_reducible assumption
    | intro _
    | with_reducible apply timerKeep_stay
    | with_reducible apply ite_stay
    | split
    | dsimp only

theorem timerAfter_stay  (h : Stay s0 s) : Stay s0 (State.timerAfter s) := by
  unfold State.timerAfter
  repeat' first
    | with_reducible assumption
    | intro _
    | with_reducible apply timerKeep_stay
    | with_reducible apply ite_stay
    | split
    | dsimp only

theorem exposeSlot_stay (j : Nat) (read : Option Exposure) (h : Stay s0 s) : Stay s0 (State.exposeSlot s j read) := by
  unfold State.exposeSlot
  repeat' first
    | with_reducible assumption
    | intro _
    | with_reducible apply setMer_stay
    | with_reducible apply emit_stay
    | with_reducible apply snapRow_stay
    | with_reducible apply noRow_stay
    | with_reducible apply colSlot_stay
    | with_reducible apply readBegin_stay
    | with_reducible apply ite_stay
    | split
    | dsimp only

theorem lateStart_stay (tr : Trig) (idle : Bool) (h : Stay s0 s) : Stay s0 (State.lateStart s tr idle) := by
  unfold State.lateStart
  repeat' first
    | with_reducible assumption
    | intro _
    | with_reducible apply evtIf_stay
    | with_reducible apply bump_stay
    | with_reducible apply setReg_stay
    | with_reducible apply ite_stay
    | split
    | dsimp only

theorem newLine_stay (n : Nat) (tr : Trig) (h : Stay s0 s) : Stay s0 (State.newLine s n tr) := by
  unfold State.newLine
  repeat' first
    | with_reducible assumption
    | intro _
    | with_reducible apply when_stay
    | with_reducible apply setSsc_stay
    | with_reducible apply setLine_stay
    | with_reducible apply ite_stay
    | split
    | dsimp only
    | with_reducible refine mk_stay ?_

theorem senseLine_stay  (h : Stay s0 s) : Stay s0 (State.senseLine s) := by
  unfold State.senseLine
  repeat' first
    | with_reducible assumption
    | intro _
    | with_reducible apply ite_stay
    | split
    | dsimp only
    | with_reducible refine mk_stay ?_

theorem capturedLine_stay (n : Nat) (tr : Trig) (go : Bool) (h : Stay s0 s) : Stay s0 (State.capturedLine s n tr go) := by
  unfold State.capturedLine
  repeat' first
    | with_reducible assumption
    | intro _
    | with_reducible apply newLine_stay
    | with_reducible apply fftLine_stay
    | with_reducible apply darkCommit_stay
    | with_reducible apply phoLine_stay
    | with_reducible apply colLine_stay
    | with_reducible apply colServe_stay
    | with_reducible apply emit_stay
    | with_reducible apply ite_stay
    | split
    | dsimp only

theorem prerollLine_stay (k : Nat) (tr : Trig) (h : Stay s0 s) : Stay s0 (State.prerollLine s k tr) := by
  unfold State.prerollLine
  repeat' first
    | with_reducible assumption
    | intro _
    | with_reducible apply phoPreroll_stay
    | with_reducible apply bumpFld_stay
    | with_reducible apply setLine_stay
    | with_reducible apply ite_stay
    | split
    | dsimp only

theorem lineBoundary_stay (tr : Trig) (h : Stay s0 s) : Stay s0 (State.lineBoundary s tr) := by
  unfold State.lineBoundary
  repeat' first
    | with_reducible assumption
    | intro _
    | with_reducible apply timerBefore_stay
    | with_reducible apply keepUse_stay
    | with_reducible apply setMer_stay
    | with_reducible apply colWatch_stay
    | with_reducible apply timerAfter_stay
    | with_reducible apply lineApply_stay
    | with_reducible apply senseLine_stay
    | with_reducible apply prerollLine_stay
    | with_reducible apply capturedLine_stay
    | with_reducible apply helLine_stay
    | with_reducible apply holdCut_stay
    | with_reducible apply acqLine_stay
    | with_reducible apply lineFlagIf_stay
    | with_reducible apply exposeSlot_stay
    | with_reducible apply ite_stay
    | split
    | dsimp only
    | with_reducible refine mk_stay ?_

theorem endAtLine_stay  (h : Stay s0 s) : Stay s0 (State.endAtLine s) := by
  unfold State.endAtLine
  repeat' first
    | with_reducible assumption
    | intro _
    | with_reducible apply endJob_stay
    | with_reducible apply ite_stay
    | split
    | dsimp only

theorem idleStart_stay (tr : Trig) (h : Stay s0 s) : Stay s0 (State.idleStart s tr) := by
  unfold State.idleStart
  repeat' first
    | with_reducible assumption
    | intro _
    | with_reducible apply setMer_stay
    | with_reducible apply ite_stay
    | split
    | dsimp only

theorem lineStart_stay (t : Nat) (h : Stay s0 s) : Stay s0 (State.lineStart s t) := by
  unfold State.lineStart
  repeat' first
    | with_reducible assumption
    | intro _
    | with_reducible apply idleStart_stay
    | with_reducible apply upto_stay
    | with_reducible apply endAtLine_stay
    | with_reducible apply lineBoundary_stay
    | with_reducible apply lateStart_stay
    | with_reducible apply ite_stay
    | split
    | dsimp only

theorem dropHeld_stay (ls : List Nat) (h : Stay s0 s) : Stay s0 (State.dropHeld s ls) := by
  unfold State.dropHeld
  repeat' first
    | with_reducible assumption
    | intro _
    | with_reducible apply ite_stay
    | split
    | dsimp only
    | with_reducible refine mk_stay ?_

theorem cutLines_stay  (h : Stay s0 s) : Stay s0 (State.cutLines s) := by
  unfold State.cutLines
  repeat' first
    | with_reducible assumption
    | intro _
    | with_reducible apply setMer_stay
    | with_reducible apply dropHeld_stay
    | with_reducible apply acqReadout_stay
    | with_reducible apply noRow_stay
    | with_reducible apply foldS_stay
    | with_reducible apply dropLine_stay
    | with_reducible apply ite_stay
    | split
    | dsimp only
    | with_reducible refine mk_stay ?_

theorem pclkUnlock_stay  (h : Stay s0 s) : Stay s0 (State.pclkUnlock s) := by
  unfold State.pclkUnlock
  repeat' first
    | with_reducible assumption
    | intro _
    | with_reducible apply setMer_stay
    | with_reducible apply fault_stay
    | with_reducible apply evt_stay
    | with_reducible apply cutLines_stay
    | with_reducible apply stgIdle_stay
    | with_reducible apply ite_stay
    | split
    | dsimp only

theorem imageRejected_stay (slot : Nat) (h : Stay s0 s) : Stay s0 (State.imageRejected s slot) := by
  unfold State.imageRejected
  repeat' first
    | with_reducible assumption
    | intro _
    | with_reducible apply fault_stay
    | with_reducible apply evt_stay
    | with_reducible apply ite_stay
    | split
    | dsimp only

theorem showVersion_stay (slot : Nat) (reason : Nat) (h : Stay s0 s) : Stay s0 (State.showVersion s slot reason) := by
  unfold State.showVersion
  repeat' first
    | with_reducible assumption
    | intro _
    | with_reducible apply setReg_stay
    | with_reducible apply ite_stay
    | split
    | dsimp only

theorem setHlk_stay (f : Hlk → Hlk) (h : Stay s0 s) : Stay s0 (State.setHlk s f) := by
  unfold State.setHlk
  repeat' first
    | with_reducible assumption
    | intro _
    | with_reducible apply ite_stay
    | split
    | dsimp only
    | with_reducible refine mk_stay ?_

theorem showLink_stay (up : Bool) (speed : Nat) (width : Nat) (h : Stay s0 s) : Stay s0 (State.showLink s up speed width) := by
  unfold State.showLink
  repeat' first
    | with_reducible assumption
    | intro _
    | with_reducible apply setReg_stay
    | with_reducible apply ite_stay
    | split
    | dsimp only

theorem dmaAllOff_stay  (h : Stay s0 s) : Stay s0 (State.dmaAllOff s) := by
  unfold State.dmaAllOff
  repeat' first
    | with_reducible assumption
    | intro _
    | with_reducible apply forN_stay
    | with_reducible apply dmaDisable_stay
    | with_reducible apply ite_stay
    | split
    | dsimp only

theorem dlDown_stay  (h : Stay s0 s) : Stay s0 (State.dlDown s) := by
  unfold State.dlDown
  repeat' first
    | with_reducible assumption
    | intro _
    | with_reducible apply setHlk_stay
    | with_reducible apply showLink_stay
    | with_reducible apply dmaAllOff_stay
    | with_reducible apply setReg_stay
    | with_reducible apply fault_stay
    | with_reducible apply evt_stay
    | with_reducible apply ite_stay
    | split
    | dsimp only

theorem helSafe_stay  (h : Stay s0 s) : Stay s0 (State.helSafe s) := by
  unfold State.helSafe
  repeat' first
    | with_reducible assumption
    | intro _
    | with_reducible apply setFlag_stay
    | with_reducible apply setLam_stay
    | with_reducible apply setHelSt_stay
    | with_reducible apply lampsDark_stay
    | with_reducible apply ite_stay
    | split
    | dsimp only

theorem dmaSafe_stay (ch : Nat) (h : Stay s0 s) : Stay s0 (State.dmaSafe s ch) := by
  unfold State.dmaSafe
  repeat' first
    | with_reducible assumption
    | intro _
    | with_reducible apply markHost_stay
    | with_reducible apply haltAt_stay
    | with_reducible apply setChan_stay
    | with_reducible apply ite_stay
    | split
    | dsimp only

theorem runaway_stay (c : Nat) (h : Stay s0 s) : Stay s0 (State.runaway s c) := by
  unfold State.runaway
  repeat' first
    | with_reducible assumption
    | intro _
    | with_reducible apply fault_stay
    | with_reducible apply evt_stay
    | with_reducible apply setFlag_stay
    | with_reducible apply ite_stay
    | split
    | dsimp only

end Sys2Proof.Laws
end

