-- ==== Sys2Proof/Machine/Pins.lean ====
section
/-! DEFINITION. Levels of the output balls (spec/19 R587, spec/17 R545): what the blocks that own them drive, and the reset
states until boot releases them. -/

namespace Sys2Proof.Machine

/-- A driven output ball: low, high, or at high impedance (an open-drain output that is released). -/
inductive BallLevel where
  | low
  | high
  | hiZ
  deriving DecidableEq, Repr

def BallLevel.ofBool (b : Bool) : BallLevel := if b then .high else .low

/-- Lamp and motion outputs keep their reset states: PORST_N is low, or no image runs yet (R545, R558, R587). -/
def State.outputsHeld (s : State) : Bool := s.pwr.porst || s.pwr.st == 0

/-- STG[o] at tap t of the slot in hand: high impedance while its sensor bank is unpowered (R559, R587). -/
def State.stgBall (s : State) (o t : Nat) : BallLevel :=
  if !s.stgDriven o then .hiZ else if s.outputsHeld then .low else .ofBool (s.stgPin o t)

/-- LROW[k] at tap t of the slot in hand. -/
def State.lrowBall (s : State) (k t : Nat) : BallLevel := .ofBool (!s.outputsHeld && s.lrowPin k t)

/-- LCOL_SB[c]: low steers the column's current into the row (R225). -/
def State.lcolSbBall (s : State) (c : Nat) : BallLevel := .ofBool (s.outputsHeld || s.lcolSb c)

/-- LCOL_G[c] is held low: its regulator does not switch (R226). -/
def State.lcolGLow (s : State) (c : Nat) : Bool := s.outputsHeld || !s.colActive c

/-- The two bridge balls of phase b of axis x (R370): A1 and A2, or B1 and B2. -/
def State.motorBalls (s : State) (x : Nat) (b : Bool) : BallLevel × BallLevel :=
  if s.outputsHeld then (.high, .high)
  else
    let p := ((s.axis x).chop b).balls
    (.ofBool p.1, .ofBool p.2)

/-- EVOk: low until the event fabric serves (R498, R545, R587). -/
def State.evoBall (s : State) (k : Nat) : BallLevel := .ofBool (!s.pwr.porst && !s.busDark && s.evoPin k)

/-- MATTN_N, an open drain: low while an unmasked bit of ATTN is set, else released (R69, R587). -/
def State.mattnBall (s : State) : BallLevel := if !s.pwr.porst && s.mattnLow then .low else .hiZ

end Sys2Proof.Machine
end

