-- ==== Sys2Proof/Tests/Slice0.lean ====
section
/-! SUPPORT. Tests of the model: commands that are not well formed, the worked examples of spec/, single steps, and for
every statement states and operands that meet the hypotheses of each of its clauses. -/

namespace Sys2Proof.Tests

open Sys2Proof Sys2Proof.Machine

set_option maxRecDepth 100000
set_option Elab.async false

/-! ## States -/

/-- The machine after its boot: Ready, with the reference and pclk locked and firmware of slot A running. -/
def ready : State :=
  { State.reset with pwr := { st := 1, started := true, trained := true }, sec := { paused := false, st := 2, run := 0 }, mer := { lock := true } }

/-- The key guard of a page stands open. -/
def unlocked (s : State) (p : Nat) : State := s.setHdr p { s.hdr p with keyOpen := true }

/-- A page in expert mode. -/
def expertIn (s : State) (p : Nat) : State := s.setHdr p { s.hdr p with expert := true }

/-- Scan control in a state. -/
def withSsc (s : State) (n : Nat) : State := { s with ssc := { s.ssc with st := n } }

/-- A trigger of axis X at count 1,000. -/
def someTrig : Trig := { line := 0, tick := 1000, pos := 5, posSrc := 0, timer := false, preroll := false }

/-- A running job whose trigger is on its way to Meridian. -/
def triggered : State :=
  { withSsc ready 3 with mer := { cycle := true, lock := true, transit := [someTrig] }, acq := { power := 3 } }

/-- The same with a trigger in the latch, and none on its way. -/
def latched : State := { triggered with mer := { triggered.mer with transit := [], latch := some someTrig } }

/-- Meridian in an exposure slot of a line of three bands. -/
def exposing (slot : Nat) : State :=
  { (((triggered.setFld R.MER_SEQCFG F.MER_SEQCFG.NSLOT 3).setFld (R.MER_SEQk 1) F.MER_SEQk.BAND 1).setFld (R.MER_SEQk 2) F.MER_SEQk.BAND 2) with
    mer := { triggered.mer with transit := [], phase := .exposure, slot := slot, line := 1, expose := some ⟨1, slot⟩ } }

/-- An acquisition channel that converts, in a slot with a readout. -/
def converting (c : Nat) : State :=
  { ready with
    acq := { power := 3, chans := [(c, { cur := { on := true, ball := some (if c < 256 then c else 255) } })] }
    mer := { ready.mer with cycle := true, phase := .exposure, boundary := 1, readout := some ⟨1, 3⟩ } }

/-- Debug scope 1 is open. -/
def testOpen : State := { ready with sec := { ready.sec with scopes := 2 } }

/-- The column of lamp (k, 63) has been steered in for longer than any TDIAG. -/
def judging (k : Nat) : State :=
  { ready.setReg R.HELG_SAFE 0x8000 with hel := { cols := [(63, { row := k, ran := true, dead := true, got := 10 ^ 6 })] } }

/-- A measured slot of row 15 with lamp (15, 63) lit. -/
def someMeas : MeasSlot :=
  { row := 15, a := 64000, b := 64000, khz := 40000, cols := [(63, { row := 15, lit := true, got := 64 })], hold := false, ranges := [] }

/-- An urgent request. -/
def someAsk : Urgent := { input := 8, kind := 0, tag := 0 }

/-- A word on a channel's crossing. -/
def crossing (c : Nat) (w : FabricWord) : State :=
  { ready with acq := { chans := [(c, { fabric := [w] })] } }

/-- The last word of a sample of channel 255 in its last period, of line 1 and band 15. -/
def lastWord : FabricWord := BitVec.ofNat 40 (1000 * 2 ^ 24 + 3 * 2 ^ 22 + 15 * 2 ^ 17 + 639 * 2 ^ 7 + 1)

/-- The other conversions of that sample. -/
def firstParts : Part := { slot := 15, pix := 639, seq := 1, rh := some {}, rl := some {}, sh := some { code := 500 } }

/-- The sample's last word is on its way, and its exposure's optical black is over. -/
def lastPixel : State :=
  { crossing 255 lastWord with
    plt := { part := [(255, firstParts)], ob := [(255, { slot := 15, seq := 1, done := true })] }, lines := [(1, {})] }

/-- A job that delivers stream 0 on DMA channel 0, with line 1 captured and routed. -/
def streaming (route : Nat) : State :=
  { (((withSsc ready 3).setFlag (R.PLTG_OSs_CFG 0) F.PLTG_OSs_CFG.EN true).setReg (R.PLTG_OSs_WIDTH 0) 16) with
    lines := [(1, { capDone := true })]
    ssc := { st := 3, lastNum := 1, job := { first := 1, route := [(1, route)] } }, plt := { done := [(1, 65535)] } }

/-- A lamp run in hand whose only lamp's windows stand as given. -/
def lampRun (w : LampWin) : State :=
  { ready.setReg R.COL_PERM 0 with
    hel := { applied := [(63, 1)] }
    bar2 := [(0x2900000 + 63 * 16 + 2, 1)]
    col := { run := 1, windows := [(63, w)] } }

/-- An axis of the Clock Drive with a state, on an enabled page. -/
def withAxis (s : State) (x : Nat) (a : Axis) : State :=
  { s with cdr := { s.cdr with axes := [(x, a)] }, hdrs := [(P.CDRx x, { en := true })] }

/-- A move of the queue. -/
def someMove : Move := { tgt := 1000, vel := 1, acc := 1, dec := 1, jrk := 1 }

/-- A profile that runs that move at 1,000 microsteps a second for a second. -/
def somePlan : Plan := { t0 := 0, x0 := 0, dir := 1, v0 := 1000, a0 := 0, segs := [(1, 0)], tgt := some 1000, decideAt := 1 }

/-- A Tracking job on axis 0 in a state, whose position grid runs. -/
def tracking (n : Nat) : State := { withSsc ready n with ssc := { st := n, grid := some ⟨0, 0, 0, 0⟩, lastNum := 7 } }

/-- No stream is enabled. -/
def noStreams (s : State) : State := [0, 1, 2, 3].foldl (fun s k => s.setReg (R.PLTG_OSs_CFG k) 0) s

/-- A requested timer job of the dark slot alone, which delivers nothing; the pages with derived fields are in expert mode. -/
def asked : State :=
  { ((((((noStreams (withSsc ready 1)).setReg R.SSC_PMODE 2).setFld R.EST_CFG F.EST_CFG.GB 4).setReg R.MER_LPER 100000).setReg
      R.MER_LSRC 0).setFld (R.MER_SEQk 0) F.MER_SEQk.BAND 16).setFld R.MER_SEQCFG F.MER_SEQCFG.NSLOT 1 with
    hdrs := (P.MER, { expert := true }) :: (List.range 64).map (fun n => (P.ACQn n, { expert := true })) ++ [(P.PLTG, { expert := true })] }

/-- A DMA channel in a state. -/
def withChan (s : State) (ch : Nat) (c : Dch) : State := { s with dma := { s.dma with chans := [(ch, c)] } }

/-- A valid descriptor of type 2 that moves 64 bytes of table memory to host address 0x1000. -/
def someDesc : Desc := { addr := 0x40, src := 0, dst := 0x1000, len := 64, ctl := 2 ^ 31 + 2 * 2 ^ 28, next := 0 }

/-- The bytes of that descriptor in host memory. -/
def someBytes : List Byte := leBytes 8 0 ++ leBytes 8 0x1000 ++ leBytes 4 64 ++ leBytes 4 (2 ^ 31 + 2 * 2 ^ 28) ++ leBytes 8 0

/-- The PCIe link is up with eight lanes at 32 GT/s. -/
def linked : State := ready.setReg R.HLK_LINK (BitVec.ofNat 32 (8 * 2 ^ 8 + 5 * 2 + 1))

/-- The PCIe link trained, PERST_N long released. -/
def served : State := { linked with hlk := { st := 2 }, now := 3 * 10 ^ 10 }

/-- An event of software pulse 87 is on its way to channel 63, and nothing else listens. -/
def pulsed : State := { ready.setReg (R.EVF_PUBp 87) 0x8000003F with flight := [87] }

/-- The same with task k subscribed to the channel. -/
def heard (k : Nat) : State := pulsed.setReg (R.EVF_SUBt k) 0x8000003F

/-- A line whose record has been owed since the start. -/
def owing : State :=
  { withSsc ready 3 with ssc := { st := 3, job := { first := 1, dlv := [(1, {})], owe := [(4, { start := some 0 })] } } }

/-- A log whose entries are all taken. -/
def fullLog : List (Nat × LogEntry) := (List.range 64).map (fun i => (i, ⟨0, 0, 0, 0x0801, 1, false, 0, 1, 100 + i⟩))

/-- The guard of the SEC page stands open, and the control core's state is c. -/
def secure (c : Sec) : State := { unlocked ready P.SEC with sec := c }

/-- An operation field that names slot i in bits 5:4. -/
def slotWord (i : Nat) : Word := BitVec.ofNat 32 (i * 16)

/-- The boot sequence before its image, with the parts of it done that p says. -/
def booting (p : Pwr) : State := { State.reset with pwr := p }

/-! ## Ill-formed commands -/

/-- Addresses and page bases. -/
theorem test_wf_addresses :
    [Instr.registerWrite 0x1000000 0, .registerWrite 2 0, .pendingApplyIdle 0x100, .pcommitGo 0xFFE000, .pkeyWrite 4 0,
     .plockLock 0xFFF000, .pageSoftReset 1, .softResetDone 0x100, .expertSet 0x100, .expertClear 0x100,
     .tableWrite 0x4000000 false 0, .tableWrite 2 false 0, .tableWrite 4 true 0, .tableWrite 0 false (2 ^ 32), .tableWrite 0 true (2 ^ 64),
     .tableRead 0x4000000 false [], .tableRead 4 true [], .tableRead 0 false [⟨0x4000000, 1, false⟩], .tableRead 0 false [⟨0, 0, false⟩]].all
      (fun i => !i.wf) = true := by
  decide +kernel

/-- Channels, groups, lamps, axes, streams and inputs. -/
theorem test_wf_numbers :
    [Instr.conversion 272 ⟨0, 0, 0, 0, 0, [0, 0, 0, 0], [false, false, false, false]⟩,
     .conversion 0 ⟨0, 0, 0, 0, 0, [0], [false, false, false, false]⟩, .conversion 0 ⟨0, 0, 0, 0, 0, [0, 0, 0, 0], []⟩,
     .wireCheck 272 ⟨0, 0, 0, 0, 0⟩, .fabricWord 272 [], .fabricWord 0 [⟨0, 0, false⟩], .readoutRelease 16 0, .recordPass 4 0, .scrubRead [⟨0, 0, false⟩], .strobeStart 16 none,
     .strobeStart 0 (some 64), .strobeEnd 64, .holdCycle 0 [(64, 0)], .regulatorVerdict 16 0 true 0, .regulatorVerdict 0 64 true 0,
     .columnFault 64 0, .lampVerdictClear 64 0, .columnReen 64, .columnRecovered 64, .hdrmClear 64, .rowEnable 16,
     .safeRowMark 16 true, .hkStale 64 0, .colDisable 2 0, .slackMeasure [] 0, .lineComplete (2 ^ 64) 0, .movePush 4 0,
     .controlledStop 4, .immediateStop 4, .queueFlush 4, .groupCstop 4, .groupIstop 4].all (fun i => !i.wf) = true := by
  decide +kernel

/-- Measurements carried by a command. -/
theorem test_wf_measurements :
    [Instr.strobeMeasure [⟨64, 0, 0⟩] 0, .strobeMeasure [⟨0, 16384, 0⟩] 0, .strobeMeasure [⟨0, 0, 16384⟩] 0].all (fun i => !i.wf) = true := by
  decide +kernel

/-- Axes, DMA channels, completion queues and host requests. -/
theorem test_wf_host :
    [Instr.chopperSwitch 4 false 0 0 0, .chopperOffTimeEnd 4 false 0 0 0, .holdDelayExpiry 4 0, .wakeDelayExpiry 4 0, .overcurrent ⟨4, false, 0⟩ 0,
     .encoderEdge ⟨5, 0⟩ false false 0, .stall 4 0, .homeEvent ⟨4, 0⟩ 0, .descriptorFetch 64 (List.replicate 32 0) 0, .descriptorFetch 0 [] 0,
     .tokenRefill [⟨64, 0, 1, false⟩] 0, .tokenRefill [⟨0, 0, 256, false⟩] 0, .descriptorDone 64 0, .readCompletion 64 true [] 0, .readTimeout 64 0, .dmaKick 64, .dmaNextWrite 64 0,
     .dmaNextWrite 0 (2 ^ 64), .dmaPoll 64 0, .rrpWrite 64 0, .cqRiWrite 8 0, .dmaDisable 64 0, .dmaEnable 64 0, .msixUnmask 64,
     .pcieBar0Request false 2 [15] [] 0, .pcieBar0Request false 0 [16] [] 0, .pcieBar0Request true 0 [15] [] 0,
     .pcieBar2Request false 2 [15] [] [] 0, .pcieBar2Request false 0 [15] [] [⟨0, 0, false⟩] 0, .linkUp 0 1 0, .linkUp 6 1 0, .linkUp 1 3 0,
     .linkRetrain 0 1 0, .linkRetrain 1 16 0, .spiRead [] false 0, .spiRead (List.replicate 9 (0x40 : Byte)) false 0,
     .spiWrite (List.replicate 9 (0x40 : Byte)) false 0, .spiNoAccess (List.replicate 9 (0 : Byte)) false 0, .spiShortFrame 137,
     .wlockWrite 2 0].all (fun i => !i.wf) = true := by
  decide +kernel

/-- The event fabric, the Chronograph, security and power. -/
theorem test_wf_system :
    [Instr.eventPublish 153 0, .eviEdge 16 true 0, .lutInputChange [64] 0, .lutFilterExpiry 32 0, .evoPulseEnd 16 0, .runawayUnmask 64,
     .channelLock 64, .cellLock 32, .tsloadWrite (2 ^ 64), .lineCounterWrite (2 ^ 64), .deadlineExpiry (2 ^ 64) 0, .faultRaise (2 ^ 16) 0 0,
     .faultRaise 0 (2 ^ 16) 0, .safeClear 16 0, .safeClear 0 64, .mbxVersion 256, .mbxPreadmit 256, .mbxCorestat 256, .mbxUnknown 256 0,
     .mbxUnknown 0 (2 ^ 16), .debugNonce [] 0, .bootStart 256, .vsensChange 4 true 0, .supplyOutOfRange 49 0, .supplyOutOfRange 56 0,
     .dieOvertemp 55 0, .dieOvertemp 60 0, .bufferDrain 1025 0,
     .pmbusPoll ⟨true, 65536, 0, none⟩ 0, .voutCheck ⟨true, 0, 65536, none⟩ 0].all (fun i => !i.wf) = true := by
  decide +kernel

/-! ## The spec's worked examples -/

/-- spec/01, example under the pixel address: entry 919,200 in both banks; spec/06, example of R218: its dark entry. -/
theorem test_table_addresses :
    flatAddr 0 (5 * 163840 + 100000) = 0x703500 ∧ flatAddr 1 (5 * 163840 + 100000) = 0x1B03500 ∧ darkAddr 100000 = 0x29A1A80 := by
  decide

/-- spec/04, example of R111: four conversions in range 3 with a pedestal of 0.500 V. -/
theorem test_conversion_codes :
    (let st : ChSet := { range := 3, ped := 400 }
     (convert st false 520000 0 0 false false).code = 1311 ∧ (convert st false 860000 0 0 false false).code = 23593 ∧
     (convert st true 520000 0 0 false false).code = 20972 ∧
     convert st true 860000 0 0 false false = { code := 65535, ovr := true, opn := false }) := by
  decide

/-- spec/04, example of R125: the fabric word of primary 156. -/
theorem test_fabric_word :
    fabricWord { code := 0x3A7C, ovr := false, opn := false } 3 5 160 false 5 = 0x3A7CCA5005#40 ∧
    pixOf (-8) = 1016 ∧ pixOf (-1) = 1023 := by
  decide

/-- spec/04, example of R152: a differential conversion of −1,234 with over-range, in both alignments. -/
theorem test_raw_container :
    rawWord false false { code := -1234, ovr := true, opn := false } = 0xFFFFFB2E ∧
    rawWord true false { code := -1234, ovr := true, opn := false } = 0xFB2E0020 := by
  decide

/-- spec/05, worked example, steps 2 and 3: optical-black levels, weight of the low path and merged value. -/
theorem test_merge :
    rawLevel true 1236 8 = 618 ∧ rawLevel true 80 8 = 40 ∧ mixWeight false 55296 49152 61440 = 32768 ∧
    merge 32768 136678 8576 0x7F800 = 136679 := by
  decide

/-- spec/05, example of R172: spare 9 in place of primary 156. -/
theorem test_spare_match : spareMatch 136000 0x40CCCD (-120) = 137580 := by decide

/-- spec/05, worked example, steps 5 and 6: blended dark and gain, and the DN; the DN of either bank alone. -/
theorem test_flat_gain :
    blendOf 16384 20 28 = 22 ∧ blendOf 16384 109000 109400 = 109100 ∧ toDn 136561 109100 0 = (56834, false) ∧
    toDn 136563 109000 0 = (56783, false) ∧ toDn 136555 109400 0 = (56988, false) ∧
    entDark 0x0001C1AB58 = 28 ∧ entGain 0x0001C1AB58 = 109400 ∧ entFlag 0x0001C1AB58 = 0 := by
  decide

/-- spec/05, example of R188 (a tie rounds to even) and of record sizes (padding to 64 bytes). -/
theorem test_binning : roundHe 160410 4 = 40102 ∧ 64 + pad64 (16 * 163840 * 2) = 5242944 := by decide

/-- spec/07, examples of R229 and R234: on-times and sub-pulses. -/
theorem test_on_time :
    onTime 0x8000 65536 43008 = 21504 ∧ onTime 0x0C00 65536 43008 = 2016 ∧ subCount 2016 26 8 = 8 := by
  decide

/-- spec/07, example of R237 and R238: 600 moves to 616 by steps of 1. -/
theorem test_lamp_code :
    roundHe (600 * (1048576 + 262 * 104)) 1048576 = 616 ∧ codeMove 1 600 616 = 601 ∧ codeMove 0 600 616 = 616 := by
  decide

/-- spec/08, example of R271: 8.4 µs lit and 8.9 µs integrated, in taps of 390.625 ps. -/
theorem test_flux : fluxOf 8 50584 (20 * 256) 22784 21504 40000 = 0x176FC3 := by decide

/-- spec/08, example of R286: 30.401 °C is 486 sixteenths. -/
theorem test_thermistor : thermRound 396500 1500 500000 10000 3950 = some 486 := by decide +kernel

/-- spec/08, example of R273: the smallest interval that shares no factor with N. -/
theorem test_measurement_interval :
    measInterval 672 40000 17 = 1 ∧ measInterval 200 40000 16 = 3 := by
  decide

/-- spec/13, example of R439: the writes of a COPY of 1,000 bytes to 0x2000_0031 with a maximum payload of 512 bytes. -/
theorem test_write_chunks :
    chunk 512 0x20000031 1000 = 15 ∧ chunk 512 0x20000040 985 = 448 ∧ chunk 512 0x20000200 537 = 512 ∧
    chunk 512 0x20000400 25 = 25 := by
  decide

/-- spec/13, R440: byte and half-word swapping. -/
theorem test_swap : (List.range 4).map (swapIdx 1) = [3, 2, 1, 0] ∧ (List.range 4).map (swapIdx 2) = [2, 3, 0, 1] := by decide

/-- spec/11, worked stall example: 80,000 counts at RATIO 838,861. -/
theorem test_encoder_ratio : roundHe (80000 * 838861) 65536 = 1024000 := by decide

/-- spec/10, example of R343: the mean of 2,000 samples. -/
theorem test_window_mean : winMean { cfg := [], sum := 112000000, n := 2000 } = 0xDAC000 := by decide

/-- spec/02, example of R35: PLT15 and the page after it. -/
theorem test_page_bases : P.PLTn 15 = 0x080000 ∧ P.FFT = 0x088000 ∧ P.MER = 0x010000 := by decide

/-- spec/14, example of R476: PID of MER and its PCTL at reset. -/
theorem test_page_identity : (ready.busRead 0x010000).2 = 0x02000100 ∧ (ready.busRead 0x010004).2 = 1 := by decide +kernel

/-- spec/03, example of R102: the sample points of acquisition channel 200. -/
theorem test_sample_points :
    (let s := (((ready.setFld R.MER_BSKEW (31, 24) 24).setFld R.MER_SAMP F.MER_SAMP.RSPBASE 8).setFld R.MER_SAMP
       F.MER_SAMP.VSPBASE 44).setReg (R.MER_SPOFFc 200) (BitVec.ofNat 32 (putBits (putBits 0 F.MER_SPOFFc.RSPOFF.1
       F.MER_SPOFFc.RSPOFF.2 5) F.MER_SPOFFc.VSPOFF.1 F.MER_SPOFFc.VSPOFF.2 3))
     s.rspAt 200 = 37 ∧ s.vspAt 200 = 71) := by decide +kernel

/-! ## One step of a command -/

/-- The state that a command leaves. -/
def left (c : Instr) (s : State) : State := match exec c s with | .next t => t | _ => s

/-- R55: the key opens the guard of its page; another value does not. -/
theorem test_pkey_write :
    (left (.pkeyWrite P.SEC 0x0B5E2DA7) ready).kwAllowed P.SEC = true ∧ (left (.pkeyWrite P.SEC 0x0B5E2DA6) ready).kwAllowed P.SEC = false := by
  decide +kernel

/-- spec/02, example of R61: a KW write spends the guard. -/
theorem test_guard_spent : ((left (.debugOpen 1) (unlocked ready P.SEC)).hdr P.SEC).keyOpen = false := by decide +kernel

/-- A 1 written to a reserved bit is ignored, and with debug scope 1 open ends the run by name (log entry 7). -/
theorem test_reserved_bits :
    (left (.registerWrite R.FFT_WREF 0xFFFF1234) ready).reg R.FFT_WREF = 0x1234 ∧
    exec (.registerWrite R.FFT_WREF 0xFFFF0000) testOpen = .fault .reservedBits := ⟨by decide +kernel, rfl⟩

/-- spec/06, example of R201: the entry of pixel 100,000 in band B5, written as one 64-bit word. -/
theorem test_table_write : (left (.tableWrite 0x703500 true 0x141A9C8) ready).flatEntry 0 919200 = 0x141A9C8 := by decide +kernel

/-- R241: an enabled Heliostat fades in. -/
theorem test_lamp_enable : (left .lampEnable ready).hel.st = .fadein := by decide +kernel

/-- R376: from both low, a rising A counts up and a rising B counts down (the sense of log entry 39). -/
theorem test_encoder_up :
    ((left (.encoderEdge ⟨3, 5000⟩ true false 7) ready).axis 3).count = 1 ∧ ((left (.encoderEdge ⟨3, 5000⟩ false true 7) ready).axis 3).count = -1 := by decide +kernel

/-- R510: the timestamp reads what was loaded. -/
theorem test_tsload : (left (.tsloadWrite 0x123456789ABCDEF0) ready).ts = 0x123456789ABCDEF0 := by decide +kernel

/-- R536: a mailbox command is held with its SEQ. -/
theorem test_mailbox : (left (.mbxVersion 0x5A) ready).sec.mbx = some (0x5A, 1) := by decide +kernel

/-- R565, R566: a request for Standby starts the entry. -/
theorem test_standby : (left .standbyRequest ready).pwr.st = 3 := by decide +kernel

/-- R550, R571: a blown field-lock fuse stays blown after a power-on reset. -/
theorem test_field_lock : (left .powerOnReset (left .fieldLock (secure {}))).sec.field = true := by decide +kernel

/-- R545, R587: at reset the lamp and motion balls keep their reset states; after boot a bridge follows its chopper. -/
theorem test_balls :
    (State.reset.lrowBall 3 0, State.reset.lcolSbBall 63, State.reset.lcolGLow 63, State.reset.motorBalls 3 true) =
      (.low, .high, true, (.high, .high)) ∧
    (withAxis ready 3 { chopB := { drv := 2, pos := false } }).motorBalls 3 true = (.low, .high) := by decide +kernel

/-- R375, R376: a sensed voltage at OCLIM (150 × 2 mV) is no overcurrent, and levels stable for less than FILT (5 ns) are
not accepted. -/
theorem test_filters :
    ((left (.overcurrent ⟨3, false, 1200⟩ 1000000) ready).axis 3).st = 1 ∧
    ((left (.overcurrent ⟨3, false, 1201⟩ 1000000) ready).axis 3).st = 4 ∧
    ((left (.encoderEdge ⟨3, 4999⟩ true false 7) ready).axis 3).count = 0 := by decide +kernel

/-! ## Hypotheses that can be met -/

/-- Obligations.StepTakesFront: operands that meet the hypotheses of it. -/
theorem witness_stepTakesFront :
    (∃ (c : Instr) (l : List Instr) (s : State), s.pending = c :: l) :=
  ⟨.sscArm, [], { ready with pending := [.sscArm] }, by decide +kernel⟩

/-- Obligations.EmptyQueueTicks: operands that meet the hypotheses of it. -/
theorem witness_emptyQueueTicks :
    (∃ (s : State), s.pending = []) :=
  ⟨ready, by decide +kernel⟩

/-- Obligations.QueueMoves: operands that meet the hypotheses of it. -/
theorem witness_queueMoves :
    (∃ (s t : State), step s = .next t) :=
  ⟨{ ready with pending := [.flashEraseDone 7] }, ready.upto 7, rfl⟩

/-- Obligations.CanonicalStep: operands that meet the hypotheses of it. -/
theorem witness_canonicalStep :
    (∃ (s t : State), s.Canonical ∧ step s = .next t) :=
  ⟨{ ready with pending := [.flashEraseDone 7] }, ready.upto 7, ⟨by decide +kernel, by decide +kernel, by decide +kernel, by decide +kernel⟩, rfl⟩

/-- Obligations.FusesNeverFall: operands that meet the hypotheses of it. -/
theorem witness_fusesNeverFall :
    (∃ (s t : State), step s = .next t) :=
  ⟨{ ready with pending := [.flashEraseDone 7] }, ready.upto 7, rfl⟩

/-- Obligations.OnlyTwoStops: operands that meet the hypotheses of its clauses 2. -/
theorem witness_onlyTwoStops :
    (∃ (c : Instr) (s : State) (f : Fault), exec c s = .fault f) :=
  ⟨.registerWrite R.FFT_WREF 0xFFFF0000, testOpen, .reservedBits, rfl⟩

/-- Obligations.GuardRefuses: operands that meet the hypotheses of it. -/
theorem witness_guardRefuses :
    (∃ (c : Instr) (p : Nat) (l : List Nat) (ps : List Piece) (s : State), Guarded c p l ps ∧ s.accepts p = true ∧ s.kwAllowed p = false) :=
  ⟨.debugOpen 15, P.SEC, [R.SEC_DBGCTL], [], ready, .debugOpen 15, by decide +kernel, by decide +kernel⟩

/-- Obligations.HeaderRows: operands that meet the hypotheses of its clauses 1, 2, 3, 4, 5, 6. -/
theorem witness_headerRows :
    (∃ (s : State) (page : Nat), isPage page = true ∧ s.accepts page = true) ∧
    (∃ (s : State) (page : Nat), isPage page = true ∧ s.accepts page = true) ∧
    (∃ (s : State) (page : Nat), isPage page = true ∧ s.accepts page = true ∧ s.kwAllowed page = true) ∧
    (∃ (s : State) (page : Nat), isPage page = true ∧ s.accepts page = true) ∧
    (∃ (s : State) (page : Nat), isPage page = true ∧ s.accepts page = true ∧ (s.hdr page).expert = true) ∧
    (∃ (s : State) (page : Nat), (s.hdr page).srstBsy = true) :=
  ⟨⟨ready, P.PWR, by decide +kernel⟩,
   ⟨ready, P.PWR, by decide +kernel⟩,
   ⟨unlocked ready P.MER, P.MER, by decide +kernel⟩,
   ⟨ready, P.GLB, by decide +kernel⟩,
   ⟨expertIn ready P.PLTG, P.PLTG, by decide +kernel⟩,
   ⟨ready.setHdr P.MER { srstBsy := true }, P.MER, by decide +kernel⟩⟩

/-- Obligations.RegisterWrites: operands that meet the hypotheses of its clauses 1, 2, 3, 4, 5, 6, 7, 8, 9. -/
theorem witness_registerWrites :
    (∃ (s : State) (x : Nat), x < 4 ∧ s.accepts (P.CDRx x) = true ∧ s.wlockOwn = 0) ∧
    (∃ (s : State), s.accepts P.SSC = true ∧ s.wlockOwn = 0) ∧
    (∃ (s : State) (v : Nat), s.accepts P.HELG = true ∧ s.wlockOwn = 0 ∧ (s.hdr P.HELG).expert = false ∧ v < 2 ^ 24 ∧ v ≠ s.fld R.HELG_HOLD F.HELG_HOLD.PER) ∧
    (∃ (s : State) (v : Nat), s.accepts P.HELG = true ∧ s.wlockOwn = 0 ∧ (s.hdr P.HELG).expert = true ∧ v < 2 ^ 24) ∧
    (∃ (s : State) (a : Nat), a % 4 = 0 ∧ a < 2 ^ 24 ∧ pageOf a = none ∧ msixAddr a = false ∧ s.busDark = false ∧ s.wlockOwn = 0) ∧
    (∃ (s : State) (a : Nat), a % 4 = 0 ∧ a < 2 ^ 24 ∧ a ≠ R.HLK_WLOCK ∧ s.busDark = false ∧ s.wlockOwn = 2) ∧
    (∃ (s : State), s.busDark = true) ∧
    (∃ (s : State), s.accepts P.FFT = true ∧ s.wlockOwn = 0 ∧ bit s.sec.scopes 1 = false) ∧
    (∃ (s : State) (w : Word), s.accepts P.FFT = true ∧ s.wlockOwn = 0 ∧ bit s.sec.scopes 1 = true ∧ 2 ^ 16 ≤ w.toNat) :=
  ⟨⟨ready, 3, by decide +kernel⟩,
   ⟨ready, by decide +kernel⟩,
   ⟨ready, 2 ^ 24 - 1, by decide +kernel⟩,
   ⟨expertIn ready P.HELG, 2 ^ 24 - 1, by decide +kernel⟩,
   ⟨ready, 0xFFFFFC, by decide +kernel⟩,
   ⟨ready.setReg R.HLK_WLOCK 2, 0xFFFFFC, by decide +kernel⟩,
   ⟨{ ready with pwr := { ready.pwr with porst := true } }, by decide +kernel⟩,
   ⟨ready, by decide +kernel⟩,
   ⟨testOpen, 0x10000, by decide +kernel⟩⟩

/-- Obligations.ResetAndPending: operands that meet the hypotheses of its clauses 1, 2, 3, 4. -/
theorem witness_resetAndPending :
    (∃ (s : State) (p : Nat), (p = P.MER ∨ p = P.PLTG ∨ (∃ n, n < 16 ∧ p = P.PLTn n)) ∧ s.accepts p = true) ∧
    (∃ (s : State) (a : Nat) (w : Word), tabSorted s.pend = true ∧ s.ssc.st = 0 ∧ (s.hdr P.SSC).go = false ∧ a ∈ [R.SSC_NLINES, R.SSC_PGEOM, R.SSC_MINSPC] ∧ a ∉ s.ssc.jHold ∧ tabFind s.pend a = some w) ∧
    (∃ (s : State) (a : Nat) (w : Word), (s.ssc.st ≠ 0 ∨ a ∈ s.ssc.jHold) ∧ (s.hdr P.SSC).go = false ∧ a ∈ [R.SSC_NLINES, R.SSC_PGEOM, R.SSC_MINSPC] ∧ tabFind s.pend a = some w) ∧
    (∃ (s : State), s.mer.cycle = false ∧ (s.hdr P.CHR).go = true ∧ s.pend = []) :=
  ⟨⟨ready, P.PLTn 15, by decide +kernel⟩,
   ⟨{ ready with pend := [(R.SSC_NLINES, 5)] }, R.SSC_NLINES, 5, by decide +kernel⟩,
   ⟨{ withSsc ready 3 with pend := [(R.SSC_NLINES, 5)] }, R.SSC_NLINES, 5, by decide +kernel⟩,
   ⟨ready.setHdr P.CHR { go := true }, by decide +kernel⟩⟩

/-- Obligations.Derivation: operands that meet the hypotheses of its clauses 1, 2, 3, 4. -/
theorem witness_derivation :
    (∃ (s : State) (k : Nat), s.sec.paused = false ∧ s.ssc.st = 1 ∧ s.mer.cycle = false ∧ s.hdrs.all (fun e => !e.2.due && !e.2.expert) = true ∧ k = s.profileBands.length ∧ 0 < k) ∧
    (∃ (s : State) (a : Nat), s.sec.paused = false ∧ s.ssc.st = 1 ∧ s.mer.cycle = false ∧ (s.hdr (pageBase a)).expert = true ∧ s.hdrs.all (fun e => !e.2.due) = true) ∧
    (∃ (s : State) (p : Nat), s.sec.paused = false ∧ s.ssc.st ≠ 1 ∧ tabSorted s.hdrs = true ∧ (s.hdr p).due = true ∧ (s.hdr p).srstBsy = false) ∧
    (∃ (s : State), s.sec.paused = true) :=
  ⟨⟨(withSsc ready 1).setReg R.SSC_PBANDS 7, 3, by decide +kernel⟩,
   ⟨expertIn (withSsc ready 1) P.MER, R.MER_SEQCFG, by decide +kernel⟩,
   ⟨ready.setHdr P.MER { due := true }, P.MER, by decide +kernel⟩,
   ⟨{ ready with sec := { ready.sec with paused := true } }, by decide +kernel⟩⟩

/-- Obligations.TableAccess: operands that meet the hypotheses of its clauses 1, 2, 3, 4, 5, 6, 7, 8, 9. -/
theorem witness_tableAccess :
    (∃ (s : State) (a : Nat), a < 0x2800000 ∧ a % 8 = 0 ∧ s.busDark = false ∧ s.pwr.st ≠ 6) ∧
    (∃ (s : State) (a : Nat), a < 0x2800000 ∧ a % 8 = 0 ∧ s.busDark = false ∧ s.pwr.st ≠ 6) ∧
    (∃ (s : State) (a : Nat) (lo : Word), a < 0x2800000 ∧ a % 8 = 0 ∧ tabFind s.holdTab a = some lo ∧ s.busDark = false ∧ s.pwr.st ≠ 6) ∧
    (∃ (s : State) (a : Nat), 0x2900000 ≤ a ∧ a < 0x2904000 ∧ a % 4 = 0 ∧ s.busDark = false ∧ s.pwr.st ≠ 6) ∧
    (∃ (s : State) (p : Nat), p < 163840 ∧ s.busDark = false ∧ s.pwr.st ≠ 6) ∧
    (∃ (s : State) (a : Nat), tabReserved a = true ∧ a < 0x4000000 ∧ a % 4 = 0 ∧ s.busDark = false ∧ s.pwr.st ≠ 6) ∧
    (∃ (s : State) (a : Nat), a < 0x4000000 ∧ a % 4 = 0 ∧ entryOf a = none ∧ s.busDark = false ∧ s.pwr.st ≠ 6) ∧
    (∃ (s : State) (a : Nat), a < 0x2800000 ∧ a % 8 = 0 ∧ s.isBad a = false ∧ s.busDark = false ∧ s.pwr.st ≠ 6) ∧
    (∃ (s : State) (a : Nat), a < 0x2800000 ∧ a % 8 = 0 ∧ s.isBad a = false ∧ s.busDark = false ∧ s.pwr.st ≠ 6) :=
  ⟨⟨ready, 0x27FFFF8, by decide +kernel⟩,
   ⟨ready, 0x27FFFF8, by decide +kernel⟩,
   ⟨{ ready with holdTab := [(0x27FFFF8, 5)] }, 0x27FFFF8, 5, by decide +kernel⟩,
   ⟨ready, 0x2903FFC, by decide +kernel⟩,
   ⟨ready, 163839, by decide +kernel⟩,
   ⟨ready, 0x3FFFFFC, by decide +kernel⟩,
   ⟨ready, 0x3FFFFFC, by decide +kernel⟩,
   ⟨ready, 0x27FFFF8, by decide +kernel⟩,
   ⟨ready, 0x27FFFF8, by decide +kernel⟩⟩

/-- Obligations.FlatField: operands that meet the hypotheses of its clauses 1, 2, 3, 4, 5, 6, 7. -/
theorem witness_flatField :
    (∃ (s : State), s.flag R.FFT_SCRUB F.FFT_SCRUB.EN = true ∧ s.fft.scrubPos < 5406720 ∧ s.isBad (scrubEntry s.fft.scrubPos) = false) ∧
    (∃ (s : State), s.flag R.FFT_SCRUB F.FFT_SCRUB.EN = true ∧ s.isBad (scrubEntry s.fft.scrubPos) = true) ∧
    (∃ (s : State), s.Canonical ∧ s.fft.copyBusy = true ∧ s.fft.active = 0 ∧ s.flag R.COL_PERM F.COL_PERM.FLAT = true ∧
      s.badOf 0 = [] ∧ s.mixedIn 1) ∧
    (∃ (s : State), s.Canonical ∧ s.fft.copyBusy = true ∧ s.fft.active = 1 ∧ s.flag R.COL_PERM F.COL_PERM.FLAT = true ∧
      s.badOf 1 = [] ∧ s.mixedIn 0) ∧
    (∃ (s : State), s.fft.copyBusy = true ∧ s.flag R.COL_PERM F.COL_PERM.FLAT = false) ∧
    (∃ (s : State), s.sec.paused = false ∧ (s.col.run = 3 ∨ s.col.run = 4) ∧ s.fft.copyBusy = false ∧ s.fft.runLeft = 0 ∧ s.calLinesOut = true ∧ s.col.second = false ∧ (∀ e, e ∈ s.fft.sums → e.1 < 2621440) ∧ s.mixedIn (1 - s.fft.active)) ∧
    (∃ (s : State), s.sec.paused = false ∧ s.col.run = 2 ∧ s.fft.mixed = [] ∧ s.fft.copyBusy = false ∧ s.fft.runLeft = 0 ∧ s.calLinesOut = true ∧ s.colRefuses = false ∧ s.flag R.COL_PERM F.COL_PERM.FLAT = false ∧ s.col.req = 0 ∧ s.flag R.FFT_BANKCTL F.FFT_BANKCTL.AUTOSW = true) :=
  ⟨⟨{ ready.setReg R.FFT_SCRUB 1 with fft := { scrubPos := 5406719 } }, by decide +kernel⟩,
   ⟨{ ready.setReg R.FFT_SCRUB 1 with fft := { bad := [(0, true)] } }, by decide +kernel⟩,
   ⟨{ ready with fft := { copyBusy := true, mixed := [(flatB, 5)] } }, ⟨by decide +kernel, by decide +kernel, by decide +kernel, by decide +kernel⟩, rfl, rfl, by decide +kernel, by decide +kernel, by unfold State.mixedIn; decide +kernel⟩,
   ⟨{ ready with fft := { copyBusy := true, active := 1, mixed := [(0, 5)] } }, ⟨by decide +kernel, by decide +kernel, by decide +kernel, by decide +kernel⟩, rfl, rfl, by decide +kernel, by decide +kernel, by unfold State.mixedIn; decide +kernel⟩,
   ⟨{ ready.setReg R.COL_PERM 0 with fft := { copyBusy := true } }, by decide +kernel⟩,
   ⟨{ ready with col := { run := 4 } }, by decide +kernel⟩,
   ⟨{ (ready.setReg R.COL_PERM 0).setFlag R.FFT_BANKCTL F.FFT_BANKCTL.AUTOSW true with col := { run := 2 } }, by decide +kernel⟩⟩

/-- Obligations.Triggers: operands that meet the hypotheses of its clauses 1, 2, 3, 4, 5. -/
theorem witness_triggers :
    (∃ (s : State) (tr : Trig) (rest : List Trig), s.mer.transit = tr :: rest ∧ tr.preroll = false ∧ 3 ≤ s.ssc.st ∧ s.ssc.st ≤ 6 ∧ s.numberLost tr = false ∧ s.mer.latch = none ∧ s.fld R.SSC_NLINES F.SSC_NLINES.N = 0) ∧
    (∃ (s : State) (tr : Trig) (rest : List Trig) (x : Trig), s.mer.transit = tr :: rest ∧ tr.preroll = false ∧ 3 ≤ s.ssc.st ∧ s.ssc.st ≤ 6 ∧ s.numberLost tr = false ∧ s.mer.latch = some x ∧ s.fld R.SSC_NLINES F.SSC_NLINES.N = 0) ∧
    (∃ (s : State) (tr : Trig) (rest : List Trig), s.mer.transit = tr :: rest ∧ tr.preroll = true ∧ s.ssc.st = 7 ∧ s.mer.latch = none) ∧
    (∃ (s : State) (tr : Trig) (rest : List Trig), s.mer.transit = tr :: rest ∧ (s.ssc.st < 3 ∨ 8 < s.ssc.st)) ∧
    (∃ (s : State), s.mer.timerOn = true ∧ s.ssc.st = 3 ∧ s.jobMode ≠ 0 ∧ s.mer.latch = none ∧ s.fld R.SSC_NLINES F.SSC_NLINES.N = 0) :=
  ⟨⟨triggered, someTrig, [], by decide +kernel⟩,
   ⟨{ triggered with mer := { triggered.mer with latch := some someTrig } }, someTrig, [], someTrig, by decide +kernel⟩,
   ⟨{ withSsc triggered 7 with mer := { triggered.mer with transit := [{ someTrig with preroll := true }] } }, { someTrig with preroll := true }, [], by decide +kernel⟩,
   ⟨withSsc triggered 9, someTrig, [], by decide +kernel⟩,
   ⟨{ (withSsc ready 3).setFld R.SSC_PMODE F.SSC_PMODE.MODE 2 with mer := { cycle := true, lock := true, timerOn := true } }, by decide +kernel⟩⟩

/-- Obligations.LinesAndClock: operands that meet the hypotheses of its clauses 1, 2, 3, 4, 5, 6, 7, 8, 9, 10, 11. -/
theorem witness_linesAndClock :
    (∃ (s : State) (n : Nat) (tr : Trig), s.mer.latch = some tr ∧ s.lineReadyAt n tr = true ∧ seqGood s.seq = true ∧ tr.preroll = false) ∧
    (∃ (s : State) (n : Nat) (tr : Trig), s.mer.latch = some tr ∧ s.lineReadyAt n tr = true ∧ seqGood s.seq = false) ∧
    (∃ (s : State) (n : Nat) (tr : Trig), s.mer.latch = some tr ∧ s.lineReadyAt n tr = false) ∧
    (∃ (s : State), s.mer.phase = .exposure ∧ 1 ≤ s.mer.slot ∧ s.mer.slot + 1 < s.nslot ∧ s.pend = [] ∧ s.col.ch = none) ∧
    (∃ (s : State) (e : Exposure), s.mer.phase = .exposure ∧ 1 ≤ s.mer.slot ∧ s.nslot ≤ s.mer.slot + 1 ∧ s.mer.expose = some e ∧ s.mer.latch = none ∧ s.pend = [] ∧ s.col.ch = none) ∧
    (∃ (s : State) (l : Nat) (i : LineInfo), s.mer.phase = .tail ∧ s.mer.lastLine = some l ∧ tabFind s.lines l = some i ∧ i.preroll = false ∧ s.mer.latch = none ∧ s.pend = [] ∧ s.strobesAllowed = false) ∧
    (∃ (s : State), s.mer.phase = .flush ∧ s.mer.latch = none ∧ s.pend = []) ∧
    (∃ (s : State), s.mer.phase = .diag) ∧
    (∃ (s : State), s.mer.lock = false ∧ s.flag R.PWR_STAT F.PWR_STAT.REFOK = true) ∧
    (∃ (s : State), s.mer.lock = true ∧ s.mer.cycle = false) ∧
    (∃ (s : State), s.mer.lock = true ∧ s.mer.cycle = true) :=
  ⟨⟨latched, 10 ^ 9, someTrig, by decide +kernel⟩,
   ⟨latched.setFld (R.MER_SEQk 0) F.MER_SEQk.BAND 17, 10 ^ 9, someTrig, by decide +kernel⟩,
   ⟨latched, 7, someTrig, by decide +kernel⟩,
   ⟨exposing 1, by decide +kernel⟩,
   ⟨exposing 2, ⟨1, 2⟩, by decide +kernel⟩,
   ⟨{ ready with mer := { cycle := true, phase := .tail, lastLine := some 1 }, lines := [(1, {})] }, 1, {}, by decide +kernel⟩,
   ⟨{ ready with mer := { cycle := true, phase := .flush } }, by decide +kernel⟩,
   ⟨{ ready with mer := { cycle := true, phase := .diag } }, by decide +kernel⟩,
   ⟨{ ready.setFlag R.PWR_STAT F.PWR_STAT.REFOK true with mer := {} }, by decide +kernel⟩,
   ⟨ready, by decide +kernel⟩,
   ⟨latched, by decide +kernel⟩⟩

/-- Obligations.Conversions: operands that meet the hypotheses of its clauses 1, 2, 3, 4, 5, 6. -/
theorem witness_conversions :
    (∃ (s : State) (c : Nat) (x : ConvIn) (e : Exposure), s.mer.readout = some e ∧ c < 272 ∧ (s.ch c).cur.on = true ∧ s.periodOk c x.period = true) ∧
    (∃ (s : State) (c : Nat), s.mer.readout = none ∨ (s.ch c).cur.on = false) ∧
    (∃ (s : State) (c : Nat) (x : WireIn), s.checkDue c = true ∧ s.checkFails c x = true ∧ (s.ch c).wire = false) ∧
    (∃ (s : State) (c : Nat) (x : WireIn), s.checkDue c = true ∧ s.checkFails c x = false ∧ (s.ch c).wire = true) ∧
    (∃ (s : State) (c : Nat), s.checkDue c = false) ∧
    (∃ (s : State), s.acq.power = 2) :=
  ⟨⟨converting 255, 255, ⟨-1, 0, 0, 0, 0, [], []⟩, ⟨1, 3⟩, by decide +kernel⟩,
   ⟨ready, 271, by decide +kernel⟩,
   ⟨(converting 271).setFlag R.ACQG_WCK F.ACQG_WCK.EN true, 271, ⟨0, 0, 0, 0, 0⟩, by decide +kernel⟩,
   ⟨{ converting 255 with acq := { power := 3, chans := [(255, { cur := { on := true, ball := some 255 }, wire := true })] } }, 255, ⟨10 ^ 7, 5000000, 5000001, 5000000, 5000001⟩, by decide +kernel⟩,
   ⟨ready, 271, by decide +kernel⟩,
   ⟨{ ready with acq := { power := 2 } }, by decide +kernel⟩⟩

/-- Obligations.Pixels: operands that meet the hypotheses of its clauses 1, 2, 3. -/
theorem witness_pixels :
    (∃ (s : State) (c : Nat) (w : FabricWord) (ws : List FabricWord), (s.ch c).fabric = w :: ws ∧ bits w.toNat 21 17 = 31 ∧ s.checkFor c (bits w.toNat 3 0) = true) ∧
    (∃ (s : State) (c : Nat) (w : FabricWord) (ws : List FabricWord), (s.ch c).fabric = w :: ws ∧ bits w.toNat 21 17 < 31 ∧ tabGet {} s.plt.part c = {} ∧ bits w.toNat 3 0 ≠ 0) ∧
    (∃ (s : State) (c : Nat) (w : FabricWord) (ws : List FabricWord) (p0 : Part) (p : Part) (line : Nat) (o : ObSum) (px : Nat) (tr : Int) (d : Nat × Bool), c < 256 ∧ (s.ch c).fabric = w :: ws ∧ bits w.toNat 21 17 < 16 ∧ bits w.toNat 16 7 < 768 ∧ s.fld R.MER_OVH F.MER_OVH.OB ≤ 256 ∧ tabGet {} s.plt.part c = p0 ∧ p0.slot = bits w.toNat 21 17 ∧ p0.pix = bits w.toNat 16 7 ∧ p0.seq = bits w.toNat 3 0 ∧ p = wordPart s c p0 w ∧ line = s.lineOfSeq p.seq ∧ partFull (s.cdsOff line c) p = true ∧ o = s.obSum c p.slot p.seq ∧ o.done = true ∧ s.useOf line c = .output c false ∧ px = s.pixelOf line c p.pix ∧ px < npix ∧ s.mapBroken line c px = false ∧ (tabFind s.fft.tRead px).all (fun r => r.1 != (s.lineInfo line).ord) = true ∧ (s.lineInfo line).blend = false ∧ s.isBad (flatAddr (s.lineInfo line).newBank (p.slot * npix + px)) = false ∧ s.isBad (darkAddr px) = false ∧ (s.mergeSample line c p o).forced = false ∧ tr = s.darkFor (s.pfld line R.FFT_DARK F.FFT_DARK.MODE) line px ∧ d = toDn ((s.mergeSample line c p o).m - (tr + entDark (s.flatEntry (s.lineInfo line).newBank (p.slot * npix + px)))) (entGain (s.flatEntry (s.lineInfo line).newBank (p.slot * npix + px))) (s.pfld line R.PLTG_OUT F.PLTG_OUT.OFFDN)) :=
  ⟨⟨{ crossing 255 (BitVec.ofNat 40 (31 * 2 ^ 17 + 65)) with plt := { reads := [(15, [⟨1, 0, 0, 2 ^ 255⟩])], ob := [(255, { slot := 0, seq := 1 })] } }, 255, BitVec.ofNat 40 (31 * 2 ^ 17 + 65), [], by decide +kernel⟩,
   ⟨crossing 255 lastWord, 255, lastWord, [], by decide +kernel⟩,
   ⟨lastPixel, 255, lastWord, [], firstParts, wordPart lastPixel 255 firstParts lastWord, 1, { slot := 15, seq := 1, done := true }, 163839, 0, (500, false), by decide +kernel⟩⟩

/-- Obligations.Readouts: operands that meet the hypotheses of its clauses 1, 2. -/
theorem witness_readouts :
    (∃ (s : State) (g : Nat) (e : Readout), s.readHead g = some e ∧ s.checksIn g e = true ∧ (s.lineInfo e.line).preroll = false ∧ s.col.ch = none) ∧
    (∃ (s : State) (g : Nat) (e : Readout), s.readHead g = some e ∧ s.checksIn g e = false) :=
  ⟨⟨{ ready with plt := { reads := [(15, [⟨1, 0, 0, 0⟩])] } }, 15, ⟨1, 0, 0, 0⟩, by decide +kernel⟩,
   ⟨{ ready with plt := { reads := [(15, [⟨1, 0, 0, 2 ^ 255⟩])] } }, 15, ⟨1, 0, 0, 2 ^ 255⟩, by decide +kernel⟩⟩

/-- Obligations.Records: operands that meet the hypotheses of its clauses 1, 2, 3, 4. -/
theorem witness_records :
    (∃ (s : State) (k : Nat) (p : Nat), 3 ≤ s.ssc.st ∧ s.osEn k = true ∧ s.osLines k = 1 ∧ s.ssc.job.lost = [] ∧ s.nextNum k = p ∧ s.ssc.job.first ≤ p ∧ p ≤ s.ssc.lastNum ∧ s.lineReady p = true ∧ tabFind s.ssc.job.route p = some 1 ∧ (s.chan (s.osCh k)).desc = none) ∧
    (∃ (s : State) (k : Nat) (p : Nat), 3 ≤ s.ssc.st ∧ s.osEn k = true ∧ s.osLines k = 1 ∧ s.ssc.job.lost = [] ∧ s.nextNum k = p ∧ s.ssc.job.first ≤ p ∧ p ≤ s.ssc.lastNum ∧ s.lineReady p = true ∧ tabFind s.ssc.job.route p = some 2 ∧ (s.chan (s.osCh k)).desc = none ∧ s.jobMode ≠ 0 ∧ s.est.gapFill ≤ 65536) ∧
    (∃ (s : State) (k : Nat) (p : Nat), 3 ≤ s.ssc.st ∧ s.osEn k = true ∧ s.osLines k = 1 ∧ s.ssc.job.lost = [] ∧ s.nextNum k = p ∧ s.ssc.job.first ≤ p ∧ p ≤ s.ssc.lastNum ∧ s.lineReady p = false) ∧
    (∃ (s : State), s.est.divert = true ∧ s.est.recs = []) :=
  ⟨⟨streaming 1, 0, 1, by decide +kernel⟩,
   ⟨(streaming 2).setFld R.SSC_PMODE F.SSC_PMODE.MODE 2, 0, 1, by decide +kernel⟩,
   ⟨{ streaming 1 with lines := [(1, {})] }, 0, 1, by decide +kernel⟩,
   ⟨{ ready with est := { divert := true } }, by decide +kernel⟩⟩

/-- Obligations.LampsAndStrobes: operands that meet the hypotheses of its clauses 1, 2, 3, 4, 5, 6, 7, 8, 9, 10. -/
theorem witness_lampsAndStrobes :
    (∃ (s : State), s.accepts P.HELG = true ∧ s.chr.safe = false ∧ s.pwr.st ≠ 0 ∧ (s.hel.st = .off ∨ s.hel.st = .fadeout)) ∧
    (∃ (s : State), s.accepts P.HELG = true ∧ s.chr.safe = true) ∧
    (∃ (s : State), s.accepts P.HELG = true ∧ (s.hel.st = .fadein ∨ s.hel.st = .hold ∨ s.hel.st = .scan)) ∧
    (∃ (s : State) (v : Nat), s.hel.st = .fadein ∧ v = min 65536 (s.hel.base + 65536 * (s.hel.t + 1) / s.hel.fadeMs)) ∧
    (∃ (s : State) (v : Nat), s.hel.st = .fadeout ∧ v = s.hel.base - min s.hel.base (65536 * (s.hel.t + 1) / s.hel.fadeMs) ∧ v ≤ 65536) ∧
    (∃ (s : State) (n : Nat) (e : Nat), s.mer.cycle = true ∧ s.mer.phase = .idle ∧ s.mer.capEnd = some e ∧ s.fld R.HELG_HOLD F.HELG_HOLD.PER * 1000000 < max s.now n - e) ∧
    (∃ (s : State) (n : Nat) (e : Nat), s.mer.capEnd = some e ∧ max s.now n - e ≤ s.fld R.HELG_HOLD F.HELG_HOLD.PER * 1000000) ∧
    (∃ (s : State) (c : Nat) (n : Nat) (x : ColRun), tabFind s.hel.cols c = some x ∧ x.lit = true ∧ x.on = false ∧ x.dead = false ∧ n < x.n ∧ s.hel.lrow = some x.row) ∧
    (∃ (s : State) (c : Nat) (x : ColRun), tabFind s.hel.cols c = some x ∧ x.on = true) ∧
    (∃ (s : State) (c : Nat) (x : ColRun), tabFind s.hel.cols c = some x ∧ x.on = false) :=
  ⟨⟨ready, by decide +kernel⟩,
   ⟨{ ready with chr := { safe := true } }, by decide +kernel⟩,
   ⟨{ ready with hel := { st := .scan, lam := 65536 } }, by decide +kernel⟩,
   ⟨{ ready with hel := { st := .fadein, t := 999 } }, 65536, by decide +kernel⟩,
   ⟨{ ready with hel := { st := .fadeout, base := 65536, t := 999 } }, 0, by decide +kernel⟩,
   ⟨{ ready with mer := { cycle := true, capEnd := some 0 } }, 10 ^ 15, 0, by decide +kernel⟩,
   ⟨{ ready with mer := { cycle := true, capEnd := some 7 } }, 7, 7, by decide +kernel⟩,
   ⟨{ ready with hel := { lrow := some 15, cols := [(63, { row := 15, lit := true, n := 2 })] } }, 63, 1, { row := 15, lit := true, n := 2 }, by decide +kernel⟩,
   ⟨{ ready with hel := { cols := [(63, { on := true })] } }, 63, { on := true }, by decide +kernel⟩,
   ⟨{ ready with hel := { cols := [(63, {})] } }, 63, {}, by decide +kernel⟩⟩

/-- Obligations.LampDiagnosis: operands that meet the hypotheses of its clauses 1, 2, 3, 4, 5, 6, 7, 8, 9. -/
theorem witness_lampDiagnosis :
    (∃ (s : State) (k : Nat) (c : Nat) (n : Nat), k < 16 ∧ c < 64 ∧ bit s.critRows k = false ∧ (s.upto n).judged k c s.tdiag = true) ∧
    (∃ (s : State) (k : Nat) (c : Nat) (n : Nat), k < 16 ∧ c < 64 ∧ bit s.critRows k = true ∧ (s.upto n).judged k c s.tdiag = true) ∧
    (∃ (s : State) (k : Nat) (c : Nat) (n : Nat), (s.upto n).judged k c s.tdiag = false) ∧
    (∃ (s : State) (c : Nat), c < 64 ∧ s.critRows = 0) ∧
    (∃ (s : State) (c : Nat), c < 64 ∧ s.accepts (P.HELn (c / 8)) = true) ∧
    (∃ (s : State) (c : Nat), c < 64 ∧ s.accepts (P.HELn (c / 8)) = true) ∧
    (∃ (s : State) (c : Nat) (x : Bool), tabFind s.hel.restart c = some x ∧ s.mer.cycle = true) ∧
    (∃ (s : State) (c : Nat) (x : Bool), tabFind s.hel.restart c = some x ∧ s.mer.cycle = false) ∧
    (∃ (s : State) (c : Nat), c < 64 ∧ s.accepts (P.HELn (c / 8)) = true) :=
  ⟨⟨judging 14, 14, 63, 7, by decide +kernel⟩,
   ⟨judging 15, 15, 63, 7, by decide +kernel⟩,
   ⟨ready, 15, 63, 7, by decide +kernel⟩,
   ⟨ready.setReg R.HELG_SAFE 0, 63, by decide +kernel⟩,
   ⟨ready.setReg (colLflt 63) 0xFFFF, 63, by decide +kernel⟩,
   ⟨ready, 63, by decide +kernel⟩,
   ⟨{ ready with hel := { restart := [(63, true)] }, mer := { cycle := true } }, 63, true, by decide +kernel⟩,
   ⟨{ ready with hel := { restart := [(63, true)] } }, 63, true, by decide +kernel⟩,
   ⟨ready, 63, by decide +kernel⟩⟩

/-- Obligations.RowsAndInterlock: operands that meet the hypotheses of its clauses 2, 3, 4, 5, 6. -/
theorem witness_rowsAndInterlock :
    (∃ (s : State) (pin : Bool), s.accepts P.HELG = true ∧ s.kwAllowed P.HELG = true ∧ s.flag R.HELG_ILK F.HELG_ILK.LATCH = true ∧ (s.ilkHigh = true ∨ pin = true)) ∧
    (∃ (s : State), s.accepts P.HELG = true ∧ s.kwAllowed P.HELG = true ∧ s.ilkHigh = false) ∧
    (∃ (s : State) (k : Nat), k < 16 ∧ s.accepts P.HELG = true ∧ ((∀ j, j < 16 → j = k ∨ bit (s.fldNext R.HELG_ROWEN F.HELG_ROWEN.EN) j = true → s.rowHeld j = false))) ∧
    (∃ (s : State) (k : Nat), k < 16 ∧ s.accepts P.HELG = true ∧ s.rowHeld k = true) ∧
    (∃ (s : State) (k : Nat), k < 16 ∧ s.accepts P.HELG = true ∧ s.kwAllowed P.HELG = true ∧ s.ssc.st = 0) :=
  ⟨⟨(unlocked ready P.HELG).setFlag R.HELG_ILK F.HELG_ILK.LATCH true, true, by decide +kernel⟩,
   ⟨{ unlocked ready P.HELG with hel := { ilkPin := false } }, by decide +kernel⟩,
   ⟨ready, 15, by decide +kernel⟩,
   ⟨{ ready.setReg R.HELG_ROWEN 0 with hel := { blindOff := 0x8000 } }, 15, by decide +kernel⟩,
   ⟨{ (unlocked ready P.HELG) with hel := { ilkPin := false, lrow := some 15 } }, 15, by decide +kernel⟩⟩

/-- Obligations.Measurements: operands that meet the hypotheses of its clauses 1, 2, 3, 4. -/
theorem witness_measurements :
    (∃ (s : State) (ms : MeasSlot) (l : List MeasSlot) (y : MeasIn) (r : ColRun), s.act.due = ms :: l ∧ y.col < 64 ∧ tabFind ms.cols y.col = some r ∧ r.lit = true ∧ r.got ≠ 0 ∧ longEnough ms.a ms.khz 100 = true ∧ y.h1 < 16383 ∧ y.h2 < 16383 ∧ s.col.run = 0 ∧ s.flag R.ALM_CTL F.ALM_CTL.EN = false ∧ (s.lampRes (r.row * 64 + y.col)).low < 3 ∧ (s.lampRes (r.row * 64 + y.col)).weak < 3) ∧
    (∃ (s : State) (ms : MeasSlot) (l : List MeasSlot) (y : MeasIn) (r : ColRun), s.act.due = ms :: l ∧ y.col < 64 ∧ tabFind ms.cols y.col = some r ∧ r.lit = true ∧ r.got ≠ 0 ∧ longEnough ms.a ms.khz 100 = true ∧ (y.h1 = 16383 ∨ y.h2 = 16383) ∧ r.row < 16) ∧
    (∃ (s : State), s.act.restart = false ∧ s.act.settle ≠ 0) ∧
    (∃ (s : State) (w : Word) (r : LampRes), s.accepts P.ACT = true ∧ r = s.lampRes (w.toNat % 1024)) :=
  ⟨⟨{ ready.setReg R.ALM_CTL 0 with act := { due := [someMeas] } }, someMeas, [], ⟨63, 16382, 0⟩, { row := 15, lit := true, got := 64 }, by decide +kernel⟩,
   ⟨{ ready with act := { due := [someMeas] } }, someMeas, [], ⟨63, 16383, 0⟩, { row := 15, lit := true, got := 64 }, by decide +kernel⟩,
   ⟨{ ready with act := { restart := false, settle := 1, base := [(63, (8388607, 1))] } }, by decide +kernel⟩,
   ⟨ready, 1023, {}, by decide +kernel⟩⟩

/-- Obligations.HoldCycles: operands that meet the hypotheses of its clauses 1, 2, 3, 4, 5, 6. -/
theorem witness_holdCycles :
    (∃ (s : State) (n : Nat), s.holdRuns = true ∧ s.hel.holdSlot = none ∧ s.hel.holding = true ∧ s.nextCycle ≤ max s.now n) ∧
    (∃ (s : State) (n : Nat) (j : Nat), s.holdRuns = true ∧ s.hel.holdSlot = some j ∧ s.holdSlotOver ≤ max s.now n ∧ j + 1 < s.nslot) ∧
    (∃ (s : State) (n : Nat) (j : Nat), s.holdRuns = true ∧ s.hel.holdSlot = some j ∧ s.holdSlotOver ≤ max s.now n ∧ s.nslot ≤ j + 1) ∧
    (∃ (s : State) (j : Nat), s.holdRuns = false ∧ s.hel.holdSlot = some j) ∧
    (∃ (s : State) (n : Nat) (j : Nat), s.holdRuns = true ∧ s.hel.holdSlot = some j ∧ max s.now n < s.holdSlotOver) ∧
    (∃ (s : State) (n : Nat), s.holdRuns = true ∧ s.hel.holdSlot = none ∧ s.hel.holding = true ∧ max s.now n < s.nextCycle) :=
  ⟨⟨{ ready with hel := { st := .hold, holding := true } }, 10 ^ 15, by decide +kernel⟩,
   ⟨{ (exposing 0) with mer := {}, hel := { st := .hold, holdSlot := some 1 } }, 10 ^ 15, 1, by decide +kernel⟩,
   ⟨{ (exposing 0) with mer := {}, hel := { st := .hold, holdSlot := some 2 } }, 10 ^ 15, 2, by decide +kernel⟩,
   ⟨{ ready with hel := { st := .off, holdSlot := some 2 } }, 2, by decide +kernel⟩,
   ⟨{ (exposing 0) with mer := {}, hel := { st := .hold, holdSlot := some 1 } }, 7, 1, by decide +kernel⟩,
   ⟨{ ready with hel := { st := .hold, holding := true } }, 7, by decide +kernel⟩⟩

/-- Obligations.Housekeeping: operands that meet the hypotheses of its clauses 1, 2, 3, 4, 5, 6, 7, 8, 9. -/
theorem witness_housekeeping :
    (∃ (s : State) (codes : List Int) (n : Nat) (i : Nat), s.entryOver n = true ∧ entKind s.hka.entryW = 0 ∧ entInput s.hka.entryW = i ∧ 8 ≤ i ∧ i < 48 ∧ codes.length = entConv s.hka.entryW ∧ s.flag (R.HKA_RESi i) F.HKA_RESi.OPEN = false ∧ s.hka.entry < s.fld R.HKA_CTL F.HKA_CTL.NENT ∧ s.flag R.HKA_CTL F.HKA_CTL.RUN = true) ∧
    (∃ (s : State) (codes : List Int) (n : Nat) (i : Nat), s.entryOver n = true ∧ entKind s.hka.entryW = 3 ∧ entInput s.hka.entryW = i ∧ codes.length = entConv s.hka.entryW ∧ max 1 (s.fld R.HKA_OW F.HKA_OW.OWTHR : Int) ≤ hkMean codes ∧ s.hka.entry < s.fld R.HKA_CTL F.HKA_CTL.NENT ∧ s.flag R.HKA_CTL F.HKA_CTL.RUN = true) ∧
    (∃ (s : State), s.accepts P.HKA = true ∧ s.hka.cur = none ∧ s.hka.takeAt = none ∧ s.hka.queue = [] ∧ s.urgentFrom = some s.now) ∧
    (∃ (s : State) (u : Urgent), s.accepts P.HKA = true ∧ s.hka.cur = some u ∧ s.hka.queue.length < 4) ∧
    (∃ (s : State) (u : Urgent), s.accepts P.HKA = true ∧ s.hka.cur = some u ∧ s.hka.queue.length = 4) ∧
    (∃ (s : State) (u : Urgent) (q : List Urgent) (l : List Urgent), s.hka.cur = some u ∧ s.sameWrite u = false ∧ s.hka.queue = q ++ l ∧ q.length + l.length < 4 ∧ (∀ x ∈ q, s.sameWrite x = false) ∧ (∀ x ∈ l, s.sameWrite x = true)) ∧
    (∃ (s : State) (u : Urgent), s.hka.cur = some u ∧ s.hka.queue.length = 4 ∧ (∀ x ∈ s.hka.queue, s.sameWrite x = false)) ∧
    (∃ (s : State) (n : Nat) (u : Urgent), s.hka.cur = some u ∧ s.urgentEnd ≤ max s.now n ∧ u.dac = none ∧ u.kind = 0 ∧ 8 ≤ u.input ∧ u.input < 48 ∧ 9 ≤ s.col.dacStep ∧ s.flag (R.HKA_RESi u.input) F.HKA_RESi.OPEN = false) ∧
    (∃ (s : State) (i : Nat) (n : Nat) (a : Nat), i < 64 ∧ tabFind s.hka.lastAt i = some a ∧ 10000000000 ≤ max s.now n - a) :=
  ⟨⟨{ (ready.setFlag R.HKA_CTL F.HKA_CTL.RUN true).setFld R.HKA_CTL F.HKA_CTL.NENT 1 with hka := { running := true, entryW := 47 } }, [0], 10 ^ 6, 47, by decide +kernel⟩,
   ⟨{ (ready.setFlag R.HKA_CTL F.HKA_CTL.RUN true).setFld R.HKA_CTL F.HKA_CTL.NENT 1 with hka := { running := true, entryW := 47 + 3 * 2 ^ 12 } }, [65535], 10 ^ 6, 47, by decide +kernel⟩,
   ⟨{ ready with hka := { running := false } }, by decide +kernel⟩,
   ⟨{ ready with hka := { cur := some someAsk, queue := List.replicate 3 someAsk } }, someAsk, by decide +kernel⟩,
   ⟨{ ready with hka := { cur := some someAsk, queue := List.replicate 4 someAsk } }, someAsk, by decide +kernel⟩,
   ⟨{ ready with now := 5, hka := { cur := some someAsk, queue := [someAsk, { someAsk with at_ := 5 }] } }, someAsk, [someAsk], [{ someAsk with at_ := 5 }], by decide +kernel⟩,
   ⟨{ ready with now := 5, hka := { cur := some someAsk, queue := List.replicate 4 someAsk } }, someAsk, by decide +kernel⟩,
   ⟨{ ready with hka := { cur := some { someAsk with input := 47 } }, col := { dacStep := 9 } }, 10 ^ 9, { someAsk with input := 47 }, by decide +kernel⟩,
   ⟨{ ready with hka := { lastAt := [(63, 0)] } }, 63, 10 ^ 10, 0, by decide +kernel⟩⟩

/-- Obligations.RunRequests: operands that meet the hypotheses of its clauses 1, 2, 3, 4, 5, 6, 7, 8, 9, 10, 11. -/
theorem witness_runRequests :
    (∃ (s : State), s.accepts P.COL = true ∧ s.col.run = 0 ∧ s.col.req = 0 ∧ s.flag R.COL_CTL F.COL_CTL.EN = true ∧ s.sec.paused = false) ∧
    (∃ (s : State), s.accepts P.COL = true ∧ s.col.run = 0 ∧ s.col.req = 0 ∧ s.flag R.COL_CTL F.COL_CTL.EN = true ∧ s.sec.paused = false ∧ s.fft.blend = false ∧ s.fft.calBusy = false) ∧
    (∃ (s : State) (c : Instr) (k : Nat), (c, k) ∈ [(Instr.colReqDark, 3), (.colReqWhite, 4)] ∧ s.accepts P.COL = true ∧ s.col.run = 0 ∧ s.col.req = 0 ∧ s.flag R.COL_CTL F.COL_CTL.EN = true ∧ s.sec.paused = false ∧ s.fft.blend = false ∧ s.fft.calBusy = false ∧ 2 ≤ s.ssc.st ∧ s.ssc.st ≠ 9) ∧
    (∃ (s : State) (c : Instr) (k : Nat), (c, k) ∈ runRequests ∧ s.accepts P.COL = true ∧ s.col.run ≠ 0 ∧ s.col.run ≠ k) ∧
    (∃ (s : State), s.accepts P.COL = true) ∧
    (∃ (s : State) (w : Word), s.accepts P.COL = true ∧ s.flag R.COL_CTL F.COL_CTL.EN = true ∧ bit w.toNat 0 = false ∧ (s.col.run = 0 ∨ s.col.wrote = true) ∧ s.col.idle = none) ∧
    (∃ (s : State) (w : Word), s.accepts P.COL = true ∧ s.flag R.COL_CTL F.COL_CTL.EN = true ∧ bit w.toNat 0 = false ∧ s.col.run = 1 ∧ s.col.wrote = false ∧ (∀ w ∈ s.col.windows, w.2.ok = false) ∧ s.col.idle = none) ∧
    (∃ (s : State) (r : Nat), r ≠ 0 ∧ s.accepts P.COL = true) ∧
    (∃ (s : State) (n : Nat), s.flag R.COL_TRIG F.COL_TRIG.PEN = true ∧ s.col.run ≠ 0 ∧ s.col.run ≠ 1 ∧ max 1 (s.fld R.COL_TRIG F.COL_TRIG.PERIOD) * 60000000000000 ≤ max s.now n - s.col.lampAt) ∧
    (∃ (s : State) (n : Nat), s.fld R.COL_FLAT F.COL_FLAT.WPERIOD ≠ 0 ∧ s.fld R.COL_FLAT F.COL_FLAT.WPERIOD * 3600000000000000 ≤ max s.now n - s.col.whiteAt) ∧
    (∃ (s : State), s.accepts P.COL = true) :=
  ⟨⟨ready.setFlag R.COL_CTL F.COL_CTL.EN true, by decide +kernel⟩,
   ⟨ready.setFlag R.COL_CTL F.COL_CTL.EN true, by decide +kernel⟩,
   ⟨(withSsc ready 2).setFlag R.COL_CTL F.COL_CTL.EN true, .colReqWhite, 4, by decide +kernel⟩,
   ⟨{ ready with col := { run := 3 } }, .colReqWhite, 4, by decide +kernel⟩,
   ⟨{ ready with col := { stopped := 0x8000 } }, by decide +kernel⟩,
   ⟨ready.setFlag R.COL_CTL F.COL_CTL.EN true, 0, by decide +kernel⟩,
   ⟨{ ready.setFlag R.COL_CTL F.COL_CTL.EN true with col := { run := 1 } }, 0, by decide +kernel⟩,
   ⟨ready, 1, by decide +kernel⟩,
   ⟨{ (ready.setFlag R.COL_TRIG F.COL_TRIG.PEN true).setFld R.COL_TRIG F.COL_TRIG.PERIOD 1 with col := { run := 2 } }, 60 * 10 ^ 12, by decide +kernel⟩,
   ⟨ready.setFld R.COL_FLAT F.COL_FLAT.WPERIOD 1, 3600 * 10 ^ 12, by decide +kernel⟩,
   ⟨ready, by decide +kernel⟩⟩

/-- Obligations.LampRuns: operands that meet the hypotheses of its clauses 1, 2, 3. -/
theorem witness_lampRuns :
    (∃ (s : State) (lamp : Nat) (w : LampWin), s.sec.paused = false ∧ s.col.run = 1 ∧ s.litLamps = [lamp] ∧ s.col.windows = [(lamp, w)] ∧ winFull w = true ∧ w.done = false ∧ winAgree w s.ltol = false ∧ w.tries < 3 ∧ s.colRefuses = false) ∧
    (∃ (s : State) (lamp : Nat) (w : LampWin), s.sec.paused = false ∧ s.col.run = 1 ∧ s.litLamps = [lamp] ∧ s.col.windows = [(lamp, w)] ∧ winFull w = true ∧ w.done = false ∧ winAgree w s.ltol = false ∧ w.tries = 3 ∧ w.ok = false ∧ s.colRefuses = false ∧ s.col.req = 0 ∧ s.col.need = []) ∧
    (∃ (s : State) (lamp : Nat) (w : LampWin), s.sec.paused = false ∧ s.col.run = 1 ∧ s.litLamps = [lamp] ∧ s.col.windows = [(lamp, w)] ∧ winFull w = true ∧ w.done = false ∧ winAgree w s.ltol = true ∧ s.colRefuses = false ∧ s.col.req = 0 ∧ s.flag R.COL_PERM F.COL_PERM.FLAT = false) :=
  ⟨⟨lampRun { n1 := 16, sum1 := 100, n2 := 16, sum2 := 200, tries := 2 }, 63, { n1 := 16, sum1 := 100, n2 := 16, sum2 := 200, tries := 2 }, by decide +kernel⟩,
   ⟨lampRun { n1 := 16, sum1 := 100, n2 := 16, sum2 := 200, tries := 3 }, 63, { n1 := 16, sum1 := 100, n2 := 16, sum2 := 200, tries := 3 }, by decide +kernel⟩,
   ⟨lampRun { n1 := 16, sum1 := 100, n2 := 16, sum2 := 100, tries := 3 }, 63, { n1 := 16, sum1 := 100, n2 := 16, sum2 := 100, tries := 3 }, by decide +kernel⟩⟩

/-- Obligations.Rotation: operands that meet the hypotheses of its clauses 1, 2, 3, 4, 5. -/
theorem witness_rotation :
    (∃ (s : State) (n : Nat) (c : Nat), s.rotOn = true ∧ s.col.ch = none ∧ s.acq.switchDue = true ∧ s.mer.cycle = true ∧ s.sec.paused = false ∧ s.col.started = true ∧ (s.upto n).stepDue = true ∧ s.codeUnack 0x0D02 = false ∧ c < 256 ∧ s.col.next ≤ c ∧ s.rotates c = true ∧ (∀ d, d < c → s.col.next ≤ d → s.rotates d = false)) ∧
    (∃ (s : State), s.sec.paused = true ∨ s.codeUnack 0x0D02 = true) ∧
    (∃ (s : State), s.mer.cycle = false ∧ s.pwr.st = 1 ∧ s.ssc.st = 0 ∧ s.flag R.COL_CTL F.COL_CTL.EN = true ∧ s.sec.paused = false ∧ s.col.idle = none ∧ s.col.dacStep < 9) ∧
    (∃ (s : State) (g : Nat), s.sec.paused = false ∧ s.ssc.st ≠ 0 ∧ s.col.idle = some g ∧ g < 16) ∧
    (∃ (s : State) (n : Nat) (ack : Bool) (c : Instr) (d : Deferred), (c, d) ∈ waitingWork ack n ∧ s.sec.paused = true) :=
  ⟨⟨{ ((ready.setReg R.COL_CTL 3).setReg (cfgOf 255) 1).setFld R.PWR_STAT F.PWR_STAT.VSOK 15 with acq := { switchDue := true }, mer := { cycle := true }, col := { started := true, next := 255 } }, 10 ^ 15, 255, by decide +kernel⟩,
   ⟨{ ready with sec := { ready.sec with paused := true } }, by decide +kernel⟩,
   ⟨{ ready.setReg R.COL_CTL 3 with col := { dacStep := 8 } }, by decide +kernel⟩,
   ⟨{ withSsc ready 1 with col := { idle := some 15 } }, 15, by decide +kernel⟩,
   ⟨{ ready with sec := { ready.sec with paused := true }, col := { run := 3, idle := some 0 } }, 7, true, .calRunDone 7, .calRun, by decide +kernel⟩⟩

/-- Obligations.Islands: operands that meet the hypotheses of its clauses 2, 3, 4. -/
theorem witness_islands :
    (∃ (s : State), s.sec.paused = false ∧ s.flag R.ALM_CTL F.ALM_CTL.EN = true ∧ s.flag R.ALM_CTL F.ALM_CTL.CLK = true ∧ (List.range 114).any (fun i => s.lowIsland i && !s.atFloor i) = true) ∧
    (∃ (s : State), s.sec.paused = false ∧ s.flag R.ALM_CTL F.ALM_CTL.EN = true ∧ s.flag R.ALM_CTL F.ALM_CTL.CLK = true ∧ (List.range 114).any (fun i => s.lowIsland i && !s.atFloor i) = false ∧ 60 ≤ s.alm.good ∧ s.fld R.ALM_VNOW F.ALM_VNOW.VREQ = 750 ∧ (List.range 114).any (fun i => (s.island i).khz != 0) = true) ∧
    (∃ (s : State), s.sec.paused = false ∧ s.flag R.ALM_CTL F.ALM_CTL.EN = false) :=
  ⟨⟨ready.setReg R.ALM_CTL 7, by decide +kernel⟩,
   ⟨{ ready.setReg R.ALM_CTL 7 with alm := { good := 60, islands := (List.range 114).map (fun i => (i, { slack := 1023, khz := 1000 })) } }, by decide +kernel⟩,
   ⟨ready.setReg R.ALM_CTL 0, by decide +kernel⟩⟩

/-- Obligations.Voltage: operands that meet the hypotheses of its clauses 1, 2, 3, 4, 5, 6, 7. -/
theorem witness_voltage :
    (∃ (s : State), s.sec.paused = false ∧ s.flag R.ALM_CTL F.ALM_CTL.EN = true ∧ s.pwr.st ≠ 6 ∧ s.flag R.ALM_CTL F.ALM_CTL.VOLT = true ∧ s.alm.stopped = false ∧ s.vreq < s.vmax ∧ (List.range 114).any (fun i => s.lowIsland i && s.atFloor i) = true) ∧
    (∃ (s : State), s.sec.paused = false ∧ s.flag R.ALM_CTL F.ALM_CTL.EN = true ∧ s.pwr.st ≠ 6 ∧ s.flag R.ALM_CTL F.ALM_CTL.VOLT = true ∧ s.alm.stopped = false ∧ s.vreq < s.vmax ∧ (List.range 114).any (fun i => s.lowIsland i && s.atFloor i) = true) ∧
    (∃ (s : State) (i : Nat), s.sec.paused = false ∧ s.flag R.ALM_CTL F.ALM_CTL.EN = true ∧ s.pwr.st ≠ 6 ∧ s.vmax ≤ s.vreq ∧ i < 114 ∧ s.lowIsland i = true ∧ (∀ j, j < i → s.lowIsland j = false)) ∧
    (∃ (s : State) (x : PmbIn), s.pwr.st ≠ 6 ∧ x.ack = true ∧ x.mode = none ∧ x.status % 65536 < 2) ∧
    (∃ (s : State) (x : PmbIn), s.pwr.st ≠ 6 ∧ x.ack = false) ∧
    (∃ (s : State) (x : PmbIn), s.alm.vcheck = true ∧ s.pwr.st ≠ 6 ∧ x.ack = true ∧ ((min 65535 (s.unlinear (x.vout % 65536)) : Int) - s.vreq).natAbs ≤ 10) ∧
    (∃ (s : State) (x : PmbIn), s.alm.vcheck = true ∧ s.pwr.st ≠ 6 ∧ x.ack = true ∧ 10 < ((min 65535 (s.unlinear (x.vout % 65536)) : Int) - s.vreq).natAbs) :=
  ⟨⟨{ ready.setReg R.ALM_CTL 7 with alm := { islands := [(113, { khz := 1 })] } }, by decide +kernel⟩,
   ⟨{ ready.setReg R.ALM_CTL 7 with alm := { islands := [(113, { khz := 1 })] } }, by decide +kernel⟩,
   ⟨{ (ready.setReg R.ALM_CTL 7).setFld R.ALM_VNOW F.ALM_VNOW.VREQ 800 with alm := { islands := (List.range 113).map (fun i => (i, { slack := 1023 })) } }, 113, by decide +kernel⟩,
   ⟨ready, ⟨true, 1, 65535, none⟩, by decide +kernel⟩,
   ⟨ready, ⟨false, 1, 65535, none⟩, by decide +kernel⟩,
   ⟨{ ready with alm := { vcheck := true, vmode := 0x16 } }, ⟨true, 0, 768, none⟩, by decide +kernel⟩,
   ⟨{ ready with alm := { vcheck := true } }, ⟨true, 0, 65535, none⟩, by decide +kernel⟩⟩

/-- Obligations.History: operands that meet the hypotheses of its clauses 1, 2, 3. -/
theorem witness_history :
    (∃ (s : State), s.sec.paused = false) ∧
    (∃ (s : State), s.sec.load = none ∧ s.sec.paused = false) ∧
    (∃ (s : State), s.sec.load ≠ none ∨ s.sec.paused = true) :=
  ⟨⟨ready, by decide +kernel⟩,
   ⟨ready, by decide +kernel⟩,
   ⟨{ ready with sec := { ready.sec with load := some (0, 0) } }, by decide +kernel⟩⟩

/-- Obligations.WindowsAndStreaks: operands that meet the hypotheses of its clauses 1, 2, 3, 4, 5. -/
theorem witness_windowsAndStreaks :
    (∃ (s : State) (line : Nat) (i : LineInfo), tabFind s.lines line = some i ∧ i.phoDone = false ∧ i.sent &&& i.owed ≠ i.owed ∧ s.lineOut line = true ∧ s.lines.any (fun l => l.1 < line && !l.2.phoDone && !l.2.preroll) = false ∧ s.flag R.PHO_CTL F.PHO_CTL.EN = false) ∧
    (∃ (s : State) (line : Nat) (i : LineInfo) (w : Nat) (c : List Nat) (r0 : WinRun) (r : WinRun), tabFind s.lines line = some i ∧ i.phoDone = false ∧ i.preroll = false ∧ s.lineOut line = true ∧ s.lines.any (fun l => l.1 < line && !l.2.phoDone && !l.2.preroll) = false ∧ s.flag R.PHO_CTL F.PHO_CTL.EN = true ∧ s.pfld line R.PHO_BANDCFG F.PHO_BANDCFG.SEN = 0 ∧ tabGet [] s.pho.snaps line = [(w, c)] ∧ s.pho.wins = [(w, r0)] ∧ r0.cfg = c ∧ r0.broken = false ∧ w ∉ s.movedBy line ∧ winLines c ≤ r0.lines + 1 ∧ winBroken [(w, c)] w c = false ∧ winRec c = false ∧ r = ((s.plt.rel.filter (fun x => x.line == line)).filter (winTakes c)).foldl (fun r x => winSample r x.dn) { r0 with lines := r0.lines + 1, first := if r0.lines = 0 then line else r0.first, last := line }) ∧
    (∃ (s : State), s.flag R.PHO_CTL F.PHO_CTL.EN = true ∧ s.fld R.PHO_STRK F.PHO_STRK.SEN ≠ 0 ∧ s.pho.scanning = false ∧ max 1 (s.fld R.PHO_STRK F.PHO_STRK.PERIOD) ≤ s.pho.scanLines) ∧
    (∃ (s : State), s.pho.scanning = true ∧ s.fld R.PLTG_STREAK F.PLTG_STREAK.BEN = 0) ∧
    (∃ (s : State) (runs : List StreakRun), s.pho.scanning = true ∧ s.fld R.PHO_STRK F.PHO_STRK.SEN = 1 ∧ bit (s.fld R.PLTG_STREAK F.PLTG_STREAK.BEN) 0 = true ∧ s.flag R.PHO_STRKTHR F.PHO_STRKTHR.RECEN = false ∧ runs = streakRuns ((devList (s.scanAcc 0) (min 32 (max 1 (s.fld R.PHO_STRK F.PHO_STRK.HALF)))).filter (fun x => devOver x.2 (s.fld R.PHO_STRKTHR F.PHO_STRKTHR.THR))) none ∧ runs ≠ []) :=
  ⟨⟨{ ready.setReg R.PHO_CTL 0 with lines := [(1, { owed := 1 })], plt := { done := [(1, 65535)] } }, 1, { owed := 1 }, by decide +kernel⟩,
   ⟨{ ready.setReg R.PHO_CTL 1 with lines := [(1, { owed := 1 })], plt := { done := [(1, 65535)] }, pho := { snaps := [(1, [(255, [0x80000000, 10, 0x10001, 0])])], wins := [(255, { cfg := [0x80000000, 10, 0x10001, 0] })] } }, 1, { owed := 1 }, 255, [0x80000000, 10, 0x10001, 0], { cfg := [0x80000000, 10, 0x10001, 0] }, { cfg := [0x80000000, 10, 0x10001, 0], lines := 1, first := 1, last := 1 }, by decide +kernel⟩,
   ⟨{ (ready.setReg R.PHO_CTL 1).setFld R.PHO_STRK F.PHO_STRK.SEN 1 with pho := { scanLines := 65536 } }, by decide +kernel⟩,
   ⟨{ ready.setReg R.PLTG_STREAK 0 with pho := { scanning := true } }, by decide +kernel⟩,
   ⟨{ (((ready.setFld R.PHO_STRK F.PHO_STRK.SEN 1).setFld R.PLTG_STREAK F.PLTG_STREAK.BEN 1).setReg R.PHO_STRKTHR 1) with plt := { streak := [(1, 0), (2, 2 ^ 39)] }, pho := { scanning := true } }, [⟨1, 1, true, (-549755813888, 1)⟩, ⟨2, 1, false, (549755813888, 1)⟩], by decide +kernel⟩⟩

/-- Obligations.MoveQueue: operands that meet the hypotheses of its clauses 1, 2, 3, 4. -/
theorem witness_moveQueue :
    (∃ (s : State) (x : Nat), x < 4 ∧ s.accepts (P.CDRx x) = true ∧ s.pushRejected x = false ∧ (s.axis x).queue.length < 8) ∧
    (∃ (s : State) (x : Nat), x < 4 ∧ s.accepts (P.CDRx x) = true ∧ s.pushRejected x = false ∧ 8 ≤ (s.axis x).queue.length) ∧
    (∃ (s : State) (x : Nat), x < 4 ∧ s.accepts (P.CDRx x) = true ∧ s.pushRejected x = true) ∧
    (∃ (s : State) (x : Nat), x < 4 ∧ s.accepts (P.CDRx x) = true) :=
  ⟨⟨((((withAxis ready 3 { queue := List.replicate 7 someMove }).setReg (R.CDRx_MVEL 3) 1).setReg (R.CDRx_MACC 3) 1).setReg (R.CDRx_MDEC 3) 1).setReg (R.CDRx_MJRK 3) 1, 3, by decide +kernel⟩,
   ⟨((((withAxis ready 3 { queue := List.replicate 8 someMove }).setReg (R.CDRx_MVEL 3) 1).setReg (R.CDRx_MACC 3) 1).setReg (R.CDRx_MDEC 3) 1).setReg (R.CDRx_MJRK 3) 1, 3, by decide +kernel⟩,
   ⟨ready, 3, by decide +kernel⟩,
   ⟨withAxis ready 3 { queue := [someMove] }, 3, by decide +kernel⟩⟩

/-- Obligations.Motion: operands that meet the hypotheses of its clauses 1, 2, 3, 4, 5. -/
theorem witness_motion :
    (∃ (s : State) (x : Nat) (n : Nat) (p : Plan) (d : Rat), x < 4 ∧ s.cdr.groups = [] ∧ s.cdr.gstop = 0 ∧ (s.axis x).plan = some p ∧ (s.axis x).cur.isSome = true ∧ (s.axis x).waking = false ∧ d = secs (max s.now n) - p.t0 ∧ (p.tgt = none ∨ (s.axis x).decided = true ∨ (s.axis x).st = 3 ∨ d < p.decideAt) ∧ (p.scan = true ∨ d < p.time) ∧ (∀ y, y < 4 → y ≠ x → (s.axis y).plan = none ∧ (s.axis y).st ≠ 3 ∧ (s.axis y).queue = [])) ∧
    (∃ (s : State) (x : Nat) (n : Nat) (p : Plan) (m : Move), x < 4 ∧ s.cdr.groups = [] ∧ s.cdr.gstop = 0 ∧ (s.axis x).plan = some p ∧ (s.axis x).cur = some m ∧ m.own = false ∧ m.home = false ∧ (s.axis x).waking = false ∧ (s.axis x).st = 2 ∧ (s.axis x).decided = true ∧ (s.axis x).joint = false ∧ (s.axis x).queue = [] ∧ p.scan = false ∧ p.time ≤ secs (max s.now n) - p.t0 ∧ (∀ y, y < 4 → y ≠ x → (s.axis y).plan = none ∧ (s.axis y).st ≠ 3 ∧ (s.axis y).queue = [])) ∧
    (∃ (s : State) (x : Nat) (m : Move), x < 4 ∧ s.cdr.groups = [] ∧ s.cdr.gstop = 0 ∧ s.pend = [] ∧ s.axisEn x = true ∧ (s.axis x).queue = [m] ∧ (s.axis x).plan = none ∧ (s.axis x).cur = none ∧ (s.axis x).st = 1 ∧ m.home = false ∧ m.group = false ∧ (s.axis x).scale < 256 ∧ m.tgt * 2 ^ 32 ≠ (s.axis x).pos ∧ s.fld (R.CDRx_CUR x) F.CDRx_CUR.TWAKE ≠ 0 ∧ (∀ y, y < 4 → y ≠ x → (s.axis y).plan = none ∧ (s.axis y).st ≠ 3 ∧ (s.axis y).queue = [])) ∧
    (∃ (s : State) (x : Nat) (n : Nat) (p : Plan), x < 4 ∧ s.cdr.groups = [] ∧ (s.axis x).waking = true ∧ (s.axis x).wakeAt ≤ max s.now n ∧ (s.axis x).plan = some p) ∧
    (∃ (s : State) (x : Nat) (n : Nat), x < 4 ∧ (s.axis x).cur = none ∧ (s.axis x).queue = [] ∧ (s.axis x).st ≠ 3 ∧ (s.axis x).fallAt = none ∧ (s.axis x).scale = 256 ∧ (s.axis x).restAt + s.holdDelay x ≤ max s.now n) :=
  ⟨⟨withAxis ready 3 { cur := some someMove, plan := some somePlan, st := 2 }, 3, 5 * 10 ^ 11, somePlan, 1 / 2, by decide +kernel⟩,
   ⟨withAxis ready 3 { cur := some someMove, plan := some somePlan, st := 2, decided := true }, 3, 10 ^ 12, somePlan, someMove, by decide +kernel⟩,
   ⟨(withAxis ready 3 { queue := [someMove], scale := 128 }).setFld (R.CDRx_CUR 3) F.CDRx_CUR.TWAKE 1, 3, someMove, by decide +kernel⟩,
   ⟨withAxis ready 3 { cur := some someMove, plan := some somePlan, st := 2, waking := true, wakeAt := 7 }, 3, 7, somePlan, by decide +kernel⟩,
   ⟨withAxis ready 3 { scale := 256 }, 3, 10 ^ 13, by decide +kernel⟩⟩

/-- Obligations.AxisStops: operands that meet the hypotheses of its clauses 1, 2, 3, 4, 5, 6, 7, 8. -/
theorem witness_axisStops :
    (∃ (s : State) (x : Nat), x < 4 ∧ s.cdr.groups = [] ∧ (s.axis x).cur = none ∧ (s.axis x).st ≠ 3) ∧
    (∃ (s : State) (x : Nat) (p : Plan) (c : Move), x < 4 ∧ s.cdr.groups = [] ∧ (s.axis x).plan = some p ∧ (s.axis x).cur = some c ∧ (s.axis x).st ≠ 3 ∧ (s.axis x).waking = false) ∧
    (∃ (s : State) (x : Nat), x < 4 ∧ s.cdr.groups = []) ∧
    (∃ (s : State) (g : Nat), g < 4 ∧ s.accepts P.CDRG = true ∧ s.cdr.groups = [] ∧ s.groupMembers g ≠ [] ∧ (∀ x, x ∈ s.groupMembers g → (s.axis x).cur = none ∧ (s.axis x).st ≠ 3)) ∧
    (∃ (s : State) (g : Nat), g < 4 ∧ s.accepts P.CDRG = true ∧ s.cdr.groups = [] ∧ s.groupMembers g ≠ []) ∧
    (∃ (s : State) (x : Nat) (b : Bool) (v : Nat) (n : Nat), x < 4 ∧ s.cdr.groups = [] ∧ 8 * max 1 (s.fld (R.CDRx_CFG x) F.CDRx_CFG.OCLIM) < v ∧ ((s.axis x).chop b).stepAt + s.chopBlank x ≤ max s.now n) ∧
    (∃ (s : State) (x : Nat) (n : Nat) (a : Nat), x < 4 ∧ s.cdr.groups = [] ∧ (s.axis x).outSince = some a ∧ a + s.stallTime x ≤ max s.now n) ∧
    (∃ (s : State) (x : Nat) (h : Nat), x < 4 ∧ s.cdr.groups = [] ∧ (s.axis x).st = 5 ∧ (s.axis x).cur.isSome = true ∧ s.encEn x = true ∧ s.fld (R.CDRx_HOME x) F.CDRx_HOME.SRC ≠ 1 ∧ s.fld R.CDRG_ENCF F.CDRG_ENCF.FILT * 1000 ≤ h) :=
  ⟨⟨withAxis ready 3 { queue := [someMove] }, 3, by decide +kernel⟩,
   ⟨withAxis ready 3 { cur := some someMove, plan := some somePlan, st := 2 }, 3, somePlan, someMove, by decide +kernel⟩,
   ⟨withAxis ready 3 { cur := some someMove, plan := some somePlan, st := 2 }, 3, by decide +kernel⟩,
   ⟨ready.setReg R.CDRG_GRP 0xBBBB, 3, by decide +kernel⟩,
   ⟨ready.setReg R.CDRG_GRP 0xBBBB, 3, by decide +kernel⟩,
   ⟨ready, 3, true, 1201, 10 ^ 9, by decide +kernel⟩,
   ⟨withAxis ready 3 { outSince := some 0 }, 3, 10 ^ 13, 0, by decide +kernel⟩,
   ⟨(withAxis ready 3 { cur := some someMove, plan := some somePlan, st := 5 }).setFlag (R.CDRx_CFG 3) F.CDRx_CFG.ENCEN true, 3, 5000, by decide +kernel⟩⟩

/-- Obligations.CoilsAndEncoders: operands that meet the hypotheses of its clauses 1, 2, 3, 4, 5, 6. -/
theorem witness_coilsAndEncoders :
    (∃ (s : State) (x : Nat) (b : Bool) (v : Nat) (n : Nat) (c : Chop), x < 4 ∧ (s.axis x).chop b = c ∧ c.drv = 2 ∧ c.stepAt + s.chopBlank x ≤ max s.now n ∧ s.aboveHigh x b v c = true) ∧
    (∃ (s : State) (x : Nat) (b : Bool) (n : Nat) (c : Chop), x < 4 ∧ (s.axis x).chop b = c ∧ c.drv = 6 ∧ c.stepAt + 100000 ≤ max s.now n) ∧
    (∃ (s : State) (x : Nat) (b : Bool) (v : Nat) (n : Nat) (c : Chop), x < 4 ∧ (s.axis x).chop b = c ∧ c.drv = 5 ∧ c.offAt + s.chopToff x ≤ max s.now n ∧ (s.belowLow x b v c = false ∨ max s.now n < c.stepAt + s.chopBlank x)) ∧
    (∃ (s : State) (x : Nat) (a : Bool) (b : Bool) (h : Nat) (d : Int), x < 4 ∧ s.fld R.CDRG_ENCF F.CDRG_ENCF.FILT * 1000 ≤ h ∧ quad (s.axis x).encA (s.axis x).encB a b = some d ∧ s.flag (R.CDRx_GRID x) F.CDRx_GRID.SRC = false) ∧
    (∃ (s : State) (a : Bool) (b : Bool) (h : Nat) (d : Int), s.fld R.CDRG_ENCF F.CDRG_ENCF.FILT * 1000 ≤ h ∧ quad s.cdr.fA s.cdr.fB a b = some d ∧ s.flag R.CDRG_FCFG F.CDRG_FCFG.EN = true ∧ s.mer.fgridOn = false) ∧
    (∃ (s : State) (x : Nat) (a : Bool) (b : Bool) (h : Nat) (n : Nat), x < 4 ∧ s.fld R.CDRG_ENCF F.CDRG_ENCF.FILT * 1000 ≤ h ∧ quad (s.axis x).encA (s.axis x).encB a b = none ∧ s.fld R.CDRG_ENCF F.CDRG_ENCF.BADLIM ≠ 0 ∧ (s.axis x).badSec ≠ max s.now n / 10 ^ 12) :=
  ⟨⟨withAxis ready 3 { chopA := { drv := 2 } }, 3, false, 60000, 10 ^ 9, { drv := 2 }, by decide +kernel⟩,
   ⟨withAxis ready 3 { chopB := { drv := 6 } }, 3, true, 100000, { drv := 6 }, by decide +kernel⟩,
   ⟨withAxis ready 3 { chopA := { drv := 5 } }, 3, false, 60000, 10 ^ 9, { drv := 5 }, by decide +kernel⟩,
   ⟨ready, 3, true, false, 5000, 1, by decide +kernel⟩,
   ⟨ready.setFlag R.CDRG_FCFG F.CDRG_FCFG.EN true, false, true, 5000, -1, by decide +kernel⟩,
   ⟨withAxis ready 3 {}, 3, true, true, 5000, 10 ^ 12, by decide +kernel⟩⟩

/-- Obligations.JobCommands: operands that meet the hypotheses of its clauses 1, 2, 3, 4, 5, 6, 7, 8, 9, 10, 11, 12. -/
theorem witness_jobCommands :
    (∃ (s : State), s.accepts P.SSC = true ∧ s.ssc.st = 0) ∧
    (∃ (s : State) (c : Instr), c = Instr.sscArm ∧ s.ssc.st ≠ 0 ∨ c = .sscStart ∧ s.ssc.st ≠ 2 ∨ c = .sscEnd ∧ (s.ssc.st < 2 ∨ s.ssc.st = 9) ∨ c = .sscResume ∧ s.ssc.st ≠ 8 ∧ s.accepts P.SSC = true) ∧
    (∃ (s : State), s.accepts P.SSC = true ∧ s.ssc.st = 2 ∧ s.jobMode = 3) ∧
    (∃ (s : State), s.accepts P.SSC = true ∧ s.ssc.st = 2 ∧ s.jobMode = 2 ∧ s.fld R.SSC_NLINES F.SSC_NLINES.N = 0) ∧
    (∃ (s : State), s.accepts P.SSC = true ∧ s.ssc.st = 3) ∧
    (∃ (s : State), s.accepts P.SSC = true ∧ 4 ≤ s.ssc.st ∧ s.ssc.st ≤ 8 ∧ s.jobMode ≠ 0) ∧
    (∃ (s : State), s.accepts P.SSC = true ∧ s.ssc.st = 1) ∧
    (∃ (s : State), s.accepts P.SSC = true ∧ 2 ≤ s.ssc.st) ∧
    (∃ (s : State), s.ssc.st = 0) ∧
    (∃ (s : State), s.accepts P.SSC = true ∧ s.ssc.st = 8 ∧ s.ssc.pausers.any (fun p => s.isUnack p.1 p.2) = false ∧ s.jobMode ≠ 0) ∧
    (∃ (s : State), s.accepts P.SSC = true ∧ s.ssc.st = 8 ∧ s.ssc.pausers.any (fun p => s.isUnack p.1 p.2) = false ∧ s.jobMode = 0 ∧ s.ssc.istopped = false) ∧
    (∃ (s : State), s.accepts P.SSC = true ∧ s.ssc.st = 8 ∧ s.ssc.pausers.any (fun p => s.isUnack p.1 p.2) = true) :=
  ⟨⟨ready, by decide +kernel⟩,
   ⟨withSsc ready 9, .sscEnd, by decide +kernel⟩,
   ⟨(withSsc ready 2).setReg R.SSC_PMODE 3, by decide +kernel⟩,
   ⟨(withSsc ready 2).setReg R.SSC_PMODE 2, by decide +kernel⟩,
   ⟨withSsc ready 3, by decide +kernel⟩,
   ⟨(withSsc ready 8).setReg R.SSC_PMODE 2, by decide +kernel⟩,
   ⟨withSsc ready 1, by decide +kernel⟩,
   ⟨{ (exposing 1) with est := { fill := 5 } }, by decide +kernel⟩,
   ⟨ready, by decide +kernel⟩,
   ⟨(withSsc ready 8).setReg R.SSC_PMODE 1, by decide +kernel⟩,
   ⟨{ withSsc ready 8 with chr := { unack := [(0x1801, 0, 1)] } }, by decide +kernel⟩,
   ⟨{ withSsc ready 8 with ssc := { st := 8, pausers := [(0x1801, 0)] }, chr := { unack := [(0x1801, 0, 1)] } }, by decide +kernel⟩⟩

/-- Obligations.AdmissionVerdict: operands that meet the hypotheses of its clauses 1, 2, 3. -/
theorem witness_admissionVerdict :
    (∃ (s : State) (n : Nat), s.ssc.st = 1 ∧ s.sec.paused = false ∧ (s.upto n).admCopy.admReason ≠ 0) ∧
    (∃ (s : State) (n : Nat), s.ssc.st = 1 ∧ s.sec.paused = false ∧ (s.upto n).admCopy.admReason = 0) ∧
    (∃ (s : State), s.ssc.st ≠ 1 ∨ s.sec.paused = true) :=
  ⟨⟨asked.setReg R.SSC_PMODE 3, 7, by decide +kernel⟩,
   ⟨asked, 7, by decide +kernel⟩,
   ⟨ready, by decide +kernel⟩⟩

/-- Obligations.TrackingJob: operands that meet the hypotheses of its clauses 1, 2, 3, 4, 5, 6. -/
theorem witness_trackingJob :
    (∃ (s : State) (x : Nat) (g : Grid), s.ssc.st = 4 ∧ s.scanRest = true ∧ s.captureOver = true ∧ s.mer.transit = [] ∧ s.ssc.istopDue = false ∧ s.scanAxis = some x ∧ s.ssc.grid = some g ∧ s.pend = []) ∧
    (∃ (s : State), s.ssc.istopDue = true ∧ 3 ≤ s.ssc.st ∧ s.ssc.st ≤ 7 ∧ s.captureOver = true ∧ s.mer.transit = []) ∧
    (∃ (s : State), s.ssc.st = 5 ∧ s.scanRest = true ∧ s.ssc.istopDue = false ∧ s.ssc.pauseDue = false) ∧
    (∃ (s : State), s.ssc.st = 5 ∧ s.scanRest = true ∧ s.ssc.istopDue = false ∧ s.ssc.pauseDue = true) ∧
    (∃ (s : State) (n : Nat) (x : Nat), s.ssc.st = 6 ∧ s.ssc.istopDue = false ∧ blocksOf s.est.fill ≤ s.estLwm ∧ s.hostFlows = true ∧ s.ssc.flowFrom + max 1 (s.fld R.SSC_TSET F.SSC_TSET.FLOWT) * 1000000 ≤ max s.now n ∧ s.scanRest = true ∧ s.scanAxis = some x ∧ (s.axis x).unt = s.ssc.stopUnt ∧ s.pend = []) ∧
    (∃ (s : State), s.ssc.st = 9 ∧ s.captureOver = true ∧ s.lines = [] ∧ s.allLeft = true ∧ s.scanRest = true) :=
  ⟨⟨tracking 4, 0, ⟨0, 0, 0, 0⟩, by decide +kernel⟩,
   ⟨{ ready with ssc := { st := 7, istopDue := true } }, by decide +kernel⟩,
   ⟨tracking 5, by decide +kernel⟩,
   ⟨{ ready with ssc := { st := 5, pauseDue := true } }, by decide +kernel⟩,
   ⟨noStreams (tracking 6), 10 ^ 15, 0, by decide +kernel⟩,
   ⟨{ noStreams ready with ssc := { st := 9 }, pwr := { ready.pwr with st := 2 } }, by decide +kernel⟩⟩

/-- Obligations.Descriptors: operands that meet the hypotheses of its clauses 1, 2, 3, 4, 5, 6, 7, 8. -/
theorem witness_descriptors :
    (∃ (s : State) (ch : Nat) (b : List Byte) (a : Nat) (l : Nat) (i : Nat) (d : Desc), ch < 64 ∧ (s.chan ch).rd = some (a, l, i) ∧ (s.chan ch).st = 2 ∧ b.length = 32 ∧ d = descOf a b ∧ d.valid = false) ∧
    (∃ (s : State) (ch : Nat) (b : List Byte) (a : Nat) (l : Nat) (i : Nat) (d : Desc), ch < 64 ∧ (s.chan ch).rd = some (a, l, i) ∧ (s.chan ch).st = 2 ∧ b.length = 32 ∧ d = descOf a b ∧ d.valid = true ∧ d.zero = false ∧ (d.typ = 2 ∨ (d.typ = 0 ∧ s.ringOf ch d = none ∧ (s.chan ch).q ≠ []))) ∧
    (∃ (s : State) (ch : Nat) (d : Desc), ch < 64 ∧ (s.chan ch).st = 3 ∧ (s.chan ch).complete = true ∧ (s.chan ch).desc = some d ∧ d.evt = true ∧ d.cqe = false ∧ (s.chan ch).cqWait = none ∧ s.nextAddr ch = 0) ∧
    (∃ (s : State) (ch : Nat) (d : Desc), ch < 64 ∧ (s.chan ch).st = 3 ∧ (s.chan ch).complete = true ∧ (s.chan ch).desc = some d ∧ d.evt = false ∧ d.cqe = true ∧ (s.chan ch).cqWait = none ∧ s.nextAddr ch = 0 ∧ s.flag (R.DMAG_CQq_CFG d.cq) F.DMAG_CQq_CFG.EN = true ∧ s.flag (R.DMAG_CQq_CFG d.cq) F.DMAG_CQq_CFG.IEN = false ∧ s.cqFull d.cq = false ∧ bit s.dma.cqOdd d.cq = false) ∧
    (∃ (s : State) (ch : Nat) (d : Desc), ch < 64 ∧ (s.chan ch).st = 3 ∧ (s.chan ch).complete = true ∧ (s.chan ch).desc = some d ∧ d.cqe = true ∧ s.flag (R.DMAG_CQq_CFG d.cq) F.DMAG_CQq_CFG.EN = true ∧ s.cqFull d.cq = true) ∧
    (∃ (s : State) (q : Nat), q < 8 ∧ s.accepts P.DMAG = true ∧ (∀ ch, ch < 64 → (s.chan ch).cqWait = none)) ∧
    (∃ (s : State) (q : Nat) (w : Word) (ch : Nat) (b : List Byte), q < 8 ∧ ch < 64 ∧ s.accepts P.DMAG = true ∧ (s.chan ch).cqWait = some (q, b) ∧ b.length = 28 ∧ (s.chan ch).st = 6 ∧ (∀ c, c < 64 → c ≠ ch → (s.chan c).cqWait = none) ∧ ((s.cq q).1 + 1) % s.cqSize q ≠ w.toNat % 65536 ∧ s.nextAddr ch = 0 ∧ s.flag (R.DMAG_CQq_CFG q) F.DMAG_CQq_CFG.IEN = false ∧ bit s.dma.cqOdd q = false) ∧
    (∃ (s : State) (ch : Nat) (d : Desc), ch < 64 ∧ (s.chan ch).st = 3 ∧ (s.chan ch).complete = true ∧ (s.chan ch).desc = some d ∧ d.cqe = true ∧ (s.chan ch).cqWait = none ∧ s.flag (R.DMAG_CQq_CFG d.cq) F.DMAG_CQq_CFG.EN = false ∧ s.pend = []) :=
  ⟨⟨withChan ready 63 { st := 2, rd := some (0x40, 32, 0) }, 63, List.replicate 32 0, 0x40, 32, 0, descOf 0x40 (List.replicate 32 0), by decide +kernel⟩,
   ⟨withChan ready 63 { st := 2, rd := some (0x40, 32, 0) }, 63, someBytes, 0x40, 32, 0, descOf 0x40 someBytes, by decide +kernel⟩,
   ⟨withChan ready 63 { st := 3, moved := 64, desc := some { someDesc with ctl := 2 ^ 31 + 2 * 2 ^ 28 + 2 ^ 17 } }, 63, { someDesc with ctl := 2 ^ 31 + 2 * 2 ^ 28 + 2 ^ 17 }, by decide +kernel⟩,
   ⟨(withChan ready 63 { st := 3, moved := 64, desc := some { someDesc with ctl := 2 ^ 31 + 2 * 2 ^ 28 + 2 ^ 16 } }).setFlag (R.DMAG_CQq_CFG 0) F.DMAG_CQq_CFG.EN true, 63, { someDesc with ctl := 2 ^ 31 + 2 * 2 ^ 28 + 2 ^ 16 }, by decide +kernel⟩,
   ⟨((withChan ready 63 { st := 3, moved := 64, desc := some { someDesc with ctl := 2 ^ 31 + 2 * 2 ^ 28 + 2 ^ 16 } }).setFlag (R.DMAG_CQq_CFG 0) F.DMAG_CQq_CFG.EN true).setReg (R.DMAG_CQq_RI 0) 1, 63, { someDesc with ctl := 2 ^ 31 + 2 * 2 ^ 28 + 2 ^ 16 }, by decide +kernel⟩,
   ⟨ready, 7, by decide +kernel⟩,
   ⟨withChan ready 63 { st := 6, cqWait := some (7, List.replicate 28 0) }, 7, 0xFFFF, 63, List.replicate 28 0, by decide +kernel⟩,
   ⟨withChan ready 63 { st := 3, moved := 64, desc := some { someDesc with ctl := 2 ^ 31 + 2 * 2 ^ 28 + 2 ^ 16 } }, 63, { someDesc with ctl := 2 ^ 31 + 2 * 2 ^ 28 + 2 ^ 16 }, by decide +kernel⟩⟩

/-- Obligations.Transfers: operands that meet the hypotheses of its clauses 1, 2, 3, 4, 5, 6, 7. -/
theorem witness_transfers :
    (∃ (s : State) (n : Nat), s.dma.tokAt + 1000000 ≤ max s.now n ∧ (∀ ch, ch < 64 → (s.chan ch).desc = none)) ∧
    (∃ (s : State) (n : Nat) (ch : Nat) (d : Desc) (w : Nat × Nat × Nat), ch < 64 ∧ (s.chan ch).desc = some d ∧ d.typ = 2 ∧ d.swap = 0 ∧ (s.chan ch).st = 3 ∧ (s.chan ch).moved = 0 ∧ (∀ i, i < d.len → (entryOf ((d.src + i) % 2 ^ 26)).all (fun e => !s.isBad e) = true) ∧ (∀ c, c < 64 → c ≠ ch → (s.chan c).desc = none) ∧ s.nextWrite ch = some w ∧ w.2.2 = d.len ∧ s.hlk.credits = none ∧ 0 < s.dma.link + (s.capacity : Int) ∧ 0 < s.capacity ∧ s.dma.tokAt + 1000000 ≤ max s.now n ∧ d.len * 32768 ≤ min ((s.chan ch).bucket + s.shareQ ch * s.capacity) (s.bucketCap ch)) ∧
    (∃ (s : State) (k : Nat), s.hlk.credits = some k ∧ (∀ ch, ch < 64 → (s.chan ch).desc = none)) ∧
    (∃ (s : State) (ch : Nat) (b : List Byte) (a : Nat) (l : Nat) (i : Nat) (d : Desc), ch < 64 ∧ (s.chan ch).rd = some (a, l, i) ∧ (s.chan ch).st = 3 ∧ b.length = l ∧ (s.chan ch).desc = some d ∧ d.typ = 3 ∧ d.len ≤ (s.chan ch).asked) ∧
    (∃ (s : State) (ch : Nat) (a : Nat) (l : Nat) (i : Nat), ch < 64 ∧ (s.chan ch).rd = some (a, l, i) ∧ (s.chan ch).tries < s.fld (R.DMAch_CFG ch) F.DMAch_CFG.RETRY) ∧
    (∃ (s : State) (ch : Nat) (a : Nat) (l : Nat) (i : Nat), ch < 64 ∧ (s.chan ch).rd = some (a, l, i) ∧ (s.chan ch).desc = none ∧ s.fld (R.DMAch_CFG ch) F.DMAch_CFG.RETRY ≤ (s.chan ch).tries) ∧
    (∃ (s : State) (ch : Nat) (n : Nat) (a : Nat) (l : Nat) (i : Nat), ch < 64 ∧ (s.chan ch).rd = some (a, l, i) ∧ i + s.cplTimeout ≤ max s.now n ∧ (s.chan ch).tries < s.fld (R.DMAch_CFG ch) F.DMAch_CFG.RETRY) :=
  ⟨⟨ready, 1000000, by decide +kernel⟩,
   ⟨(withChan linked 63 { st := 3, desc := some someDesc }).setReg (R.DMAch_RATE 63) 0x1100, 1000000, 63, someDesc, (0x1000, 0, 64), by decide +kernel⟩,
   ⟨{ ready with hlk := { credits := some 0 } }, 0, by decide +kernel⟩,
   ⟨withChan ready 63 { st := 3, desc := some { someDesc with ctl := 2 ^ 31 + 3 * 2 ^ 28 }, asked := 64, rd := some (0x40, 4, 0) }, 63, [1, 2, 3, 4], 0x40, 4, 0, { someDesc with ctl := 2 ^ 31 + 3 * 2 ^ 28 }, by decide +kernel⟩,
   ⟨(withChan ready 63 { rd := some (0x40, 4, 0) }).setFld (R.DMAch_CFG 63) F.DMAch_CFG.RETRY 1, 63, 0x40, 4, 0, by decide +kernel⟩,
   ⟨(withChan ready 63 { rd := some (0x40, 4, 0) }).setFld (R.DMAch_CFG 63) F.DMAch_CFG.RETRY 0, 63, 0x40, 4, 0, by decide +kernel⟩,
   ⟨(withChan ready 63 { rd := some (0x40, 4, 0) }).setFld (R.DMAch_CFG 63) F.DMAch_CFG.RETRY 1, 63, 4 * 10 ^ 10, 0x40, 4, 0, by decide +kernel⟩⟩

/-- Obligations.ChannelCommands: operands that meet the hypotheses of its clauses 1, 2, 3, 4, 5, 6, 7, 8, 9. -/
theorem witness_channelCommands :
    (∃ (s : State) (ch : Nat), ch < 64 ∧ s.accepts (P.DMAch ch) = true ∧ s.chr.safe = false ∧ (s.chan ch).st = 4 ∧ s.pend = []) ∧
    (∃ (s : State) (ch : Nat), ch < 64 ∧ s.accepts (P.DMAch ch) = true ∧ s.chr.safe = false ∧ (s.chan ch).st = 7 ∧ s.nextAddr ch ≠ 0 ∧ s.pend = []) ∧
    (∃ (s : State) (ch : Nat) (a : Nat), ch < 64 ∧ s.accepts (P.DMAch ch) = true ∧ (s.chan ch).st = 1 ∧ 32 ≤ a ∧ a < 2 ^ 64 ∧ s.pend = []) ∧
    (∃ (s : State) (ch : Nat), ch < 64 ∧ s.accepts (P.DMAch ch) = true ∧ ((s.chan ch).st = 2 ∨ (s.chan ch).st = 3 ∨ (s.chan ch).st = 6)) ∧
    (∃ (s : State) (ch : Nat) (n : Nat), ch < 64 ∧ (s.chan ch).st = 4 ∧ s.fld (R.DMAch_CFG ch) F.DMAch_CFG.POLL ≠ 0 ∧ (s.chan ch).pollAt + s.fld (R.DMAch_CFG ch) F.DMAch_CFG.POLL * 1000000 ≤ max s.now n ∧ s.pend = []) ∧
    (∃ (s : State) (ch : Nat), ch < 64 ∧ s.accepts (P.DMAch ch) = true ∧ (s.chan ch).desc = none) ∧
    (∃ (s : State) (ch : Nat) (w : BitVec 32) (d : Desc) (r : Record) (l : List Record) (z : Nat × Nat), ch < 64 ∧ s.accepts (P.DMAch ch) = true ∧ (s.chan ch).st = 5 ∧ (s.chan ch).desc = some d ∧ d.typ = 0 ∧ d.zero = false ∧ (s.chan ch).q = r :: l ∧ s.ringOf ch d = some z ∧ (s.chan ch).rrpBad = false ∧ s.rrpOk ch w.toNat = true ∧ (r.bytes.length : Int) ≤ (((w &&& 0x3FFFFFC0#32).toNat : Int) - (s.rwp ch : Nat) - 64) % (z.2 : Nat)) ∧
    (∃ (s : State) (ch : Nat) (n : Nat), ch < 64 ∧ (s.upto n).accepts (P.DMAch ch) = true) ∧
    (∃ (s : State) (ch : Nat) (n : Nat), ch < 64 ∧ (s.upto n).accepts (P.DMAch ch) = true ∧ (s.chan ch).st = 0 ∧ s.nextAddr ch = 0) :=
  ⟨⟨withChan ready 63 { st := 4 }, 63, by decide +kernel⟩,
   ⟨(withChan ready 63 { st := 7 }).setReg64 (R.DMAch_NEXT 63) 0x40, 63, by decide +kernel⟩,
   ⟨ready, 63, 2 ^ 64 - 1, by decide +kernel⟩,
   ⟨withChan ready 63 { st := 6 }, 63, by decide +kernel⟩,
   ⟨(withChan ready 63 { st := 4 }).setFld (R.DMAch_CFG 63) F.DMAch_CFG.POLL 1, 63, 1000000, by decide +kernel⟩,
   ⟨ready, 63, by decide +kernel⟩,
   ⟨{ (withChan ready 63 { st := 5, desc := some { someDesc with ctl := 2 ^ 31 + 2 ^ 27 }, q := [⟨0, 63, 1, false, [0], false⟩] }).setReg (R.PLTG_OSs_CFG 0) (BitVec.ofNat 32 (2 ^ 31 + 63 * 2 ^ 22)) with ssc := {} }, 63, 0, { someDesc with ctl := 2 ^ 31 + 2 ^ 27 }, ⟨0, 63, 1, false, [0], false⟩, [], (0x1000, 4096), by decide +kernel⟩,
   ⟨withChan ready 63 { st := 3, desc := some someDesc }, 63, 7, by decide +kernel⟩,
   ⟨withChan ready 63 { st := 0 }, 63, 7, by decide +kernel⟩⟩

/-- Obligations.PcieLink: operands that meet the hypotheses of its clauses 1, 2, 3, 4, 5, 6, 7, 8, 9, 10. -/
theorem witness_pcieLink :
    (∃ (s : State), s.linkUp = true) ∧
    (∃ (s : State) (v : Nat) (w : Nat), s.pcieOn = true ∧ s.hlk.perst = true ∧ s.linkUp = false ∧ s.pwr.st ≠ 6 ∧ v < 8 ∧ w < 16) ∧
    (∃ (s : State), s.linkUp = true) ∧
    (∃ (s : State) (v : Nat) (w : Nat), s.linkUp = true ∧ v < 8 ∧ w < 16 ∧ (v ≠ s.fld R.HLK_LINK F.HLK_LINK.SPEED ∨ w ≠ s.fld R.HLK_LINK F.HLK_LINK.WIDTH)) ∧
    (∃ (s : State), s.pcieOn = true ∧ s.hlk.perst = true) ∧
    (∃ (s : State) (k : Nat) (a : Nat) (f : Fld), (k, a, f) ∈ [(0, R.HLK_PCNT0, F.HLK_PCNT0.MAL), (1, R.HLK_PCNT0, F.HLK_PCNT0.UR), (2, R.HLK_PCNT1, F.HLK_PCNT1.POIS), (3, R.HLK_PCNT2, F.HLK_PCNT2.UNX), (4, R.HLK_PCNT3, F.HLK_PCNT3.LCRC)] ∧ s.linkUp = true) ∧
    (∃ (s : State) (v : Nat), v < 64 ∧ s.busDark = false ∧ s.hlk.msixEn = true ∧ s.hlk.funcMask = false ∧ s.hlk.pba.getLsbD v = true) ∧
    (∃ (s : State) (l : Nat) (w : Word), l < 2 ∧ s.accepts P.HLK = true ∧ s.wlockOwn = 0 ∧ w.toNat % 4 ≠ 0) ∧
    (∃ (s : State) (l : Nat) (w : Word), l < 2 ∧ s.accepts P.HLK = true ∧ s.wlockOwn = l + 1 ∧ w.toNat % 4 = 0) ∧
    (∃ (s : State) (l : Nat) (w : Word), l < 2 ∧ s.wlockOwn ≠ 0 ∧ (s.wlockOwn ≠ l + 1 ∨ w.toNat % 4 ≠ 0)) :=
  ⟨⟨{ served.setReg R.HLK_WLOCK 1 with hlk := { st := 2, credits := some 3 } }, by decide +kernel⟩,
   ⟨ready, 7, 15, by decide +kernel⟩,
   ⟨served, by decide +kernel⟩,
   ⟨served, 7, 15, by decide +kernel⟩,
   ⟨{ served with hlk := { st := 2, msixEn := true, pba := 5, msixCtl := [(63, 0)] } }, by decide +kernel⟩,
   ⟨served, 1, R.HLK_PCNT0, F.HLK_PCNT0.UR, by decide +kernel⟩,
   ⟨{ ready with hlk := { msixEn := true, pba := BitVec.ofNat 64 (2 ^ 63 + 1) } }, 63, by decide +kernel⟩,
   ⟨ready, 1, 3, by decide +kernel⟩,
   ⟨ready.setReg R.HLK_WLOCK 2, 1, 0xFFFFFFFC, by decide +kernel⟩,
   ⟨ready.setReg R.HLK_WLOCK 2, 0, 0, by decide +kernel⟩⟩

/-- Obligations.HostRequests: operands that meet the hypotheses of its clauses 1, 2, 3, 4, 5, 6, 7, 8, 9, 10, 11. -/
theorem witness_hostRequests :
    (∃ (s : State) (a : Nat) (be : List Nat) (n : Nat), s.linkUp = true ∧ s.hlk.d3hot = false ∧ a % 4 = 0 ∧ 0 < be.length ∧ be.length ≤ 16 ∧ a + 4 * be.length ≤ 2 ^ 24 ∧ (∀ i, i < be.length → (s.upto n).readEffect (a + 4 * i) = s.upto n)) ∧
    (∃ (s : State) (a : Nat) (v : Word) (w : Word) (n : Nat), s.linkUp = true ∧ s.hlk.d3hot = false ∧ a % 4 = 0 ∧ a + 8 ≤ 2 ^ 24 ∧ (s.upto n).badWrite 0 a v = false ∧ ((s.upto n).busWrite 0 a v).badWrite 0 (a + 4) w = false) ∧
    (∃ (s : State) (a : Nat) (b : Nat) (n : Nat), s.linkUp = true ∧ s.hlk.d3hot = false ∧ a % 4 = 0 ∧ a < 2 ^ 24 ∧ b ≠ 15 ∧ (s.upto n).busDark = false) ∧
    (∃ (s : State) (a : Nat) (be : List Nat) (n : Nat), s.linkUp = true ∧ s.hlk.d3hot = false ∧ a % 4 = 0 ∧ 16 < be.length ∧ a + 4 * be.length ≤ 2 ^ 24 ∧ (s.upto n).busDark = false) ∧
    (∃ (s : State) (a : Nat) (be : List Nat), s.linkUp = true ∧ s.hlk.d3hot = false ∧ a % 4 = 0 ∧ 16 < be.length ∧ a + 4 * be.length ≤ 2 ^ 24) ∧
    (∃ (s : State) (a : Nat) (be : List Nat), s.linkUp = true ∧ a % 4 = 0 ∧ be ≠ [] ∧ (s.hlk.d3hot = true ∨ 2 ^ 24 < a + 4 * be.length)) ∧
    (∃ (s : State) (a : Nat) (n : Nat), s.linkUp = true ∧ s.hlk.d3hot = false ∧ a < 0x2800000 ∧ a % 8 = 0 ∧ s.isBad a = false ∧ (s.upto n).busDark = false ∧ s.pwr.st ≠ 6) ∧
    (∃ (s : State) (a : Nat) (n : Nat), s.linkUp = true ∧ s.hlk.d3hot = false ∧ a < 0x2800000 ∧ a % 8 = 0 ∧ (s.upto n).busDark = false ∧ s.pwr.st ≠ 6 ∧ (s.wlockOwn = 0 ∨ s.wlockOwn = 1)) ∧
    (∃ (s : State) (a : Nat) (n : Nat), s.linkUp = true ∧ s.hlk.d3hot = false ∧ a < 2 ^ 26 ∧ a % 4 = 0 ∧ (s.upto n).busDark = false ∧ s.wlockOwn = 2) ∧
    (∃ (s : State) (a : Nat) (n : Nat), s.linkUp = true ∧ a < 0x1000 ∧ a % 4 = 0 ∧ s.hlk.perstAt + 20000000000 ≤ max s.now n) ∧
    (∃ (s : State) (n : Nat), s.linkUp = true ∧ s.hlk.perstAt + 20000000000 ≤ max s.now n) :=
  ⟨⟨served, 2 ^ 24 - 64, List.replicate 16 15, 7, by decide +kernel⟩,
   ⟨served, R.CDRx_MVEL 0, 5, 6, 7, by decide +kernel⟩,
   ⟨served, 2 ^ 24 - 4, 14, 7, by decide +kernel⟩,
   ⟨served, 2 ^ 24 - 68, List.replicate 17 15, 7, by decide +kernel⟩,
   ⟨served, 2 ^ 24 - 68, List.replicate 17 15, by decide +kernel⟩,
   ⟨served, 2 ^ 24, [15], by decide +kernel⟩,
   ⟨served, 0x27FFFF8, 7, by decide +kernel⟩,
   ⟨served, 0x27FFFF8, 7, by decide +kernel⟩,
   ⟨served.setReg R.HLK_WLOCK 2, 2 ^ 26 - 4, 7, by decide +kernel⟩,
   ⟨served, 0, 7, by decide +kernel⟩,
   ⟨served, 7, by decide +kernel⟩⟩

/-- Obligations.SpiFrames: operands that meet the hypotheses of its clauses 1, 2, 3, 4, 5, 6, 7, 8. -/
theorem witness_spiFrames :
    (∃ (s : State) (a : Nat) (k : Nat) (n : Nat), s.spiOn = true ∧ s.pwr.porst = false ∧ s.pwr.st ≠ 6 ∧ a < 2 ^ 24 ∧ a % 4 = 0 ∧ k < 32 ∧ (∀ x, x ∈ frameAddrs a (k + 1) (2 ^ 24) → (s.upto n).readEffect x = s.upto n)) ∧
    (∃ (s : State) (c : Instr) (f : List Byte) (l : Bool) (n : Nat), c ∈ [Instr.spiRead f l n, .spiWrite f l n, .spiNoAccess f l n] ∧ s.spiOn = true ∧ s.pwr.porst = false ∧ frameBody f + 4 ≤ f.length ∧ (crc32 (f.take (frameBody f))).toNat ≠ beNat ((f.drop (frameBody f)).take 4)) ∧
    (∃ (s : State) (x : Nat) (n : Nat), s.spiOn = true ∧ s.pwr.porst = false ∧ x < 4 ∧ (s.upto n).accepts (P.CDRx x) = true ∧ (s.wlockOwn = 0 ∨ s.wlockOwn = 2)) ∧
    (∃ (s : State) (a : Nat), s.spiOn = true ∧ s.pwr.porst = false ∧ s.pwr.st ≠ 6 ∧ a < 2 ^ 24 ∧ a % 4 = 0 ∧ a ≠ R.HLK_WLOCK ∧ s.wlockOwn = 1) ∧
    (∃ (s : State) (a : Nat) (k : Nat), s.spiOn = true ∧ s.pwr.porst = false ∧ a < 2 ^ 32 ∧ k < 64) ∧
    (∃ (s : State), s.spiOn = true ∧ s.pwr.porst = false) ∧
    (∃ (s : State) (k : Nat), s.spiOn = true ∧ s.pwr.porst = false ∧ 2 ≤ k) ∧
    (∃ (s : State) (c : Instr) (f : List Byte) (l : Bool) (n : Nat) (k : Nat), c ∈ [Instr.spiRead f l n, .spiWrite f l n, .spiNoAccess f l n, .spiShortFrame k] ∧ s.spiOn = false) :=
  ⟨⟨ready, 2 ^ 24 - 4, 31, 7, by decide +kernel⟩,
   ⟨ready, .spiWrite (List.replicate 13 (0x40 : Byte)) false 7, List.replicate 13 (0x40 : Byte), false, 7, by decide +kernel⟩,
   ⟨ready, 3, 7, by decide +kernel⟩,
   ⟨ready.setReg R.HLK_WLOCK 1, 2 ^ 24 - 4, by decide +kernel⟩,
   ⟨ready, 2 ^ 32 - 1, 63, by decide +kernel⟩,
   ⟨ready, by decide +kernel⟩,
   ⟨ready, 2, by decide +kernel⟩,
   ⟨{ ready with straps := 1 }, .spiShortFrame 2, [], false, 7, 2, by decide +kernel⟩⟩

/-- Obligations.EventRoutes: operands that meet the hypotheses of its clauses 1, 2, 3, 4, 5, 6, 7, 8, 9, 10, 11. -/
theorem witness_eventRoutes :
    (∃ (s : State), s.accepts P.EVF = true) ∧
    (∃ (s : State) (p : Nat), p ∈ s.flight ∧ (s.producerGated p = true ∨ s.flag (R.EVF_PUBp p) F.EVF_PUBp.EN = false ∨ s.masked (s.fld (R.EVF_PUBp p) F.EVF_PUBp.CH) = true)) ∧
    (∃ (s : State) (p : Nat) (c : Nat) (a : Nat) (n : Nat), p ∈ s.flight ∧ s.producerGated p = false ∧ s.flag (R.EVF_PUBp p) F.EVF_PUBp.EN = true ∧ s.fld (R.EVF_PUBp p) F.EVF_PUBp.CH = c ∧ s.masked c = false ∧ (s.flag R.EVF_CTL F.EVF_CTL.COMPAT = false ∨ s.chFlag c F.EVF_CHc.SEC = false ∨ p < 80 ∨ 87 < p) ∧ tabFind s.evf.lastPass c = some a ∧ max s.now n < a + 10000) ∧
    (∃ (s : State) (p : Nat) (c : Nat) (n : Nat), passes s p c n = true ∧ onlyTask s c 96 = true ∧ tabGet 0 s.evf.window c < s.runawayN) ∧
    (∃ (s : State) (p : Nat) (c : Nat) (n : Nat), passes s p c n = true ∧ onlyTask s c 96 = true ∧ s.runawayN ≤ tabGet 0 s.evf.window c ∧ s.chFlag c F.EVF_CHc.NOGUARD = false) ∧
    (∃ (s : State) (p : Nat) (c : Nat) (i : Nat) (n : Nat), passes s p c n = true ∧ i < 16 ∧ onlyTask s c (80 + i) = true ∧ tabGet 0 s.evf.window c < s.runawayN ∧ tabFind s.evf.ranAt (80 + i) = none) ∧
    (∃ (s : State) (p : Nat) (c : Nat) (k : Nat) (n : Nat), passes s p c n = true ∧ k < 16 ∧ onlyTask s c k = true ∧ tabGet 0 s.evf.window c < s.runawayN ∧ s.evoMode k = 1 ∧ (s.upto n).evoBusy k = false) ∧
    (∃ (s : State) (p : Nat) (c : Nat) (k : Nat) (n : Nat), passes s p c n = true ∧ k < 16 ∧ onlyTask s c k = true ∧ tabGet 0 s.evf.window c < s.runawayN ∧ (s.upto n).evoBusy k = true) ∧
    (∃ (s : State) (p : Nat) (c : Nat) (i : Nat) (n : Nat), passes s p c n = true ∧ i < 16 ∧ onlyTask s c (30 + i) = true ∧ tabGet 0 s.evf.window c < s.runawayN ∧ s.asleep = false ∧ tabFind s.evf.ranAt (30 + i) = none ∧ tabFind s.evf.capAt i = none) ∧
    (∃ (s : State) (p : Nat) (c : Nat) (n : Nat), passes s p c n = true ∧ onlyTask s c 47 = true ∧ tabGet 0 s.evf.window c < s.runawayN ∧ tabFind s.evf.ranAt 47 = none ∧ (s.pwr.st = 4 ∨ s.pwr.st = 6)) ∧
    (∃ (s : State) (n : Nat), s.evf.winAt + 10000000 ≤ max s.now n) :=
  ⟨⟨ready, by decide +kernel⟩,
   ⟨{ ready with flight := [152] }, 152, by decide +kernel⟩,
   ⟨{ pulsed with evf := { lastPass := [(63, 0)] } }, 87, 63, 0, 9999, by decide +kernel⟩,
   ⟨pulsed, 87, 63, 10000, by decide +kernel⟩,
   ⟨{ pulsed with evf := { window := [(63, 128)] } }, 87, 63, 7, by decide +kernel⟩,
   ⟨heard 95, 87, 63, 15, 7, by decide +kernel⟩,
   ⟨(heard 15).setReg (R.EVF_EVOk 15) 0x00FF0001, 87, 63, 15, 7, by decide +kernel⟩,
   ⟨{ (heard 15).setReg (R.EVF_EVOk 15) 0x00FF0001 with evf := { evo := [(15, (true, some 100))] } }, 87, 63, 15, 7, by decide +kernel⟩,
   ⟨heard 45, 87, 63, 15, 7, by decide +kernel⟩,
   ⟨{ heard 47 with pwr := { ready.pwr with st := 4 } }, 87, 63, 7, by decide +kernel⟩,
   ⟨{ ready with evf := { window := [(63, 128)] } }, 10000000, by decide +kernel⟩⟩

/-- Obligations.CellsAndLocks: operands that meet the hypotheses of its clauses 1, 2, 4, 5, 6, 7, 8, 9, 10, 11. -/
theorem witness_cellsAndLocks :
    (∃ (s : State) (k : Nat), k < 16 ∧ s.evf.cells = [] ∧ (∀ j, j < 32 → s.reg (R.EVF_LCn_CFG j) = 0)) ∧
    (∃ (k : Nat), k < 16) ∧
    (∃ (s : State) (j : Nat) (n : Nat), j < 32 ∧ (s.cell j).f ≠ (s.cell j).g ∧ s.cellFilt j ≠ 0 ∧ (s.cell j).since + s.cellFilt j * 1000 ≤ max s.now n) ∧
    (∃ (s : State) (k : Nat) (e : Nat) (n : Nat), k < 16 ∧ (s.evo k).2 = some e ∧ e ≤ max s.now n + 2000) ∧
    (∃ (s : State) (c : Nat), c < 64 ∧ s.accepts P.EVF = true ∧ s.chNotHost c = false) ∧
    (∃ (s : State) (c : Nat), c < 64 ∧ s.accepts P.EVF = true ∧ s.chNotHost c = true ∧ s.chLocked c = false) ∧
    (∃ (s : State) (c : Nat), c < 64 ∧ s.accepts P.EVF = true ∧ s.kwAllowed P.EVF = true ∧ s.chNotHost c = false) ∧
    (∃ (s : State) (j : Nat), j < 32 ∧ s.accepts P.EVF = true ∧ s.kwAllowed P.EVF = true) ∧
    (∃ (s : State) (p : Nat) (c : Nat), p < 153 ∧ c < 64 ∧ s.accepts P.EVF = true ∧ s.wlockOwn = 0 ∧ s.chLocked c = true) ∧
    (∃ (s : State) (j : Nat), j < 32 ∧ s.accepts P.EVF = true ∧ s.wlockOwn = 0 ∧ s.cellLocked j = true) :=
  ⟨⟨ready.setReg (R.EVF_EVIk 15) 1, 15, by decide +kernel⟩,
   ⟨15, by decide +kernel⟩,
   ⟨{ ready.setReg (R.EVF_LCn_CFG 31) 0x5555FF20 with evf := { cells := [(31, { f := true })] } }, 31, 255000, by decide +kernel⟩,
   ⟨{ ready with evf := { evo := [(15, (true, some 100))] } }, 15, 100, 7, by decide +kernel⟩,
   ⟨ready.setReg (R.EVF_CHc 63) 0xE000000F, 63, by decide +kernel⟩,
   ⟨(ready.setReg (R.EVF_CHc 63) 0x40000009).setReg R.EVF_CTL 0x80000080, 63, by decide +kernel⟩,
   ⟨unlocked ready P.EVF, 63, by decide +kernel⟩,
   ⟨unlocked ready P.EVF, 31, by decide +kernel⟩,
   ⟨ready.setReg (R.EVF_CHc 63) 0x80000000, 152, 63, by decide +kernel⟩,
   ⟨ready.setReg (R.EVF_LCn_CFG 31) 2, 31, by decide +kernel⟩⟩

/-- Obligations.FaultLog: operands that meet the hypotheses of its clauses 1, 2, 3, 4, 5, 6, 7, 8. -/
theorem witness_faultLog :
    (∃ (code : Nat) (item : Nat), code ∈ plainCodes ∧ item < 16) ∧
    (∃ (s : State) (code : Nat) (item : Nat) (i : Nat), code ∈ plainCodes ∧ faultSev code ≠ 2 ∧ item < 16 ∧ openEntry s.chr.log code item = none ∧ freeEntry s.chr.log = some i) ∧
    (∃ (s : State) (code : Nat) (item : Nat) (i : Nat) (e : LogEntry), code ∈ plainCodes ∧ faultSev code ≠ 2 ∧ item < 16 ∧ openEntry s.chr.log code item = some (i, e)) ∧
    (∃ (s : State) (code : Nat) (item : Nat), code ∈ plainCodes ∧ faultSev code ≠ 2 ∧ item < 16 ∧ openEntry s.chr.log code item = none ∧ freeEntry s.chr.log = none ∧ (tabFind s.chr.log s.chr.wptr).isSome = true) ∧
    (∃ (s : State), s.accepts P.CHR = true) ∧
    (∃ (s : State), s.accepts P.CHR = true ∧ tabSorted s.chr.log = true) ∧
    (∃ (s : State) (w : Word) (e : LogEntry), s.accepts P.CHR = true ∧ tabFind s.chr.log (w.toNat % 64) = some e ∧ e.code < 2 ^ 16 ∧ e.sev < 4 ∧ e.inst < 256 ∧ e.count < 2 ^ 16 ∧ e.item < 2 ^ 16) ∧
    (∃ (s : State) (w : Word), s.accepts P.CHR = true ∧ tabFind s.chr.log (w.toNat % 64) = none) :=
  ⟨⟨0x1302, 15, by decide +kernel⟩,
   ⟨ready, 0x1803, 15, 0, by decide +kernel⟩,
   ⟨{ ready with chr := { log := [(63, ⟨0, 0, 0, 0x1803, 1, false, 0, 65535, 15⟩)] } }, 0x1803, 15, 63, ⟨0, 0, 0, 0x1803, 1, false, 0, 65535, 15⟩, by decide +kernel⟩,
   ⟨{ ready with chr := { log := fullLog, wptr := 63 } }, 0x1803, 15, by decide +kernel⟩,
   ⟨{ ready with chr := { unack := [(0x1803, 0, 1), (0x1804, 0, 3)], log := [(0, ⟨0, 0, 0, 0x1803, 1, false, 0, 1, 0⟩), (1, ⟨0, 0, 0, 0x1804, 3, false, 0, 1, 0⟩)] } }, by decide +kernel⟩,
   ⟨{ ready with chr := { log := [(0, ⟨0, 0, 0, 0x1803, 1, true, 0, 1, 0⟩)] } }, by decide +kernel⟩,
   ⟨{ ready with chr := { log := [(63, ⟨2 ^ 40, 2 ^ 41, 2 ^ 42, 0x1803, 3, true, 255, 65535, 65535⟩)] } }, 63, ⟨2 ^ 40, 2 ^ 41, 2 ^ 42, 0x1803, 3, true, 255, 65535, 65535⟩, by decide +kernel⟩,
   ⟨ready, 63, by decide +kernel⟩⟩

/-- Obligations.TimeAndDeadlines: operands that meet the hypotheses of its clauses 1, 2, 3, 4, 5, 6, 7. -/
theorem witness_timeAndDeadlines :
    (∃ (s : State), s.accepts P.CHR = true ∧ s.ssc.st = 0 ∧ s.pwr.st ≠ 6) ∧
    (∃ (s : State), s.accepts P.CHR = true ∧ s.ssc.st = 0) ∧
    (∃ (s : State) (c : Instr) (v : Nat), c ∈ [Instr.tsloadWrite v, .lineCounterWrite v] ∧ s.accepts P.CHR = true ∧ s.ssc.st ≠ 0) ∧
    (∃ (s : State) (line : Nat) (n : Nat) (v : Dlv), tabFind s.ssc.job.dlv line = some v ∧ v.missed = false ∧ (s.upto n).lateLine line = true ∧ (s.upto n).lateHost line v = true) ∧
    (∃ (s : State) (line : Nat) (n : Nat) (v : Dlv), tabFind s.ssc.job.dlv line = some v ∧ v.missed = false ∧ (s.upto n).lateLine line = true ∧ (s.upto n).lateHost line v = false) ∧
    (∃ (s : State) (line : Nat) (n : Nat), (s.upto n).lateLine line = false) ∧
    (∃ (s : State) (tr : Trig) (rest : List Trig), s.mer.transit = tr :: rest ∧ tr.preroll = false ∧ 3 ≤ s.ssc.st ∧ s.ssc.st ≤ 6 ∧ s.numberLost tr = false ∧ s.mer.latch = none ∧ s.fld R.SSC_NLINES F.SSC_NLINES.N = 0 ∧ s.chr.line = 2 ^ 64 - 1) :=
  ⟨⟨{ ready with now := 5000000 }, by decide +kernel⟩,
   ⟨ready, by decide +kernel⟩,
   ⟨withSsc ready 1, .lineCounterWrite 5, 5, by decide +kernel⟩,
   ⟨{ owing with ssc := { owing.ssc with job := { owing.ssc.job with dlv := [(1, { host := true })] } } }, 1, 10 ^ 15, { host := true }, by decide +kernel⟩,
   ⟨withChan owing 0 { st := 3, desc := some someDesc }, 1, 10 ^ 15, {}, by decide +kernel⟩,
   ⟨ready, 1, 7, by decide +kernel⟩,
   ⟨{ triggered with chr := { triggered.chr with line := 2 ^ 64 - 1 } }, someTrig, [], by decide +kernel⟩⟩

/-- Obligations.WarmResets: operands that meet the hypotheses of its clauses 1, 2. -/
theorem witness_warmResets :
    (∃ (s : State), s.accepts P.GLB = true ∧ s.kwAllowed P.GLB = true) ∧
    (∃ (s : State), s.pcieOn = true ∧ s.pwr.porst = false ∧ s.pwr.dark = false) :=
  ⟨⟨unlocked ready P.GLB, by decide +kernel⟩,
   ⟨ready, by decide +kernel⟩⟩

/-- Obligations.PowerStates: operands that meet the hypotheses of its clauses 1, 2, 3, 4, 5, 6, 7, 8, 9, 10. -/
theorem witness_powerStates :
    (∃ (s : State), s.accepts P.PWR = true ∧ s.sleepRefused = false ∧ s.pwr.st = 1) ∧
    (∃ (s : State), s.accepts P.PWR = true ∧ s.sleepRefused = true) ∧
    (∃ (s : State), s.accepts P.PWR = true ∧ s.sleepRefused = false ∧ s.pwr.st = 1) ∧
    (∃ (s : State), s.accepts P.PWR = true ∧ 3 ≤ s.pwr.st ∧ s.pwr.st ≤ 6) ∧
    (∃ (s : State), s.pwr.st = 3 ∧ s.pwr.step = 3 ∧ (∀ ch, ch < 64 → (s.chan ch).st ≠ 2 ∧ (s.chan ch).st ≠ 3)) ∧
    (∃ (s : State), s.pwr.st = 3 ∧ s.pwr.step = 4) ∧
    (∃ (s : State), s.pwr.st = 7) ∧
    (∃ (s : State), s.flag R.PWR_CFG F.PWR_CFG.D3SB = true ∧ s.sleepRefused = false ∧ s.pwr.st = 1) ∧
    (∃ (s : State), s.pwr.byD3 = true ∧ s.pwr.st = 4) ∧
    (∃ (s : State), s.pcieOn = true ∧ s.pwr.st ≠ 6) :=
  ⟨⟨ready, by decide +kernel⟩,
   ⟨withSsc ready 3, by decide +kernel⟩,
   ⟨ready, by decide +kernel⟩,
   ⟨{ ready with pwr := { st := 3 } }, by decide +kernel⟩,
   ⟨{ ready with pwr := { st := 3, step := 3 } }, by decide +kernel⟩,
   ⟨{ ready with pwr := { st := 3, step := 4 } }, by decide +kernel⟩,
   ⟨{ ready with pwr := { st := 7, src := 3 } }, by decide +kernel⟩,
   ⟨ready.setFlag R.PWR_CFG F.PWR_CFG.D3SB true, by decide +kernel⟩,
   ⟨{ ready with pwr := { st := 4, byD3 := true } }, by decide +kernel⟩,
   ⟨ready, by decide +kernel⟩⟩

/-- Obligations.SuppliesAndReference: operands that meet the hypotheses of its clauses 1, 2, 4, 5. -/
theorem witness_suppliesAndReference :
    (∃ (s : State) (b : Nat) (up : Bool), b < 4 ∧ bit (s.fld R.PWR_STAT F.PWR_STAT.VSOK) b = !up) ∧
    (∃ (s : State), s.mer.lock = false) ∧
    (∃ (i : Nat), 50 ≤ i ∧ i ≤ 55) ∧
    (∃ (i : Nat), 56 ≤ i ∧ i ≤ 59) :=
  ⟨⟨ready.setFld R.PWR_STAT F.PWR_STAT.VSOK 15, 3, false, by decide +kernel⟩,
   ⟨{ ready with mer := {} }, by decide +kernel⟩,
   ⟨50, by decide +kernel⟩,
   ⟨59, by decide +kernel⟩⟩

/-- Obligations.SafeState: operands that meet the hypotheses of its clauses 1, 2, 3. -/
theorem witness_safeState :
    (∃ (s : State), s.accepts P.CHR = true ∧ s.kwAllowed P.CHR = true) ∧
    (∃ (s : State), s.accepts P.CHR = true ∧ s.kwAllowed P.CHR = true ∧ s.chr.safe = true ∧ s.hel.st = .safe) ∧
    (∃ (s : State) (hot : Nat) (bad : Nat), s.accepts P.CHR = true ∧ s.kwAllowed P.CHR = true ∧ s.chr.safe = true ∧ (hot % 16 ≠ 0 ∨ bad % 64 ≠ 0)) :=
  ⟨⟨unlocked ready P.CHR, by decide +kernel⟩,
   ⟨{ unlocked ready P.CHR with chr := { safe := true }, hel := { st := .safe } }, by decide +kernel⟩,
   ⟨{ unlocked ready P.CHR with chr := { safe := true } }, 8, 0, by decide +kernel⟩⟩

/-- Obligations.BootSteps: operands that meet the hypotheses of its clauses 1, 2, 3, 4, 5, 6. -/
theorem witness_bootSteps :
    (∃ (s : State), s.pwr.porst = true) ∧
    (∃ (s : State) (gb : Nat), s.pwr.st = 0 ∧ s.pwr.trained = false ∧ gb ≠ 0) ∧
    (∃ (s : State), s.pwr.st = 0 ∧ s.pwr.trained = false) ∧
    (∃ (s : State), s.pwr.st = 0 ∧ s.pwr.trained = true ∧ s.pwr.started = false ∧ s.sec.st = 0 ∧ bit s.straps 2 = true) ∧
    (∃ (s : State), s.pwr.st = 0 ∧ s.pwr.trained = true ∧ s.pwr.started = false ∧ s.sec.st = 0 ∧ bit s.straps 2 = false) ∧
    (∃ (s : State), s.pwr.st = 0 ∧ s.pwr.started = true ∧ s.pwr.trained = true ∧ s.pwr.src = 0) :=
  ⟨⟨booting { porst := true }, by decide +kernel⟩,
   ⟨booting {}, 31, by decide +kernel⟩,
   ⟨booting {}, by decide +kernel⟩,
   ⟨{ booting { trained := true } with straps := 4 }, by decide +kernel⟩,
   ⟨booting { trained := true }, by decide +kernel⟩,
   ⟨booting { trained := true, started := true }, by decide +kernel⟩⟩

/-- Obligations.Mailbox: operands that meet the hypotheses of its clauses 1, 2, 3, 4, 5, 6, 7. -/
theorem witness_mailbox :
    (∃ (s : State), s.accepts P.GLB = true ∧ s.sec.mbx = none) ∧
    (∃ (s : State), s.accepts P.GLB = true ∧ s.sec.mbx = none) ∧
    (∃ (s : State), s.accepts P.GLB = true ∧ s.sec.mbx = none) ∧
    (∃ (s : State), s.accepts P.GLB = true ∧ s.sec.mbx = none) ∧
    (∃ (s : State) (w : Nat × Nat), s.accepts P.GLB = true ∧ s.sec.mbx = some w) ∧
    (∃ (s : State) (q : Nat) (c : Nat), s.sec.mbx = some (q, c) ∧ s.sec.paused = false ∧ 4 ≤ c ∧ q < 256) ∧
    (∃ (s : State) (q : Nat), s.sec.mbx = some (q, 1) ∧ s.sec.paused = false ∧ q < 256) :=
  ⟨⟨ready, by decide +kernel⟩,
   ⟨ready, by decide +kernel⟩,
   ⟨ready, by decide +kernel⟩,
   ⟨ready, by decide +kernel⟩,
   ⟨{ ready with sec := { mbx := some (3, 1) } }, (3, 1), by decide +kernel⟩,
   ⟨{ ready with sec := { mbx := some (255, 4), paused := false } }, 255, 4, by decide +kernel⟩,
   ⟨{ ready with sec := { mbx := some (255, 1), paused := false, run := 0, slots := [(0, { bytes := List.replicate 64 (7 : Byte) })] } }, 255, by decide +kernel⟩⟩

/-- Obligations.DebugAndAttestation: operands that meet the hypotheses of its clauses 1, 2, 3, 4, 5, 6, 7, 8, 9, 10. -/
theorem witness_debugAndAttestation :
    (∃ (s : State), s.accepts P.SEC = true ∧ s.kwAllowed P.SEC = true) ∧
    (∃ (s : State), s.accepts P.SEC = true ∧ s.kwAllowed P.SEC = true ∧ s.sec.field = false) ∧
    (∃ (s : State), s.accepts P.SEC = true ∧ s.kwAllowed P.SEC = true ∧ s.sec.field = true) ∧
    (∃ (s : State), s.accepts P.SEC = true) ∧
    (∃ (s : State) (l : List Word) (n : Nat), s.accepts P.SEC = true ∧ l.length = 8 ∧ s.sec.refused ≤ max s.now n) ∧
    (∃ (s : State) (n : Nat), s.accepts P.SEC = true ∧ max s.now n < s.sec.refused) ∧
    (∃ (s : State), s.accepts P.SEC = true) ∧
    (∃ (s : State), s.accepts P.SEC = true ∧ 8 ≤ s.sec.loose.length) ∧
    (∃ (s : State) (c : List Byte), s.sec.attest = some c) ∧
    (∃ (s : State) (w : Word) (l : List Word), s.accepts P.SEC = true ∧ s.sec.report = w :: l) :=
  ⟨⟨secure {}, by decide +kernel⟩,
   ⟨secure {}, by decide +kernel⟩,
   ⟨secure { field := true }, by decide +kernel⟩,
   ⟨secure { scopes := 15 }, by decide +kernel⟩,
   ⟨secure { refused := 7 }, (List.range 8).map (BitVec.ofNat 32), 7, by decide +kernel⟩,
   ⟨secure { refused := 8 }, 7, by decide +kernel⟩,
   ⟨secure { wait := 64, scopes := 1 }, by decide +kernel⟩,
   ⟨secure { loose := List.replicate 8 (5 : Word) }, by decide +kernel⟩,
   ⟨secure { attest := some [1, 2] }, [1, 2], by decide +kernel⟩,
   ⟨secure { report := [5, 6] }, 5, [6], by decide +kernel⟩⟩

/-- Obligations.ImageLoading: operands that meet the hypotheses of its clauses 1, 2, 4, 5, 6, 7, 8. -/
theorem witness_imageLoading :
    (∃ (s : State) (w : Word), s.accepts P.SEC = true ∧ s.kwAllowed P.SEC = true ∧ s.sec.load = none ∧ s.sec.verify = none ∧ bits w.toNat 5 4 ≠ s.sec.run ∧ bits w.toNat 5 4 ≠ 3 ∧ s.fld R.SEC_LEN F.SEC_LEN.BYTES % 4 = 0 ∧ s.fld R.SEC_LEN F.SEC_LEN.BYTES ≤ 8388608) ∧
    (∃ (s : State) (w : Word), s.accepts P.SEC = true ∧ s.kwAllowed P.SEC = true ∧ bits w.toNat 5 4 = s.sec.run) ∧
    (∃ (s : State) (i : Nat) (k : Nat), s.accepts P.SEC = true ∧ s.sec.load = some (i, k) ∧ 4 * k < (s.slot i).len ∧ s.sec.buf.length < 1024) ∧
    (∃ (s : State) (i : Nat) (k : Nat), s.accepts P.SEC = true ∧ s.sec.load = some (i, k) ∧ ((s.slot i).len ≤ 4 * k ∨ 1024 ≤ s.sec.buf.length)) ∧
    (∃ (s : State) (i : Nat) (j : Nat), s.sec.load = some (i, j) ∧ s.sec.erasing = false) ∧
    (∃ (s : State) (w : Word), s.accepts P.SEC = true ∧ bits w.toNat 5 4 ≠ 3 ∧ s.sec.verify = none) ∧
    (∃ (s : State) (x : Nat × Nat), s.accepts P.SEC = true ∧ s.sec.load = some x ∧ s.alm.saveDue = false) :=
  ⟨⟨(secure { run := 0 }).setFld R.SEC_LEN F.SEC_LEN.BYTES 8388608, slotWord 1, by decide +kernel⟩,
   ⟨secure { run := 1 }, slotWord 1, by decide +kernel⟩,
   ⟨secure { load := some (1, 1), slots := [(1, { len := 8 })], buf := List.replicate 1023 (5 : Word) }, 1, 1, by decide +kernel⟩,
   ⟨secure { load := some (1, 2), slots := [(1, { len := 8 })] }, 1, 2, by decide +kernel⟩,
   ⟨secure { load := some (1, 2), slots := [(1, { len := 8 })], buf := [5, 6] }, 1, 2, by decide +kernel⟩,
   ⟨secure {}, slotWord 2, by decide +kernel⟩,
   ⟨secure { load := some (1, 2) }, (1, 2), by decide +kernel⟩⟩

/-- Obligations.ImageOutcomes: operands that meet the hypotheses of its clauses 1, 2, 3, 4, 5, 6, 7. -/
theorem witness_imageOutcomes :
    (∃ (s : State) (i : Nat), s.sec.verify = some i ∧ s.sec.buf = [] ∧ s.sec.erasing = false ∧ s.sec.load = none ∧ i < 4 ∧ s.sec.st ≠ 1) ∧
    (∃ (s : State), s.accepts P.SEC = true ∧ s.kwAllowed P.SEC = true ∧ s.sec.run ≠ 3) ∧
    (∃ (s : State) (w : Word), s.accepts P.SEC = true ∧ s.kwAllowed P.SEC = true ∧ (s.slot (bits w.toNat 5 4)).passed = true ∧ bits w.toNat 5 4 ≠ 3 ∧ s.sec.swap = none) ∧
    (∃ (s : State) (w : Word), s.accepts P.SEC = true ∧ s.kwAllowed P.SEC = true ∧ (s.slot (bits w.toNat 5 4)).passed = false) ∧
    (∃ (s : State) (i : Nat), s.sec.swap = some i ∧ s.sec.stopped = false ∧ s.mer.cycle = false) ∧
    (∃ (s : State) (n : Nat) (i : Nat), s.sec.swap = some i ∧ s.sec.stopped = true ∧ s.sec.stopAt + 5000000000 ≤ max s.now n ∧ s.sec.run ≠ 3) ∧
    (∃ (s : State) (i : Nat), s.sec.stopped = true ∧ s.sec.swap = some i ∧ i < 2 ∧ s.pwr.started = true ∧ s.col.req = 0 ∧ s.alm.saveDue = false ∧ s.sec.deferred = []) :=
  ⟨⟨secure { verify := some 3, st := 2 }, 3, by decide +kernel⟩,
   ⟨secure { run := 2, slots := [(2, { bytes := List.replicate 256 (0x55 : Byte) })] }, by decide +kernel⟩,
   ⟨secure { slots := [(2, { passed := true })] }, slotWord 2, by decide +kernel⟩,
   ⟨secure { st := 2 }, slotWord 2, by decide +kernel⟩,
   ⟨{ secure { swap := some 1 } with mer := {} }, 1, by decide +kernel⟩,
   ⟨secure { swap := some 1, stopped := true, stopAt := 7, run := 2 }, 5000000007, 1, by decide +kernel⟩,
   ⟨secure { swap := some 1, stopped := true, run := 0 }, 1, by decide +kernel⟩⟩

end Sys2Proof.Tests
end

section
/-! PROOFS. Descriptor chains and completion queues (spec/13 R430 to R432, R446 to R450): what each operation of the
DMA engine on one channel writes, what it leaves alone, and from these the statement O41. -/

namespace Sys2Proof.Machine

open Sys2Proof.Laws

variable {s0 s t : State} {l pg : List Nat} {ps : List Piece} {ch q : Nat} {d : Desc}

/-! ## What reads the same across a frame -/

theorem Frame.chan_eq (h : Frame l pg ps s t) (hd : Piece.dma ∉ ps) (c : Nat) : t.chan c = s.chan c := by
  have e : t.dma = s.dma := h.parts .dma hd
  simp only [State.chan, e]

theorem Frame.cq_eq (h : Frame l pg ps s t) (hd : Piece.dma ∉ ps) (q : Nat) : t.cq q = s.cq q := by
  have e : t.dma = s.dma := h.parts .dma hd
  simp only [State.cq, e]

theorem Frame.cqOdd_eq (h : Frame l pg ps s t) (hd : Piece.dma ∉ ps) : t.dma.cqOdd = s.dma.cqOdd :=
  congrArg Dma.cqOdd (h.parts .dma hd)

theorem Frame.fld_eq (h : Frame l pg ps s t) {a : Nat} (ha : a ∉ l) (f : Fld) : t.fld a f = s.fld a f := by
  simp only [State.fld, h.regs a ha]

theorem Frame.flag_eq (h : Frame l pg ps s t) {a : Nat} (ha : a ∉ l) (f : Fld) : t.flag a f = s.flag a f := by
  simp only [State.flag, h.fld_eq ha]

theorem Frame.reg64_eq (h : Frame l pg ps s t) {a : Nat} (ha : a ∉ l) (hb : a + 4 ∉ l) : t.reg64 a = s.reg64 a := by
  simp only [State.reg64, h.regs a ha, h.regs _ hb]

theorem Frame.nextAddr_eq (h : Frame l pg ps s t) (ha : R.DMAch_NEXT ch ∉ l) (hb : R.DMAch_NEXT ch + 4 ∉ l) :
    t.nextAddr ch = s.nextAddr ch := by
  simp only [State.nextAddr, h.reg64_eq ha hb]

theorem Frame.raised_eq (h : Frame l pg ps s t) {p : Nat} (hp : p ∉ pg) (b : Nat) : t.raised p b = s.raised p b :=
  raised_congr _ _ (h.hdrs p hp)

/-- Which channels are line DMA channels depends on the configurations of the streams alone (R427). -/
theorem Frame.ringOf_eq (h : Frame l pg ps s t) (hl : ∀ k, k < 4 → osCfg k ∉ l) (ch : Nat) (d : Desc) :
    t.ringOf ch d = s.ringOf ch d := by
  have e : ∀ k ∈ [0, 1, 2, 3], osCfg k ∉ l := fun k hk => hl k (by
    simp only [List.mem_cons, List.not_mem_nil, or_false] at hk; omega)
  have hs : t.streams = s.streams := List.filter_congr fun k hk => by simp only [State.osEn, h.flag_eq (e k hk)]
  have hc : t.lineCh ch = s.lineCh ch := by
    simp only [State.lineCh, hs]
    refine Bool.eq_iff_iff.2 ?_
    simp only [List.any_eq_true]
    refine exists_congr fun k => and_congr_right fun hk => ?_
    simp only [State.osCh, h.fld_eq (e k (List.mem_filter.1 hk).1)]
  simp only [State.ringOf, hc]

/-! ## One channel's state -/

@[simp] theorem chan_setChan_same (ch : Nat) (c : Dch) : (s.setChan ch c).chan ch = c := by
  simp [State.chan, State.setChan]

theorem chan_setChan_other {c : Nat} (h : c ≠ ch) (x : Dch) : (s.setChan ch x).chan c = s.chan c := by
  simp [State.chan, State.setChan, get_put_other, h]

theorem Frame.setChan (ch : Nat) (c : Dch) (hd : Piece.dma ∈ ps) (h : Frame l pg ps s0 s) :
    Frame l pg ps s0 (s.setChan ch c) := h.dma_set hd

theorem Frame.setNext (ch a : Nat) (h1 : R.DMAch_NEXT ch ∈ l) (h2 : R.DMAch_NEXT ch + 4 ∈ l) (h : Frame l pg ps s0 s) :
    Frame l pg ps s0 (s.setNext ch a) := h.setReg64 _ _ h1 h2

@[simp] theorem reg_setChan (c : Nat) (x : Dch) (a : Nat) : (s.setChan c x).reg a = s.reg a := rfl

theorem fld_setChan (c : Nat) (x : Dch) (a : Nat) (f : Fld) : (s.setChan c x).fld a f = s.fld a f := by
  simp only [State.fld, reg_setChan]

theorem reg64_setChan (c : Nat) (x : Dch) (a : Nat) : (s.setChan c x).reg64 a = s.reg64 a := by
  simp only [State.reg64, reg_setChan]

theorem nextAddr_setChan (c : Nat) (x : Dch) : (s.setChan c x).nextAddr ch = s.nextAddr ch := by
  simp only [State.nextAddr, reg64_setChan]

theorem flag_send (m : Msg) (a : Nat) (f : Fld) : (s.send m).flag a f = s.flag a f := rfl

theorem nextAddr_send (m : Msg) : (s.send m).nextAddr ch = s.nextAddr ch := rfl

theorem setNext_frame (s : State) (ch a : Nat) :
    Frame [R.DMAch_NEXT ch, R.DMAch_NEXT ch + 4] [] [] s (s.setNext ch a) :=
  (Frame.refl s).setNext _ _ (by simp) (by simp)

theorem setFld_frame (s : State) (a : Nat) (f : Fld) (v : Nat) : Frame [a] [] [] s (s.setFld a f v) :=
  (Frame.refl s).setFld _ _ _ (by simp)

/-- NEXT reads back without its reserved bits (R429). -/
theorem nextAddr_setNext (ch a : Nat) : (s.setNext ch a).nextAddr ch = a / 32 * 32 % 2 ^ 64 := by
  unfold State.nextAddr State.setNext
  rw [reg64_setReg64]
  omega

theorem Frame.markHost (ch : Nat) (hc : Piece.ssc ∈ ps) (h : Frame l pg ps s0 s) : Frame l pg ps s0 (s.markHost ch) := by
  unfold State.markHost
  exact .ite ((h.setSsc _ hc).setJob _ hc) h

theorem markHost_frame (s : State) (ch : Nat) : Frame [] [] [.ssc] s (s.markHost ch) :=
  (Frame.refl s).markHost _ (by simp)

@[simp] theorem chan_markHost (c : Nat) : (s.markHost ch).chan c = s.chan c := (markHost_frame s ch).chan_eq (by simp) c

@[simp] theorem chan_evt (p b c : Nat) : (s.evt p b).chan c = s.chan c := by simp [State.chan]

@[simp] theorem chan_send (m : Msg) (c : Nat) : (s.send m).chan c = s.chan c := rfl

@[simp] theorem chan_setReg (a : Nat) (w : Word) (c : Nat) : (s.setReg a w).chan c = s.chan c := rfl

@[simp] theorem chan_upto (n c : Nat) : (s.upto n).chan c = s.chan c := rfl

@[simp] theorem chan_setReg64 (a v c : Nat) : (s.setReg64 a v).chan c = s.chan c := by simp [State.chan]

theorem chan_setNext (ch a c : Nat) : (s.setNext ch a).chan c = s.chan c := chan_setReg64 _ _ _

@[simp] theorem chan_setFld (a : Nat) (f : Fld) (v c : Nat) : (s.setFld a f v).chan c = s.chan c := rfl

@[simp] theorem chan_bump (a n c : Nat) : (s.bump a n).chan c = s.chan c := rfl

/-! ## Waiting (R420, R463) -/

theorem Frame.waitIn (ch st : Nat) (hp : P.DMAch ch ∈ pg) (hd : Piece.dma ∈ ps) (hc : Piece.ssc ∈ ps) (ho : Piece.out ∈ ps)
    (hh : Piece.hlk ∈ ps) (h : Frame l pg ps s0 s) : Frame l pg ps s0 (s.waitIn ch st) :=
  ((h.setChan _ _ hd).evt _ _ hp ho hh).markHost _ hc

theorem chan_waitIn_same (ch st : Nat) : (s.waitIn ch st).chan ch =
    { s.chan ch with st := st, lastRec := if st = 4 then none else (s.chan ch).lastRec } := by
  simp [State.waitIn]

theorem chan_waitIn_other {c : Nat} (h : c ≠ ch) (st : Nat) : (s.waitIn ch st).chan c = s.chan c := by
  simp [State.waitIn, chan_setChan_other h]

theorem raised_waitIn_same (ch st : Nat) : (s.waitIn ch st).raised (P.DMAch ch) 10 = true := by
  rw [State.waitIn, (markHost_frame _ _).raised_eq (by simp)]
  exact raised_evt_same _ _ (by decide)

theorem raised_waitIn (ch st : Nat) {p b : Nat} (h : s.raised p b = true) : (s.waitIn ch st).raised p b = true := by
  rw [State.waitIn, (markHost_frame _ _).raised_eq (by simp)]
  exact raised_evt _ _ _ _ h

theorem reg_evt (p b a : Nat) : (s.evt p b).reg a = s.reg a := by simp [State.reg]

theorem reg_waitIn (ch st a : Nat) : (s.waitIn ch st).reg a = s.reg a := by
  rw [State.waitIn, (markHost_frame _ _).regs _ (by simp), reg_evt, reg_setChan]

theorem reg_bump (a n : Nat) : (s.bump a n).reg a = BitVec.ofNat 32 (min ((s.reg a).toNat + n) 0xFFFFFFFF) :=
  reg_setReg_same _ _

theorem cq_setChan (c : Nat) (x : Dch) (q : Nat) : (s.setChan c x).cq q = s.cq q := rfl

/-! ## The messages sent -/

theorem mem_out_sendVector (v : Nat) {m : Msg} (h : m ∈ (s.sendVector v).out) : m ∈ s.out ∨ m = .msix v := by
  unfold State.sendVector at h
  split at h
  · split at h
    · exact .inl h
    · simpa using h
  · exact .inl h

/-- An event sends nothing but the message of its page's interrupt (R473). -/
theorem mem_out_evt (p b : Nat) {m : Msg} (h : m ∈ (s.evt p b).out) : m ∈ s.out ∨ ∃ v, m = .msix v := by
  unfold State.evt at h
  dsimp only at h
  split at h
  · unfold State.irq at h
    split at h
    · rename_i v _
      exact (mem_out_sendVector v h).imp id fun e => ⟨v, e⟩
    · exact .inl h
  · exact .inl h

/-! ## The next descriptor (R430, R432) -/

theorem applyPage_empty (b : Bnd) (p : Nat) (h : s.pend = []) : s.applyPage b p = s := by
  cases s
  cases h
  rfl

theorem Frame.readReq (ch a n k : Nat) (hd : Piece.dma ∈ ps) (ho : Piece.out ∈ ps) (h : Frame l pg ps s0 s) :
    Frame l pg ps s0 (s.readReq ch a n k) := (h.setChan _ _ hd).send _ ho

/-- The channel of a descriptor fetch. -/
theorem chan_fetchDesc (h : s.pend = []) : (s.fetchDesc ch).chan ch =
    { s.chan ch with st := 2, desc := none, buf := [], asked := 0, rd := some (s.nextAddr ch, 32, s.now), tries := 0 } := by
  simp only [State.fetchDesc, applyPage_empty _ _ h, State.readReq, chan_send, chan_setChan_same]
  rfl

theorem out_fetchDesc (h : s.pend = []) : (s.fetchDesc ch).out = s.out ++ [.memRead ch (s.nextAddr ch) 32] := by
  simp only [State.fetchDesc, applyPage_empty _ _ h]
  rfl

theorem proceed_idle (h : s.nextAddr ch = 0) : s.proceed ch = s.setChan ch { s.chan ch with st := 1, desc := none } := by
  simp [State.proceed, h]

theorem proceed_fetch (h : s.nextAddr ch ≠ 0) : s.proceed ch = s.fetchDesc ch := by simp [State.proceed, h]

theorem Frame.proceed (ch : Nat) (he : s.pend = []) (hd : Piece.dma ∈ ps) (ho : Piece.out ∈ ps) (h : Frame l pg ps s0 s) :
    Frame l pg ps s0 (s.proceed ch) := by
  unfold State.proceed State.fetchDesc
  rw [applyPage_empty _ _ he]
  exact .ite (h.setChan _ _ hd) ((h.setChan _ _ hd).readReq _ _ _ _ hd ho)

theorem st_proceed (he : s.pend = []) : ((s.proceed ch).chan ch).st = if s.nextAddr ch = 0 then 1 else 2 := by
  by_cases hn : s.nextAddr ch = 0
  · simp [proceed_idle hn, hn]
  · simp [proceed_fetch hn, chan_fetchDesc he, hn]

theorem cqWait_proceed (he : s.pend = []) : ((s.proceed ch).chan ch).cqWait = (s.chan ch).cqWait := by
  by_cases hn : s.nextAddr ch = 0
  · simp [proceed_idle hn]
  · simp [proceed_fetch hn, chan_fetchDesc he]

theorem out_proceed (he : s.pend = []) :
    (s.proceed ch).out = if s.nextAddr ch = 0 then s.out else s.out ++ [.memRead ch (s.nextAddr ch) 32] := by
  by_cases hn : s.nextAddr ch = 0
  · simp [proceed_idle hn, hn]
  · simp [proceed_fetch hn, out_fetchDesc he, hn]

theorem cq_proceed (he : s.pend = []) (q : Nat) : (s.proceed ch).cq q = s.cq q := by
  unfold State.proceed State.fetchDesc
  rw [applyPage_empty _ _ he]
  split <;> rfl

/-! ## Writing a completion record (R446, R448) -/

/-- The address at which a queue's next record goes. -/
def State.cqSlot (s : State) (q : Nat) : Nat :=
  s.reg64 (R.DMAG_CQq_BASE q) / (s.cqSize q * 32) * (s.cqSize q * 32) + (s.cq q).1 * 32

/-- The sequence word of a queue's next record: phase and count. -/
def State.cqSeq (s : State) (q : Nat) : List Byte := leBytes 4 ((s.cq q).2.1.toNat * 2 ^ 31 + (s.cq q).2.2)

/-- A queue's index, phase and count after one record more. -/
def State.cqStep (s : State) (q : Nat) : Nat × Bool × Nat :=
  (((s.cq q).1 + 1) % s.cqSize q,
    (if ((s.cq q).1 + 1) % s.cqSize q = 0 then !(s.cq q).2.1 else (s.cq q).2.1), ((s.cq q).2.2 + 1) % 2 ^ 31)

@[simp] theorem cq_setCq (q : Nat) (v : Nat × Bool × Nat) : (s.setCq q v).cq q = v := by
  simp [State.cq, State.setCq]

theorem Frame.setCq (q : Nat) (v : Nat × Bool × Nat) (hr : R.DMAG_CQq_WI q ∈ l) (hd : Piece.dma ∈ ps)
    (h : Frame l pg ps s0 s) : Frame l pg ps s0 (s.setCq q v) := (h.dma_set hd).setReg _ _ hr

theorem setCq_frame (s : State) (q : Nat) (v : Nat × Bool × Nat) : Frame [R.DMAG_CQq_WI q] [] [.dma] s (s.setCq q v) :=
  (Frame.refl s).setCq _ _ (by simp) (by simp)

theorem setCq_dma (q : Nat) (v : Nat × Bool × Nat) :
    (s.setCq q v).dma = { s.dma with cqs := tabIns s.dma.cqs q v } := setReg_dma _ _ _

theorem setCq_out (q : Nat) (v : Nat × Bool × Nat) : (s.setCq q v).out = s.out := setReg_out _ _ _

@[simp] theorem chan_setCq (q : Nat) (v : Nat × Bool × Nat) (c : Nat) : (s.setCq q v).chan c = s.chan c := by
  rw [State.chan, State.chan, setCq_dma]

theorem nextAddr_setCq (v : Nat × Bool × Nat) : (s.setCq q v).nextAddr ch = s.nextAddr ch :=
  (setCq_frame s q v).nextAddr_eq (by simp only [List.mem_singleton, R.DMAch_NEXT, R.DMAG_CQq_WI]; omega)
    (by simp only [List.mem_singleton, R.DMAch_NEXT, R.DMAG_CQq_WI]; omega)

/-- A record written to a queue without interrupts that was not reconfigured while enabled. -/
theorem cqWrite_eq (ch : Nat) (b : List Byte) (hi : s.flag (R.DMAG_CQq_CFG q) F.DMAG_CQq_CFG.IEN = false)
    (ho : bit s.dma.cqOdd q = false) :
    s.cqWrite ch q b = (s.send (.memWrite ch (s.cqSlot q) (b ++ s.cqSeq q))).setCq q (s.cqStep q) := by
  have e : ((s.send (.memWrite ch (s.cqSlot q) (b ++ s.cqSeq q))).setCq q (s.cqStep q)).flag (R.DMAG_CQq_CFG q)
      F.DMAG_CQq_CFG.IEN = false := by
    rw [(setCq_frame _ _ _).flag_eq (by simp), flag_send, hi]
  have k : s.cqWrite ch q b = ((s.send (.memWrite ch (s.cqSlot q) (b ++ s.cqSeq q))).setCq q (s.cqStep q)).when
      (((s.send (.memWrite ch (s.cqSlot q) (b ++ s.cqSeq q))).setCq q (s.cqStep q)).flag (R.DMAG_CQq_CFG q)
        F.DMAG_CQq_CFG.IEN) (fun s => s.sendVector q) := by
    unfold State.cqWrite
    rw [ho]
    rfl
  rw [k, e]
  rfl

theorem Frame.cqSize_eq (h : Frame l pg ps s t) (hr : R.DMAG_CQq_CFG q ∉ l) : t.cqSize q = s.cqSize q := by
  simp only [State.cqSize, h.fld_eq hr]

theorem Frame.cqSlot_eq (h : Frame l pg ps s t) (hd : Piece.dma ∉ ps) (hr : R.DMAG_CQq_CFG q ∉ l)
    (hb : R.DMAG_CQq_BASE q ∉ l) (hb' : R.DMAG_CQq_BASE q + 4 ∉ l) : t.cqSlot q = s.cqSlot q := by
  simp only [State.cqSlot, h.cqSize_eq hr, h.cq_eq hd, h.reg64_eq hb hb']

theorem Frame.cqSeq_eq (h : Frame l pg ps s t) (hd : Piece.dma ∉ ps) : t.cqSeq q = s.cqSeq q := by
  simp only [State.cqSeq, h.cq_eq hd]

theorem Frame.cqStep_eq (h : Frame l pg ps s t) (hd : Piece.dma ∉ ps) (hr : R.DMAG_CQq_CFG q ∉ l) :
    t.cqStep q = s.cqStep q := by
  simp only [State.cqStep, h.cqSize_eq hr, h.cq_eq hd]

theorem Frame.cqFull_eq (h : Frame l pg ps s t) (hd : Piece.dma ∉ ps) (hr : R.DMAG_CQq_CFG q ∉ l)
    (hi : R.DMAG_CQq_RI q ∉ l) : t.cqFull q = s.cqFull q := by
  simp only [State.cqFull, h.cqSize_eq hr, h.cq_eq hd, h.fld_eq hi]

theorem length_leBytes (n v : Nat) : (leBytes n v).length = n := by
  induction n generalizing v with
  | zero => rfl
  | succ n ih => simp [leBytes, ih]

theorem length_cqBody (ch st : Nat) (d : Desc) : (s.cqBody ch st d).length = 28 := by
  simp [State.cqBody, length_leBytes]

/-! ## A record is due (R446, R449, R450) -/

theorem cqDue_off (ch st : Nat) (h : s.flag (R.DMAG_CQq_CFG d.cq) F.DMAG_CQq_CFG.EN = false) :
    s.cqDue ch st d = s.evt P.DMAG 8 := by
  simp [State.cqDue, h]

theorem cqDue_full (ch st : Nat) (h : s.flag (R.DMAG_CQq_CFG d.cq) F.DMAG_CQq_CFG.EN = true) (hf : s.cqFull d.cq = true) :
    s.cqDue ch st d = ((s.setChan ch { s.chan ch with cqWait := some (d.cq, s.cqBody ch st d) }).bump
      (R.DMAG_CQq_FULLCNT d.cq) 1).evt P.DMAG 9 := by
  simp [State.cqDue, h, hf]

theorem cqDue_space (ch st : Nat) (h : s.flag (R.DMAG_CQq_CFG d.cq) F.DMAG_CQq_CFG.EN = true)
    (hf : s.cqFull d.cq = false) : s.cqDue ch st d = s.cqWrite ch d.cq (s.cqBody ch st d) := by
  simp [State.cqDue, h, hf]

/-! ## The end of a descriptor (R433, R447) -/

theorem next_not_count (ch : Nat) :
    R.DMAch_NEXT ch ∉ [R.DMAch_NDESC ch] ∧ R.DMAch_NEXT ch + 4 ∉ [R.DMAch_NDESC ch] := by
  simp only [List.mem_singleton, R.DMAch_NEXT, R.DMAch_NDESC]
  omega

/-- No register of a queue is a channel's count of descriptors. -/
theorem queueRegs_not_count (ch q : Nat) :
    R.DMAG_CQq_CFG q ∉ [R.DMAch_NDESC ch] ∧ R.DMAG_CQq_RI q ∉ [R.DMAch_NDESC ch] ∧
    R.DMAG_CQq_BASE q ∉ [R.DMAch_NDESC ch] ∧ R.DMAG_CQq_BASE q + 4 ∉ [R.DMAch_NDESC ch] := by
  simp only [List.mem_singleton, R.DMAG_CQq_CFG, R.DMAG_CQq_RI, R.DMAG_CQq_BASE, R.DMAch_NDESC]
  omega

/-- The events of a descriptor's end are published. -/
def State.descEvents (s : State) (ch : Nat) (d : Desc) : State :=
  (if d.evt then s.emit (88 + ch) else s).evtIf (d.cqe || d.evt) (P.DMAch ch) 8

/-- The descriptor is counted too. -/
def State.countDesc (s : State) (ch : Nat) (d : Desc) : State :=
  (s.descEvents ch d).setReg (R.DMAch_NDESC ch) ((s.descEvents ch d).reg (R.DMAch_NDESC ch) + 1)

/-- Then its completion record is due, if it asks for one. -/
def State.recordDue (s : State) (ch : Nat) (d : Desc) : State := if d.cqe then s.cqDue ch 0 d else s

/-- A descriptor ends: events and count, its record, and then a wait for queue space or the next descriptor. -/
theorem descDone_eq (hd : (s.chan ch).desc = some d) : s.descDone ch =
    if (((s.countDesc ch d).recordDue ch d).chan ch).cqWait.isSome then ((s.countDesc ch d).recordDue ch d).waitIn ch 6
    else ((s.countDesc ch d).recordDue ch d).proceed ch := by
  unfold State.descDone State.recordDue State.countDesc State.descEvents
  rw [hd]

theorem descDone_proceeds (hd : (s.chan ch).desc = some d)
    (hw : (((s.countDesc ch d).recordDue ch d).chan ch).cqWait = none) :
    s.descDone ch = ((s.countDesc ch d).recordDue ch d).proceed ch := by
  rw [descDone_eq hd, if_neg (by simp [hw])]

theorem Frame.descEvents (ch : Nat) (d : Desc) (hp : P.DMAch ch ∈ pg) (hf : d.evt = true → Piece.flight ∈ ps)
    (ho : Piece.out ∈ ps) (hh : Piece.hlk ∈ ps) (h : Frame l pg ps s0 s) : Frame l pg ps s0 (s.descEvents ch d) := by
  unfold State.descEvents
  refine .evtIf _ _ _ hp ho hh ?_
  split
  · exact h.emit _ (hf ‹_›)
  · exact h

theorem Frame.countDesc (ch : Nat) (d : Desc) (hr : R.DMAch_NDESC ch ∈ l) (hp : P.DMAch ch ∈ pg)
    (hf : d.evt = true → Piece.flight ∈ ps) (ho : Piece.out ∈ ps) (hh : Piece.hlk ∈ ps) (h : Frame l pg ps s0 s) :
    Frame l pg ps s0 (s.countDesc ch d) := (h.descEvents ch d hp hf ho hh).setReg _ _ hr

theorem countDesc_frame (s : State) (ch : Nat) (d : Desc) :
    Frame [R.DMAch_NDESC ch] [P.DMAch ch] [.flight, .out, .hlk] s (s.countDesc ch d) :=
  (Frame.refl s).countDesc _ _ (by simp) (by simp) (by simp) (by simp) (by simp)

theorem chan_countDesc (c : Nat) : (s.countDesc ch d).chan c = s.chan c := (countDesc_frame s ch d).chan_eq (by simp) c

theorem nextAddr_countDesc : (s.countDesc ch d).nextAddr ch = s.nextAddr ch :=
  (countDesc_frame s ch d).nextAddr_eq (next_not_count ch).1 (next_not_count ch).2

theorem reg_countDesc : (s.countDesc ch d).reg (R.DMAch_NDESC ch) = s.reg (R.DMAch_NDESC ch) + 1 := by
  have h : Frame [] [P.DMAch ch] [.flight, .out, .hlk] s (s.descEvents ch d) :=
    (Frame.refl s).descEvents _ _ (by simp) (by simp) (by simp) (by simp)
  rw [State.countDesc, reg_setReg_same, h.regs _ (by simp)]

/-- The events of a descriptor's end send nothing but an interrupt. -/
theorem mem_out_countDesc {m : Msg} (h : m ∈ (s.countDesc ch d).out) : m ∈ s.out ∨ ∃ v, m = .msix v := by
  have e : (if d.evt then s.emit (88 + ch) else s).out = s.out := by split <;> rfl
  rw [← e]
  simp only [State.countDesc, setReg_out, State.descEvents, State.evtIf] at h
  split at h
  · exact mem_out_evt _ _ h
  · exact .inl h

/-- A descriptor with EVT publishes its producer and sets the channel's bit (R447). -/
theorem countDesc_published (he : d.evt = true) :
    88 + ch ∈ (s.countDesc ch d).flight ∧ (s.countDesc ch d).raised (P.DMAch ch) 8 = true := by
  have e : s.descEvents ch d = (s.emit (88 + ch)).evt (P.DMAch ch) 8 := by
    simp [State.descEvents, he, State.evtIf]
  refine ⟨?_, ?_⟩
  · simp [State.countDesc, e, State.emit]
  · rw [State.countDesc, raised_congr _ _ (hdr_setReg _ _ _), e]
    exact raised_evt_same _ _ (by decide)

/-! ### The four ways a descriptor ends -/

/-- Without a record: events, count, and IDLE at the end of the chain. -/
theorem descDone_event (hd : (s.chan ch).desc = some d) (hc : d.cqe = false)
    (hw : (s.chan ch).cqWait = none) (hn : s.nextAddr ch = 0) :
    s.descDone ch = (s.countDesc ch d).setChan ch { s.chan ch with st := 1, desc := none } := by
  have hr : (s.countDesc ch d).recordDue ch d = s.countDesc ch d := by simp [State.recordDue, hc]
  rw [descDone_proceeds hd (by rw [hr, chan_countDesc, hw]), hr, proceed_idle (nextAddr_countDesc.trans hn),
    chan_countDesc]

/-- With room in the queue: the record is written, and IDLE at the end of the chain. -/
theorem descDone_write (hd : (s.chan ch).desc = some d) (hc : d.cqe = true) (hw : (s.chan ch).cqWait = none)
    (hn : s.nextAddr ch = 0) (hq : s.flag (R.DMAG_CQq_CFG d.cq) F.DMAG_CQq_CFG.EN = true)
    (hi : s.flag (R.DMAG_CQq_CFG d.cq) F.DMAG_CQq_CFG.IEN = false) (hf : s.cqFull d.cq = false)
    (ho : bit s.dma.cqOdd d.cq = false) :
    s.descDone ch = (((s.countDesc ch d).send (.memWrite ch (s.cqSlot d.cq)
      ((s.countDesc ch d).cqBody ch 0 d ++ s.cqSeq d.cq))).setCq d.cq (s.cqStep d.cq)).setChan ch
        { s.chan ch with st := 1, desc := none } := by
  have h := countDesc_frame s ch d
  obtain ⟨hcfg, hri, hba, hbb⟩ := queueRegs_not_count ch d.cq
  have hr : (s.countDesc ch d).recordDue ch d = ((s.countDesc ch d).send (.memWrite ch (s.cqSlot d.cq)
      ((s.countDesc ch d).cqBody ch 0 d ++ s.cqSeq d.cq))).setCq d.cq (s.cqStep d.cq) := by
    rw [State.recordDue, if_pos hc, cqDue_space _ _ (by rw [h.flag_eq hcfg, hq]) (by rw [h.cqFull_eq (by simp) hcfg hri, hf]),
      cqWrite_eq _ _ (by rw [h.flag_eq hcfg, hi]) (by rw [h.cqOdd_eq (by simp), ho]), h.cqSlot_eq (by simp) hcfg hba hbb,
      h.cqSeq_eq (by simp), h.cqStep_eq (by simp) hcfg]
  have hch : ((s.countDesc ch d).recordDue ch d).chan ch = s.chan ch := by simp [hr, chan_countDesc]
  have hnx : ((s.countDesc ch d).recordDue ch d).nextAddr ch = 0 := by
    rw [hr, nextAddr_setCq, nextAddr_send, nextAddr_countDesc, hn]
  rw [descDone_proceeds hd (by rw [hch, hw]), proceed_idle hnx, hch, hr]

/-- On a full queue: the record waits, and so does the channel. -/
theorem descDone_full (hd : (s.chan ch).desc = some d) (hc : d.cqe = true)
    (hq : s.flag (R.DMAG_CQq_CFG d.cq) F.DMAG_CQq_CFG.EN = true) (hf : s.cqFull d.cq = true) :
    s.descDone ch = ((((s.countDesc ch d).setChan ch
      { s.chan ch with cqWait := some (d.cq, (s.countDesc ch d).cqBody ch 0 d) }).bump (R.DMAG_CQq_FULLCNT d.cq) 1).evt
        P.DMAG 9).waitIn ch 6 := by
  have h := countDesc_frame s ch d
  obtain ⟨hcfg, hri, -, -⟩ := queueRegs_not_count ch d.cq
  have hr : (s.countDesc ch d).recordDue ch d = (((s.countDesc ch d).setChan ch
      { s.chan ch with cqWait := some (d.cq, (s.countDesc ch d).cqBody ch 0 d) }).bump (R.DMAG_CQq_FULLCNT d.cq) 1).evt
        P.DMAG 9 := by
    rw [State.recordDue, if_pos hc, cqDue_full _ _ (by rw [h.flag_eq hcfg, hq]) (by rw [h.cqFull_eq (by simp) hcfg hri, hf]),
      chan_countDesc]
  have hw : (((s.countDesc ch d).recordDue ch d).chan ch).cqWait.isSome = true := by simp [hr]
  rw [descDone_eq hd, if_pos hw, hr]

/-- With the queue off: the record is discarded, and the chain goes on (R450). -/
theorem descDone_off (hd : (s.chan ch).desc = some d) (hc : d.cqe = true) (hw : (s.chan ch).cqWait = none)
    (hq : s.flag (R.DMAG_CQq_CFG d.cq) F.DMAG_CQq_CFG.EN = false) :
    s.descDone ch = ((s.countDesc ch d).evt P.DMAG 8).proceed ch := by
  have hr : (s.countDesc ch d).recordDue ch d = (s.countDesc ch d).evt P.DMAG 8 := by
    rw [State.recordDue, if_pos hc, cqDue_off]
    rw [(countDesc_frame s ch d).flag_eq (queueRegs_not_count ch d.cq).1, hq]
  rw [descDone_proceeds hd (by rw [hr, chan_evt, chan_countDesc, hw]), hr]

/-! ## A waiting record leaves (R67, R448, R449) -/

theorem foldS_fixed {α : Type} {f : State → α → State} (x : List α) (h : ∀ e ∈ x, f s e = s) : foldS f s x = s := by
  induction x with
  | nil => rfl
  | cons e x ih =>
    rw [foldS, h e (by simp)]
    exact ih fun e' he => h e' (by simp [he])

/-- A fold in which one element alone acts. -/
theorem foldS_only {α : Type} {f : State → α → State} {x : List α} {a : α} (hn : x.Nodup) (ha : a ∈ x)
    (h1 : ∀ e ∈ x, e ≠ a → f s e = s) (h2 : ∀ e ∈ x, e ≠ a → f (f s a) e = f s a) : foldS f s x = f s a := by
  induction x with
  | nil => cases ha
  | cons e x ih =>
    obtain ⟨he, hx⟩ := List.nodup_cons.1 hn
    rw [foldS]
    by_cases e1 : e = a
    · subst e1
      exact foldS_fixed x fun e' h' => h2 e' (by simp [h']) (by rintro rfl; exact he h')
    · rw [h1 e (by simp) e1]
      exact ih hx (by simpa [Ne.symm e1] using ha) (fun e' h' => h1 e' (by simp [h'])) (fun e' h' => h2 e' (by simp [h']))

theorem cqRelease_none (h : (s.chan ch).cqWait = none) : s.cqRelease q ch = s := by simp [State.cqRelease, h]

/-- With room in the queue: the record goes out with the attention byte as it stands, and the channel reaches IDLE at the
end of the chain. -/
theorem cqRelease_write {b : List Byte} (hw : (s.chan ch).cqWait = some (q, b)) (hst : (s.chan ch).st = 6)
    (hf : s.cqFull q = false) (hi : s.flag (R.DMAG_CQq_CFG q) F.DMAG_CQq_CFG.IEN = false) (ho : bit s.dma.cqOdd q = false)
    (hn : s.nextAddr ch = 0) :
    s.cqRelease q ch = ((((s.send (.memWrite ch (s.cqSlot q) (attnByte b s.attn ++ s.cqSeq q))).setCq q
      (s.cqStep q)).setChan ch { s.chan ch with cqWait := none }).markHost ch).setChan ch
        { s.chan ch with cqWait := none, st := 1, desc := none } := by
  have hnx : ((((s.send (.memWrite ch (s.cqSlot q) (attnByte b s.attn ++ s.cqSeq q))).setCq q
      (s.cqStep q)).setChan ch { s.chan ch with cqWait := none }).markHost ch).nextAddr ch = 0 := by
    rw [(markHost_frame _ ch).nextAddr_eq (by simp) (by simp), nextAddr_setChan, nextAddr_setCq, nextAddr_send, hn]
  have h := proceed_idle hnx
  simp only [chan_markHost, chan_setChan_same, hst] at h
  simp [State.cqRelease, hw, hf, cqWrite_eq _ _ hi ho, hst, h]

/-! ## A descriptor begins (R430 to R434) -/

theorem runDesc_invalid (hv : d.valid = false) : s.runDesc ch d =
    (s.waitIn ch 4).setChan ch { (s.waitIn ch 4).chan ch with rd := none, pollAt := (s.waitIn ch 4).now } := by
  simp [State.runDesc, hv]

/-- A channel shows the descriptor that it begins, and clears its transfer. -/
def State.showDesc (s : State) (ch : Nat) (d : Desc) : State :=
  (((s.setReg64 (R.DMAch_CUR ch) d.addr).setChan ch { s.chan ch with
    rd := none, moved := 0, recs := 0, last := 0, sent := 0, buf := [], bufAt := 0, asked := 0 }).setFld (R.DMAch_STAT ch)
      F.DMAch_STAT.IDLECNT 0).setNext ch d.next

/-- The channel takes it up, without a ring. -/
def State.takeDesc (s : State) (ch : Nat) (d : Desc) : State :=
  (s.showDesc ch d).setChan ch { (s.showDesc ch d).chan ch with
    st := 3, desc := some d, lastRec := if d.typ ≠ 0 then none else some none }

theorem showDesc_frame (s : State) (ch : Nat) (d : Desc) :
    Frame [R.DMAch_CUR ch, R.DMAch_CUR ch + 4, R.DMAch_NEXT ch, R.DMAch_NEXT ch + 4, R.DMAch_STAT ch] [] [.dma] s
      (s.showDesc ch d) :=
  ((((Frame.refl s).setReg64 _ _ (by simp) (by simp)).setChan _ _ (by simp)).setFld _ _ _ (by simp)).setNext _ _
    (by simp) (by simp)

theorem takeDesc_frame (s : State) (ch : Nat) (d : Desc) :
    Frame [R.DMAch_CUR ch, R.DMAch_CUR ch + 4, R.DMAch_NEXT ch, R.DMAch_NEXT ch + 4, R.DMAch_STAT ch] [] [.dma] s
      (s.takeDesc ch d) := (showDesc_frame s ch d).setChan _ _ (by simp)

theorem osCfg_not_chanReg (ch k : Nat) (hk : k < 4) :
    osCfg k ∉ [R.DMAch_CUR ch, R.DMAch_CUR ch + 4, R.DMAch_NEXT ch, R.DMAch_NEXT ch + 4, R.DMAch_STAT ch] := by
  simp only [List.mem_cons, List.not_mem_nil, or_false, osCfg, R.PLTG_OSs_CFG, R.DMAch_CUR, R.DMAch_NEXT, R.DMAch_STAT]
  omega

theorem ringOf_takeDesc (d' : Desc) : (s.takeDesc ch d).ringOf ch d' = s.ringOf ch d' :=
  (takeDesc_frame s ch d).ringOf_eq (osCfg_not_chanReg ch) _ _

theorem chan_showDesc : (s.showDesc ch d).chan ch = { s.chan ch with
    rd := none, moved := 0, recs := 0, last := 0, sent := 0, buf := [], bufAt := 0, asked := 0 } := by
  unfold State.showDesc
  rw [chan_setNext, chan_setFld, chan_setChan_same]

theorem chan_takeDesc : (s.takeDesc ch d).chan ch = { s.chan ch with
    st := 3, desc := some d, rd := none, moved := 0, recs := 0, last := 0, sent := 0, buf := [], bufAt := 0, asked := 0,
    lastRec := if d.typ ≠ 0 then none else some none } := by
  rw [State.takeDesc, chan_setChan_same, chan_showDesc]

theorem cur_takeDesc : (s.takeDesc ch d).reg64 (R.DMAch_CUR ch) = d.addr % 2 ^ 64 := by
  have hn : R.DMAch_CUR ch ∉ [R.DMAch_NEXT ch, R.DMAch_NEXT ch + 4] ∧ R.DMAch_CUR ch + 4 ∉ [R.DMAch_NEXT ch, R.DMAch_NEXT ch + 4] := by
    simp only [List.mem_cons, List.not_mem_nil, or_false, R.DMAch_CUR, R.DMAch_NEXT]; omega
  have hs : R.DMAch_CUR ch ∉ [R.DMAch_STAT ch] ∧ R.DMAch_CUR ch + 4 ∉ [R.DMAch_STAT ch] := by
    simp only [List.mem_singleton, R.DMAch_CUR, R.DMAch_STAT]; omega
  unfold State.takeDesc State.showDesc
  rw [reg64_setChan, (setNext_frame _ _ _).reg64_eq hn.1 hn.2, (setFld_frame _ _ _ _).reg64_eq hs.1 hs.2, reg64_setChan,
    reg64_setReg64]

theorem nextAddr_takeDesc : (s.takeDesc ch d).nextAddr ch = d.next / 32 * 32 % 2 ^ 64 := by
  unfold State.takeDesc State.showDesc
  rw [nextAddr_setChan, nextAddr_setNext]

theorem idleCount_takeDesc : (s.takeDesc ch d).fld (R.DMAch_STAT ch) F.DMAch_STAT.IDLECNT = 0 := by
  have hn : R.DMAch_STAT ch ∉ [R.DMAch_NEXT ch, R.DMAch_NEXT ch + 4] := by
    simp only [List.mem_cons, List.not_mem_nil, or_false, R.DMAch_STAT, R.DMAch_NEXT]; omega
  unfold State.takeDesc State.showDesc
  rw [fld_setChan, (setNext_frame _ _ _).fld_eq hn, fld_setFld_same _ _ _ (by decide)]
  rfl

theorem chan_takeDesc_other {c : Nat} (h : c ≠ ch) : (s.takeDesc ch d).chan c = s.chan c := by
  unfold State.takeDesc State.showDesc
  rw [chan_setChan_other h, chan_setNext, chan_setFld, chan_setChan_other h, chan_setReg64]

/-- A valid descriptor with something to move and no ring is taken up; the channel then looks for its record or its
source bytes. -/
theorem runDesc_valid (hv : d.valid = true) (hz : d.zero = false) (hr : s.ringOf ch d = none) :
    s.runDesc ch d = ((s.takeDesc ch d).feed ch).askMore ch := by
  have e : (s.showDesc ch d).ringOf ch d = none :=
    ((showDesc_frame s ch d).ringOf_eq (osCfg_not_chanReg ch) _ _).trans hr
  unfold State.takeDesc
  unfold State.showDesc at *
  simp [State.runDesc, hv, hz, e]

/-- Without a ring every record fits (R436). -/
theorem recReady_noRing (hd : (s.chan ch).desc = some d) (hr : s.ringOf ch d = none) : s.recReady ch = true := by
  unfold State.recReady State.ringFits
  split
  · simp [hd, hr]
  · rfl

theorem ringState_noRing (hd : (s.chan ch).desc = some d) (hst : (s.chan ch).st = 3) (hr : s.ringOf ch d = none) :
    s.ringState ch = s := by
  simp [State.ringState, hd, hst, recReady_noRing hd hr]

/-- A channel that has a record in hand, or needs none, takes no further one. -/
theorem feed_still (hd : (s.chan ch).desc = some d) (hst : (s.chan ch).st = 3) (hr : s.ringOf ch d = none)
    (hq : d.typ ≠ 0 ∨ (s.chan ch).q ≠ []) : s.feed ch = s := by
  have h : ¬ (d.typ = 0 ∧ !d.zero ∧ (s.chan ch).q = [] ∧ (s.chan ch).recs < d.len ∧ ((s.chan ch).st = 3 ∨ (s.chan ch).st = 5)) := by
    rintro ⟨h0, -, h1, -⟩
    exact hq.elim (· h0) (· h1)
  unfold State.feed
  dsimp only
  rw [hd]
  exact (if_neg h).trans (ringState_noRing hd hst hr)

/-- Only a LOAD or a COPY asks for source bytes. -/
theorem askMore_still (hd : (s.chan ch).desc = some d) (h1 : d.typ ≠ 1) (h3 : d.typ ≠ 3) : s.askMore ch = s := by
  simp [State.askMore, hd, h1, h3]

/-- A READ, or a RECORD with its record at hand, is current at once. -/
theorem runDesc_current (hv : d.valid = true) (hz : d.zero = false)
    (ht : d.typ = 2 ∨ (d.typ = 0 ∧ s.ringOf ch d = none ∧ (s.chan ch).q ≠ [])) : s.runDesc ch d = s.takeDesc ch d := by
  have hr : s.ringOf ch d = none := by
    rcases ht with h | ⟨-, h, -⟩
    · simp [State.ringOf, h]
    · exact h
  have hd : ((s.takeDesc ch d).chan ch).desc = some d := by rw [chan_takeDesc]
  have hst : ((s.takeDesc ch d).chan ch).st = 3 := by rw [chan_takeDesc]
  have hq : d.typ ≠ 0 ∨ ((s.takeDesc ch d).chan ch).q ≠ [] := by
    rw [chan_takeDesc]
    exact ht.imp (by omega) fun h => h.2.2
  rw [runDesc_valid hv hz hr, feed_still hd hst ((ringOf_takeDesc d).trans hr) hq]
  exact askMore_still hd (by omega) (by omega)

/-! ## The commands -/

theorem exec_descriptorFetch_run {b : List Byte} {n a k i : Nat} (h : ch < 64) (hr : (s.chan ch).rd = some (a, k, i))
    (hst : (s.chan ch).st = 2) (hb : b.length = 32) :
    exec (.descriptorFetch ch b n) s = .next ((s.upto n).runDesc ch (descOf a b)) := by
  simp [execDescriptorFetch, hr, h, hst, hb]

theorem exec_descriptorDone_run {n : Nat} (h : ch < 64) (hst : (s.chan ch).st = 3) (hc : (s.chan ch).complete = true) :
    exec (.descriptorDone ch n) s = .next ((s.upto n).descDone ch) := by
  simp [execDescriptorDone, h, hst, hc]

theorem exec_cqRiWrite_run {w : Word} (h : q < 8) (ha : s.accepts P.DMAG = true) :
    exec (.cqRiWrite q w) s = .next (s.cqRiWrite q w) := by
  simp [execCqRiWrite, h, hostWrite_taken _ _ ha]

/-- A fetch that brings VALID 0 leads to WAITDESC with the event (R431). -/
theorem descriptorFetch_invalid {b : List Byte} {n a k i : Nat} (h : ch < 64) (hr : (s.chan ch).rd = some (a, k, i))
    (hst : (s.chan ch).st = 2) (hb : b.length = 32) (hv : (descOf a b).valid = false) :
    Answers (.descriptorFetch ch b n) s fun t =>
      (t.chan ch).st = 4 ∧ (t.chan ch).rd = none ∧ (t.chan ch).pollAt = t.now ∧ t.raised (P.DMAch ch) 10 = true ∧
      (∀ c, c ≠ ch → t.chan c = s.chan c) ∧ Frame [] [P.DMAch ch] [.now, .dma, .ssc, .out, .hlk] s t := by
  refine ⟨_, exec_descriptorFetch_run h hr hst hb, ?_⟩
  rw [runDesc_invalid hv]
  refine ⟨?_, ?_, ?_, ?_, ?_, ?_⟩
  · simp [chan_waitIn_same]
  · simp
  · simp
  · exact raised_waitIn_same ch 4
  · intro c hc
    rw [chan_setChan_other hc, chan_waitIn_other hc, chan_upto]
  · exact (((Frame.refl s).upto n (by simp)).waitIn ch 4 (by simp) (by simp) (by simp) (by simp) (by simp)).setChan _ _
      (by simp)

/-- A READ, or a RECORD outside a ring with a record waiting, becomes current (R430, R432). -/
theorem descriptorFetch_current {b : List Byte} {n a k i : Nat} (h : ch < 64) (hr : (s.chan ch).rd = some (a, k, i))
    (hst : (s.chan ch).st = 2) (hb : b.length = 32) (hd : d = descOf a b) (hv : d.valid = true) (hz : d.zero = false)
    (ht : d.typ = 2 ∨ (d.typ = 0 ∧ s.ringOf ch d = none ∧ (s.chan ch).q ≠ [])) :
    Answers (.descriptorFetch ch b n) s fun t =>
      (t.chan ch).st = 3 ∧ (t.chan ch).desc = some d ∧ (t.chan ch).rd = none ∧ (t.chan ch).moved = 0 ∧ (t.chan ch).recs = 0 ∧
      (t.chan ch).q = (s.chan ch).q ∧ t.reg64 (R.DMAch_CUR ch) = d.addr % 2 ^ 64 ∧ t.nextAddr ch = d.next % 2 ^ 64 ∧
      t.fld (R.DMAch_STAT ch) F.DMAch_STAT.IDLECNT = 0 ∧ (∀ c, c ≠ ch → t.chan c = s.chan c) ∧
      Frame [R.DMAch_CUR ch, R.DMAch_CUR ch + 4, R.DMAch_NEXT ch, R.DMAch_NEXT ch + 4, R.DMAch_STAT ch] [] [.now, .dma]
        s t := by
  have hn : d.next / 32 * 32 = d.next := by
    rw [hd]
    exact Nat.div_mul_cancel (Nat.dvd_mul_left _ _)
  have hu : Frame [] [] [.now] s (s.upto n) := (Frame.refl s).upto n (by simp)
  refine ⟨_, exec_descriptorFetch_run h hr hst hb, ?_⟩
  rw [← hd, runDesc_current hv hz (by rwa [hu.ringOf_eq (by simp), chan_upto])]
  have hc := chan_takeDesc (s := s.upto n) (ch := ch) (d := d)
  rw [chan_upto] at hc
  refine ⟨by rw [hc], by rw [hc], by rw [hc], by rw [hc], by rw [hc], by rw [hc], cur_takeDesc, ?_, idleCount_takeDesc, ?_, ?_⟩
  · rw [nextAddr_takeDesc, hn]
  · intro c hc
    rw [chan_takeDesc_other hc, chan_upto]
  · exact (hu.mono (by simp) (by simp) (by simp)).trans ((takeDesc_frame _ ch d).mono (by simp) (by simp) (by simp))

/-- Without a record: the count, the producer, and IDLE where NEXT is 0 (R432, R447). -/
theorem descriptorDone_event {n : Nat} (h : ch < 64) (hst : (s.chan ch).st = 3) (hcm : (s.chan ch).complete = true)
    (hd : (s.chan ch).desc = some d) (he : d.evt = true) (hc : d.cqe = false) (hw : (s.chan ch).cqWait = none)
    (hn : s.nextAddr ch = 0) : Answers (.descriptorDone ch n) s fun t =>
      t.chan ch = { s.chan ch with st := 1, desc := none } ∧ t.reg (R.DMAch_NDESC ch) = s.reg (R.DMAch_NDESC ch) + 1 ∧
      88 + ch ∈ t.flight ∧ t.raised (P.DMAch ch) 8 = true ∧ (∀ c, c ≠ ch → t.chan c = s.chan c) ∧
      Frame [R.DMAch_NDESC ch] [P.DMAch ch] [.now, .dma, .flight, .out, .hlk] s t := by
  have hu : Frame [] [] [.now] s (s.upto n) := (Frame.refl s).upto n (by simp)
  refine ⟨_, exec_descriptorDone_run h hst hcm, ?_⟩
  rw [descDone_event (by rwa [chan_upto]) hc (by rwa [chan_upto]) (by rwa [hu.nextAddr_eq (by simp) (by simp)]), chan_upto]
  obtain ⟨hf, hr⟩ := countDesc_published (s := s.upto n) (ch := ch) he
  refine ⟨chan_setChan_same _ _, ?_, hf, hr, ?_, ?_⟩
  · rw [reg_setChan, reg_countDesc, hu.regs _ (by simp)]
  · intro c hc
    rw [chan_setChan_other hc, chan_countDesc, chan_upto]
  · exact (((Frame.refl s).upto n (by simp)).countDesc ch d (by simp) (by simp) (by simp) (by simp) (by simp)).setChan _ _
      (by simp)

/-- With room in the queue: the 32-byte record goes to the queue's index, which advances (R446, R448). -/
theorem descriptorDone_write {n : Nat} (h : ch < 64) (hst : (s.chan ch).st = 3) (hcm : (s.chan ch).complete = true)
    (hd : (s.chan ch).desc = some d) (he : d.evt = false) (hc : d.cqe = true) (hw : (s.chan ch).cqWait = none)
    (hn : s.nextAddr ch = 0) (hq : s.flag (R.DMAG_CQq_CFG d.cq) F.DMAG_CQq_CFG.EN = true)
    (hi : s.flag (R.DMAG_CQq_CFG d.cq) F.DMAG_CQq_CFG.IEN = false) (hf : s.cqFull d.cq = false)
    (ho : bit s.dma.cqOdd d.cq = false) : Answers (.descriptorDone ch n) s fun t =>
      (t.chan ch).st = 1 ∧ (t.chan ch).cqWait = none ∧
      (∃ body, body.length = 28 ∧ Msg.memWrite ch (s.cqSlot d.cq) (body ++ s.cqSeq d.cq) ∈ t.out) ∧
      t.cq d.cq = s.cqStep d.cq ∧
      Frame [R.DMAch_NDESC ch, R.DMAG_CQq_WI d.cq] [P.DMAch ch] [.now, .dma, .out, .hlk] s t := by
  have hu : Frame [] [] [.now] s (s.upto n) := (Frame.refl s).upto n (by simp)
  refine ⟨_, exec_descriptorDone_run h hst hcm, ?_⟩
  rw [descDone_write (by rwa [chan_upto]) hc (by rwa [chan_upto]) (by rwa [hu.nextAddr_eq (by simp) (by simp)])
    (by rwa [hu.flag_eq (by simp)]) (by rwa [hu.flag_eq (by simp)]) (by rwa [hu.cqFull_eq (by simp) (by simp) (by simp)])
    (by rwa [hu.cqOdd_eq (by simp)]), hu.cqSlot_eq (by simp) (by simp) (by simp) (by simp), hu.cqSeq_eq (by simp),
    hu.cqStep_eq (by simp) (by simp), chan_upto]
  refine ⟨by simp, by simp [hw], ⟨((s.upto n).countDesc ch d).cqBody ch 0 d, length_cqBody _ _ _, ?_⟩, ?_, ?_⟩
  · rw [setChan_out, setCq_out]
    exact List.mem_append_right _ (List.mem_singleton.2 rfl)
  · rw [cq_setChan, cq_setCq]
  · exact (((((Frame.refl s).upto n (by simp)).countDesc ch d (by simp) (by simp) (by simp [he]) (by simp) (by simp)).send _
      (by simp)).setCq _ _ (by simp) (by simp)).setChan _ _ (by simp)

/-- On a full queue: the record waits, counted, and the channel in WAITCQ (R449). -/
theorem descriptorDone_full {n : Nat} (h : ch < 64) (hst : (s.chan ch).st = 3) (hcm : (s.chan ch).complete = true)
    (hd : (s.chan ch).desc = some d) (hc : d.cqe = true)
    (hq : s.flag (R.DMAG_CQq_CFG d.cq) F.DMAG_CQq_CFG.EN = true) (hf : s.cqFull d.cq = true) :
    Answers (.descriptorDone ch n) s fun t =>
      (t.chan ch).st = 6 ∧ (t.chan ch).cqWait.isSome = true ∧ t.raised P.DMAG 9 = true ∧ t.raised (P.DMAch ch) 10 = true ∧
      (t.reg (R.DMAG_CQq_FULLCNT d.cq)).toNat = min ((s.reg (R.DMAG_CQq_FULLCNT d.cq)).toNat + 1) 0xFFFFFFFF ∧
      Frame [R.DMAch_NDESC ch, R.DMAG_CQq_FULLCNT d.cq] [P.DMAch ch, P.DMAG] [.now, .dma, .flight, .ssc, .out, .hlk]
        s t := by
  have hu : Frame [] [] [.now] s (s.upto n) := (Frame.refl s).upto n (by simp)
  refine ⟨_, exec_descriptorDone_run h hst hcm, ?_⟩
  rw [descDone_full (by rwa [chan_upto]) hc (by rwa [hu.flag_eq (by simp)])
    (by rwa [hu.cqFull_eq (by simp) (by simp) (by simp)])]
  refine ⟨?_, ?_, ?_, raised_waitIn_same _ _, ?_, ?_⟩
  · rw [chan_waitIn_same]
  · simp [chan_waitIn_same]
  · exact raised_waitIn _ _ (raised_evt_same _ _ (by decide))
  · rw [reg_waitIn, reg_evt, reg_bump, reg_setChan, (countDesc_frame _ _ _).regs, hu.regs _ (by simp), BitVec.toNat_ofNat]
    · omega
    · simp only [List.mem_singleton, R.DMAG_CQq_FULLCNT, R.DMAch_NDESC]; omega
  · exact ((((((Frame.refl s).upto n (by simp)).countDesc ch d (by simp) (by simp) (by simp) (by simp) (by simp)).setChan _ _
      (by simp)).bump _ _ (by simp)).evt _ _ (by simp) (by simp) (by simp)).waitIn _ _ (by simp) (by simp) (by simp)
        (by simp) (by simp)

/-- With the queue off: the record is discarded, CQOFF is set, and the chain goes on (R450). -/
theorem descriptorDone_off {n : Nat} (h : ch < 64) (hst : (s.chan ch).st = 3) (hcm : (s.chan ch).complete = true)
    (hd : (s.chan ch).desc = some d) (hc : d.cqe = true) (hw : (s.chan ch).cqWait = none)
    (hq : s.flag (R.DMAG_CQq_CFG d.cq) F.DMAG_CQq_CFG.EN = false) (hp : s.pend = []) :
    Answers (.descriptorDone ch n) s fun t =>
      (t.chan ch).st = (if s.nextAddr ch = 0 then 1 else 2) ∧ (t.chan ch).cqWait = none ∧ t.cq d.cq = s.cq d.cq ∧
      (s.nextAddr ch ≠ 0 → Msg.memRead ch (s.nextAddr ch) 32 ∈ t.out) ∧
      (∀ c a b, Msg.memWrite c a b ∈ t.out → Msg.memWrite c a b ∈ s.out) ∧ t.raised P.DMAG 8 = true ∧
      Frame [R.DMAch_NDESC ch] [P.DMAch ch, P.DMAG] [.now, .dma, .flight, .ssc, .out, .hlk] s t := by
  have hu : Frame [] [] [.now] s (s.upto n) := (Frame.refl s).upto n (by simp)
  have hv : Frame [R.DMAch_NDESC ch] [P.DMAch ch, P.DMAG] [.now, .flight, .out, .hlk] s
      (((s.upto n).countDesc ch d).evt P.DMAG 8) :=
    (((Frame.refl s).upto n (by simp)).countDesc ch d (by simp) (by simp) (by simp) (by simp) (by simp)).evt _ _ (by simp)
      (by simp) (by simp)
  have hnx := hv.nextAddr_eq (next_not_count ch).1 (next_not_count ch).2
  have hvp : (((s.upto n).countDesc ch d).evt P.DMAG 8).pend = [] := by
    have e : (((s.upto n).countDesc ch d).evt P.DMAG 8).pend = s.pend := hv.parts .waiting (by simp)
    rw [e, hp]
  refine ⟨_, exec_descriptorDone_run h hst hcm, ?_⟩
  rw [descDone_off (by rwa [chan_upto]) hc (by rwa [chan_upto]) (by rwa [hu.flag_eq (by simp)])]
  refine ⟨?_, ?_, ?_, ?_, ?_, ?_, ?_⟩
  · rw [st_proceed hvp, hnx]
  · rw [cqWait_proceed hvp, hv.chan_eq (by simp), hw]
  · rw [cq_proceed hvp, hv.cq_eq (by simp)]
  · intro hn
    simp [out_proceed hvp, hnx, hn]
  · intro c a b hm
    have h1 : Msg.memWrite c a b ∈ (((s.upto n).countDesc ch d).evt P.DMAG 8).out := by
      rw [out_proceed hvp] at hm
      split at hm
      · exact hm
      · simpa using hm
    have h2 : Msg.memWrite c a b ∈ ((s.upto n).countDesc ch d).out := (mem_out_evt _ _ h1).elim id (by simp)
    exact (mem_out_countDesc h2).elim id (by simp)
  · rw [((Frame.refl (l := []) (pg := []) (ps := [.dma, .out]) _).proceed ch hvp (by simp) (by simp)).raised_eq (by simp)]
    exact raised_evt_same _ _ (by decide)
  · exact (hv.mono (by simp) (by simp) (by simp)).proceed ch hvp (by simp) (by simp)

/-- CQ_RI_WRITE moves the read index (R448). -/
theorem cqRiWrite_index {w : Word} (h : q < 8) (ha : s.accepts P.DMAG = true)
    (hw : ∀ c, c < 64 → (s.chan c).cqWait = none) : Answers (.cqRiWrite q w) s fun t =>
      t.reg (R.DMAG_CQq_RI q) = w &&& 0xFFFF ∧ Frame [R.DMAG_CQq_RI q] [] [] s t := by
  have e : s.cqRiWrite q w = s.setReg (R.DMAG_CQq_RI q) (w &&& 0xFFFF) :=
    foldS_fixed _ fun c hc => cqRelease_none (hw c (List.mem_range.1 hc))
  refine ⟨_, exec_cqRiWrite_run h ha, ?_⟩
  rw [e]
  exact ⟨reg_setReg_same _ _, (Frame.refl s).setReg _ _ (by simp)⟩

/-- The registers that place a queue's records are not its read index. -/
theorem queueRegs_not_index (q : Nat) :
    R.DMAG_CQq_CFG q ∉ [R.DMAG_CQq_RI q] ∧ R.DMAG_CQq_BASE q ∉ [R.DMAG_CQq_RI q] ∧
    R.DMAG_CQq_BASE q + 4 ∉ [R.DMAG_CQq_RI q] := by
  simp only [List.mem_singleton, R.DMAG_CQq_CFG, R.DMAG_CQq_BASE, R.DMAG_CQq_RI]
  omega

/-- The queue is full where its index after one record more is the read index just written. -/
theorem cqFull_setRI (w : Word) : (s.setReg (R.DMAG_CQq_RI q) (w &&& 0xFFFF)).cqFull q =
    (((s.cq q).1 + 1) % s.cqSize q == w.toNat % 65536) := by
  have hr : Frame [R.DMAG_CQq_RI q] [] [] s (s.setReg (R.DMAG_CQq_RI q) (w &&& 0xFFFF)) :=
    (Frame.refl s).setReg _ _ (by simp)
  have hw : (w &&& 0xFFFF).toNat = w.toNat % 65536 := by
    rw [BitVec.toNat_and]
    exact Nat.and_two_pow_sub_one_eq_mod w.toNat 16
  have hf : (s.setReg (R.DMAG_CQq_RI q) (w &&& 0xFFFF)).fld (R.DMAG_CQq_RI q) F.DMAG_CQq_RI.RI = w.toNat % 65536 := by
    rw [State.fld, reg_setReg_same, hw]
    simp [bits]
  rw [State.cqFull, hf, hr.cq_eq (by simp), hr.cqSize_eq (queueRegs_not_index q).1]

/-- CQ_RI_WRITE lets a waiting record out where there is space, with ATTN as it then stands (R67, R449). -/
theorem cqRiWrite_releases {w : Word} {b : List Byte} (h : q < 8) (hch : ch < 64) (ha : s.accepts P.DMAG = true)
    (hw : (s.chan ch).cqWait = some (q, b)) (hst : (s.chan ch).st = 6)
    (hother : ∀ c, c < 64 → c ≠ ch → (s.chan c).cqWait = none) (hf : ((s.cq q).1 + 1) % s.cqSize q ≠ w.toNat % 65536)
    (hn : s.nextAddr ch = 0) (hi : s.flag (R.DMAG_CQq_CFG q) F.DMAG_CQq_CFG.IEN = false)
    (ho : bit s.dma.cqOdd q = false) : Answers (.cqRiWrite q w) s fun t =>
      (t.chan ch).st = 1 ∧ (t.chan ch).cqWait = none ∧
      t.out = s.out ++ [Msg.memWrite ch (s.cqSlot q) (attnByte b s.attn ++ s.cqSeq q)] ∧
      (t.cq q).1 = ((s.cq q).1 + 1) % s.cqSize q ∧
      Frame [R.DMAG_CQq_RI q, R.DMAG_CQq_WI q] [] [.dma, .ssc, .out] s t := by
  have hr : Frame [R.DMAG_CQq_RI q] [] [] s (s.setReg (R.DMAG_CQq_RI q) (w &&& 0xFFFF)) :=
    (Frame.refl s).setReg _ _ (by simp)
  obtain ⟨hcfg, hba, hbb⟩ := queueRegs_not_index q
  have hrel := cqRelease_write (s := s.setReg (R.DMAG_CQq_RI q) (w &&& 0xFFFF)) (ch := ch) (q := q) (b := b) hw hst
    (by rw [cqFull_setRI]; exact beq_eq_false_iff_ne.2 hf) (by rwa [hr.flag_eq hcfg]) ho
    (by rwa [hr.nextAddr_eq (by simp only [List.mem_singleton, R.DMAch_NEXT, R.DMAG_CQq_RI]; omega)
      (by simp only [List.mem_singleton, R.DMAch_NEXT, R.DMAG_CQq_RI]; omega)])
  rw [hr.cqSlot_eq (by simp) hcfg hba hbb, hr.cqSeq_eq (by simp), hr.cqStep_eq (by simp) hcfg, chan_setReg] at hrel
  have e : s.cqRiWrite q w = (s.setReg (R.DMAG_CQq_RI q) (w &&& 0xFFFF)).cqRelease q ch := by
    refine foldS_only (f := fun s c => s.cqRelease q c) List.nodup_range (List.mem_range.2 hch) ?_ ?_
    · exact fun c hc hne => cqRelease_none (hother c (List.mem_range.1 hc) hne)
    · intro c hc hne
      refine cqRelease_none ?_
      rw [hrel, chan_setChan_other hne, chan_markHost, chan_setChan_other hne]
      simpa using hother c (List.mem_range.1 hc) hne
  refine ⟨_, exec_cqRiWrite_run h ha, ?_⟩
  rw [e, hrel]
  refine ⟨by simp, by simp, ?_, ?_, ?_⟩
  · rw [setChan_out, (markHost_frame _ _).parts .out (by simp), setChan_out, setCq_out]
    rfl
  · rw [cq_setChan, (markHost_frame _ _).cq_eq (by simp), cq_setChan, cq_setCq]
    rfl
  · exact ((((((Frame.refl s).setReg _ _ (by simp)).send _ (by simp)).setCq _ _ (by simp) (by simp)).setChan _ _
      (by simp)).markHost _ (by simp)).setChan _ _ (by simp)

/-- Settles O41: each clause is what the command's one way through the engine writes and leaves alone. -/
theorem descriptors : Obligations.Descriptors := by
  refine ⟨?_, ?_, ?_, ?_, ?_, ?_, ?_, ?_⟩
  · rintro s ch b n a k i d h hr hst hb rfl hv
    exact descriptorFetch_invalid h hr hst hb hv
  · intro s ch b n a k i d h hr hst hb hd hv hz ht
    exact descriptorFetch_current h hr hst hb hd hv hz ht
  · intro s ch n d h hst hcm hd he hc hw hn
    exact descriptorDone_event h hst hcm hd he hc hw hn
  · intro s ch n d h hst hcm hd he hc hw hn hq hi hf ho
    exact descriptorDone_write h hst hcm hd he hc hw hn hq hi hf ho
  · intro s ch n d h hst hcm hd hc hq hf
    exact descriptorDone_full h hst hcm hd hc hq hf
  · intro s q w h ha hw
    exact cqRiWrite_index h ha hw
  · intro s q w ch b h hch ha hw _ hst hother hf hn hi ho
    exact cqRiWrite_releases h hch ha hw hst hother hf hn hi ho
  · intro s ch n d h hst hcm hd hc hw hq hp
    exact descriptorDone_off h hst hcm hd hc hw hq hp

end Sys2Proof.Machine
end

section
/-! PROOFS. The event fabric (spec/15 R483 to R485, R489, R491, R498 to R500): the way of an event from its producer
through its channel to the one task subscribed to it, while no cell listens, and from it the statement O47. -/

namespace Sys2Proof.Machine

open Sys2Proof.Laws

variable {s0 s t : State} {l pg : List Nat} {ps : List Piece} {p c k n : Nat}

/-! ## What reads the same across a frame -/

theorem Frame.setEvf (f : Evf → Evf) (he : Piece.evf ∈ ps) (h : Frame l pg ps s0 s) : Frame l pg ps s0 (s.setEvf f) :=
  h.evf_set he

theorem reg_setEvf (f : Evf → Evf) (a : Nat) : (s.setEvf f).reg a = s.reg a := rfl

theorem reg64_setEvf (f : Evf → Evf) (a : Nat) : (s.setEvf f).reg64 a = s.reg64 a := by
  simp only [State.reg64, reg_setEvf]

theorem reg64_setReg_other {a b : Nat} {w : Word} (h1 : b ≠ a) (h2 : b + 4 ≠ a) :
    (s.setReg a w).reg64 b = s.reg64 b := by
  simp only [State.reg64, reg_setReg_other _ _ _ h1, reg_setReg_other _ _ _ h2]

/-- The timestamp depends on the count, its offset and the power state alone (R509, R510). -/
theorem Frame.ts_eq (h : Frame l pg ps s t) (hn : Piece.now ∉ ps) (hc : Piece.chr ∉ ps) (hp : Piece.pwr ∉ ps) :
    t.ts = s.ts := by
  have e1 : t.now = s.now := h.parts .now hn
  have e2 : t.chr = s.chr := h.parts .chr hc
  have e3 : t.pwr = s.pwr := h.parts .pwr hp
  simp only [State.ts, State.tsAt, e1, e2, e3]

/-- Subscriptions stand in registers, that of task 16 with the state of scan control (R488). -/
theorem Frame.subOf_eq (h : Frame [] pg ps s t) (hc : Piece.ssc ∉ ps) (k : Nat) : t.subOf k = s.subOf k := by
  have e : t.ssc = s.ssc := h.parts .ssc hc
  simp only [State.subOf, h.fld_eq List.not_mem_nil, h.flag_eq List.not_mem_nil, e]

theorem Frame.onlyTask_eq (h : Frame [] pg ps s t) (hc : Piece.ssc ∉ ps) (c k : Nat) : onlyTask t c k = onlyTask s c k := by
  simp only [onlyTask, h.subOf_eq hc]

theorem Frame.runawayN_eq (h : Frame l pg ps s t) (hr : R.EVF_CTL ∉ l) : t.runawayN = s.runawayN := by
  simp only [State.runawayN, h.fld_eq hr]

theorem Frame.chFlag_eq (h : Frame l pg ps s t) (hr : R.EVF_CHc c ∉ l) (f : Fld) : t.chFlag c f = s.chFlag c f :=
  h.flag_eq hr f

/-! ## Cells at rest (R494 to R496) -/

/-- No cell is configured, and none has left its reset state. -/
def State.CellsIdle (s : State) : Prop := s.evf.cells = [] ∧ ∀ j, j < 32 → s.reg (R.EVF_LCn_CFG j) = 0

theorem Frame.cellsIdle (h : Frame l pg ps s t) (hr : ∀ j, j < 32 → R.EVF_LCn_CFG j ∉ l)
    (hc : t.evf.cells = s.evf.cells) (hi : s.CellsIdle) : t.CellsIdle :=
  ⟨hc.trans hi.1, fun j hj => (h.regs _ (hr j hj)).trans (hi.2 j hj)⟩

theorem cellStep_idle (h : s.CellsIdle) (hk : k < 32) : s.cellStep k = s := by
  obtain ⟨hcells, hcfg⟩ := h
  have hc : s.cell k = {} := by simp [State.cell, hcells, tabGet, tabFind]
  have hf : s.cellF k = false := by simp [State.cellF, State.fld, hcfg k hk, bits, bit]
  simp [State.cellStep, State.setG, hc, hf]

/-- Cells at rest follow no change of their inputs. -/
theorem lutPass_idle (h : s.CellsIdle) : s.lutPass = s :=
  foldS_fixed _ fun _ hk => cellStep_idle h (List.mem_range.1 hk)

/-! ## An event passes a channel (R484, R485, R499) -/

/-- A pulse that still lasts on the channel ends before the next begins (R490). -/
def State.endPulse (s : State) (c : Nat) : State :=
  if bit s.evf.pulses c then s.setEvf (fun e => { e with pulses := putBits e.pulses c c 0 }) else s

/-- The event is the channel's latest, it is counted in the window in hand, and its pulse begins. -/
def State.notePass (s : State) (c : Nat) : State :=
  (s.endPulse c).setEvf (fun e => { e with
    lastPass := tabIns e.lastPass c s.now, window := tabIns e.window c (tabGet 0 s.evf.window c + 1),
    pulses := putBits e.pulses c c 1 })

/-- The runaway guard looks at the channel's count m. -/
def State.guardPass (s : State) (c m : Nat) : State :=
  if !s.chFlag c F.EVF_CHc.NOGUARD && decide (s.runawayN < m) then s.runaway c else s

theorem bit_putBits_one (w i : Nat) : bit (putBits w i i 1) i = true := by
  have h := bits_putBits w i i 1
  have e : i + 1 - i = 1 := by omega
  simp only [bits, e, Nat.pow_one] at h
  simp [bit, h]

theorem endPulse_evf : (s.endPulse c).evf = { s.evf with pulses := (s.endPulse c).evf.pulses } := by
  unfold State.endPulse
  split <;> rfl

theorem notePass_evf (s : State) (c : Nat) : ∃ m, bit m c = true ∧ (s.notePass c).evf = { s.evf with
    lastPass := tabIns s.evf.lastPass c s.now, window := tabIns s.evf.window c (tabGet 0 s.evf.window c + 1),
    pulses := m } := by
  refine ⟨_, bit_putBits_one (s.endPulse c).evf.pulses c, ?_⟩
  rw [State.notePass, setEvf_evf, endPulse_evf]

theorem Frame.notePass (c : Nat) (he : Piece.evf ∈ ps) (h : Frame l pg ps s0 s) : Frame l pg ps s0 (s.notePass c) := by
  unfold State.notePass State.endPulse
  exact (Frame.ite (h.setEvf _ he) h).setEvf _ he

theorem notePass_frame (s : State) (c : Nat) : Frame [] [] [.evf] s (s.notePass c) := (Frame.refl s).notePass c (by simp)

/-- While the cells rest, a passed event goes to the channel's subscribers and then to the guard. -/
theorem passEvent_eq (h : s.CellsIdle) : s.passEvent c =
    (foldS State.taskEvent (s.notePass c) ((List.range 96).filter fun t => s.subOf t == some c)).lutPass.guardPass c
      (tabGet 0 s.evf.window c + 1) := by
  have hsub := (notePass_frame s c).subOf_eq (by simp)
  have he : (if bit s.evf.pulses c then (s.setEvf (fun e => { e with pulses := putBits e.pulses c c 0 })).lutPass else s) =
      s.endPulse c := by
    have hi : (s.setEvf fun e => { e with pulses := putBits e.pulses c c 0 }).CellsIdle := ⟨h.1, h.2⟩
    rw [lutPass_idle hi, State.endPulse]
  have hw : (s.endPulse c).evf.window = s.evf.window := by rw [endPulse_evf]
  have hn : (s.endPulse c).now = s.now := by
    unfold State.endPulse
    split <;> rfl
  simp only [← hsub]
  unfold State.passEvent
  simp only [he, hw, hn]
  rfl

theorem guardPass_quiet {m : Nat} (h : m ≤ s.runawayN) : s.guardPass c m = s := by
  simp [State.guardPass, Nat.not_lt.2 h]

theorem guardPass_over {m : Nat} (hg : s.chFlag c F.EVF_CHc.NOGUARD = false) (h : s.runawayN < m) :
    s.guardPass c m = s.runaway c := by
  simp [State.guardPass, hg, h]

theorem subscribers_of_onlyTask (h : onlyTask s c k = true) :
    ((List.range 96).filter fun t => s.subOf t == some c) = if k < 96 then [k] else [] := by
  have e : ∀ t ∈ List.range 96, (s.subOf t == some c) = (t == k) := by
    simpa only [onlyTask, List.all_eq_true, beq_iff_eq] using h
  rw [List.filter_congr e, List.filter_beq, List.count_range]
  split <;> rfl

/-- Without a subscriber nothing follows but the guard's look at the count. -/
theorem passEvent_alone (h : s.CellsIdle) (ho : onlyTask s c 96 = true) :
    s.passEvent c = (s.notePass c).guardPass c (tabGet 0 s.evf.window c + 1) := by
  obtain ⟨m, -, he⟩ := notePass_evf s c
  rw [passEvent_eq h, subscribers_of_onlyTask ho, if_neg (by omega), foldS,
    lutPass_idle ((notePass_frame s c).cellsIdle (by simp) (by rw [he]) h)]

/-- With one subscriber its task takes the event, then the guard looks at the count. -/
theorem passEvent_task (h : s.CellsIdle) (hk : k < 96) (ho : onlyTask s c k = true) : s.passEvent c =
    ((s.notePass c).taskEvent k).lutPass.guardPass c (tabGet 0 s.evf.window c + 1) := by
  rw [passEvent_eq h, subscribers_of_onlyTask ho, if_pos hk, foldS, foldS]

/-! ## From the producer to the channel (R483, R485, R500, R503) -/

theorem chanEvent_masked {soft : Bool} (h : s.masked c = true) : s.chanEvent c soft = s := by
  simp [State.chanEvent, h]

theorem chanEvent_merges {soft : Bool} {a : Nat} (hm : s.masked c = false)
    (hs : (soft && s.flag R.EVF_CTL F.EVF_CTL.COMPAT && s.chFlag c F.EVF_CHc.SEC) = false)
    (hl : tabFind s.evf.lastPass c = some a) (hn : s.now < a + 10000) :
    s.chanEvent c soft = s.setFlag (R.EVF_CHc c) F.EVF_CHc.MERGED true := by
  simp [State.chanEvent, hm, hs, hl, hn]

theorem chanEvent_passes {soft : Bool} (hm : s.masked c = false)
    (hs : (soft && s.flag R.EVF_CTL F.EVF_CTL.COMPAT && s.chFlag c F.EVF_CHc.SEC) = false)
    (hl : ∀ a, tabFind s.evf.lastPass c = some a → a + 10000 ≤ s.now) : s.chanEvent c soft = s.passEvent c := by
  unfold State.chanEvent
  rw [hm, hs]
  cases h : tabFind s.evf.lastPass c with
  | none => rfl
  | some a => simp [Nat.not_lt.2 (hl a h)]

/-- The event of producer p has left the flight at the instant n. -/
def State.taken (s : State) (p n : Nat) : State := { s.upto n with flight := s.flight.erase p }

theorem taken_frame (s : State) (p n : Nat) : Frame [] [] [.now, .flight] s (s.taken p n) :=
  ((Frame.refl s).upto n (by simp)).flight_set (by simp)

theorem exec_eventPublish_taken (hp : p ∈ s.flight) : exec (.eventPublish p n) s =
    .next (if s.producerGated p || !s.flag (R.EVF_PUBp p) F.EVF_PUBp.EN then s.taken p n
      else (s.taken p n).chanEvent (s.fld (R.EVF_PUBp p) F.EVF_PUBp.CH) (decide (80 ≤ p) && decide (p ≤ 87))) := by
  have h : (s.upto n).flight.contains p = true := by simpa using hp
  rw [exec_eventPublish, execEventPublish, State.publish, if_pos h]
  rfl

theorem exec_eventPublish_route (hp : p ∈ s.flight) (hg : s.producerGated p = false)
    (he : s.flag (R.EVF_PUBp p) F.EVF_PUBp.EN = true) (hc : s.fld (R.EVF_PUBp p) F.EVF_PUBp.CH = c) :
    exec (.eventPublish p n) s = .next ((s.taken p n).chanEvent c (decide (80 ≤ p) && decide (p ≤ 87))) := by
  rw [exec_eventPublish_taken hp, hg, he, hc]
  rfl

theorem exec_eventPublish_dropped (hp : p ∈ s.flight) (h : s.producerGated p = true ∨
    s.flag (R.EVF_PUBp p) F.EVF_PUBp.EN = false ∨ s.masked (s.fld (R.EVF_PUBp p) F.EVF_PUBp.CH) = true) :
    exec (.eventPublish p n) s = .next (s.taken p n) := by
  rw [exec_eventPublish_taken hp]
  rcases h with h | h | h
  · simp [h]
  · simp [h]
  · rw [chanEvent_masked (s := s.taken p n) h, ite_self]

/-- What passes says, fact by fact. -/
theorem passes_facts (h : passes s p c n = true) : p ∈ s.flight ∧ s.producerGated p = false ∧
    s.flag (R.EVF_PUBp p) F.EVF_PUBp.EN = true ∧ s.fld (R.EVF_PUBp p) F.EVF_PUBp.CH = c ∧ s.masked c = false ∧
    s.flag R.EVF_CTL F.EVF_CTL.COMPAT = false ∧ (∀ a, tabFind s.evf.lastPass c = some a → a + 10000 ≤ max s.now n) ∧
    s.CellsIdle := by
  simp only [passes, Bool.and_eq_true, Bool.not_eq_true', beq_iff_eq, List.all_eq_true, List.mem_range,
    List.isEmpty_iff, List.contains_iff_mem] at h
  obtain ⟨⟨⟨⟨⟨⟨⟨⟨hp, hg⟩, he⟩, hc⟩, hm⟩, hx⟩, hl⟩, hcells⟩, hcfg⟩ := h
  refine ⟨hp, hg, he, hc, hm, hx, fun a ha => ?_, hcells, hcfg⟩
  rw [ha] at hl
  exact of_decide_eq_true hl

theorem exec_eventPublish_passes (h : passes s p c n = true) :
    exec (.eventPublish p n) s = .next ((s.taken p n).passEvent c) := by
  obtain ⟨hp, hg, he, hc, hm, hx, hl, -⟩ := passes_facts h
  have hx' : (s.taken p n).flag R.EVF_CTL F.EVF_CTL.COMPAT = false := hx
  rw [exec_eventPublish_route hp hg he hc, chanEvent_passes (s := s.taken p n) hm (by simp [hx']) hl]

/-! ## The passed event reaches its task -/

/-- The state in which the event of producer p has passed channel c at the instant n. -/
def State.passed (s : State) (p c n : Nat) : State := (s.taken p n).notePass c

theorem passed_frame (s : State) (p c n : Nat) : Frame [] [] [.now, .flight, .evf] s (s.passed p c n) :=
  ((taken_frame s p n).mono (by simp) (by simp) (by simp)).notePass c (by simp)

theorem passed_evf (s : State) (p c n : Nat) : ∃ m, bit m c = true ∧ (s.passed p c n).evf = { s.evf with
    lastPass := tabIns s.evf.lastPass c (max s.now n),
    window := tabIns s.evf.window c (tabGet 0 s.evf.window c + 1), pulses := m } :=
  notePass_evf (s.taken p n) c

theorem passed_now : (s.passed p c n).now = max s.now n := (notePass_frame (s.taken p n) c).parts .now (by simp)

theorem passed_flight : (s.passed p c n).flight = s.flight.erase p :=
  (notePass_frame (s.taken p n) c).parts .flight (by simp)

theorem passed_evo (j : Nat) : (s.passed p c n).evo j = s.evo j := by
  obtain ⟨m, -, he⟩ := passed_evf s p c n
  simp only [State.evo, he]

/-- The tables of the task inputs do not show that an event has passed. -/
theorem passed_taskTables : (s.passed p c n).evf.ranAt = s.evf.ranAt ∧ (s.passed p c n).evf.capAt = s.evf.capAt := by
  obtain ⟨m, -, he⟩ := passed_evf s p c n
  rw [he]
  exact ⟨rfl, rfl⟩

theorem passed_idle (h : s.CellsIdle) : (s.passed p c n).CellsIdle := by
  obtain ⟨m, -, he⟩ := passed_evf s p c n
  exact (passed_frame s p c n).cellsIdle (by simp) (by rw [he]) h

theorem exec_eventPublish_alone (h : passes s p c n = true) (ho : onlyTask s c 96 = true) :
    exec (.eventPublish p n) s = .next ((s.passed p c n).guardPass c (tabGet 0 s.evf.window c + 1)) := by
  obtain ⟨-, -, -, -, -, -, -, hi⟩ := passes_facts h
  have hf := taken_frame s p n
  rw [exec_eventPublish_passes h, passEvent_alone (hf.cellsIdle (by simp) rfl hi) ((hf.onlyTask_eq (by simp) c 96).trans ho)]
  rfl

/-- A register apart from those that the guard and the cells read after a task. -/
def clearOfCells (a : Nat) : Prop := a ≠ R.EVF_CTL ∧ (a < R.EVF_LCn_IN 0 ∨ R.EVF_EVIk 0 ≤ a)

theorem clearOfCells_config {j : Nat} (hj : j < 32) : ¬ clearOfCells (R.EVF_LCn_CFG j) := by
  simp only [clearOfCells, R.EVF_CTL, R.EVF_LCn_IN, R.EVF_EVIk, R.EVF_LCn_CFG]
  omega

theorem clearOfCells_counter (i : Nat) : clearOfCells (R.EVF_CNTi i) := by
  simp only [clearOfCells, R.EVF_CTL, R.EVF_LCn_IN, R.EVF_EVIk, R.EVF_CNTi]
  omega

theorem clearOfCells_output (hk : k < 16) : clearOfCells (R.EVF_SUBt k) := by
  simp only [clearOfCells, R.EVF_CTL, R.EVF_LCn_IN, R.EVF_EVIk, R.EVF_SUBt]
  omega

theorem clearOfCells_capture (i : Nat) : ∀ a ∈ [R.CHR_CAPi_TS i, R.CHR_CAPi_TS i + 4, R.CHR_CAPi_LINE i,
    R.CHR_CAPi_LINE i + 4, R.CHR_CAPi_CNT i], clearOfCells a := by
  simp only [List.forall_mem_cons, List.not_mem_nil, false_implies, implies_true, and_true, clearOfCells, R.EVF_CTL,
    R.EVF_LCn_IN, R.EVF_EVIk, R.CHR_CAPi_TS, R.CHR_CAPi_LINE, R.CHR_CAPi_CNT]
  omega

/-- An event within the guard's count ends with what its one task does. -/
theorem exec_eventPublish_task (h : passes s p c n = true) (hk : k < 96) (ho : onlyTask s c k = true)
    (hw : tabGet 0 s.evf.window c < s.runawayN) (hf : Frame l pg ps (s.passed p c n) ((s.passed p c n).taskEvent k))
    (hl : ∀ a ∈ l, clearOfCells a)
    (hcells : ((s.passed p c n).taskEvent k).evf.cells = (s.passed p c n).evf.cells) :
    exec (.eventPublish p n) s = .next ((s.passed p c n).taskEvent k) := by
  obtain ⟨-, -, -, -, -, -, -, hi⟩ := passes_facts h
  have ht := taken_frame s p n
  have hr : ((s.passed p c n).taskEvent k).runawayN = s.runawayN :=
    (hf.runawayN_eq fun ha => (hl _ ha).1 rfl).trans ((passed_frame s p c n).runawayN_eq (by simp))
  have hp := lutPass_idle
    (hf.cellsIdle (fun j hj ha => clearOfCells_config hj (hl _ ha)) hcells (passed_idle hi))
  have hq := guardPass_quiet (c := c) (m := tabGet 0 s.evf.window c + 1) (by rw [hr]; exact hw)
  rw [exec_eventPublish_passes h, passEvent_task (ht.cellsIdle (by simp) rfl hi) hk ((ht.onlyTask_eq (by simp) c k).trans ho)]
  change Host.Outcome.next (((s.passed p c n).taskEvent k).lutPass.guardPass c (tabGet 0 s.evf.window c + 1)) = _
  rw [hp, hq]

/-! ## Task inputs (R489, R491, R492, R498) -/

/-- The event that runs task k is noted as its latest (R493). -/
def State.noteRun (s : State) (k : Nat) : State := s.setEvf (fun e => { e with ranAt := tabIns e.ranAt k s.now })

theorem taskEvent_runs (hb : s.taskBusy k = false) (hn : s.taskNear k = false) :
    s.taskEvent k = (s.noteRun k).runTask k := by
  simp [State.taskEvent, State.noteRun, hb, hn]

theorem taskEvent_overruns (hb : s.taskBusy k = true) : s.taskEvent k = s.taskOverrun k := by
  simp [State.taskEvent, hb]

theorem taskNear_first (h : tabFind s.evf.ranAt k = none) : s.taskNear k = false := by
  simp [State.taskNear, h]

theorem taskNear_clockless (h : taskClockless k = true) : s.taskNear k = false := by
  simp [State.taskNear, h]

theorem taskBusy_output (h : k < 16) : s.taskBusy k = s.evoBusy k := by
  simp [State.taskBusy, h]

/-- An input of the always-on island is never busy. -/
theorem taskBusy_alwaysOn (h : k = 47 ∨ 80 ≤ k) : s.taskBusy k = false := by
  have h1 : ¬ k < 16 := by omega
  have h2 : taskIsland k = 111 := by
    unfold taskIsland
    repeat rw [if_neg (by omega)]
  simp [State.taskBusy, h1, h2]

theorem taskBusy_capture {i : Nat} (hi : i < 16) (ha : s.asleep = false) (hc : tabFind s.evf.capAt i = none) :
    s.taskBusy (30 + i) = false := by
  have h1 : ¬ 30 + i < 16 := by omega
  have h2 : ¬ 30 + i = 17 := by omega
  have h3 : 30 + i < 46 := by omega
  have h4 : 30 + i - 30 = i := by omega
  simp [State.taskBusy, h1, h2, h3, h4, ha, hc]

theorem runTask_output (h : k < 16) : s.runTask k = s.evoEvent k := by
  simp [State.runTask, h]

theorem runTask_capture {i : Nat} (h : i < 16) : s.runTask (30 + i) =
    (s.capture i).setEvf (fun e => { e with capAt := tabIns e.capAt i s.now }) := by
  unfold State.runTask
  repeat rw [if_neg (by omega)]
  rw [if_pos (by omega), Nat.add_sub_cancel_left]

theorem runTask_wake : s.runTask 47 = s.wake 2 := rfl

theorem runTask_counter (i : Nat) : s.runTask (80 + i) = (s.bump (R.EVF_CNTi i) 1).evt P.EVF 12 := by
  unfold State.runTask
  repeat rw [if_neg (by omega)]
  rw [Nat.add_sub_cancel_left]

theorem taskOverrun_output (h : k < 16) :
    s.taskOverrun k = (s.setFlag (R.EVF_SUBt k) F.EVF_SUBt.OVR true).evt P.EVF 9 := by
  unfold State.taskOverrun
  rw [if_neg (by omega)]

theorem evoEvent_pulse (h : s.evoMode k = 1) : s.evoEvent k =
    s.setEvo k (true, some (s.now + max 1 (s.fld (R.EVF_EVOk k) F.EVF_EVOk.PW) * 8000)) := by
  simp only [State.evoEvent, h]

theorem evo_setEvo_same (v : Bool × Option Nat) : (s.setEvo k v).evo k = v := by simp [State.evo, State.setEvo]

theorem evo_setEvo_other {j : Nat} (h : j ≠ k) (v : Bool × Option Nat) : (s.setEvo k v).evo j = s.evo j := by
  simp [State.evo, State.setEvo, get_put_other, h]

/-- A pulse ends at a fixed instant. -/
theorem evoBusy_congr (hm : t.evoMode k = s.evoMode k) (hv : t.evo k = s.evo k) (hn : t.now = s.now) :
    t.evoBusy k = s.evoBusy k := by
  simp only [State.evoBusy, hm, hv, hn]

theorem passed_evoBusy (k : Nat) : (s.passed p c n).evoBusy k = (s.upto n).evoBusy k :=
  evoBusy_congr ((passed_frame s p c n).fld_eq (by simp) _) (passed_evo k) passed_now

theorem asleep_congr (h : t.pwr = s.pwr) : t.asleep = s.asleep := by simp only [State.asleep, h]

/-! ### A capture (R513) -/

/-- The words of a capture's registers lie apart. -/
theorem captureRegs_apart (i : Nat) : R.CHR_CAPi_CNT i ∉ [R.CHR_CAPi_TS i, R.CHR_CAPi_TS i + 4, R.CHR_CAPi_LINE i,
      R.CHR_CAPi_LINE i + 4] ∧ R.CHR_CAPi_LINE i + 4 ≠ R.CHR_CAPi_CNT i ∧
    R.CHR_CAPi_TS i ∉ [R.CHR_CAPi_LINE i, R.CHR_CAPi_LINE i + 4, R.CHR_CAPi_CNT i] ∧
    R.CHR_CAPi_TS i + 4 ∉ [R.CHR_CAPi_LINE i, R.CHR_CAPi_LINE i + 4, R.CHR_CAPi_CNT i] := by
  simp only [List.mem_cons, List.not_mem_nil, or_false, R.CHR_CAPi_TS, R.CHR_CAPi_LINE, R.CHR_CAPi_CNT]
  omega

theorem Frame.capture (i : Nat) (h1 : R.CHR_CAPi_TS i ∈ l) (h2 : R.CHR_CAPi_TS i + 4 ∈ l) (h3 : R.CHR_CAPi_LINE i ∈ l)
    (h4 : R.CHR_CAPi_LINE i + 4 ∈ l) (h5 : R.CHR_CAPi_CNT i ∈ l) (hf : Piece.free ∈ ps) (h : Frame l pg ps s0 s) :
    Frame l pg ps s0 (s.capture i) := by
  unfold State.capture
  exact (((h.useFree hf).setReg64 _ _ h1 h2).setReg64 _ _ h3 h4).setReg _ _ h5

theorem capture_line (i : Nat) : (s.capture i).reg64 (R.CHR_CAPi_LINE i) = s.chr.line % 2 ^ 64 := by
  obtain ⟨-, hline, -⟩ := captureRegs_apart i
  unfold State.capture
  rw [reg64_setReg_other (by simp) hline, reg64_setReg64]

theorem capture_ts (i : Nat) : (s.capture i).reg64 (R.CHR_CAPi_TS i) = (s.ts + s.free % 6) % 2 ^ 64 := by
  obtain ⟨-, -, h1, h2⟩ := captureRegs_apart i
  have hf : Frame [R.CHR_CAPi_LINE i, R.CHR_CAPi_LINE i + 4, R.CHR_CAPi_CNT i] [] []
      (s.useFree.setReg64 (R.CHR_CAPi_TS i) ((s.ts + s.free % 6) % 2 ^ 64)) (s.capture i) := by
    unfold State.capture
    exact ((Frame.refl _).setReg64 _ _ (by simp) (by simp)).setReg _ _ (by simp)
  rw [hf.reg64_eq h1 h2, reg64_setReg64, Nat.mod_mod]

theorem capture_count (i : Nat) : (s.capture i).reg (R.CHR_CAPi_CNT i) = s.reg (R.CHR_CAPi_CNT i) + 1 := by
  have hf : Frame [R.CHR_CAPi_TS i, R.CHR_CAPi_TS i + 4, R.CHR_CAPi_LINE i, R.CHR_CAPi_LINE i + 4] [] [.free] s
      ((s.useFree.setReg64 (R.CHR_CAPi_TS i) ((s.ts + s.free % 6) % 2 ^ 64)).setReg64 (R.CHR_CAPi_LINE i) s.chr.line) :=
    (((Frame.refl s).useFree (by simp)).setReg64 _ _ (by simp) (by simp)).setReg64 _ _ (by simp) (by simp)
  rw [← hf.regs _ (captureRegs_apart i).1]
  exact reg_setReg_same _ _

/-! ## The runaway guard masks a channel (R499) -/

theorem sendVector_raised (v b : Nat) : (s.sendVector v).raised p b = s.raised p b := raised_congr _ _ (hdr_sendVector _ _)

theorem attnIrq_raised (u : State) (b : Nat) : (u.attnIrq s).raised p b = s.raised p b := by
  unfold State.attnIrq
  dsimp only
  split
  · exact sendVector_raised _ _
  · rfl

theorem raised_logFault {b : Nat} (code item line : Nat) (h : s.raised p b = true) :
    (s.logFault code item line).raised p b = true := by
  unfold State.logFault
  split
  · exact h
  · unfold State.logNew
    split
    · exact raised_evt _ _ _ _ h
    · dsimp only
      split
      · exact raised_evt _ _ _ _ (raised_evt _ _ _ _ h)
      · exact raised_evt _ _ _ _ h

theorem raised_setPfault {b q : Nat} (w : Word) (h : s.raised p b = true) :
    (s.setHdr q { s.hdr q with pfault := w }).raised p b = true := by
  by_cases e : p = q
  · subst e
    unfold State.raised at *
    rw [hdr_setHdr_same]
    exact h
  · rwa [raised_congr _ _ (hdr_setHdr_other _ _ _ e)]

/-- The bookkeeping of a fault takes back no event. -/
theorem raised_recordFault {b : Nat} (code item line : Nat) (h : s.raised p b = true) :
    (s.recordFault code item line).raised p b = true := by
  have h1 : ((s.noteFault code item).logFault code item line).raised p b = true := raised_logFault _ _ _ h
  unfold State.recordFault
  dsimp only
  rw [attnIrq_raised]
  split <;> refine raised_evt _ _ _ _ (raised_setPfault _ ?_) <;> split <;> exact h1

/-- RUNAWAY is Degraded: beside its bookkeeping it does nothing (R520). -/
theorem fault_runaway (item : Nat) : s.fault 0x1701 item = s.recordFault 0x1701 item s.chr.line := rfl

theorem faultRoom_runaway (c : Nat) :
    FaultRoom (R.EVF_CHc c :: faultRegs) (faultPages 0x1701 c) (.now :: .evf :: faultParts) :=
  ⟨by simp, by simp [faultPages], by simp⟩

theorem faultPage_runaway (item : Nat) : faultPage 0x1701 item = P.EVF := by
  have h : faultInst 0x1701 item = 0 := by simp [faultInst]
  rw [faultPage, h]
  decide

theorem runawayPage_mem (c : Nat) : P.EVF ∈ faultPages 0x1701 c := by simp [faultPages, faultPage_runaway]

theorem Frame.runaway {c : Nat} (h : Frame (R.EVF_CHc c :: faultRegs) (faultPages 0x1701 c) (.now :: .evf :: faultParts) s0 s) :
    Frame (R.EVF_CHc c :: faultRegs) (faultPages 0x1701 c) (.now :: .evf :: faultParts) s0 (s.runaway c) :=
  ((h.setFlag _ _ _ (by simp)).evt _ _ (runawayPage_mem c) (by decide) (by decide)).fault _ _ (faultRoom_runaway c)
    (by simp [faultPages])

theorem runaway_raised : (s.runaway c).raised P.EVF 8 = true := by
  unfold State.runaway
  rw [fault_runaway]
  exact raised_recordFault _ _ _ (raised_evt_same _ _ (by decide))

theorem runaway_flag (hc : c < 64) : (s.runaway c).chFlag c F.EVF_CHc.RUNAWAY = true := by
  have hr : R.EVF_CHc c ∉ faultRegs := by
    simp only [faultRegs, List.mem_cons, List.not_mem_nil, or_false, R.EVF_CHc, R.CHR_LOGOVF, R.SSC_LOST, R.SSC_STOPS]
    omega
  have hf : Frame faultRegs (faultPages 0x1701 c) faultParts ((s.setFlag (R.EVF_CHc c) F.EVF_CHc.RUNAWAY true).evt P.EVF 8)
      (s.runaway c) := (Frame.refl _).fault _ _ ⟨by simp, by simp [faultPages], by simp⟩ (by simp [faultPages])
  rw [hf.chFlag_eq hr]
  unfold State.chFlag State.flag State.fld
  rw [reg_evt]
  exact flag_setFlag_same _ _ _ (by decide) rfl

/-! ## The commands -/

theorem emits_flight (f : Nat → Bool) (g : Nat → Nat) (x : List Nat) :
    (foldS (fun s j => if f j then s.emit (g j) else s) s x).flight = s.flight ++ (x.filter f).map g := by
  induction x generalizing s with
  | nil => simp [foldS]
  | cons j x ih =>
    rw [foldS, ih]
    by_cases h : f j <;> simp [h, State.emit]

/-- SOFTWARE_PULSE sends the producers of its set bits on their way (R487). -/
theorem softwarePulse_emits (w : Word) (ha : s.accepts P.EVF = true) : Answers (.softwarePulse w) s fun t =>
    t.flight = s.flight ++ ((List.range 8).filter (fun j => bit w.toNat j)).map (fun j => 80 + j) ∧
    Frame [] [] [.flight] s t := by
  refine ⟨s.softPulse w.toNat, ?_, emits_flight _ _ _, ?_⟩
  · rw [exec_softwarePulse, execSoftwarePulse, hostWrite_taken _ _ ha]
  · exact (Frame.refl s).forN _ fun t j h => .ite (h.emit _ (by simp)) h

/-- An event without a way to an open channel is dropped without a flag (R483, R500, R505). -/
theorem eventPublish_drops (hp : p ∈ s.flight) (h : s.producerGated p = true ∨
    s.flag (R.EVF_PUBp p) F.EVF_PUBp.EN = false ∨ s.masked (s.fld (R.EVF_PUBp p) F.EVF_PUBp.CH) = true) :
    Answers (.eventPublish p n) s fun t => t.flight = s.flight.erase p ∧ Frame [] [] [.now, .flight] s t :=
  ⟨_, exec_eventPublish_dropped hp h, rfl, taken_frame s p n⟩

/-- An event less than 10 ns after the channel's latest is merged into it (R485). -/
theorem eventPublish_merges {a : Nat} (hp : p ∈ s.flight) (hg : s.producerGated p = false)
    (he : s.flag (R.EVF_PUBp p) F.EVF_PUBp.EN = true) (hc : s.fld (R.EVF_PUBp p) F.EVF_PUBp.CH = c)
    (hm : s.masked c = false)
    (hs : s.flag R.EVF_CTL F.EVF_CTL.COMPAT = false ∨ s.chFlag c F.EVF_CHc.SEC = false ∨ p < 80 ∨ 87 < p)
    (hl : tabFind s.evf.lastPass c = some a) (hn : max s.now n < a + 10000) : Answers (.eventPublish p n) s fun t =>
      t.flag (R.EVF_CHc c) F.EVF_CHc.MERGED = true ∧ t.flight = s.flight.erase p ∧
      Frame [R.EVF_CHc c] [] [.now, .flight] s t := by
  have hs' : (decide (80 ≤ p) && decide (p ≤ 87) && (s.taken p n).flag R.EVF_CTL F.EVF_CTL.COMPAT &&
      (s.taken p n).chFlag c F.EVF_CHc.SEC) = false := by
    change (_ && s.flag R.EVF_CTL F.EVF_CTL.COMPAT && s.chFlag c F.EVF_CHc.SEC) = false
    rcases hs with h | h | h | h
    · simp [h]
    · simp [h]
    · simp [Nat.not_le.2 h]
    · simp [Nat.not_le.2 h]
  refine ⟨_, exec_eventPublish_route hp hg he hc, ?_⟩
  rw [chanEvent_merges (s := s.taken p n) hm hs' hl hn]
  exact ⟨flag_setFlag_same _ _ _ (by decide) rfl, rfl,
    ((taken_frame s p n).mono (by simp) (by simp) (by simp)).setFlag _ _ _ (by simp)⟩

/-- An event that passes is the channel's latest and is counted in the window (R485, R499). -/
theorem eventPublish_counts (h : passes s p c n = true) (ho : onlyTask s c 96 = true)
    (hw : tabGet 0 s.evf.window c < s.runawayN) : Answers (.eventPublish p n) s fun t =>
      t.flight = s.flight.erase p ∧ tabFind t.evf.lastPass c = some t.now ∧
      tabGet 0 t.evf.window c = tabGet 0 s.evf.window c + 1 ∧ bit t.evf.pulses c = true ∧
      Frame [] [] [.now, .flight, .evf] s t := by
  have hf := passed_frame s p c n
  obtain ⟨m, hm, he⟩ := passed_evf s p c n
  refine ⟨_, exec_eventPublish_alone h ho, ?_⟩
  rw [guardPass_quiet (by rwa [hf.runawayN_eq (by simp)])]
  dsimp only
  rw [he, passed_now]
  exact ⟨passed_flight, find_ins_same _ _ _, get_ins_same _ _ _ _, hm, hf⟩

/-- One event too many in a window masks its channel (R499). -/
theorem eventPublish_masks (h : passes s p c n = true) (ho : onlyTask s c 96 = true)
    (hw : s.runawayN ≤ tabGet 0 s.evf.window c) (hg : s.chFlag c F.EVF_CHc.NOGUARD = false) :
    Answers (.eventPublish p n) s fun t =>
      t.chFlag c F.EVF_CHc.RUNAWAY = true ∧ t.raised P.EVF 8 = true ∧ t.isUnack 0x1701 c = true ∧
      Frame (R.EVF_CHc c :: faultRegs) (faultPages 0x1701 c) (.now :: .evf :: faultParts) s t := by
  have hf := passed_frame s p c n
  have hc : c < 64 := by
    obtain ⟨-, -, -, rfl, -⟩ := passes_facts h
    exact bits_lt _ _ _
  refine ⟨_, exec_eventPublish_alone h ho, ?_⟩
  rw [guardPass_over (by rwa [hf.chFlag_eq (by simp)]) (by rw [hf.runawayN_eq (by simp)]; omega)]
  exact ⟨runaway_flag hc, runaway_raised, fault_isUnack _ _,
    Frame.runaway (hf.mono (by simp) (by simp) (by simp [faultParts]))⟩

/-- A host counter counts (R489). -/
theorem eventPublish_hostCounter {i : Nat} (h : passes s p c n = true) (hi : i < 16) (ho : onlyTask s c (80 + i) = true)
    (hw : tabGet 0 s.evf.window c < s.runawayN) (hr : tabFind s.evf.ranAt (80 + i) = none) :
    Answers (.eventPublish p n) s fun t =>
      (t.reg (R.EVF_CNTi i)).toNat = min ((s.reg (R.EVF_CNTi i)).toNat + 1) 0xFFFFFFFF ∧ t.raised P.EVF 12 = true ∧
      Frame [R.EVF_CNTi i] [P.EVF] [.now, .flight, .evf, .out, .hlk] s t := by
  have hp := passed_frame s p c n
  have ht : (s.passed p c n).taskEvent (80 + i) =
      (((s.passed p c n).noteRun (80 + i)).bump (R.EVF_CNTi i) 1).evt P.EVF 12 := by
    rw [taskEvent_runs (taskBusy_alwaysOn (by omega)) (taskNear_first (by rw [passed_taskTables.1, hr])), runTask_counter]
  have hf : Frame [R.EVF_CNTi i] [P.EVF] [.now, .flight, .evf, .out, .hlk] (s.passed p c n)
      ((s.passed p c n).taskEvent (80 + i)) := by
    rw [ht]
    exact (((Frame.refl _).setEvf _ (by simp)).bump _ _ (by simp)).evt _ _ (by simp) (by simp) (by simp)
  refine ⟨_, exec_eventPublish_task h (by omega) ho hw hf (by simp [clearOfCells_counter]) (by rw [ht]; simp [State.noteRun]), ?_⟩
  refine ⟨?_, by rw [ht]; exact raised_evt_same _ _ (by decide), (hp.mono (by simp) (by simp) (by simp)).trans hf⟩
  have e : ((s.passed p c n).noteRun (80 + i)).reg (R.EVF_CNTi i) = s.reg (R.EVF_CNTi i) := hp.regs _ (by simp)
  rw [ht, reg_evt, reg_bump, e, BitVec.toNat_ofNat]
  omega

/-- An output in pulse mode pulses (R498). -/
theorem eventPublish_pulse (h : passes s p c n = true) (hk : k < 16) (ho : onlyTask s c k = true)
    (hw : tabGet 0 s.evf.window c < s.runawayN) (hm : s.evoMode k = 1) (hb : (s.upto n).evoBusy k = false) :
    Answers (.eventPublish p n) s fun t =>
      t.evo k = (true, some (t.now + max 1 (s.fld (R.EVF_EVOk k) F.EVF_EVOk.PW) * 8000)) ∧
      (∀ j, j ≠ k → t.evo j = s.evo j) ∧ Frame [] [] [.now, .flight, .evf] s t := by
  have hp := passed_frame s p c n
  have ht : (s.passed p c n).taskEvent k = ((s.passed p c n).noteRun k).setEvo k
      (true, some ((s.passed p c n).now + max 1 (s.fld (R.EVF_EVOk k) F.EVF_EVOk.PW) * 8000)) := by
    have hn : Frame [] [] [.now, .flight, .evf] s ((s.passed p c n).noteRun k) := hp.setEvf _ (by simp)
    rw [taskEvent_runs (by rw [taskBusy_output hk, passed_evoBusy, hb])
      (taskNear_clockless (by simp [taskClockless, hk])), runTask_output hk,
      evoEvent_pulse ((hn.fld_eq (by simp) _).trans hm), hn.fld_eq (by simp)]
    rfl
  have hf : Frame [] [] [.evf] (s.passed p c n) ((s.passed p c n).taskEvent k) := by
    rw [ht]
    exact ((Frame.refl _).setEvf _ (by simp)).setEvf _ (by simp)
  refine ⟨_, exec_eventPublish_task h (by omega) ho hw hf (by simp) (by rw [ht]; rfl), ?_⟩
  refine ⟨?_, fun j hj => ?_, hp.trans (hf.mono (by simp) (by simp) (by simp))⟩
  · rw [ht]
    exact evo_setEvo_same _
  · rw [ht, evo_setEvo_other hj]
    exact passed_evo j

/-- An output whose pulse lasts overruns (R491). -/
theorem eventPublish_overrun (h : passes s p c n = true) (hk : k < 16) (ho : onlyTask s c k = true)
    (hw : tabGet 0 s.evf.window c < s.runawayN) (hb : (s.upto n).evoBusy k = true) :
    Answers (.eventPublish p n) s fun t =>
      t.flag (R.EVF_SUBt k) F.EVF_SUBt.OVR = true ∧ t.raised P.EVF 9 = true ∧ (∀ j, t.evo j = s.evo j) ∧
      Frame [R.EVF_SUBt k] [P.EVF] [.now, .flight, .evf, .out, .hlk] s t := by
  have hp := passed_frame s p c n
  have ht : (s.passed p c n).taskEvent k =
      ((s.passed p c n).setFlag (R.EVF_SUBt k) F.EVF_SUBt.OVR true).evt P.EVF 9 := by
    rw [taskEvent_overruns (by rw [taskBusy_output hk, passed_evoBusy, hb]), taskOverrun_output hk]
  have hf : Frame [R.EVF_SUBt k] [P.EVF] [.out, .hlk] (s.passed p c n) ((s.passed p c n).taskEvent k) := by
    rw [ht]
    exact ((Frame.refl _).setFlag _ _ _ (by simp)).evt _ _ (by simp) (by simp) (by simp)
  have he : ((s.passed p c n).taskEvent k).evf = (s.passed p c n).evf := hf.parts .evf (by simp)
  refine ⟨_, exec_eventPublish_task h (by omega) ho hw hf (by simp [clearOfCells_output hk]) (by rw [he]), ?_⟩
  refine ⟨?_, by rw [ht]; exact raised_evt_same _ _ (by decide), fun j => ?_,
    (hp.mono (by simp) (by simp) (by simp)).trans (hf.mono (by simp) (by simp) (by simp))⟩
  · rw [ht]
    unfold State.flag State.fld
    rw [reg_evt]
    exact flag_setFlag_same _ _ _ (by decide) rfl
  · rw [← passed_evo (s := s) (p := p) (c := c) (n := n) j]
    simp only [State.evo, he]

/-- A capture takes the timestamp and the line counter (R513). -/
theorem eventPublish_capture {i : Nat} (h : passes s p c n = true) (hi : i < 16) (ho : onlyTask s c (30 + i) = true)
    (hw : tabGet 0 s.evf.window c < s.runawayN) (ha : s.asleep = false) (hr : tabFind s.evf.ranAt (30 + i) = none)
    (hc : tabFind s.evf.capAt i = none) : Answers (.eventPublish p n) s fun t =>
      t.reg64 (R.CHR_CAPi_LINE i) = s.chr.line % 2 ^ 64 ∧ t.reg (R.CHR_CAPi_CNT i) = s.reg (R.CHR_CAPi_CNT i) + 1 ∧
      (∃ d, d ≤ 5 ∧ t.reg64 (R.CHR_CAPi_TS i) = (t.ts + d) % 2 ^ 64) ∧
      Frame [R.CHR_CAPi_TS i, R.CHR_CAPi_TS i + 4, R.CHR_CAPi_LINE i, R.CHR_CAPi_LINE i + 4, R.CHR_CAPi_CNT i] []
        [.now, .free, .flight, .evf] s t := by
  have hp := passed_frame s p c n
  have hs : (s.passed p c n).asleep = false := (asleep_congr (hp.parts .pwr (by simp))).trans ha
  have ht : (s.passed p c n).taskEvent (30 + i) = (((s.passed p c n).noteRun (30 + i)).capture i).setEvf
      (fun e => { e with capAt := tabIns e.capAt i (s.passed p c n).now }) := by
    rw [taskEvent_runs (taskBusy_capture hi hs (by rw [passed_taskTables.2, hc]))
      (taskNear_first (by rw [passed_taskTables.1, hr])), runTask_capture hi]
    rfl
  have hf : Frame [R.CHR_CAPi_TS i, R.CHR_CAPi_TS i + 4, R.CHR_CAPi_LINE i, R.CHR_CAPi_LINE i + 4, R.CHR_CAPi_CNT i] []
      [.free, .evf] (s.passed p c n) ((s.passed p c n).taskEvent (30 + i)) := by
    rw [ht]
    exact (((Frame.refl _).setEvf _ (by simp)).capture i (by simp) (by simp) (by simp) (by simp) (by simp)
      (by simp)).setEvf _ (by simp)
  refine ⟨_, exec_eventPublish_task h (by omega) ho hw hf (clearOfCells_capture i)
    (by rw [ht]; simp [State.capture, State.noteRun, State.useFree]), ?_⟩
  refine ⟨?_, ?_, ⟨(s.passed p c n).free % 6, by omega, ?_⟩,
    (hp.mono (by simp) (by simp) (by simp)).trans (hf.mono (by simp) (by simp) (by simp))⟩
  · have e : (s.passed p c n).chr = s.chr := hp.parts .chr (by simp)
    rw [ht, reg64_setEvf, capture_line, ← e]
    rfl
  · rw [ht, reg_setEvf, capture_count, ← hp.regs (R.CHR_CAPi_CNT i) (by simp)]
    rfl
  · rw [hf.ts_eq (by simp) (by simp) (by simp), ht, reg64_setEvf, capture_ts]
    rfl

/-- A wake wakes (R568). -/
theorem eventPublish_wake (h : passes s p c n = true) (ho : onlyTask s c 47 = true)
    (hw : tabGet 0 s.evf.window c < s.runawayN) (hr : tabFind s.evf.ranAt 47 = none) (hs : s.pwr.st = 4 ∨ s.pwr.st = 6) :
    Answers (.eventPublish p n) s fun t =>
      t.pwr = { s.pwr with st := 7, src := 2, byD3 := false } ∧ Frame [] [] [.now, .flight, .evf, .pwr] s t := by
  have hp := passed_frame s p c n
  have e : (s.passed p c n).pwr = s.pwr := hp.parts .pwr (by simp)
  have ht : (s.passed p c n).taskEvent 47 =
      { (s.passed p c n).noteRun 47 with pwr := { s.pwr with st := 7, src := 2, byD3 := false } } := by
    rw [taskEvent_runs (taskBusy_alwaysOn (by simp)) (taskNear_first (by rw [passed_taskTables.1, hr])), runTask_wake,
      ← e, State.wake, if_pos (by change 3 ≤ (s.passed p c n).pwr.st ∧ (s.passed p c n).pwr.st ≤ 6; rw [e]; omega)]
    rfl
  have hf : Frame [] [] [.evf, .pwr] (s.passed p c n) ((s.passed p c n).taskEvent 47) := by
    rw [ht]
    exact ((Frame.refl _).setEvf _ (by simp)).pwr_set (by simp)
  refine ⟨_, exec_eventPublish_task h (by omega) ho hw hf (by simp) (by rw [ht]; rfl), by rw [ht], ?_⟩
  exact (hp.mono (by simp) (by simp) (by simp)).trans (hf.mono (by simp) (by simp) (by simp))

/-- RUNAWAY_WINDOW restarts the counts (R499) at a whole multiple of 10 µs (log entry 116). -/
theorem runawayWindow_restarts (h : s.evf.winAt + 10000000 ≤ max s.now n) : Answers (.runawayWindow n) s fun t =>
    t.evf = { s.evf with window := [], winAt := max s.now n / 10000000 * 10000000 } ∧ Frame [] [] [.now, .evf] s t := by
  refine ⟨_, rfl, ?_⟩
  rw [if_pos (show (s.upto n).evf.winAt + 10000000 ≤ (s.upto n).now from h)]
  exact ⟨rfl, ((Frame.refl s).upto n (by simp)).setEvf _ (by simp)⟩

/-- Settles O47: each clause is where the way of an event ends, at its producer, its channel, the guard or its task. -/
theorem eventRoutes : Obligations.EventRoutes := by
  refine ⟨?_, ?_, ?_, ?_, ?_, ?_, ?_, ?_, ?_, ?_, ?_⟩
  · exact fun _ w => softwarePulse_emits w
  · exact fun _ _ _ => eventPublish_drops
  · exact fun _ _ _ _ _ => eventPublish_merges
  · exact fun _ _ _ _ => eventPublish_counts
  · exact fun _ _ _ _ => eventPublish_masks
  · exact fun _ _ _ _ _ => eventPublish_hostCounter
  · exact fun _ _ _ _ _ => eventPublish_pulse
  · exact fun _ _ _ _ _ => eventPublish_overrun
  · exact fun _ _ _ _ _ => eventPublish_capture
  · exact fun _ _ _ _ => eventPublish_wake
  · exact fun _ _ => runawayWindow_restarts

end Sys2Proof.Machine
end

section
/-! PROOFS. Time and deadlines (spec/12 R419, R420; spec/16 R510, R512, R516): the loads of the timestamp and of the
line counter, the deadline of a line in delivery, the number a trigger takes, and from these the statement O50. -/

namespace Sys2Proof.Machine

open Sys2Proof.Laws

variable {s0 s : State} {l pg : List Nat} {ps : List Piece} {tr : Trig} {line n : Nat} {v : Dlv} {host : Bool}

/-! ## Fields and parts -/

theorem fld_evt (p b a : Nat) (f : Fld) : (s.evt p b).fld a f = s.fld a f := by simp only [State.fld, reg_evt]

/-- A counting field saturates at its width. -/
theorem fld_bumpFld_same (a : Nat) (f : Fld) (k : Nat) (h : f.1 < 32) :
    (s.bumpFld a f k).fld a f = min (s.fld a f + k) (2 ^ (f.1 + 1 - f.2) - 1) := by
  have hp := Nat.two_pow_pos (f.1 + 1 - f.2)
  rw [State.bumpFld, fld_setFld_same _ _ _ h, Nat.mod_eq_of_lt (by omega)]

theorem Frame.setChr (f : Chr → Chr) (hc : Piece.chr ∈ ps) (h : Frame l pg ps s0 s) : Frame l pg ps s0 (s.setChr f) :=
  h.chr_set hc

theorem Frame.setMer (f : Mer → Mer) (hm : Piece.mer ∈ ps) (h : Frame l pg ps s0 s) : Frame l pg ps s0 (s.setMer f) :=
  h.mer_set hm

/-! ## Loads (R510, R512) -/

/-- The load offset with which the timestamp is v at the count c (R510). -/
def tsOffset (v c : Nat) : Nat := (((v : Int) - c) % 2 ^ 64).toNat

theorem add_tsOffset (v c : Nat) : (c + tsOffset v c) % 2 ^ 64 = v % 2 ^ 64 := by
  unfold tsOffset
  omega

theorem tsLoad_idle (v : Nat) (h : s.ssc.st = 0) : s.tsLoad v =
    (s.setReg64 R.CHR_TSLOAD v).setChr (fun c => { c with tsBase := tsOffset v (s.now / 1000) }) := by
  simp [State.tsLoad, tsOffset, h]

theorem tsLoad_job (v : Nat) (h : s.ssc.st ≠ 0) : s.tsLoad v = s.evt P.CHR 12 := by
  simp [State.tsLoad, h]

theorem lineLoad_idle (v : Nat) (h : s.ssc.st = 0) : s.lineLoad v = s.setChr (fun c => { c with line := v }) := by
  simp [State.lineLoad, h]

theorem lineLoad_job (v : Nat) (h : s.ssc.st ≠ 0) : s.lineLoad v = s.evt P.CHR 12 := by
  simp [State.lineLoad, h]

theorem exec_tsloadWrite_taken (v : Nat) (ha : s.accepts P.CHR = true) :
    exec (.tsloadWrite v) s = .next (s.tsLoad (v % 2 ^ 64)) := by
  rw [exec_tsloadWrite, execTsloadWrite, hostWrite_taken _ _ ha]

theorem exec_lineCounterWrite_taken (v : Nat) (ha : s.accepts P.CHR = true) :
    exec (.lineCounterWrite v) s = .next (s.lineLoad (v % 2 ^ 64)) := by
  rw [exec_lineCounterWrite, execLineCounterWrite, hostWrite_taken _ _ ha]

/-- Outside Deep sleep a load at rest sets the timestamp at once (R510). -/
theorem tsloadWrite_loads (v : Nat) (ha : s.accepts P.CHR = true) (hs : s.ssc.st = 0) (hp : s.pwr.st ≠ 6) :
    Answers (.tsloadWrite v) s fun t =>
      t.ts = v % 2 ^ 64 ∧ t.reg64 R.CHR_TSLOAD = v % 2 ^ 64 ∧ t.chr.line = s.chr.line ∧
      Frame [R.CHR_TSLOAD, R.CHR_TSLOAD + 4] [] [.chr] s t := by
  refine ⟨_, exec_tsloadWrite_taken v ha, ?_⟩
  rw [tsLoad_idle _ hs]
  refine ⟨?_, ?_, ?_, ?_⟩
  · have h := add_tsOffset (v % 2 ^ 64) (s.now / 1000)
    simpa [State.ts, State.tsAt, hp] using h
  · exact (reg64_setReg64 _ _).trans (Nat.mod_mod _ _)
  · simp
  · exact ((Frame.refl s).setReg64 _ _ (by simp) (by simp)).setChr _ (by simp)

theorem lineCounterWrite_loads (v : Nat) (ha : s.accepts P.CHR = true) (hs : s.ssc.st = 0) :
    Answers (.lineCounterWrite v) s fun t =>
      t.chr = { s.chr with line := v % 2 ^ 64 } ∧ Frame [] [] [.chr] s t := by
  refine ⟨_, exec_lineCounterWrite_taken v ha, ?_⟩
  rw [lineLoad_idle _ hs]
  exact ⟨rfl, (Frame.refl s).setChr _ (by simp)⟩

/-- While a job exists neither load is taken, and LDIGN says so (R512). -/
theorem load_ignored {c : Instr} (v : Nat) (hc : c ∈ [Instr.tsloadWrite v, .lineCounterWrite v])
    (ha : s.accepts P.CHR = true) (hs : s.ssc.st ≠ 0) : Answers c s fun t =>
      t.raised P.CHR 12 = true ∧ Frame [] [P.CHR] [.out, .hlk] s t := by
  have he : exec c s = .next (s.evt P.CHR 12) := by
    simp only [List.mem_cons, List.not_mem_nil, or_false] at hc
    rcases hc with rfl | rfl
    · rw [exec_tsloadWrite_taken v ha, tsLoad_job _ hs]
    · rw [exec_lineCounterWrite_taken v ha, lineLoad_job _ hs]
  exact ⟨_, he, raised_evt_same _ _ (by decide), (Frame.refl s).evt _ _ (by simp) (by simp) (by simp)⟩

/-! ## The bookkeeping of a fault (R518, R519, R525)

Beside the log it touches no job and no event on its way: a fault below Major does nothing further. -/

theorem logFault_frame (s : State) (code item line : Nat) :
    Frame [R.CHR_LOGOVF] [P.CHR] [.chr, .out, .hlk] s (s.logFault code item line) := by
  unfold State.logFault
  split
  · exact (Frame.refl s).chr_set (by simp)
  · exact (Frame.refl s).logNew _ (by simp) (by simp) (by simp) (by simp) (by simp)

theorem recordFault_frame (s : State) (code item line : Nat) :
    Frame [R.CHR_LOGOVF] [faultPage code item, P.CHR] [.chr, .attn, .out, .hlk] s (s.recordFault code item line) := by
  have hn : Frame [R.CHR_LOGOVF] [faultPage code item, P.CHR] [.chr, .attn, .out, .hlk] s (s.noteFault code item) :=
    (Frame.refl s).chr_set (by simp)
  have hl := hn.trans ((logFault_frame _ code item line).mono (by simp) (by simp) (by simp))
  unfold State.recordFault
  dsimp only
  refine .attnIrq _ (by simp) (by simp) ?_
  split
  · refine .attnL_set (by simp) ?_
    exact .evt _ _ (by simp) (by simp) (by simp) (.setHdr _ _ (by simp) (.ite hl (hl.chr_set (by simp))))
  · exact .evt _ _ (by simp) (by simp) (by simp) (.setHdr _ _ (by simp) (.ite hl (hl.chr_set (by simp))))

/-- A fault below Major is recorded, and that is all (R519). -/
theorem faultLine_minor {code : Nat} (h : faultSev code < 2) (item line : Nat) :
    s.faultLine code item line = s.recordFault code item line := by
  have h1 : decide (2 ≤ faultSev code) = false := decide_eq_false (by omega)
  have h2 : ¬ (faultSev code = 2 ∧ code ≠ 0x0901) := by omega
  simp [State.faultLine, State.when, State.react, h1, h2]

/-! ## The deadline of a line (R420, R515, R516) -/

/-- The field of SSC_DMISS that counts a miss by its cause. -/
def missFld : Bool → Fld
  | true => F.SSC_DMISS.HOST
  | false => F.SSC_DMISS.INTERNAL

/-- The fault of a miss by its cause. -/
def missCode : Bool → Nat
  | true => 0x1802
  | false => 0x1803

/-- Both are Degraded (R520). -/
theorem missCode_minor : ∀ host, faultSev (missCode host) < 2 := by decide

/-- A miss by cause is marked at its line, counted in SSC_DMISS, and published by producer 78. -/
def State.countMiss (s : State) (line : Nat) (v : Dlv) (host : Bool) : State :=
  (((s.setJob (fun j => { j with dlv := tabIns j.dlv line { v with missed := true, host := host } })).bumpFld
    R.SSC_DMISS (missFld host) 1).evt P.SSC 13).emit 78

theorem deadlineMiss_early (h : s.lateLine line = false) : s.deadlineMiss line = s := by
  unfold State.deadlineMiss
  split
  · rfl
  · simp [h]

theorem deadlineMiss_late (hv : tabFind s.ssc.job.dlv line = some v) (hm : v.missed = false)
    (hl : s.lateLine line = true) (hh : s.lateHost line v = host) :
    s.deadlineMiss line = (s.countMiss line v host).recordFault (missCode host) 0 line := by
  rw [← faultLine_minor (missCode_minor host)]
  cases host <;> simp [State.deadlineMiss, State.countMiss, missFld, missCode, hv, hm, hl, hh]

theorem countMiss_frame (s : State) (line : Nat) (v : Dlv) (host : Bool) :
    Frame [R.SSC_DMISS] [P.SSC] [.ssc, .flight, .out, .hlk] s (s.countMiss line v host) :=
  ((((Frame.refl s).setJob _ (by simp)).bumpFld _ _ _ (by simp)).evt _ _ (by simp) (by simp) (by simp)).emit _ (by simp)

theorem countMiss_raised : (s.countMiss line v host).raised P.SSC 13 = true :=
  (raised_congr _ _ rfl).trans (raised_evt_same _ _ (by decide))

theorem countMiss_dlv :
    tabFind (s.countMiss line v host).ssc.job.dlv line = some { v with missed := true, host := host } := by
  simp [State.countMiss, State.setJob]

theorem missFld_width : ∀ host, (missFld host).1 < 32 ∧ 2 ^ ((missFld host).1 + 1 - (missFld host).2) - 1 = 65535 := by
  decide

theorem countMiss_counted : (s.countMiss line v host).fld R.SSC_DMISS (missFld host) =
    min (s.fld R.SSC_DMISS (missFld host) + 1) 65535 := by
  obtain ⟨h32, hmax⟩ := missFld_width host
  have hb := fld_bumpFld_same (s := s) R.SSC_DMISS (missFld host) 1 h32
  rw [hmax] at hb
  exact (fld_evt _ _ _ _).trans hb

/-- A line late at the instant of its deadline is counted, and its fault raised, by its cause. -/
theorem deadlineExpiry_misses (hv : tabFind s.ssc.job.dlv line = some v) (hm : v.missed = false)
    (hl : (s.upto n).lateLine line = true) (hh : (s.upto n).lateHost line v = host) :
    Answers (.deadlineExpiry line n) s fun t =>
      t.fld R.SSC_DMISS (missFld host) = min (s.fld R.SSC_DMISS (missFld host) + 1) 65535 ∧
      t.isUnack (missCode host) 0 = true ∧ t.raised P.SSC 13 = true ∧ 78 ∈ t.flight ∧
      tabFind t.ssc.job.dlv line = some { v with missed := true, host := host } ∧
      Frame (R.SSC_DMISS :: faultRegs) (P.SSC :: faultPages (missCode host) 0) (.now :: faultParts) s t := by
  have hc := countMiss_frame (s.upto n) line v host
  have hr := recordFault_frame ((s.upto n).countMiss line v host) (missCode host) 0 line
  have hx : exec (.deadlineExpiry line n) s =
      .next (((s.upto n).countMiss line v host).recordFault (missCode host) 0 line) := by
    rw [exec_deadlineExpiry, execDeadlineExpiry, deadlineMiss_late (s := s.upto n) hv hm hl hh]
  refine ⟨_, hx, ?_, ?_, ?_, ?_, ?_, ?_⟩
  · rw [hr.fld_eq (by decide), countMiss_counted]
    rfl
  · rw [← faultLine_minor (missCode_minor host)]
    exact faultLine_isUnack _ _ _
  · exact raised_recordFault _ _ _ countMiss_raised
  · rw [hr.parts .flight (by simp)]
    simp [State.countMiss]
  · rw [hr.parts .ssc (by simp)]
    exact countMiss_dlv
  · refine ((Frame.refl s).upto n (by simp)).trans
      ((hc.mono ?_ ?_ ?_).trans (hr.mono ?_ ?_ ?_)) <;> simp [faultRegs, faultPages, faultParts]

theorem deadlineExpiry_early (h : (s.upto n).lateLine line = false) :
    Answers (.deadlineExpiry line n) s fun t => Frame [] [] [.now] s t := by
  refine ⟨s.upto n, ?_, (Frame.refl s).upto n (by simp)⟩
  rw [exec_deadlineExpiry, execDeadlineExpiry, deadlineMiss_early h]

/-! ## The number of a line (R87, R512) -/

/-- A trigger takes the next number. -/
def State.takeNumber (s : State) : State :=
  (s.setChr (fun c => { c with line := (c.line + 1) % 2 ^ 64 })).setSsc (fun x => { x with
    assigned := x.assigned + 1, lastNum := (s.chr.line + 1) % 2 ^ 64, lastK := x.lastK + 1 })

theorem oweClose_frame (s : State) : Frame [] [] [.ssc] s s.oweClose := by
  unfold State.oweClose
  exact .ite (Frame.refl s) ((Frame.refl s).setJob _ (by simp))

theorem takeNumber_frame (s : State) : Frame [] [] [.chr, .ssc] s s.takeNumber :=
  ((Frame.refl s).setChr _ (by simp)).setSsc _ (by simp)

/-- The first trigger after a restart, with its number n, makes the job run again. -/
def State.restartDue (s : State) (n : Nat) : State := if s.ssc.st = 7 then s.restarted n else s

/-- The number n is lost, or its trigger is skipped, or it waits in the latch. -/
def State.placeTrig (s : State) (t : Trig) (n : Nat) : State :=
  if s.numberLost t then s.loseLine n
  else if s.mer.latch.isSome then s.skipTrigger n
  else s.setMer (fun m => { m with latch := some { t with line := n } })

/-- The job ends with its last line. -/
def State.endAtLimit (s : State) : State :=
  if s.fld R.SSC_NLINES F.SSC_NLINES.N ≠ 0 ∧ s.fld R.SSC_NLINES F.SSC_NLINES.N ≤ s.ssc.assigned then s.endJob else s

theorem latchReal_eq (s : State) (t : Trig) : s.latchReal t =
    ((s.takeNumber.restartDue ((s.chr.line + 1) % 2 ^ 64)).placeTrig t ((s.chr.line + 1) % 2 ^ 64)).oweClose.endAtLimit :=
  rfl

theorem restartDue_not (h : s.ssc.st ≠ 7) : s.restartDue n = s := if_neg h

theorem placeTrig_latches (hn : s.numberLost tr = false) (hl : s.mer.latch = none) :
    s.placeTrig tr n = s.setMer (fun m => { m with latch := some { tr with line := n } }) := by
  simp [State.placeTrig, hn, hl]

theorem endAtLimit_unlimited (h : s.fld R.SSC_NLINES F.SSC_NLINES.N = 0) : s.endAtLimit = s :=
  if_neg fun k => k.1 h

/-- A trigger that takes the next number and waits in the latch. -/
def State.latchNext (s : State) (t : Trig) : State :=
  (s.takeNumber.setMer (fun m => { m with latch := some { t with line := (s.chr.line + 1) % 2 ^ 64 } })).oweClose

theorem latchNext_frame (s : State) (t : Trig) : Frame [] [] [.mer, .chr, .ssc] s (s.latchNext t) :=
  (((takeNumber_frame s).mono (by simp) (by simp) (by simp)).setMer _ (by simp)).trans
    ((oweClose_frame _).mono (by simp) (by simp) (by simp))

theorem latchNext_line (t : Trig) : (s.latchNext t).chr.line = (s.chr.line + 1) % 2 ^ 64 := by
  rw [State.latchNext, (oweClose_frame _).parts .chr (by simp)]
  rfl

/-- A trigger of a job that does not restart and has no limit of lines finds the latch free. -/
theorem latchReal_latches (hs : s.ssc.st ≠ 7) (hn : s.numberLost tr = false) (hl : s.mer.latch = none)
    (hz : s.fld R.SSC_NLINES F.SSC_NLINES.N = 0) : s.latchReal tr = s.latchNext tr := by
  have hk : s.takeNumber.numberLost tr = false := hn
  have hz' : (s.latchNext tr).fld R.SSC_NLINES F.SSC_NLINES.N = 0 := by
    rw [(latchNext_frame s tr).fld_eq (by simp), hz]
  rw [latchReal_eq, restartDue_not (s := s.takeNumber) hs, placeTrig_latches hk hl]
  exact endAtLimit_unlimited hz'

theorem latchTrig_real (h3 : 3 ≤ s.ssc.st) (h8 : s.ssc.st ≤ 8) (hp : tr.preroll = false) :
    s.latchTrig tr = s.latchReal tr := by
  simp [State.latchTrig, State.takesTriggers, h3, h8, hp]

/-- A trigger has left its way to Meridian at the instant n. -/
def State.arrived (s : State) (rest : List Trig) (n : Nat) : State := (s.upto n).setMer (fun m => { m with transit := rest })

theorem arrived_frame (s : State) (rest : List Trig) (n : Nat) : Frame [] [] [.now, .mer] s (s.arrived rest n) :=
  ((Frame.refl s).upto n (by simp)).setMer _ (by simp)

/-- A trigger of a running job without a limit of lines, with the latch free (R87). -/
theorem exec_lineTrigger_latches {rest : List Trig} (ht : s.mer.transit = tr :: rest) (hp : tr.preroll = false)
    (h3 : 3 ≤ s.ssc.st) (h6 : s.ssc.st ≤ 6) (hn : s.numberLost tr = false) (hl : s.mer.latch = none)
    (hz : s.fld R.SSC_NLINES F.SSC_NLINES.N = 0) :
    exec (.lineTrigger n) s = .next ((s.arrived rest n).latchNext tr) := by
  have hx : exec (.lineTrigger n) s = .next ((s.arrived rest n).latchTrig tr) := by
    simp [execLineTrigger, State.arrived, ht]
  have h8 : s.ssc.st ≤ 8 := by omega
  have h7 : s.ssc.st ≠ 7 := by omega
  rw [hx, latchTrig_real (s := s.arrived rest n) h3 h8 hp, latchReal_latches (s := s.arrived rest n) h7 hn hl hz]

/-- The counter wraps (R512). -/
theorem lineTrigger_wraps {rest : List Trig} (ht : s.mer.transit = tr :: rest) (hp : tr.preroll = false)
    (h3 : 3 ≤ s.ssc.st) (h6 : s.ssc.st ≤ 6) (hn : s.numberLost tr = false) (hl : s.mer.latch = none)
    (hz : s.fld R.SSC_NLINES F.SSC_NLINES.N = 0) (hw : s.chr.line = 2 ^ 64 - 1) : Answers (.lineTrigger n) s fun t =>
      t.chr.line = 0 ∧ Frame [] [] [.now, .mer, .chr, .ssc] s t := by
  refine ⟨_, exec_lineTrigger_latches ht hp h3 h6 hn hl hz, ?_, ?_⟩
  · have he : (s.arrived rest n).chr = s.chr := (arrived_frame s rest n).parts .chr (by simp)
    rw [latchNext_line, he]
    omega
  · exact ((arrived_frame s rest n).mono (by simp) (by simp) (by simp)).trans
      ((latchNext_frame _ tr).mono (by simp) (by simp) (by simp))

/-- Settles O50: the loads at rest and in a job, the deadline missed by either cause and not yet missed, and the wrap. -/
theorem timeAndDeadlines : Obligations.TimeAndDeadlines := by
  refine ⟨?_, ?_, ?_, ?_, ?_, ?_, ?_⟩
  · exact fun _ => tsloadWrite_loads
  · exact fun _ => lineCounterWrite_loads
  · exact fun _ _ => load_ignored
  · exact fun _ _ _ _ => deadlineExpiry_misses (host := true)
  · exact fun _ _ _ _ => deadlineExpiry_misses (host := false)
  · exact fun _ _ _ => deadlineExpiry_early
  · exact fun _ _ _ _ => lineTrigger_wraps

end Sys2Proof.Machine
end
